-- ==== Sys2Proof/Word.lean ====
section
/-! DEFINITION. The words of the G820: bytes, angles, descriptors, status codes. -/

namespace Sys2Proof

/-- One byte (R5). -/
abbrev Byte := BitVec 8

/-- A 64-byte command descriptor, bits 511 down to 0 (R6). -/
abbrev Desc := BitVec 512

/-- The stride angle, 48 bits: stride count in bits 47:16, phase in bits 15:0. -/
abbrev Angle := BitVec 48

/-- The status codes of R10, and no other code. -/
inductive Status where
  | ok | aborted | alreadyComplete | retriedOk | unitRetired | busy | invalid | accessDenied
  | membershipChanged | keyBusy | dataSuspect | paceLost
  deriving DecidableEq, Repr

/-- The 8-bit code of a status (R10). -/
def Status.code : Status → Nat
  | .ok => 0x00
  | .aborted => 0x01
  | .alreadyComplete => 0x02
  | .retriedOk => 0x03
  | .unitRetired => 0x04
  | .busy => 0x05
  | .invalid => 0x06
  | .accessDenied => 0x07
  | .membershipChanged => 0x08
  | .keyBusy => 0x09
  | .dataSuspect => 0x0A
  | .paceLost => 0x0B

/-- The status a code names, none for the reserved codes 0x0C to 0xFF (R10, R15). -/
def Status.ofCode : Nat → Option Status
  | 0x00 => some .ok
  | 0x01 => some .aborted
  | 0x02 => some .alreadyComplete
  | 0x03 => some .retriedOk
  | 0x04 => some .unitRetired
  | 0x05 => some .busy
  | 0x06 => some .invalid
  | 0x07 => some .accessDenied
  | 0x08 => some .membershipChanged
  | 0x09 => some .keyBusy
  | 0x0A => some .dataSuspect
  | 0x0B => some .paceLost
  | _ => none

/-- The statuses after which a signal adds without setting FAULT (R333). -/
def Status.clean : Status → Bool
  | .ok | .retriedOk | .alreadyComplete => true
  | _ => false

end Sys2Proof
end

