-- ==== Sys2Proof/Syntax.lean ====
section
/-! DEFINITION. The commands of the G820: one constructor per row of the table of operations and
events. An operand names what the row acts on: a released command, a queue, a unit, a port, the
bytes that arrive. -/

namespace Sys2Proof

/-- The identity of a command: its context, its queue and its sequence number (R317, R320). -/
structure CmdId where
  ctx : Nat
  queue : Nat
  seq : Nat
  deriving DecidableEq, Repr

/-- A channel of the dictionary (R412): a CAN FD bus with a client node-ID, or the mailbox of a
function of a host link, with the CONTEXT its request header names. -/
inductive Channel where
  | can (bus client : Nat)
  | mbx (link fn ctx : Nat)
  deriving DecidableEq, Repr

/-- A unit as R429 names it: kind, location code, first index, second index, row. -/
structure UnitId where
  kind : Nat
  loc : Nat
  i1 : Nat
  i2 : Nat
  row : Nat
  deriving DecidableEq, Repr

/-- What a training of a port brings: the lanes that have trained, and the credits of classes 1 and 2 that the
partner grants (R261, R267). -/
structure Training where
  lanes : BitVec 8
  g1 : Nat
  g2 : Nat
  deriving DecidableEq, Repr

/-- What a lane's decoder reports: the lane, the symbols corrected within a millisecond, and whether it carried the
most errored symbols of an uncorrectable codeword (R269). -/
structure LaneErrors where
  lane : Nat
  symbols : Nat
  worst : Bool
  deriving DecidableEq, Repr

/-- An error as it is detected: its event code, and the line of a core's stores it lies in (R81, R135, R424). -/
structure ErrorSeen where
  event : Nat
  line : Option Nat
  deriving DecidableEq, Repr

/-- A frame as a CAN FD bus brings it: its bus, its format (0 an FD data frame with a base identifier, 1 extended,
2 remote, 3 classical), and what failed of the USDO protocol with it: 0 nothing, 1 a timeout, 2 an unknown command
specifier (R399, R416). -/
structure CanSeen where
  bus : Nat
  format : Nat
  failure : Nat
  deriving DecidableEq, Repr

/-- A telemetry frame as it is decoded: its bits, and whether every code of it was a valid one (R379). -/
structure TelemSeen where
  frame : BitVec 128
  valid : Bool
  deriving DecidableEq, Repr

/-- A mailbox request as a host writes it: its header, and whether it came on the function's selective stream with
the T bit set (R368, R403). -/
structure MailSeen where
  header : BitVec 256
  trusted : Bool
  deriving DecidableEq, Repr

/-- A host's access to a register of a function: the value where it writes, and whether it came on the function's
selective stream with the T bit set (R353, R368). -/
structure HostWord where
  write : Option Nat
  trusted : Bool
  deriving DecidableEq, Repr

/-- A control or data fragment header, 64 bits, as received on a port (R263). -/
abbrev FragHeader := BitVec 64

/-- The commands, in the order of the table. -/
inductive Instr where
  /-- Control command that does no work; only its header's gate, wait and signal act (R346). -/
  | nop (id : CmdId)
  /-- Aborts a named queue and sequence number of its own context, locally or by notice to a
  member, and completes OK or ALREADY_COMPLETE (R327). -/
  | abort (id : CmdId)
  /-- Sets the value of one of the context's local synchronization objects and clears its FAULT bit
  (R346). -/
  | syncSet (id : CmdId)
  /-- Makes the issuing context leave its slot on the named member at DEADLINE, or at once if
  DEADLINE is reached (R343). -/
  | ctxPreempt (id : CmdId)
  /-- Creates COUNT sample descriptors in state LANDED in a sample group, or completes BUSY if a
  limit would be exceeded (R345). -/
  | ctrlSampleOpen (id : CmdId)
  /-- Moves every descriptor of a sample group to the named later state (R345). -/
  | ctrlSampleAdvance (id : CmdId)
  /-- Frees every descriptor of a sample group (R345). -/
  | ctrlSampleClose (id : CmdId)
  /-- Writes a sample group's descriptors to LIST_ADDR in creation order (R345). -/
  | ctrlSampleRead (id : CmdId)
  /-- Copies ROWS rows between stack memory, core stores and the host peer window on the named
  agent (R361). -/
  | copy (id : CmdId)
  /-- Fills rows with a repeated 8-byte pattern (R361). -/
  | fill (id : CmdId)
  /-- Sets window pages to host bias, or flushes them from host caches and sets them to device bias
  (R363). -/
  | biasSet (id : CmdId)
  /-- Loads a new memory key into the non-current slot, makes it current and starts the
  re-encryption sweep, or completes KEY_BUSY (R371). -/
  | keyRotate (id : CmdId)
  /-- Fills one stationary tile unless REUSE applies, streams M moving rows and writes M by W
  results into the active accumulator set (R55). -/
  | standMatmul (id : CmdId)
  /-- Runs a matrix instruction whose moving rows the feeder's address generator builds from the
  generator record (R75). -/
  | standMatmulGen (id : CmdId)
  /-- Reads M rows of the shadow set, converts, rescales, quantizes and writes them to the
  destination, updating the residual (R69). -/
  | standDrain (id : CmdId)
  /-- Zeroes a region of the active accumulator set in dispatch order with matrix instructions
  (R91). -/
  | standAccZero (id : CmdId)
  /-- Releases the shadow set without reading it once every earlier drain has completed (R91). -/
  | standAccRelease (id : CmdId)
  /-- A pending flip takes effect once the shadow set is released, swapping the active and shadow
  halves (R68). -/
  | flip (core : Nat)
  /-- Computes an element-wise function over a tile of unmasked elements (R123). -/
  | vecElem (id : CmdId)
  /-- Reduces the unmasked elements of a tile along one axis (R128). -/
  | vecReduce (id : CmdId)
  /-- Computes the row soft maximum with degenerate-row handling, statistics and flags (R130). -/
  | vecSoftmax (id : CmdId)
  /-- Decodes a tile and converts or quantizes it to the destination format with optional residual
  feedback (R133). -/
  | vecConvert (id : CmdId)
  /-- Makes a table descriptor record the new current version of a table, or completes BUSY or
  INVALID (R153). -/
  | embTableInstall (id : CmdId)
  /-- An install with REMOVE set leaves the table with no current version (R153). -/
  | embTableRemove (id : CmdId)
  /-- A gated install or remove takes effect at its not-before angle when its wait and queue order
  allow (R480). -/
  | versionInstallTakesEffect (id : CmdId)
  /-- An OPEN pass admits a batch, binds its bind list's current versions, sends remote holds and
  sorts and de-duplicates its index list (R154). -/
  | embAdmitOpen (id : CmdId)
  /-- A non-OPEN pass sorts, de-duplicates and classifies one table's index list of an admitted
  batch into its workspace (R158). -/
  | embAdmit (id : CmdId)
  /-- Copies rows of a range of unique entries into a staging region and sets STAGED per group
  (R163). -/
  | embPrefetch (id : CmdId)
  /-- Gathers rows and pools them into bags under SUM, MEAN or NONE (R167). -/
  | embGatherPool (id : CmdId)
  /-- Merges bag gradients into one gradient per unique row, thicket rows on the wide path (R169).
  -/
  | embGradMerge (id : CmdId)
  /-- Combines up to 64 merged lists of one table and version into one (R172). -/
  | embGradCombine (id : CmdId)
  /-- Fetches committed rows from the owner into a replica's current version and checks the
  fingerprint (R173). -/
  | embReplicaFetch (id : CmdId)
  /-- Ends a batch, withdrawing its reader counts and remote holds and freeing its record (R174).
  -/
  | embBatchClose (id : CmdId)
  /-- A superseded version whose reader count reaches zero is released and the installing
  RELEASE_OBJ is signalled (R155). -/
  | versionRelease (ctx table num : Nat)
  /-- Prepares a region from its working copy with zeroed moments, the given epoch and a fresh
  fingerprint (R223). -/
  | tapInitCopy (id : CmdId)
  /-- Prepares a region by loading a full-state image, taking EPOCH and FINGERPRINT from its header
  (R223). -/
  | tapInitImage (id : CmdId)
  /-- Applies one epoch's optimizer update to every covered grain with journal, commit words,
  fingerprint and norm record (R192). -/
  | tapUpdate (id : CmdId)
  /-- Completes a pending epoch from undo records using the latched step size (R212). -/
  | tapUpdateResume (id : CmdId)
  /-- Reads a schedule record and installs it in a schedule slot (R202). -/
  | tapSchedInstall (id : CmdId)
  /-- Writes a host step size for a future stride of a slot, refused if late (R204). -/
  | tapSchedHostStep (id : CmdId)
  /-- A gated schedule install comes into force at its not-before angle when R480 allows (R202). -/
  | scheduleInstallTakesEffect (id : CmdId)
  /-- Owner verification recomputes the fingerprint and compares it with the stored value (R218).
  -/
  | tapVerify (id : CmdId)
  /-- Captures a consistent image of a region at its committed epoch while updates continue (R222).
  -/
  | tapSnapshot (id : CmdId)
  /-- Sums a tensor over the group in the compressed domain, each position writing its own chunk
  (R289). -/
  | collReduceScatter (id : CmdId)
  /-- Reduce-scatter followed by gather steps so every position writes the whole reduced tensor
  (R291). -/
  | collAllReduce (id : CmdId)
  /-- All-gathers U units from their ring positions onto every member (R296). -/
  | collGather (id : CmdId)
  /-- Sends and receives a buffer to and from neighbours for STEPS steps (R297). -/
  | collPass (id : CmdId)
  /-- A pass step's data lands in its slot once FREE_OBJ and forwarding allow, and LAND_OBJ is
  signalled (R298). -/
  | collPassLanding (id : CmdId) (step : Nat)
  /-- Moves units from one group's layout to another's (R299). -/
  | collPermute (id : CmdId)
  /-- Delivers a merged list's records to the owners of their rows (R301). -/
  | collListExchange (id : CmdId)
  /-- A collective runs once every member named has released a matching command, checking CHECK
  (R287). -/
  | collectiveMatch (id : CmdId)
  /-- Opens a sequence slot with LIMIT, row length and page list (R303). -/
  | genSeqOpen (id : CmdId)
  /-- Appends rows from a core store at the slot's position (R303). -/
  | genSeqAppend (id : CmdId)
  /-- Copies stored positions of a slot to a core store (R303). -/
  | genSeqRead (id : CmdId)
  /-- Frees a sequence slot (R303). -/
  | genSeqClose (id : CmdId)
  /-- A host write of a producer index to a queue's doorbell word rings the queue (R317). -/
  | doorbellWrite (link fn ctx queue value : Nat) (secure : Bool)
  /-- The G820 fetches and copies a descriptor and runs its admission checks (R318). -/
  | descriptorAdmission (ctx queue : Nat)
  /-- An eligible command at the head of its queue is released once gate and wait are satisfied
  (R323). -/
  | commandRelease (ctx queue : Nat)
  /-- A finished command writes its completion record when the ring has room, then signals and
  interrupts (R325). -/
  | completionRecordWrite (id : CmdId)
  /-- A released command reaching its next safe point after an abort stops and completes ABORTED
  (R327). -/
  | safePointAbort (id : CmdId)
  /-- A write of the queue reload mask rereads and restarts the named queue records (R316). -/
  | queueReload (ch : Channel) (ctx : Nat) (value : List Byte)
  /-- A write of the queue table address reads and restarts all sixteen queue records (R316). -/
  | queueTableWrite (ch : Channel) (ctx : Nat) (value : List Byte)
  /-- A waiting context takes a free slot when its grant conflicts with no resident context (R340).
  -/
  | contextResident (ctx : Nat)
  /-- The G820 evicts a resident context to make room for the longest waiter (R340). -/
  | contextEvict (ctx : Nat)
  /-- A runnable resident context's quantum expires, making it evictable (R340). -/
  | quantumExpiry (ctx : Nat)
  /-- A context leaves its slot: queues stop, remaining commands are stopped after DRAIN_US,
  firebreak, slot freed (R341). -/
  | contextLeave (ctx : Nat)
  /-- Released commands not complete within DRAIN_US are stopped at their next safe point (R341).
  -/
  | drainUsExpiry (ctx : Nat)
  /-- At a CTX_PREEMPT deadline angle, step 1 of leaving the slot begins before gated release
  (R343). -/
  | preemptionDeadline (ctx : Nat)
  /-- A rising edge on the PACE pins is accepted as a stride boundary, ignored as a glitch, or
  counts toward lock (R36). -/
  | paceBoundary
  /-- A received PACE control fragment supplies a boundary and stride count from the selected word
  (R37). -/
  | paceWord (port : Nat) (word : BitVec 128)
  /-- The local generator's period elapses and it supplies a stride boundary with its own count
  (R33). -/
  | localGeneratorBoundary
  /-- No boundary by 1.0625 times the period: the angle steps and the pace state enters HOLDOVER or
  EXPIRED (R36). -/
  | paceSourceLost
  /-- PACE input stays below 50 mV for 10 µs, a loss of signal that starts holdover or expiry
  (R469). -/
  | paceSignalLost
  /-- In holdover, t reaches the period estimate and an interpolated boundary occurs (R39). -/
  | holdoverBoundary
  /-- The interpolated angle reaches the holdover limit: state EXPIRED, gated commands PACE_LOST,
  windows close (R47). -/
  | holdoverExpiry
  /-- In holdover another source's boundary matching count and timing is adopted, or the
  disagreement recorded (R38). -/
  | sourceAdoption (source : Nat) (count : BitVec 32)
  /-- A write of object 0x5103 sets or holds the stride count for the next boundary, or is refused
  (R49). -/
  | strideCountWrite (ch : Channel) (value : List Byte)
  /-- The angle reaches a window's start and the window opens for its unit classes (R43). -/
  | maintenanceWindowOpen (w : Nat)
  /-- The angle passes a window's length and the window closes (R43). -/
  | maintenanceWindowClose (w : Nat)
  /-- A PPS_IN rising edge applies a loaded calendar second, steps the calendar, or is rejected and
  counted (R44). -/
  | ppsInEdge
  /-- A write of object 0x5120 subindex 1 loads the second the next PPS_IN edge marks (R44). -/
  | calendarSecondWrite (ch : Channel) (value : List Byte)
  /-- At each stride start the schedule engine fixes each slot's step size for the stride (R203).
  -/
  | strideStepSizePublish
  /-- A received SIGNAL frame adds its increment to an owned object, with FAULT if flagged, or is
  refused (R335). -/
  | signal (k : Nat)
  /-- A received abort notice is decided locally and answered with a REFUSED frame carrying the
  status (R330). -/
  | abortNotice (k : Nat)
  /-- A received preempt notice makes the slot holding the frame's context yield at the
  reconstructed deadline (R343). -/
  | preemptNotice (k : Nat)
  /-- An owner serves requested rows from the bound version and answers with ROW_REPLY (R166). -/
  | rowRequest (k : Nat)
  /-- Received rows for a gather or prefetch are delivered in request order (R300). -/
  | rowReply (k : Nat)
  /-- A received remote hold adds or withdraws a reader count on a version, refused if not
  installed (R156). -/
  | hold (k : Nat)
  /-- A received read request is answered with READ_REPLY bytes (R265). -/
  | readRequest (k : Nat)
  /-- Received bytes of a read reply or write are placed in address order (R265). -/
  | readReply (k : Nat)
  /-- An owner serves a replica fetch if the committed epoch matches, holding the next update
  (R173). -/
  | fetchRequest (k : Nat)
  /-- Received fingerprint parameters and rows are written into the replica and checked (R217). -/
  | fetchRows (k : Nat)
  /-- A received collective frame is added, forwarded or staged for its tag, or cancels the
  collective (R287). -/
  | collective (k : Nat)
  /-- A received NO_ROUTE marks its destination unreachable (R275). -/
  | noRoute (k : Nat)
  /-- A received refusal completes the originating operation with the carried status (R276). -/
  | refusedFrame (k : Nat)
  /-- A received data fragment is reassembled in order or discarded with a NAK (R268). -/
  | dataFragment (port : Nat) (hdr : BitVec 64) (payload : List Byte) (good : Bool)
  /-- A received NAK makes the sender resend every fragment from the named SEQ (R268). -/
  | nak (port : Nat) (body : BitVec 128)
  /-- No ACK advances for 2 µs while fragments are held, so the sender replays them (R268). -/
  | replayTimeout (port : Nat)
  /-- A received HELLO records the partner's identity and marks foreign partners (R273). -/
  | hello (port : Nat) (body : BitVec 128)
  /-- Every 1 ms an up port sends HELLO (R273). -/
  | helloTimer (port : Nat)
  /-- A received BEACON with equal epoch and different digest marks the partner split (R279). -/
  | beacon (port : Nat) (body : BitVec 128)
  /-- An ECHO exchange measures the port's one-way delay during training (R281). -/
  | echo (port : Nat) (reply : Bool) (body : BitVec 128)
  /-- A received LANE fragment requests a width change and is answered with a LANE reply (R270). -/
  | lane (port : Nat) (body : BitVec 128)
  /-- Both ends switch striping at the announced codeword count (R270). -/
  | laneWidthChange (port : Nat)
  /-- An enabled port detecting signal trains and comes up with its trained lanes (R261). -/
  | portTraining (port : Nat) (result : Training)
  /-- Training not complete in 500 ms brings the port up on its trained lanes or retries after 1 s
  (R261). -/
  | portTrainingTimeout (port : Nat) (result : Training)
  /-- A lane exceeding its error limit is narrowed out and tested by PRBS31 loopback (R269). -/
  | laneErrorTrigger (port : Nat) (seen : LaneErrors)
  /-- A frame waits 10 ms with no usable port and its destination is marked unreachable (R275). -/
  | routeWaitExpiry
  /-- A membership record written to object 0x5220 becomes pending or is refused (R277). -/
  | membershipRecordWrite (ch : Channel) (value : List Byte)
  /-- At EFFECTIVE the pending record takes effect: new epoch, holds of departed members dropped,
  BEACONs sent (R278). -/
  | membershipEpochChange
  /-- A host link completes training at its rate and width, recording a narrower width (R350). -/
  | hostLinkTrained (link rate width : Nat)
  /-- A host link goes down, failing its host requests in flight (R360). -/
  | hostLinkDown (link : Nat)
  /-- A failed host request is retried once, then its copy completes DATA_SUSPECT (R360). -/
  | hostRequestFailure (id : CmdId) (again : Bool)
  /-- A host access to the window is served, flipping a device-bias page to host bias first (R363).
  -/
  | hostCxlMemAccess (link addr : Nat) (write : Option (List Byte)) (len : Nat) (trusted : Bool)
  /-- PERST0_N or PERST1_N low resets both links of a host die without a device reset (R456). -/
  | perst (die : Nat)
  /-- A hot reset of one host link resets its functions and streams (R456). -/
  | hotReset (link : Nat)
  /-- A function-level reset of function 0 resets its configuration, MSI-X and mailbox (R456). -/
  | flrFunction0 (link : Nat)
  /-- A function-level reset of a context function evicts its contexts and sends its TDIs to ERROR
  (R456). -/
  | flrContextFunction (link fn : Nat)
  /-- An IDE stream failing integrity goes insecure, failing its requests and sending its TDIs to
  ERROR (R366). -/
  | ideIntegrityFailure (link stream : Nat)
  /-- IDE_KM K_SET_GO switches a stream to its other key set (R365). -/
  | kSetGo (link fn stream set : Nat)
  /-- TDISP LOCK_INTERFACE checks admission conditions, locks the interface and replaces the
  context's keys (R368). -/
  | lockInterface (link fn ctx : Nat) (body : List Byte)
  /-- Reports the interface's doorbell page, MSI-X table and configuration digest (R368). -/
  | getDeviceInterfaceReport (link fn ctx : Nat) (body : List Byte)
  /-- Moves a locked interface to RUN, making its context confidential (R368). -/
  | startInterface (link fn ctx : Nat) (body : List Byte)
  /-- Returns the interface to CONFIG_UNLOCKED, evicting the context and replacing its keys (R369).
  -/
  | stopInterface (link fn ctx : Nat) (body : List Byte)
  /-- A write of Force unbind moves the context's TDISP interface to ERROR (R369). -/
  | forceUnbind (ch : Channel) (ctx : Nat) (value : List Byte)
  /-- A write of TRUE to Rotate rotates the context's memory keys as KEY_ROTATE does (R371). -/
  | rotate (ch : Channel) (ctx : Nat) (value : List Byte)
  /-- SPDM request answered with supported versions (R367). -/
  | getVersion (link fn : Nat) (body : List Byte)
  /-- SPDM request answered with capabilities (R367). -/
  | getCapabilities (link fn : Nat) (body : List Byte)
  /-- SPDM algorithm negotiation (R367). -/
  | negotiateAlgorithms (link fn : Nat) (body : List Byte)
  /-- SPDM request for certificate chain digests (R367). -/
  | getDigests (link fn : Nat) (body : List Byte)
  /-- SPDM request for a certificate chain (R367). -/
  | getCertificate (link fn : Nat) (body : List Byte)
  /-- SPDM challenge signed by the device (R367). -/
  | challenge (link fn : Nat) (body : List Byte)
  /-- SPDM request for measurement blocks (R367). -/
  | getMeasurements (link fn : Nat) (body : List Byte)
  /-- SPDM key exchange to start a secured session (R367). -/
  | keyExchange (link fn : Nat) (body : List Byte)
  /-- SPDM FINISH completes the session handshake (R367). -/
  | finish (link fn : Nat) (body : List Byte)
  /-- SPDM session key update (R367). -/
  | keyUpdate (link fn : Nat) (body : List Byte)
  /-- SPDM HEARTBEAT keeps a secured session alive (R367). -/
  | heartbeatSpdm (link fn : Nat) (body : List Byte)
  /-- SPDM END_SESSION closes a secured session (R367). -/
  | endSession (link fn : Nat) (body : List Byte)
  /-- SPDM request for a certificate signing request, served only with an operator mailbox session
  (R367). -/
  | getCsr (link fn : Nat) (body : List Byte)
  /-- Writes certificate slot 1 or 2 in PROVISIONED under an operator mailbox session (R367). -/
  | setCertificate (link fn : Nat) (body : List Byte)
  /-- A rail telemetry frame is checked and its samples drive the limits, undervoltage and cap
  (R378). -/
  | telemetryFrame (group : Nat) (seen : TelemSeen)
  /-- No valid frame for 8 µs makes a group blind and holds its units (R380). -/
  | telemetryGroupBlind (group : Nat)
  /-- Each millisecond the G820 reads AVSBus rail currents and checks them against telemetry
  (R377). -/
  | avsPoll (readings : List Nat)
  /-- Each microsecond the power manager adjusts understory duty against the envelope (R389). -/
  | envelopeTick
  /-- Every 10 µs the mean package power is compared with the effective cap and understory or OP
  ceiling adjusted (R393). -/
  | capCheck
  /-- Every 10 µs each die's hottest sensor is compared with its thresholds and actions applied or
  released (R395). -/
  | thermalCheck (readings : List Nat)
  /-- The power manager starts raising voltage ahead of the angle at which a higher operating point
  is due (R386). -/
  | opTransitionStart
  /-- A phase profile written to object 0x3100 becomes pending or is refused (R387). -/
  | phaseProfileWrite (ch : Channel) (value : List Byte)
  /-- The pending profile takes effect at its EFFECTIVE angle, or is discarded without pace (R388).
  -/
  | phaseProfileTakesEffect
  /-- At an entry's phase its operating point, envelope and cap come into force (R388). -/
  | profileEntry
  /-- A write of CAP_OFFSET takes effect at the next stride boundary (R392). -/
  | capOffsetWrite (ch : Channel) (value : List Byte)
  /-- After each stride boundary the slack record of the ended stride is written (R391). -/
  | slackRecordWrite
  /-- A write of object 0x3000 subindex 1 requests entry to or exit from wide-margin mode (R394).
  -/
  | wideMarginRequest (ch : Channel) (value : List Byte)
  /-- At the next stride boundary the device switches mode, moving memory, fabric and OP (R454). -/
  | wideMarginSwitch
  /-- A USDO request on a CAN FD bus is served by the dictionary under the channel's role (R417).
  -/
  | usdoRequest (seen : CanSeen) (client : Nat) (write : Bool) (index sub : Nat) (value : List Byte)
  /-- A change of mailbox SEQ submits a dictionary request that is answered in the response area
  (R404). -/
  | mailboxRequest (link fn : Nat) (seen : MailSeen) (value : List Byte)
  /-- NMT Start puts the bus's CANopen layer in Operational (R401). -/
  | nmtStart (bus node : Nat)
  /-- NMT Stop puts the bus in Stopped, serving only NMT and heartbeat (R401). -/
  | nmtStop (bus node : Nat)
  /-- NMT puts the bus in Pre-operational (R401). -/
  | nmtEnterPreOperational (bus node : Nat)
  /-- Acts as Reset Communication on that bus only (R401). -/
  | nmtResetNode (bus node : Nat)
  /-- Re-reads the node-ID, closes the bus's sessions and sends boot-up (R401). -/
  | nmtResetCommunication (bus node : Nat)
  /-- The heartbeat period elapses and a heartbeat is sent on the bus (R400). -/
  | heartbeat (bus : Nat)
  /-- A CAN FD controller goes bus-off, rejoins under ISO recovery and records the event (R399). -/
  | busOff (bus : Nat)
  /-- A session record written to object 0x6400 subindex 2 is verified and opens an operator or
  vendor-service session (R413). -/
  | sessionOpen (ch : Channel) (value : List Byte)
  /-- A write of TRUE to object 0x6400 subindex 3 closes the channel's session (R412). -/
  | sessionClose (ch : Channel) (value : List Byte)
  /-- No request on a channel for the idle time closes its session (R412). -/
  | sessionIdleTimeout (ch : Channel)
  /-- An authorization record written to object 0x6402 enables one guarded write and renews the
  nonce (R414). -/
  | authorizationRecord (ch : Channel) (value : List Byte)
  /-- A chunk written to object 0x1F50 is staged into the image slot (R421). -/
  | programData (ch : Channel) (t : Nat) (value : List Byte)
  /-- Verifies the staged image and makes it the newest verified image or marks it failed (R421).
  -/
  | programControlVerify (ch : Channel) (t : Nat)
  /-- Discards the staged image (R421). -/
  | programControlDiscard (ch : Channel) (t : Nat)
  /-- A write to object 0x1F52 stops a die's units and loads the newest verified image (R422). -/
  | reloadDie (ch : Channel) (d : Nat) (value : List Byte)
  /-- The reloaded die resumes its units and the security version may be raised (R422). -/
  | reloadComplete
  /-- A guarded write of object 0x1011 schedules a restore of persistent defaults at the next reset
  (R461). -/
  | restoreDefaults (ch : Channel) (value : List Byte)
  /-- A write to an operator key slot is checked for role, life-cycle state and guard (R487). -/
  | operatorKeyWrite (ch : Channel) (slot : Nat) (value : List Byte)
  /-- A guarded transition request aborts work, commits the new state and runs a life-cycle reset
  (R459). -/
  | lifeCycleTransitionRequest (ch : Channel) (value : List Byte)
  /-- A write of TRUE to object 0x2200 resets all device-wide format-health counters (R117). -/
  | formatHealthReset (ch : Channel) (value : List Byte)
  /-- A write to a memory partition object is applied or refused with BUSY or INVALID (R240). -/
  | partitionWrite (ch : Channel) (p sub : Nat) (value : List Byte)
  /-- A write of TRUE to object 0x4300 subindex 3 starts a margin scan when its window allows
  (R256). -/
  | marginScanStart (ch : Channel) (value : List Byte)
  /-- A margin scan ends, reporting passing steps and the marginal mask (R256). -/
  | marginScanComplete (below above : Nat)
  /-- A write of TRUE to object 0x9000 subindex 3 requests a self-test of the named unit (R433). -/
  | selfTestStart (ch : Channel) (value : List Byte)
  /-- A write of TRUE to object 0x9020 makes the standby management die take over (R432). -/
  | takeoverRequest (ch : Channel) (value : List Byte)
  /-- A guarded write of object 0x8010 clears the sapwood ring through SEQ and records the clearing
  in heartwood (R442). -/
  | recorderClear (ch : Channel) (value : List Byte)
  /-- A read of object 0x8002 returns records from the cursor, advances it and may clear
  error-register bit 0 (R441). -/
  | recorderRead (ch : Channel)
  /-- A write of any object without its own row is checked and stored, committing persistent values
  to both MRAMs (R408). -/
  | dictionaryWrite (ch : Channel) (index sub : Nat) (value : List Byte)
  /-- A detected error suppresses the unit's work, records an event and starts the targeted
  self-test (R424). -/
  | errorDetected (unit : UnitId) (cmd : Option CmdId) (seen : ErrorSeen)
  /-- A targeted self-test ends: on pass the command replays, on fail the unit is retired to the
  deadwood list (R424). -/
  | selfTestVerdict (unit : UnitId) (pass : Bool)
  /-- A grain of a retired pseudo-channel is copied and switched to a spare once no slice or ticket
  covers it (R248). -/
  | migrationGrain (readable : Bool)
  /-- Migration of a pseudo-channel completes and it stops counting as in service (R247). -/
  | migrationComplete
  /-- The patrol scrub reads a sector in an idle slot and treats any finding (R246). -/
  | patrolScrub (finding : Nat)
  /-- The re-encryption sweep rewrites a page's old-slot sectors under the new key (R253). -/
  | sweepPage (ctx : Nat)
  /-- The sweep finishes, zeroes the retiring key slot and signals SWEEP_OBJ (R253). -/
  | sweepComplete (ctx : Nat)
  /-- Every microsecond each stack controller adds tokens to each partition bucket (R241). -/
  | regulatorRefill (stack : Nat)
  /-- A unit's calibration interval or temperature step makes a calibration due (R434). -/
  | calibrationDue (cls : Nat) (unit : UnitId)
  /-- A due calibration takes its unit out in a window, after the deferral limit, or at once
  (R435). -/
  | calibrationStart (cls : Nat) (unit : UnitId)
  /-- Every 10 µs the active management die sends a heartbeat to the standby (R432). -/
  | managementHeartbeat
  /-- The standby becomes active on heartbeat loss or a takeover cause, then tests the former
  active die (R432). -/
  | managementTakeover (cause : Nat)
  /-- Rails ramp in group order while RESET_N is held low (R444). -/
  | powerOn
  /-- RESET_N low for 10 µs is a device reset: no command is released or completed (R445). -/
  | resetNLow
  /-- RESET_N rises and the start-up sequence runs through memory training and clearing to READY
  (R448). -/
  | resetNRise (failedChannels : List Nat)
  /-- The rails fall, by removal or failure, ending all work; MRAM holds old or new values and
  THERMTRIP_N is released when VAUX18 falls below half (R460). -/
  | powerLoss
  /-- A calibration that took its unit out ends and the unit returns to service, for example the
  port widening back by the calibrated lane (R435). -/
  | calibrationComplete (cls : Nat) (unit : UnitId) (pass : Bool)
  /-- A received FILL or other non-data control fragment delivers the ACK and credit returns in its
  header, letting held fragments be released and waiting senders send (R267). -/
  | fillControlFragment (port : Nat) (hdr : BitVec 64)
  /-- A host configuration request to a function is answered, with Configuration Request Retry
  Status until READY rises (R449). -/
  | hostConfigurationRequest (link fn reg : Nat) (word : HostWord)
  /-- The host environment's CXL TSP request locks the HDM decoder and slice configuration of a
  confidential context's window (R368). -/
  | cxlTspLock (link ctx : Nat)
  /-- An IDE_KM request inside a secured SPDM session sets the keys of a link, selective or
  CXL.cache/mem stream (R365). -/
  | ideKm (link fn stream set : Nat)
  /-- Every 100 µs while a telemetry group is blind, the G820 reads the group's currents from
  AVSBus to drive its limits (R380). -/
  | blindGroupAvsbusRead (group : Nat) (readings : List Nat)
  deriving DecidableEq, Repr

end Sys2Proof
end

