-- ==== Sys2Proof/Machine/Bits.lean ====
section
/-! DEFINITION. Bit fields, little-endian byte lists, check codes and the sparse map every store of
the model is kept in. -/

namespace Sys2Proof.Machine

/-- Bits hi:lo of a number (R4). -/
def bits (x hi lo : Nat) : Nat := (x >>> lo) % 2 ^ (hi + 1 - lo)

/-- Field hi:lo of a descriptor (R6). -/
def fld (d : Desc) (hi lo : Nat) : Nat := bits d.toNat hi lo

/-- Bit n of a descriptor. -/
def flag (d : Desc) (n : Nat) : Bool := d.toNat.testBit n

/-- n bytes of a number, least significant first (R5). -/
def toBytes : Nat → Nat → List Byte
  | 0, _ => []
  | n + 1, x => BitVec.ofNat 8 x :: toBytes n (x / 256)

/-- The number a little-endian list of bytes holds (R5). -/
def ofBytes : List Byte → Nat
  | [] => 0
  | b :: t => b.toNat + 256 * ofBytes t

/-- A signed number from w bits of two's complement. -/
def toSigned (w x : Nat) : Int :=
  if x % 2 ^ w < 2 ^ (w - 1) then (x % 2 ^ w : Nat) else (x % 2 ^ w : Nat) - (2 ^ w : Nat)

/-- w bits of two's complement from a signed number. -/
def ofSigned (w : Nat) (i : Int) : Nat := (i % (2 ^ w : Nat)).toNat

/-- One bit as a number. -/
def b2n (b : Bool) : Nat := if b then 1 else 0

/-- Object or counter x has reached v: (x − v) mod 2^32 is below 2^31 (R332). -/
def reached32 (x v : Nat) : Bool := (x + 2 ^ 32 - v % 2 ^ 32) % 2 ^ 32 < 2 ^ 31

/-- The least element of a list under a key, the earlier one on ties. -/
def minBy {α : Type} (key : α → Nat) : List α → Option α
  | [] => none
  | x :: t =>
    match minBy key t with
    | none => some x
    | some y => if key y < key x then some y else some x

/-- Replace position n of a list. -/
def setAt {α : Type} : List α → Nat → α → List α
  | [], _, _ => []
  | _ :: t, 0, v => v :: t
  | x :: t, n + 1, v => x :: setAt t n v

/-- Remove position n of a list. -/
def dropAt {α : Type} : List α → Nat → List α
  | [], _ => []
  | _ :: t, 0 => t
  | x :: t, n + 1 => x :: dropAt t n

/-- Add an element that the list does not hold yet. -/
def addOnce {α : Type} [DecidableEq α] (l : List α) (x : α) : List α :=
  if x ∈ l then l else l ++ [x]

/-- One step of a reflected CRC on one bit. -/
def crcBit (poly c : Nat) : Nat := if c % 2 = 1 then (c / 2) ^^^ poly else c / 2

/-- CRC-32 of IEEE 802.3, reflected, over a list of bytes (R263). -/
def crc32 (l : List Byte) : Nat :=
  (l.foldl (fun c b =>
    (List.range 8).foldl (fun c _ => crcBit 0xEDB88320 c) (c ^^^ b.toNat)) 0xFFFFFFFF) ^^^ 0xFFFFFFFF

/-- CRC-8 with polynomial 0x07, initial value 0, most significant bit first (R378). -/
def crc8 (l : List Byte) : Nat :=
  l.foldl (fun c b =>
    (List.range 8).foldl
      (fun c _ => if c ≥ 128 then ((2 * c) % 256) ^^^ 0x07 else (2 * c) % 256) (c ^^^ b.toNat)) 0

/-! ### The sparse map -/

/-- A store: pairs of a key and a value, keys strictly rising, no value equal to the store's
default. -/
abbrev Tab (α : Type) := List (Nat × α)

/-- The value at a key, the default where none is listed. -/
def Tab.get {α : Type} (d : α) : Tab α → Nat → α
  | [], _ => d
  | (a, v) :: t, k => if a = k then v else Tab.get d t k

/-- The store with one value replaced, in canonical form. -/
def Tab.put {α : Type} [DecidableEq α] (d : α) : Tab α → Nat → α → Tab α
  | [], k, v => if v = d then [] else [(k, v)]
  | (a, x) :: t, k, v =>
    if k < a then (if v = d then (a, x) :: t else (k, v) :: (a, x) :: t)
    else if k = a then (if v = d then t else (k, v) :: t)
    else (a, x) :: Tab.put d t k v

/-- The store with the value at a key changed by a function. -/
def Tab.modify {α : Type} [DecidableEq α] (d : α) (t : Tab α) (k : Nat) (f : α → α) : Tab α :=
  t.put d k (f (t.get d k))

/-- The canonical form: keys strictly rising from lo, no default listed. -/
def Tab.wfFrom {α : Type} [DecidableEq α] (d : α) : Nat → Tab α → Bool
  | _, [] => true
  | lo, (a, v) :: t => decide (lo ≤ a) && decide (v ≠ d) && Tab.wfFrom d (a + 1) t

/-- The canonical form of a store. -/
def Tab.wf {α : Type} [DecidableEq α] (d : α) (t : Tab α) : Bool := Tab.wfFrom d 0 t

/-- The store without the keys in a range of n from lo: they read as the default again. -/
def Tab.clearRange {α : Type} (t : Tab α) (lo n : Nat) : Tab α :=
  t.filter fun p => !(decide (lo ≤ p.1) && decide (p.1 < lo + n))

/-- The part of the store in a range of n from lo, its keys counted from the range's start. -/
def Tab.slice {α : Type} (t : Tab α) (lo n : Nat) : Tab α :=
  (t.filter fun p => decide (lo ≤ p.1) && decide (p.1 < lo + n)).map fun p => (p.1 - lo, p.2)

/-- The store with every pair of another written at an offset. -/
def Tab.overlay {α : Type} [DecidableEq α] (d : α) (t : Tab α) (off : Nat) (u : Tab α) : Tab α :=
  u.foldl (fun t p => t.put d (off + p.1) p.2) t

/-! ### Bytes in a store -/

/-- A store of bytes whose unlisted addresses read as 0. -/
abbrev Mem := List Host.Cell

/-- The byte at an address. -/
def Mem.byte (m : Mem) (a : Nat) : Byte := Tab.get (0 : Byte) m a

/-- n bytes from an address. -/
def Mem.read (m : Mem) (a : Nat) : Nat → List Byte
  | 0 => []
  | n + 1 => m.byte a :: Mem.read m (a + 1) n

/-- Bytes written from an address. -/
def Mem.write (m : Mem) (a : Nat) : List Byte → Mem
  | [] => m
  | b :: t => Mem.write (Tab.put (0 : Byte) m a b) (a + 1) t

/-- The little-endian number in n bytes from an address. -/
def Mem.num (m : Mem) (a n : Nat) : Nat := ofBytes (m.read a n)

/-- The canonical form of a store of bytes. -/
def Mem.wf (m : Mem) : Bool := Tab.wf (0 : Byte) m

/-- The 32-byte sectors that the n bytes from an address touch (R242). -/
def sectorsOf (a n : Nat) : List Nat :=
  if n = 0 then [] else (List.range ((a + n - 1) / 32 + 1 - a / 32)).map (· + a / 32)

/-- A list cut into pieces of k, the fuel bounding their number. -/
def chunks {α : Type} (k : Nat) : Nat → List α → List (List α)
  | 0, _ => []
  | n + 1, l => if l = [] then [] else l.take k :: chunks k n (l.drop k)

end Sys2Proof.Machine
end

