-- ==== Sys2Proof/Machine/Objects.lean ====
section
/-! DEFINITION. The objects of the dictionary: index, subindex, type, access, range, default and
persistence of every object the chapters define (R407 to R409, R418). -/

namespace Sys2Proof.Machine

/-- The dictionary data types (R407). -/
inductive OType where
  | bool | u8 | u16 | u32 | u64 | i32 | i64 | r32 | str | dom
  deriving DecidableEq, Repr

/-- The size of a type's value; none where it is as transferred. -/
def OType.size : OType → Option Nat
  | .bool | .u8 => some 1
  | .u16 => some 2
  | .u32 | .i32 | .r32 => some 4
  | .u64 | .i64 => some 8
  | .str | .dom => none

/-- The access codes of objects (R408). -/
inductive OAcc where
  | const | ro | rw | wo
  deriving DecidableEq, Repr

/-- The persistence classes (R409). -/
inductive OPers where
  | fixed | persistent | volatile | deadwood
  deriving DecidableEq, Repr

/-- A row of an object table: an index range and a subindex range of one shape, and the range of
values a write may carry. -/
structure ORow where
  lo : Nat
  hi : Nat
  sub : Nat
  subHi : Nat
  ty : OType
  acc : OAcc
  pers : OPers
  min : Nat
  max : Nat
  deriving DecidableEq, Repr

/-- The objects of identity, communication, security and firmware (R419). -/
def objectsServer : List ORow := [
  ⟨0x1000, 0x1000, 0, 0, .u32, .const, .fixed, 0, 0⟩,
  ⟨0x1001, 0x1001, 0, 0, .u8, .ro, .volatile, 0, 0⟩,
  ⟨0x1008, 0x1008, 0, 0, .str, .const, .fixed, 0, 0⟩,
  ⟨0x1009, 0x1009, 0, 0, .str, .const, .fixed, 0, 0⟩,
  ⟨0x100A, 0x100A, 0, 0, .str, .ro, .volatile, 0, 0⟩,
  ⟨0x1011, 0x1011, 1, 1, .u32, .wo, .volatile, 0x64616F6C, 0x64616F6C⟩,
  ⟨0x1014, 0x1014, 0, 0, .u32, .ro, .volatile, 0, 0⟩,
  ⟨0x1017, 0x1017, 0, 0, .u16, .rw, .persistent, 0, 65535⟩,
  ⟨0x1018, 0x1018, 1, 4, .u32, .const, .fixed, 0, 0⟩,
  ⟨0x1F50, 0x1F50, 1, 5, .dom, .wo, .persistent, 0, 0⟩,
  ⟨0x1F51, 0x1F51, 1, 5, .u8, .wo, .persistent, 1, 2⟩,
  ⟨0x1F52, 0x1F52, 1, 40, .u8, .wo, .volatile, 1, 1⟩,
  ⟨0x1F56, 0x1F56, 1, 40, .u32, .ro, .volatile, 0, 0⟩,
  ⟨0x1F57, 0x1F57, 1, 5, .u8, .ro, .persistent, 0, 0⟩,
  ⟨0x2000, 0x2000, 1, 1, .u8, .ro, .volatile, 0, 0⟩,
  ⟨0x2000, 0x2000, 2, 3, .u8, .rw, .persistent, 0, 127⟩,
  ⟨0x2000, 0x2000, 4, 5, .u8, .ro, .volatile, 0, 0⟩,
  ⟨0x2002, 0x2002, 1, 1, .u8, .ro, .persistent, 0, 0⟩,
  ⟨0x2002, 0x2002, 2, 2, .u8, .wo, .volatile, 0, 4⟩,
  ⟨0x6400, 0x6400, 1, 1, .dom, .ro, .volatile, 0, 0⟩,
  ⟨0x6400, 0x6400, 2, 2, .dom, .wo, .volatile, 0, 0⟩,
  ⟨0x6400, 0x6400, 3, 3, .bool, .wo, .volatile, 1, 1⟩,
  ⟨0x6400, 0x6400, 4, 4, .u8, .ro, .volatile, 0, 0⟩,
  ⟨0x6400, 0x6400, 5, 5, .u16, .rw, .persistent, 10, 3600⟩,
  ⟨0x6400, 0x6400, 6, 6, .bool, .rw, .persistent, 0, 1⟩,
  ⟨0x6401, 0x6401, 1, 4, .dom, .rw, .persistent, 0, 0⟩,
  ⟨0x6402, 0x6402, 1, 1, .dom, .wo, .volatile, 0, 0⟩,
  ⟨0x6403, 0x6403, 1, 5, .u32, .ro, .persistent, 0, 0⟩,
  ⟨0x7700, 0x7700, 1, 3, .u64, .ro, .volatile, 0, 0⟩,
  ⟨0x7700, 0x7700, 4, 9, .u32, .ro, .volatile, 0, 0⟩]

/-- The objects of the compute units and of format health (R79, R117, R148, R184, R227, R315). -/
def objectsUnits : List ORow := [
  ⟨0x2100, 0x2107, 1, 12, .u8, .ro, .deadwood, 0, 0⟩,
  ⟨0x2100, 0x2107, 13, 24, .u16, .ro, .deadwood, 0, 0⟩,
  ⟨0x7100, 0x7107, 1, 48, .u64, .ro, .volatile, 0, 0⟩,
  ⟨0x7100, 0x7107, 49, 60, .u32, .ro, .volatile, 0, 0⟩,
  ⟨0x7200, 0x72FF, 1, 52, .u64, .ro, .volatile, 0, 0⟩,
  ⟨0x2200, 0x2200, 1, 1, .bool, .wo, .volatile, 1, 1⟩,
  ⟨0x2110, 0x2117, 1, 12, .u8, .ro, .deadwood, 0, 0⟩,
  ⟨0x7110, 0x7117, 1, 36, .u64, .ro, .volatile, 0, 0⟩,
  ⟨0x7110, 0x7117, 37, 48, .u32, .ro, .volatile, 0, 0⟩,
  ⟨0x2120, 0x2127, 1, 2, .u8, .ro, .deadwood, 0, 0⟩,
  ⟨0x7120, 0x7127, 1, 11, .u64, .ro, .volatile, 0, 0⟩,
  ⟨0x7120, 0x7127, 12, 12, .u32, .ro, .volatile, 0, 0⟩,
  ⟨0x7120, 0x7127, 13, 23, .u64, .ro, .volatile, 0, 0⟩,
  ⟨0x7120, 0x7127, 24, 24, .u32, .ro, .volatile, 0, 0⟩,
  ⟨0x2130, 0x2130, 1, 20, .u8, .ro, .deadwood, 0, 0⟩,
  ⟨0x2131, 0x2131, 1, 20, .u8, .ro, .deadwood, 0, 0⟩,
  ⟨0x7130, 0x7130, 1, 20, .u64, .ro, .volatile, 0, 0⟩,
  ⟨0x7130, 0x7130, 21, 60, .u32, .ro, .volatile, 0, 0⟩,
  ⟨0x7131, 0x7131, 1, 4, .u32, .ro, .volatile, 0, 0⟩,
  ⟨0x7131, 0x7131, 5, 5, .u64, .ro, .volatile, 0, 0⟩,
  ⟨0x2140, 0x2140, 1, 8, .u8, .ro, .deadwood, 0, 0⟩,
  ⟨0x7140, 0x7140, 1, 8, .u64, .ro, .volatile, 0, 0⟩,
  ⟨0x7140, 0x7140, 9, 16, .u32, .ro, .volatile, 0, 0⟩,
  ⟨0x7140, 0x7140, 17, 24, .u64, .ro, .volatile, 0, 0⟩,
  ⟨0x7140, 0x7140, 25, 26, .u32, .ro, .volatile, 0, 0⟩,
  ⟨0x7140, 0x7140, 27, 27, .u16, .ro, .volatile, 0, 0⟩]

/-- The objects of the memory (R257). -/
def objectsMemory : List ORow := [
  ⟨0x4000, 0x4000, 1, 1, .u64, .ro, .deadwood, 0, 0⟩,
  ⟨0x4000, 0x4000, 2, 3, .u16, .ro, .deadwood, 0, 0⟩,
  ⟨0x4000, 0x4000, 4, 4, .u8, .ro, .deadwood, 0, 0⟩,
  ⟨0x4000, 0x4000, 5, 5, .u32, .ro, .volatile, 0, 0⟩,
  ⟨0x4000, 0x4000, 6, 6, .u32, .ro, .persistent, 0, 0⟩,
  ⟨0x4001, 0x4001, 1, 20, .u64, .ro, .deadwood, 0, 0⟩,
  ⟨0x4001, 0x4001, 21, 40, .u64, .ro, .persistent, 0, 0⟩,
  ⟨0x4100, 0x410F, 1, 1, .u16, .rw, .persistent, 0, 65535⟩,
  ⟨0x4100, 0x410F, 2, 2, .u16, .rw, .persistent, 0, 65535⟩,
  ⟨0x4100, 0x410F, 3, 3, .u64, .rw, .persistent, 0, 2 ^ 64 - 1⟩,
  ⟨0x4100, 0x410F, 4, 4, .u8, .rw, .persistent, 0, 255⟩,
  ⟨0x4100, 0x410F, 5, 5, .u32, .rw, .persistent, 0, 2 ^ 32 - 1⟩,
  ⟨0x4100, 0x410F, 6, 6, .u32, .rw, .persistent, 20480, 2 ^ 32 - 1⟩,
  ⟨0x4100, 0x410F, 7, 7, .bool, .rw, .persistent, 0, 1⟩,
  ⟨0x4200, 0x4200, 1, 1, .u8, .rw, .persistent, 1, 168⟩,
  ⟨0x4200, 0x4200, 2, 2, .u32, .rw, .persistent, 1000, 400000⟩,
  ⟨0x4210, 0x4210, 1, 64, .u32, .ro, .volatile, 0, 0⟩,
  ⟨0x4300, 0x4300, 1, 1, .u16, .rw, .volatile, 0, 65535⟩,
  ⟨0x4300, 0x4300, 2, 2, .u8, .rw, .volatile, 0, 2⟩,
  ⟨0x4300, 0x4300, 3, 3, .bool, .wo, .volatile, 1, 1⟩,
  ⟨0x4300, 0x4300, 4, 6, .u8, .ro, .volatile, 0, 0⟩,
  ⟨0x7400, 0x7400, 1, 20, .u64, .ro, .volatile, 0, 0⟩,
  ⟨0x7400, 0x7400, 21, 40, .u32, .ro, .volatile, 0, 0⟩,
  ⟨0x7400, 0x7400, 41, 60, .u16, .ro, .deadwood, 0, 0⟩]

/-- The objects of the pace unit, the calendar and the links (R51, R282). -/
def objectsPace : List ORow := [
  ⟨0x5100, 0x5100, 1, 3, .u8, .rw, .persistent, 0, 3⟩,
  ⟨0x5100, 0x5100, 4, 4, .u32, .rw, .persistent, 1000000, 1000000000⟩,
  ⟨0x5101, 0x5101, 1, 3, .u8, .ro, .volatile, 0, 0⟩,
  ⟨0x5101, 0x5101, 4, 4, .u32, .ro, .volatile, 0, 0⟩,
  ⟨0x5101, 0x5101, 5, 5, .u8, .ro, .volatile, 0, 0⟩,
  ⟨0x5101, 0x5101, 6, 6, .u32, .ro, .volatile, 0, 0⟩,
  ⟨0x5101, 0x5101, 7, 7, .u8, .ro, .volatile, 0, 0⟩,
  ⟨0x5102, 0x5102, 0, 0, .u64, .ro, .volatile, 0, 0⟩,
  ⟨0x5103, 0x5103, 0, 0, .u32, .wo, .volatile, 0, 2 ^ 32 - 1⟩,
  ⟨0x5104, 0x5104, 0, 0, .u8, .rw, .persistent, 1, 64⟩,
  ⟨0x5110, 0x5117, 1, 1, .u64, .rw, .persistent, 0, 2 ^ 48 - 1⟩,
  ⟨0x5110, 0x5117, 2, 2, .u32, .rw, .persistent, 1, 2 ^ 32 - 1⟩,
  ⟨0x5110, 0x5117, 3, 3, .u32, .rw, .persistent, 0, 2 ^ 32 - 1⟩,
  ⟨0x5110, 0x5117, 4, 4, .bool, .rw, .persistent, 0, 1⟩,
  ⟨0x5110, 0x5117, 5, 5, .u16, .rw, .persistent, 0, 0x3F⟩,
  ⟨0x5120, 0x5120, 1, 1, .u64, .wo, .volatile, 0, 2 ^ 64 - 1⟩,
  ⟨0x5120, 0x5120, 2, 2, .u64, .ro, .volatile, 0, 0⟩,
  ⟨0x5120, 0x5120, 3, 3, .u32, .ro, .volatile, 0, 0⟩,
  ⟨0x5200, 0x5201, 1, 24, .u8, .ro, .deadwood, 0, 0⟩,
  ⟨0x5202, 0x5202, 1, 24, .bool, .rw, .persistent, 0, 1⟩,
  ⟨0x5203, 0x5203, 1, 24, .u16, .ro, .volatile, 0, 0⟩,
  ⟨0x5204, 0x5204, 1, 24, .u32, .ro, .volatile, 0, 0⟩,
  ⟨0x5205, 0x5205, 1, 24, .u8, .ro, .volatile, 0, 0⟩,
  ⟨0x5206, 0x5206, 1, 24, .u16, .ro, .volatile, 0, 0⟩,
  ⟨0x5207, 0x5207, 1, 1, .u32, .rw, .persistent, 0, 2 ^ 32 - 1⟩,
  ⟨0x5208, 0x5208, 1, 3, .u8, .rw, .persistent, 1, 255⟩,
  ⟨0x5208, 0x5208, 4, 6, .u16, .rw, .persistent, 1, 65278⟩,
  ⟨0x5209, 0x5209, 1, 1, .u32, .rw, .persistent, 0, 2 ^ 32 - 1⟩,
  ⟨0x5210, 0x5210, 0, 0, .dom, .rw, .volatile, 0, 0⟩,
  ⟨0x5220, 0x5220, 1, 1, .dom, .wo, .volatile, 0, 0⟩,
  ⟨0x5220, 0x5220, 2, 2, .u32, .ro, .volatile, 0, 0⟩,
  ⟨0x5220, 0x5220, 3, 4, .u16, .ro, .volatile, 0, 0⟩,
  ⟨0x5220, 0x5220, 5, 5, .u32, .ro, .volatile, 0, 0⟩,
  ⟨0x5220, 0x5220, 6, 6, .u8, .ro, .volatile, 0, 0⟩,
  ⟨0x5220, 0x5220, 7, 7, .u32, .ro, .volatile, 0, 0⟩,
  ⟨0x5220, 0x5220, 8, 8, .dom, .ro, .volatile, 0, 0⟩,
  ⟨0x7500, 0x7500, 1, 72, .u64, .ro, .volatile, 0, 0⟩,
  ⟨0x7500, 0x7500, 73, 96, .u32, .ro, .volatile, 0, 0⟩,
  ⟨0x7500, 0x7500, 97, 144, .u64, .ro, .volatile, 0, 0⟩,
  ⟨0x7500, 0x7500, 145, 168, .u32, .ro, .volatile, 0, 0⟩]

/-- The objects of contexts, synchronization, host and trust (R348, R374). -/
def objectsContexts : List ORow := [
  ⟨0x6000, 0x603F, 1, 2, .u8, .ro, .volatile, 0, 0⟩,
  ⟨0x6000, 0x603F, 3, 3, .bool, .rw, .persistent, 0, 1⟩,
  ⟨0x6000, 0x603F, 4, 4, .dom, .rw, .persistent, 0, 0⟩,
  ⟨0x6000, 0x603F, 5, 5, .u16, .rw, .persistent, 0, 65535⟩,
  ⟨0x6000, 0x603F, 6, 6, .u64, .rw, .persistent, 0, 2 ^ 64 - 1⟩,
  ⟨0x6000, 0x603F, 7, 7, .u16, .wo, .volatile, 0, 65535⟩,
  ⟨0x6000, 0x603F, 8, 8, .u32, .rw, .persistent, 0, 1000000⟩,
  ⟨0x6000, 0x603F, 9, 9, .u64, .rw, .persistent, 0, 2 ^ 64 - 1⟩,
  ⟨0x6000, 0x603F, 10, 10, .u16, .rw, .persistent, 0, 32768⟩,
  ⟨0x6000, 0x603F, 11, 11, .u64, .ro, .volatile, 0, 0⟩,
  ⟨0x6000, 0x603F, 12, 12, .u32, .ro, .volatile, 0, 0⟩,
  ⟨0x6100, 0x6100, 1, 128, .u8, .rw, .persistent, 0, 255⟩,
  ⟨0x6101, 0x6101, 1, 1, .u32, .rw, .persistent, 10, 100000⟩,
  ⟨0x6102, 0x6102, 1, 1, .u16, .ro, .volatile, 0, 0⟩,
  ⟨0x6102, 0x6102, 2, 3, .u32, .ro, .volatile, 0, 0⟩,
  ⟨0x6103, 0x6103, 1, 128, .u8, .rw, .persistent, 0, 255⟩,
  ⟨0x6110, 0x6110, 1, 1, .u16, .rw, .volatile, 0, 65535⟩,
  ⟨0x6110, 0x6110, 2, 2, .u64, .ro, .volatile, 0, 0⟩,
  ⟨0x2300, 0x2300, 1, 2, .u8, .rw, .persistent, 0, 1⟩,
  ⟨0x2301, 0x2301, 1, 12, .u8, .ro, .volatile, 0, 0⟩,
  ⟨0x2302, 0x2302, 1, 1, .u16, .rw, .persistent, 0, 65535⟩,
  ⟨0x2302, 0x2302, 2, 2, .u8, .rw, .persistent, 0, 64⟩,
  ⟨0x2302, 0x2302, 3, 3, .u16, .rw, .persistent, 0, 65535⟩,
  ⟨0x2302, 0x2302, 4, 4, .u8, .rw, .persistent, 0, 64⟩,
  ⟨0x2302, 0x2302, 5, 5, .u8, .rw, .persistent, 0, 63⟩,
  ⟨0x6200, 0x623F, 1, 1, .u8, .rw, .persistent, 0, 3⟩,
  ⟨0x6200, 0x623F, 2, 2, .u8, .rw, .persistent, 0, 8⟩,
  ⟨0x6200, 0x623F, 3, 4, .u8, .ro, .volatile, 0, 0⟩,
  ⟨0x6200, 0x623F, 5, 5, .bool, .ro, .volatile, 0, 0⟩,
  ⟨0x6200, 0x623F, 6, 7, .bool, .wo, .volatile, 1, 1⟩,
  ⟨0x6300, 0x6300, 1, 1, .bool, .rw, .persistent, 0, 1⟩,
  ⟨0x6300, 0x6300, 2, 5, .u16, .ro, .volatile, 0, 0⟩,
  ⟨0x7600, 0x7600, 1, 12, .u64, .ro, .volatile, 0, 0⟩,
  ⟨0x7600, 0x7600, 13, 24, .u32, .ro, .volatile, 0, 0⟩]

/-- The objects of power, heat, the recorder and tests (R398, R443). -/
def objectsPower : List ORow := [
  ⟨0x3000, 0x3000, 1, 1, .u8, .rw, .volatile, 0, 1⟩,
  ⟨0x3000, 0x3000, 2, 3, .u8, .ro, .volatile, 0, 0⟩,
  ⟨0x3100, 0x3100, 1, 1, .dom, .wo, .volatile, 0, 0⟩,
  ⟨0x3100, 0x3100, 2, 2, .u32, .ro, .volatile, 0, 0⟩,
  ⟨0x3100, 0x3100, 3, 3, .dom, .ro, .volatile, 0, 0⟩,
  ⟨0x3101, 0x3101, 1, 1, .i32, .rw, .volatile, 0, 2 ^ 32 - 1⟩,
  ⟨0x3101, 0x3101, 2, 2, .u16, .ro, .volatile, 0, 0⟩,
  ⟨0x3101, 0x3101, 3, 3, .u16, .rw, .persistent, 50, 5000⟩,
  ⟨0x3101, 0x3101, 4, 4, .u8, .rw, .persistent, 0, 7⟩,
  ⟨0x3102, 0x3104, 1, 27, .u32, .rw, .persistent, 0, 2 ^ 32 - 1⟩,
  ⟨0x3120, 0x3120, 1, 1, .u16, .rw, .volatile, 0, 65535⟩,
  ⟨0x3120, 0x3120, 2, 2, .u64, .rw, .volatile, 0, 2 ^ 64 - 1⟩,
  ⟨0x3120, 0x3120, 3, 3, .u8, .rw, .volatile, 0, 63⟩,
  ⟨0x3120, 0x3120, 4, 4, .bool, .rw, .volatile, 0, 1⟩,
  ⟨0x3200, 0x3200, 1, 5, .u8, .rw, .persistent, 0, 255⟩,
  ⟨0x7300, 0x7300, 1, 27, .u32, .ro, .volatile, 0, 0⟩,
  ⟨0x7300, 0x7300, 28, 55, .u16, .ro, .volatile, 0, 0⟩,
  ⟨0x7300, 0x7300, 56, 56, .u64, .ro, .volatile, 0, 0⟩,
  ⟨0x7301, 0x7301, 1, 4, .u64, .ro, .volatile, 0, 0⟩,
  ⟨0x7301, 0x7301, 5, 5, .u32, .ro, .volatile, 0, 0⟩,
  ⟨0x7310, 0x7310, 1, 40, .i32, .ro, .volatile, 0, 0⟩,
  ⟨0x8000, 0x8000, 1, 1, .u16, .ro, .persistent, 0, 0⟩,
  ⟨0x8000, 0x8000, 2, 2, .u8, .ro, .persistent, 0, 0⟩,
  ⟨0x8000, 0x8000, 3, 4, .u32, .ro, .persistent, 0, 0⟩,
  ⟨0x8000, 0x8000, 5, 5, .u64, .ro, .persistent, 0, 0⟩,
  ⟨0x8000, 0x8000, 6, 6, .u32, .rw, .persistent, 10, 86400000⟩,
  ⟨0x8001, 0x8001, 1, 1, .u64, .rw, .volatile, 0, 2 ^ 33 - 1⟩,
  ⟨0x8001, 0x8001, 2, 2, .u16, .rw, .volatile, 1, 511⟩,
  ⟨0x8002, 0x8002, 0, 0, .dom, .ro, .volatile, 0, 0⟩,
  ⟨0x8010, 0x8010, 1, 1, .u32, .wo, .volatile, 0, 2 ^ 32 - 1⟩,
  ⟨0x8100, 0x8100, 1, 1, .u16, .rw, .volatile, 0, 4095⟩,
  ⟨0x8100, 0x8100, 2, 2, .dom, .ro, .deadwood, 0, 0⟩,
  ⟨0x8100, 0x8100, 3, 3, .u16, .ro, .deadwood, 0, 0⟩,
  ⟨0x9000, 0x9000, 1, 1, .u8, .rw, .volatile, 0, 0x10⟩,
  ⟨0x9000, 0x9000, 2, 2, .u64, .rw, .volatile, 0, 2 ^ 48 - 1⟩,
  ⟨0x9000, 0x9000, 3, 3, .bool, .wo, .volatile, 1, 1⟩,
  ⟨0x9000, 0x9000, 4, 4, .u8, .ro, .volatile, 0, 0⟩,
  ⟨0x9010, 0x9010, 1, 6, .u32, .rw, .persistent, 60, 604800⟩,
  ⟨0x9010, 0x9010, 9, 9, .u8, .rw, .persistent, 2, 40⟩,
  ⟨0x9010, 0x9010, 10, 10, .u32, .rw, .persistent, 0, 2 ^ 32 - 1⟩,
  ⟨0x9011, 0x9011, 1, 6, .u16, .ro, .volatile, 0, 0⟩,
  ⟨0x9020, 0x9020, 1, 1, .bool, .wo, .volatile, 1, 1⟩,
  ⟨0x7800, 0x7800, 1, 1, .u64, .ro, .volatile, 0, 0⟩,
  ⟨0x7800, 0x7800, 2, 2, .u32, .ro, .volatile, 0, 0⟩,
  ⟨0x7800, 0x7800, 3, 4, .u64, .ro, .volatile, 0, 0⟩]

/-- Every row of the object tables. -/
def objectRows : List ORow :=
  objectsServer ++ objectsUnits ++ objectsMemory ++ objectsPace ++ objectsContexts ++ objectsPower

/-- The row that defines an index and subindex, none where the manual defines nothing there. -/
def objectRow (index sub : Nat) : Option ORow :=
  objectRows.find? fun r => decide (r.lo ≤ index ∧ index ≤ r.hi ∧ r.sub ≤ sub ∧ sub ≤ r.subHi)

/-- Some object has this index. -/
def indexExists (index : Nat) : Bool :=
  objectRows.any fun r => decide (r.lo ≤ index ∧ index ≤ r.hi)

/-- The highest subindex of a record object: what its subindex 0 reads (R408); 0 where the index is
a plain object of subindex 0 only. -/
def highestSub (index : Nat) : Nat :=
  objectRows.foldl (fun m r => if r.lo ≤ index ∧ index ≤ r.hi then max m r.subHi else m) 0

/-- The three current limits of a rail in mA (R382): window 0 is 1 µs, 1 is 100 µs, 2 is 10 ms. -/
def railLimit (rail window : Nat) : Nat :=
  let row : List Nat :=
    if rail ≤ 7 then [400000, 320000, 270000]
    else match rail with
      | 8 => [400000, 340000, 300000]
      | 9 => [200000, 160000, 140000]
      | 10 => [120000, 96000, 84000]
      | 11 => [48000, 40000, 34000]
      | 12 | 16 => [200000, 160000, 140000]
      | 13 | 17 => [130000, 105000, 95000]
      | 14 | 18 => [260000, 210000, 185000]
      | 15 | 19 => [16000, 13000, 12000]
      | 20 | 22 => [200000, 165000, 150000]
      | 21 | 23 => [120000, 100000, 92000]
      | 24 | 25 => [10000, 8000, 7000]
      | _ => [5000, 4000, 3500]
  row.getD window 0

/-- The default of a stored object; 0 where the tables give 0. -/
def objDefault (index sub : Nat) : Nat :=
  match index, sub with
  | 0x1017, 0 => 1000
  | 0x5100, 1 => 1
  | 0x5100, 2 => 2
  | 0x5100, 4 => 20000000
  | 0x5104, 0 => 64
  | 0x5207, _ => 0
  | 0x5208, 1 => 4
  | 0x5208, 2 => 2
  | 0x5208, 3 => 2
  | 0x5208, 4 => 16320
  | 0x5208, 5 => 24480
  | 0x5208, 6 => 24480
  | 0x5209, 1 => 65536
  | 0x6000, 3 => 1
  | 0x6000, 4 => 2 ^ 96 - 1
  | 0x6000, 5 => 0xFFFF
  | 0x6101, 1 => 100
  | 0x6400, 5 => 300
  | 0x6400, 6 => 1
  | 0x4100, 2 => 944
  | 0x4100, 3 => 2 ^ 64 - 1
  | 0x4100, 7 => 1
  | 0x4200, 1 => 8
  | 0x4200, 2 => 50000
  | 0x3101, 3 => 500
  | 0x3102, r => railLimit (r - 1) 0
  | 0x3103, r => railLimit (r - 1) 1
  | 0x3104, r => railLimit (r - 1) 2
  | 0x3200, 4 => 92
  | 0x3200, 5 => 85
  | 0x8000, 6 => 1000
  | 0x8001, 2 => 511
  | 0x9010, 9 => 8
  | i, s =>
    if 0x6000 ≤ i ∧ i ≤ 0x603F then (if s = 8 then 10000 else if s = 10 then 32768 else 0)
    else if 0x4100 ≤ i ∧ i ≤ 0x410F then (if s = 4 then 0xFF else if s = 6 then 1310720 else 0)
    else if 0x5110 ≤ i ∧ i ≤ 0x5117 then (if s = 2 then 0x1000 else 0)
    else if i = 0x5202 then 1
    else if i = 0x3200 then 95
    else if i = 0x9010 then
      (if 1 ≤ s ∧ s ≤ 3 then 86400 else if 4 ≤ s ∧ s ≤ 6 then 3600 else 0)
    else 0

/-- The values a write of an object may carry where its range is not one interval (R51, R348). -/
def rangeExtra (index sub v : Nat) : Bool :=
  if 0x6000 ≤ index ∧ index ≤ 0x603F ∧ sub = 8 then decide (v = 0 ∨ 100 ≤ v)
  else if 0x6000 ≤ index ∧ index ≤ 0x603F ∧ sub = 6 then decide (v % 1024 = 0)
  else if index = 0x1017 then decide (v = 0 ∨ 100 ≤ v)
  else if index = 0x6100 ∨ index = 0x6103 then decide (v < 64 ∨ v = 255)
  else if index = 0x3102 ∨ index = 0x3103 ∨ index = 0x3104 then
    decide (v ≤ railLimit (sub - 1) (index - 0x3102))
  else true

/-- The objects whose persistent values a life-cycle transition or a restore never changes (R458):
they are kept apart in State or named here. -/
def neverRestored (index sub : Nat) : Bool :=
  decide (index = 0x4000 ∧ sub = 6) || decide (index = 0x4001 ∧ 21 ≤ sub ∧ sub ≤ 40) ||
    decide (index = 0x6403) || (decide (index = 0x8000) && decide (sub = 6))

end Sys2Proof.Machine
end

