-- ==== Sys2Proof/Config.lean ====
section
/-! DEFINITION. What the spec leaves open: free values and the functions whose result it does not
state. Each is an opaque constant, so nothing can be proved about its value. -/

namespace Sys2Proof

/-- What R413 asks of an X.509 certificate: basicConstraints with cA TRUE and its path length, the two bits of
keyUsage, the subject's organizationalUnitName, whether its signature is ECDSA with P-384 and SHA-384, whether a
critical extension other than the two is there, its public key, the bytes it signs and its signature. -/
structure Certificate where
  ca : Bool
  pathLen : Option Nat
  certSign : Bool
  digitalSignature : Bool
  unitName : List Byte
  p384 : Bool
  otherCritical : Bool
  key : List Byte
  body : List Byte
  signature : List Byte
  deriving DecidableEq, Repr

end Sys2Proof

namespace Sys2Proof.Config

/-- Free value number n: an undefined output, an unstated value, a choice the device makes
(log entry 2). A reader takes it modulo the range it needs. -/
opaque free : Nat → Nat

/-- Random draw number n of the security engine: nonces, memory keys, hash keys (log entry 8). -/
opaque draw : Nat → Nat

/-- A byte read from a sector that was not written under the key it is read with (R252, R452): what
is read with, what was written with, the address and the byte written (log entry 13). -/
opaque undecrypted : List Nat → List Nat → Nat → Byte → Byte

/-- The transcendental function with code f of the vector engine on an FP32 encoding that is not a
special input of R125 (R124, log entry 20). -/
opaque transcendental : Nat → BitVec 32 → BitVec 32

/-- The schedule engine's cosine of π × x (code 0) and power (code 1) on binary64 encodings, which R202
fixes to within 1 ulp only (log entry 20). -/
opaque scheduleFunction : Nat → List Nat → BitVec 64

/-- What a configuration register of a function reads: link, function, register, the value last written to it since
the function's reset, the errors its advanced error reporting holds (log entries 42 and 124). -/
opaque configSpace : Nat → Nat → Nat → Option Nat → Nat → Nat

/-- The error bits that a write of a configuration register clears: link, function, register, value (log entry
124). -/
opaque configClears : Nat → Nat → Nat → Nat → Nat

/-- What measurement block 1 measures, and the debug state of block 8 (R367, log entry 125). -/
opaque bootMeasure : Nat

/-- The debug state that measurement block 8 covers (R367, log entry 125). -/
opaque debugState : Nat

/-- The USDO frames that carry a value of n bytes: one where the transfer is expedited (R400, log entry 126). -/
opaque usdoFrames : Nat → Nat

/-- The hardware revision of the silicon (object 0x1009, log entry 43). -/
opaque siliconRevision : List Byte

/-- The text of a firmware version (object 0x100A, log entry 43). -/
opaque versionText : Nat → List Byte

/-- What a counter reads once it has passed the width of its object (log entry 3). -/
opaque pastWidth : Nat → Nat

/-- SHA-384 of a list of bytes, as a number (log entry 21). -/
opaque sha384 : List Byte → Nat

/-- Verification of an ECDSA P-384 signature: public key, digest, signature (log entry 21). -/
opaque ecdsaVerify : List Byte → Nat → List Byte → Bool

/-- The X.509 certificates of a chain in DER, leaf first, none where the bytes are no such chain (R413, log entry
21). -/
opaque derCertificates : List Byte → Option (List Certificate)

/-- The public key of the Noxial root of certificate slot 0 (R367, R413, log entry 21). -/
opaque noxialRoot : List Byte

/-- Whether an image's contents pass the checks of its signature block (log entry 21). -/
opaque imageVerify : List Byte → Bool

/-- A signature or key-agreement value the device makes over given bytes: draw number, contents
(log entry 21). -/
opaque deviceSign : Nat → List Byte → List Byte

/-- The three check symbols of a sector over its 33 covered bytes: the spec names the code and no generator
(R242, log entry 97). -/
opaque checkSymbols : List Nat → Nat

/-- What the device answers to an SPDM or TDISP request whose contents the spec leaves to their standards:
message code, the request and what the answer depends on (log entry 58). -/
opaque spdmAnswer : Nat → List Byte → List Byte

end Sys2Proof.Config
end

