-- ==== Sys2Proof/Machine/Num.lean ====
section
/-! DEFINITION. Number formats, rounding and conversion (chapter Number Formats, Accumulation and
Quantization). A value is exact until a rounding names its format. -/

namespace Sys2Proof.Machine

/-- A decoded value: NaN, an infinity, or (−1)^neg × m × 2^e exactly. A NaN carries no payload
(R94). -/
inductive FVal where
  | nan
  | inf (neg : Bool)
  | fin (neg : Bool) (m : Nat) (e : Int)
  deriving DecidableEq, Repr

/-- +0. -/
def FVal.zero : FVal := .fin false 0 0

/-- A whole number as a value. -/
def FVal.ofNat (n : Nat) : FVal := .fin false n 0

/-- A value is an infinity or NaN. -/
def FVal.special : FVal → Bool
  | .fin _ _ _ => false
  | _ => true

/-- A value is NaN. -/
def FVal.isNan : FVal → Bool
  | .nan => true
  | _ => false

/-- A value is an infinity. -/
def FVal.isInf : FVal → Bool
  | .inf _ => true
  | _ => false

/-- A value is a zero of either sign. -/
def FVal.isZero : FVal → Bool
  | .fin _ m _ => m = 0
  | _ => false

/-- The sign bit of a value, false for NaN. -/
def FVal.sign : FVal → Bool
  | .nan => false
  | .inf s => s
  | .fin s _ _ => s

/-- The value with its sign flipped. -/
def FVal.negate : FVal → FVal
  | .nan => .nan
  | .inf s => .inf (!s)
  | .fin s m e => .fin (!s) m e

/-- The magnitude. -/
def FVal.abs : FVal → FVal
  | .nan => .nan
  | .inf _ => .inf false
  | .fin _ m e => .fin false m e

/-- The signed integer (−1)^neg × m. -/
def signedMant (neg : Bool) (m : Nat) : Int := if neg then -(m : Int) else (m : Int)

/-- m × 2^e as an integer in units of 2^e0, for e0 at most e. -/
def scaleTo (neg : Bool) (m : Nat) (e e0 : Int) : Int := signedMant neg m * (2 : Int) ^ (e - e0).toNat

/-- The exact sum, with the IEEE 754 rules of special values and, under round-to-nearest, of the
sign of zero (R102, R103). -/
def FVal.add : FVal → FVal → FVal
  | .nan, _ => .nan
  | _, .nan => .nan
  | .inf s, .inf t => if s = t then .inf s else .nan
  | .inf s, .fin _ _ _ => .inf s
  | .fin _ _ _, .inf t => .inf t
  | .fin s m e, .fin t n f =>
    if m = 0 ∧ n = 0 then .fin (s && t) 0 0
    else
      let g := min e f
      let x := scaleTo s m e g + scaleTo t n f g
      .fin (decide (x < 0)) x.natAbs g

/-- The exact difference. -/
def FVal.sub (a b : FVal) : FVal := a.add b.negate

/-- The exact product; ∞ × 0 is NaN (R103). -/
def FVal.mul : FVal → FVal → FVal
  | .nan, _ => .nan
  | _, .nan => .nan
  | .inf s, .inf t => .inf (s != t)
  | .inf s, .fin t n _ => if n = 0 then .nan else .inf (s != t)
  | .fin s m _, .inf t => if m = 0 then .nan else .inf (s != t)
  | .fin s m e, .fin t n f => .fin (s != t) (m * n) (e + f)

/-- The value × 2^k. -/
def FVal.scale (k : Int) : FVal → FVal
  | .fin s m e => .fin s m (e + k)
  | v => v

/-- The comparison a < b of two values that are not NaN; a zero equals the other zero. -/
def FVal.lt : FVal → FVal → Bool
  | .nan, _ => false
  | _, .nan => false
  | .inf s, .inf t => s && !t
  | .inf s, .fin _ _ _ => s
  | .fin _ _ _, .inf t => !t
  | .fin s m e, .fin t n f => decide (scaleTo s m e (min e f) < scaleTo t n f (min e f))

/-- The comparison a ≤ b of two values that are not NaN. -/
def FVal.le (a b : FVal) : Bool := !a.isNan && !b.isNan && !(b.lt a)

/-- The equality of two values that are not NaN, zeros equal. -/
def FVal.eq (a b : FVal) : Bool := a.le b && b.le a

/-- The quotient of two finite values, correct for any rounding to at most 60 bits: the last bit
stands for everything the division leaves over. -/
def divFin (s : Bool) (m : Nat) (e : Int) (n : Nat) (f : Int) : FVal :=
  let k := 80 + n.log2
  let q := (m <<< k) / n
  let sticky := if (m <<< k) % n = 0 then 0 else 1
  .fin s (2 * q + sticky) (e - f - k - 1)

/-- The quotient a / b under IEEE 754: 0/0 and ∞/∞ are NaN, x/0 is an infinity. -/
def FVal.div : FVal → FVal → FVal
  | .nan, _ => .nan
  | _, .nan => .nan
  | .inf _, .inf _ => .nan
  | .inf s, .fin t _ _ => .inf (s != t)
  | .fin s _ _, .inf t => .fin (s != t) 0 0
  | .fin s m e, .fin t n f =>
    if n = 0 then (if m = 0 then .nan else .inf (s != t)) else divFin (s != t) m e n f

/-- The integer square root, bit by bit from bit k − 1. -/
def isqrt : Nat → Nat → Nat → Nat
  | 0, _, r => r
  | k + 1, x, r => isqrt k x (if (r + 2 ^ k) * (r + 2 ^ k) ≤ x then r + 2 ^ k else r)

/-- The square root of a finite value of at least 0, correct for any rounding to at most 60 bits. -/
def sqrtFin (m : Nat) (e : Int) : FVal :=
  let e' := e - 160 - (e % 2)
  let x := m <<< (e - e').toNat
  let r := isqrt (x.log2 / 2 + 1) x 0
  .fin false (2 * r + if r * r = x then 0 else 1) (e' / 2 - 1)

/-- The square root under IEEE 754: of a negative value NaN, of −0 it is −0. -/
def FVal.sqrt : FVal → FVal
  | .nan => .nan
  | .inf s => if s then .nan else .inf false
  | .fin s m e => if m = 0 then .fin s 0 0 else if s then .nan else sqrtFin m e

/-! ### Formats -/

/-- How a format spends its largest exponent (R93). -/
inductive Special where
  | ieee | e4m3 | none
  deriving DecidableEq, Repr

/-- A sign, exponent and mantissa format of R93. `top` is the magnitude code of its largest finite
value, `inf` whether an overflow becomes an infinity, `nanCode` the canonical NaN of R94. -/
structure Fmt where
  eb : Nat
  mb : Nat
  bias : Nat
  special : Special
  top : Nat
  overInf : Bool
  nanCode : Nat
  deriving DecidableEq, Repr

def Fmt.fp32 : Fmt := ⟨8, 23, 127, .ieee, 0x7F7FFFFF, true, 0x7FC00000⟩
def Fmt.fp64 : Fmt := ⟨11, 52, 1023, .ieee, 0x7FEFFFFFFFFFFFFF, true, 0x7FF8000000000000⟩
def Fmt.fp16 : Fmt := ⟨5, 10, 15, .ieee, 0x7BFF, true, 0x7E00⟩
def Fmt.bf16 : Fmt := ⟨8, 7, 127, .ieee, 0x7F7F, true, 0x7FC0⟩
def Fmt.e4m3 : Fmt := ⟨4, 3, 7, .e4m3, 0x7E, false, 0x7F⟩
def Fmt.e5m2 : Fmt := ⟨5, 2, 15, .ieee, 0x7B, false, 0x7E⟩
def Fmt.e2m3 : Fmt := ⟨2, 3, 1, .none, 0x1F, false, 0⟩
def Fmt.e3m2 : Fmt := ⟨3, 2, 3, .none, 0x1F, false, 0⟩
def Fmt.e2m1 : Fmt := ⟨2, 1, 1, .none, 0x7, false, 0⟩

/-- The exponent of a format's smallest subnormal. -/
def Fmt.emin (f : Fmt) : Int := 1 - (f.bias : Int) - f.mb

/-- The value of an encoding (R93, R94). -/
def Fmt.decode (f : Fmt) (c : Nat) : FVal :=
  let s := c.testBit (f.eb + f.mb)
  let x := bits c (f.eb + f.mb - 1) f.mb
  let m := c % 2 ^ f.mb
  if f.special = .ieee ∧ x = 2 ^ f.eb - 1 then (if m = 0 then .inf s else .nan)
  else if f.special = .e4m3 ∧ x = 2 ^ f.eb - 1 ∧ m = 2 ^ f.mb - 1 then .nan
  else if x = 0 then .fin s m f.emin
  else .fin s (2 ^ f.mb + m) (f.emin + (x - 1 : Nat))

/-- The two roundings (R105, R106): to nearest even, or seeded stochastic with its 16-bit r. -/
inductive Rnd where
  | rne
  | sr (r : Nat)
  deriving DecidableEq, Repr

/-- The 16-bit value r of R106 for a salt, a row i and a column j. -/
def srDraw (salt i j : Nat) : Nat :=
  let w := 2 ^ 32
  let h := (salt % w) ^^^ (i * 0x9E3779B1 % w) ^^^ (j * 0x85EBCA77 % w)
  let h := h ^^^ (h >>> 16)
  let h := h * 0x7FEB352D % w
  let h := h ^^^ (h >>> 15)
  let h := h * 0x846CA68B % w
  let h := h ^^^ (h >>> 16)
  h % 2 ^ 16

/-- m × 2^e in units of 2^q, rounded to a whole number of them (R105, R106). -/
def roundUnits (r : Rnd) (m : Nat) (e q : Int) : Nat :=
  if q ≤ e then m <<< (e - q).toNat
  else
    let d := (q - e).toNat
    let k := m >>> d
    let rem := m % 2 ^ d
    let up := match r with
      | .rne => decide (2 * rem > 2 ^ d) || (decide (2 * rem = 2 ^ d) && decide (k % 2 = 1))
      | .sr x => decide (x % 2 ^ 16 + rem * 2 ^ 16 / 2 ^ d ≥ 2 ^ 16)
    if up then k + 1 else k

/-- The magnitude code of m × 2^e, m not 0, with the exponent range unbounded above. -/
def Fmt.magCode (f : Fmt) (r : Rnd) (m : Nat) (e : Int) : Nat :=
  let q := max f.emin ((m.log2 : Int) + e - f.mb)
  (q - f.emin).toNat * 2 ^ f.mb + roundUnits r m e q

/-- One conversion: the code written, and what format health counts of it (R115). -/
structure Conv where
  code : Nat
  ovf : Bool
  vanish : Bool
  nan : Bool
  deriving DecidableEq, Repr

/-- Conversion to a floating format (R105, R106). -/
def Fmt.convert (f : Fmt) (r : Rnd) : FVal → Conv
  | .nan => ⟨f.nanCode, false, false, true⟩
  | .inf s =>
    match f.special with
    | .ieee => ⟨b2n s * 2 ^ (f.eb + f.mb) + (2 ^ f.eb - 1) * 2 ^ f.mb, false, false, false⟩
    | .e4m3 => ⟨f.nanCode, false, false, true⟩
    | .none => ⟨b2n s * 2 ^ (f.eb + f.mb) + f.top, true, false, false⟩
  | .fin s m e =>
    let sgn := b2n s * 2 ^ (f.eb + f.mb)
    if m = 0 then ⟨sgn, false, false, false⟩
    else
      let c := f.magCode r m e
      if c > f.top then
        ⟨sgn + (if f.overInf then (2 ^ f.eb - 1) * 2 ^ f.mb else f.top), true, false, false⟩
      else ⟨sgn + c, false, decide (c = 0), false⟩

/-- The encoding of a value under round-to-nearest-even. -/
def Fmt.encode (f : Fmt) (v : FVal) : Nat := (f.convert .rne v).code

/-- A value rounded to a format and read back. -/
def Fmt.round (f : Fmt) (v : FVal) : FVal := f.decode (f.encode v)

/-- INT8 of MXINT8: code × 2^-6 (R93). -/
def int8Decode (c : Nat) : FVal :=
  let x := toSigned 8 c
  .fin (decide (x < 0)) x.natAbs (-6)

/-- Conversion to INT8 of MXINT8, saturating at ±127/64 (R105). -/
def int8Convert (r : Rnd) : FVal → Conv
  | .fin s m e =>
    let k := roundUnits r m e (-6)
    let c := if k > 127 then 127 else k
    ⟨ofSigned 8 (signedMant s c), decide (k > 127), decide (m ≠ 0 ∧ k = 0), false⟩
  | .inf _ => ⟨0, false, false, true⟩
  | .nan => ⟨0, false, false, true⟩

/-! ### The format codes of R96 -/

/-- The formats of R96. -/
inductive FC where
  | fp32 | fp16 | bf16 | e4m3 | e5m2 | mx8e4 | mx8e5 | mx6e2 | mx6e3 | mx4 | mxint8 | fp4 | g8
  | cb8 | cb4
  deriving DecidableEq, Repr

/-- The format of a code, none for the reserved 0xF. -/
def FC.ofCode : Nat → Option FC
  | 0x0 => some .fp32
  | 0x1 => some .fp16
  | 0x2 => some .bf16
  | 0x3 => some .e4m3
  | 0x4 => some .e5m2
  | 0x5 => some .mx8e4
  | 0x6 => some .mx8e5
  | 0x7 => some .mx6e2
  | 0x8 => some .mx6e3
  | 0x9 => some .mx4
  | 0xA => some .mxint8
  | 0xB => some .fp4
  | 0xC => some .g8
  | 0xD => some .cb8
  | 0xE => some .cb4
  | _ => none

/-- The code of a format. -/
def FC.code : FC → Nat
  | .fp32 => 0x0 | .fp16 => 0x1 | .bf16 => 0x2 | .e4m3 => 0x3 | .e5m2 => 0x4 | .mx8e4 => 0x5
  | .mx8e5 => 0x6 | .mx6e2 => 0x7 | .mx6e3 => 0x8 | .mx4 => 0x9 | .mxint8 => 0xA | .fp4 => 0xB
  | .g8 => 0xC | .cb8 => 0xD | .cb4 => 0xE

/-- Element bits of a format (R96). -/
def FC.bits : FC → Nat
  | .fp32 => 32
  | .fp16 | .bf16 => 16
  | .e4m3 | .e5m2 | .mx8e4 | .mx8e5 | .mxint8 | .g8 | .cb8 => 8
  | .mx6e2 | .mx6e3 => 6
  | .mx4 | .fp4 | .cb4 => 4

/-- A format whose 32-element blocks carry a scale byte. -/
def FC.scaled : FC → Bool
  | .mx8e4 | .mx8e5 | .mx6e2 | .mx6e3 | .mx4 | .mxint8 | .g8 | .cb8 | .cb4 => true
  | _ => false

/-- A codebook format. -/
def FC.book : FC → Bool
  | .cb8 | .cb4 => true
  | _ => false

/-- The element of a code, before its block's scale and without a codebook (R93). -/
def FC.element : FC → Nat → FVal
  | .fp32, c => Fmt.fp32.decode c
  | .fp16, c => Fmt.fp16.decode c
  | .bf16, c => Fmt.bf16.decode c
  | .e4m3, c | .mx8e4, c | .g8, c => Fmt.e4m3.decode c
  | .e5m2, c | .mx8e5, c => Fmt.e5m2.decode c
  | .mx6e2, c => Fmt.e2m3.decode c
  | .mx6e3, c => Fmt.e3m2.decode c
  | .mx4, c | .fp4, c => Fmt.e2m1.decode c
  | .mxint8, c => int8Decode c
  | .cb8, _ | .cb4, _ => .nan

/-- The decoded value of an element: its code, its block's scale byte and, for a codebook format,
the BF16 entry its index names (R97). -/
def FC.decode (f : FC) (c scale entry : Nat) : FVal :=
  match f with
  | .g8 => if scale = 0x80 then .nan else (f.element c).scale (toSigned 8 scale)
  | .cb8 | .cb4 =>
    if scale = 0xFF then .nan else (Fmt.bf16.decode entry).scale ((scale : Int) - 127)
  | _ =>
    if f.scaled then
      (if scale = 0xFF then .nan else (f.element c).scale ((scale : Int) - 127))
    else f.element c

/-- Conversion of one value, already divided by its block's scale, to a format's element (R105).
A codebook format is no target. -/
def FC.convert : FC → Rnd → FVal → Conv
  | .fp32, r, v => Fmt.fp32.convert r v
  | .fp16, r, v => Fmt.fp16.convert r v
  | .bf16, r, v => Fmt.bf16.convert r v
  | .e4m3, r, v | .mx8e4, r, v | .g8, r, v => Fmt.e4m3.convert r v
  | .e5m2, r, v | .mx8e5, r, v => Fmt.e5m2.convert r v
  | .mx6e2, r, v => Fmt.e2m3.convert r v
  | .mx6e3, r, v => Fmt.e3m2.convert r v
  | .mx4, r, v => Fmt.e2m1.convert r v
  | .fp4, r, v =>
    match v with
    | .nan => ⟨0, false, false, true⟩
    | v => Fmt.e2m1.convert r v
  | .mxint8, r, v => int8Convert r v
  | .cb8, _, _ | .cb4, _, _ => ⟨0, false, false, false⟩

/-- The emax of R111 for an MX element format. -/
def FC.emax : FC → Int
  | .mx8e4 => 8
  | .mx8e5 => 15
  | .mx6e2 => 2
  | .mx6e3 => 4
  | .mx4 => 2
  | _ => 0

/-- The largest finite magnitude of a block (R111). -/
def amax (vs : List FVal) : FVal :=
  vs.foldl (fun m v => if v.special then m else if m.lt v.abs then v.abs else m) .zero

/-- floor(log2) of a finite value that is not 0. -/
def floorLog2 : FVal → Int
  | .fin _ m e => (m.log2 : Int) + e
  | _ => 0

/-- The shared exponent R111 gives a block for a scaled target. -/
def FC.blockExp (f : FC) (vs : List FVal) : Int :=
  let a := amax vs
  let raw : Int :=
    if f = .g8 then
      let e := floorLog2 a - 8
      if (a.scale (-e)).le (.ofNat 448) then e else e + 1
    else floorLog2 a - f.emax
  if a.isZero then -127 else max (-127) (min 127 raw)

/-- The scale byte of a shared exponent: E8M0, or the two's complement byte of G8. -/
def FC.scaleByte (f : FC) (x : Int) : Nat :=
  if f = .g8 then ofSigned 8 x else (x + 127).toNat

/-- The scale byte of a NaN block. -/
def FC.nanScale (f : FC) : Nat := if f = .g8 then 0x80 else 0xFF

/-- A converted block: its scale byte (0 where the format has none) and its elements. -/
structure BlockConv where
  scale : Nat
  elems : List Conv
  deriving DecidableEq, Repr

/-- Conversion of a block of values, each with its rounding (R105, R111). -/
def FC.convertBlock (f : FC) (vs : List (Rnd × FVal)) : BlockConv :=
  if f.scaled then
    if vs.any (fun p => p.2.special) then
      ⟨f.nanScale, vs.map fun _ => ⟨0, false, false, true⟩⟩
    else
      let x := f.blockExp (vs.map (·.2))
      ⟨f.scaleByte x, vs.map fun p => f.convert p.1 (p.2.scale (-x))⟩
  else ⟨0, vs.map fun p => f.convert p.1 p.2⟩

/-- The value a converted element decodes to, with the scale its block was given (R114). -/
def FC.back (f : FC) (scale : Nat) (c : Conv) : FVal := f.decode c.code scale 0

/-! ### FP32 arithmetic on encodings -/

/-- The value of an FP32 encoding. -/
def f32 (c : Nat) : FVal := Fmt.fp32.decode c

/-- The FP32 encoding nearest a value. -/
def toF32 (v : FVal) : Nat := Fmt.fp32.encode v

/-- A value rounded once to FP32. -/
def rnd32 (v : FVal) : FVal := Fmt.fp32.round v

/-- A sum of FP32 values in list order from +0, rounded after each addition. -/
def sum32 (vs : List FVal) : FVal := vs.foldl (fun s v => rnd32 (s.add v)) .zero

/-- A fused multiply-add rounded once. -/
def fma32 (a b c : FVal) : FVal := rnd32 ((a.mul b).add c)

end Sys2Proof.Machine
end

