-- ==== Sys2Proof/Machine/State.lean ====
section
/-! DEFINITION. The state of the G820: every register, store, record, queue and pin the spec gives
it, as plain data. Stores are sparse maps in canonical form; the rules that name each field are in
INVENTORY.md. -/

namespace Sys2Proof.Machine

/-- Why a step stops with a fault. Nothing raises one: every command of this model answers a next
state (safe: the constructor stands for nothing a run can meet). -/
inductive Fault where
  /-- Raised by no step; safe. -/
  | none
  deriving DecidableEq, Repr

/-- Why a step is refused. -/
inductive Refusal where
  /-- Raised by the dispatch of a row that has no meaning yet; safe, the run stops. -/
  | notModelled (mnemonic : String)
  deriving DecidableEq, Repr

/-! ### Time -/

/-- The pace states of R51. -/
inductive PaceMode where
  | unlocked | locked | holdover | expired | countPending
  deriving DecidableEq, Repr

/-- The pace unit. Times are in ns; `t64` and `slew64` in 1/64 ns, so that a slewed tick is exact
(R39, R48); `port`, `hop` and `origin` are those of the pace word selected last (R37, R281). -/
structure Pace where
  mode : PaceMode
  stride : Nat
  t64 : Nat
  that : Nat
  periods : List Nat
  lastEdge : Nat
  held : Bool
  source : Nat
  port : Nat
  hop : Nat
  origin : Nat
  glitches : Nat
  glitchRun : Nat
  holdStrides : Nat
  lastStride : Nat
  cand : Tab (List Nat)
  valid : List Nat
  pendCount : Option Nat
  slew64 : Int
  genCount : Nat
  lastWord : Option Nat
  signal : Bool
  profileFollows : Bool
  deriving DecidableEq, Repr

/-- The calendar clock (R44). -/
structure Calendar where
  ns : Nat
  free : Bool
  pend : Option Nat
  rejects : Nat
  ppsSeen : Bool
  deriving DecidableEq, Repr

/-! ### Commands -/

/-- A queue of a context: its record as last read, and its counters (R316, R317). -/
structure Queue where
  enabled : Bool
  irqVector : Nat
  dbObj : Nat
  cqHead : Nat
  compBase : Nat
  ringBase : Nat
  compLog2 : Nat
  ringLog2 : Nat
  priority : Nat
  dbKind : Nat
  next : Nat
  producer : Nat
  slot : Nat
  phase : Nat
  deriving DecidableEq, Repr

/-- Where a fetched command stands: admitted, released, or finished with the status its record
will carry (R323 to R325). -/
inductive Phase where
  | admitted
  | released
  | finished (st : Status)
  deriving DecidableEq, Repr

/-- What a command latches at its release: a taproot command the stride it was dispatched in, the step size its
slot had published for that stride, and the descriptor record of the version current then (R203, R215); an ABORT
the producer index of its target's queue (R329); `lost` that the pace was EXPIRED or COUNT_PENDING then (R205), and
`record` the schedule record, read once as the command was fetched, none where memory did not give it (R202). -/
structure Latch where
  stride : Nat
  step : Option Nat
  version : Option Nat
  range : Nat
  lost : Bool
  record : Option Nat
  deriving DecidableEq, Repr

/-- Bytes of stack memory a command uses: rows of n bytes at a pitch, read or written, by wide accesses (0), by
narrow ones (1) or on a base die's internal path (2) (R237). -/
structure Access where
  addr : Nat
  rows : Nat
  pitch : Nat
  n : Nat
  write : Bool
  kind : Nat
  deriving DecidableEq, Repr

/-- A command fetched and not complete. `testing` names the unit whose test it waits for, `failed` the unit whose test
has failed under it, `suspect` that memory gave up data it used (R243, R360), `needs` the members whose frames its
work still waits for; `tag` the operation tag of its frames (R264); `rank` its place in the order of releases,
from 1, 0 before its release (R72); `latch` what it took at its release, `verifying` that the engine tests of an
owner verification have been asked for (R218), `onTime` that a gated install takes effect at its angle (R480),
`half` the half of the accumulator store a matrix instruction has written (R68), `spoilt` that a command not
ordered against it has met its operands (R99, R119), `fillSpoilt` that one has met what only a fill reads,
`filled` that it has filled its tile (R60, R99), `mem` the stack memory it uses (R483), `owed` what its accesses
still wait for at the regulators' buckets, by stack × 16 + partition (R241), `admitted` that it passed admission
(R340). -/
structure Cmd where
  id : CmdId
  desc : Desc
  phase : Phase
  retries : Nat
  abortReq : Bool
  testing : Option UnitId
  failed : Bool
  suspect : Bool
  needs : List Nat
  errors : Nat
  tag : Nat
  rank : Nat
  latch : Latch
  verifying : Bool
  onTime : Bool
  half : Option Nat
  spoilt : Bool
  fillSpoilt : Bool
  filled : Bool
  mem : List Access
  owed : Tab Nat
  admitted : Bool
  deriving DecidableEq, Repr

/-- An ABORT released and not finished: itself, its targets still without a record, and whether it
has taken effect on one; `remote` names the member it sent its notice to (R327 to R330). -/
structure AbortWait where
  id : CmdId
  targets : List CmdId
  took : Bool
  remote : Option Nat
  tag : Nat
  deriving DecidableEq, Repr

/-- An abort notice received, decided here and not yet answered (R330). -/
structure NoticeWait where
  member : Nat
  ctx : Nat
  queue : Nat
  seq : Nat
  tag : Nat
  targets : List CmdId
  took : Bool
  deriving DecidableEq, Repr

/-- A context's place; `yieldAt` holds the deadlines at which it yields (R339 to R343). -/
structure Ctx where
  slot : Option Nat
  since : Nat
  wait : Option Nat
  quantum : Bool
  leaving : Bool
  leaveAt : Nat
  drained : Bool
  yieldAt : List Angle
  saved : Option Nat
  deriving DecidableEq, Repr

/-- A synchronization object (R331). -/
structure SyncObj where
  value : Nat
  fault : Bool
  deriving DecidableEq, Repr

/-- A sample descriptor (R344). -/
structure Sample where
  ctx : Nat
  group : Nat
  sid : Nat
  st : Nat
  openAngle : Angle
  advAngle : Angle
  epoch : Nat
  deriving DecidableEq, Repr

/-! ### Compute -/

/-- A stationary tile held in a stand: the fields that REUSE compares and the decoded values, K
rows of W columns (R60, R63). -/
structure Tile where
  key : List Nat
  vals : List (List FVal)
  deriving DecidableEq, Repr

/-- A stand (R52, R67 to R69): its active and pending tiles, which half of the accumulator store is
active, the shadow set's state, and the instruction whose flip waits. -/
structure Stand where
  tile : Option Tile
  pendingTile : Option Tile
  half : Nat
  released : Bool
  flipped : Bool
  flipPending : Option CmdId
  deriving DecidableEq, Repr

/-! ### Embedding -/

/-- An installed version of a table: its number, its descriptor record as read, whether it is
current, and the object its release signals (R150, R151, R153). -/
structure Version where
  ctx : Nat
  table : Nat
  num : Nat
  raw : Nat
  current : Bool
  release : Option Nat
  deriving DecidableEq, Repr

/-- The numbering of a table, and whether a replica fetch has left its shard suspect (R150, R180,
R217). -/
structure TableNum where
  last : Nat
  defined : Bool
  suspect : Bool
  deriving DecidableEq, Repr

/-- One admitted index list of a batch: table, workspace, counts, whether its pass has completed with OK or
RETRIED_OK, and whether a prefetch has recorded its staging address (R158, R163, R183). -/
structure Pass where
  table : Nat
  ws : Nat
  n : Nat
  bags : Nat
  weights : Bool
  done : Bool
  staged : Bool
  deriving DecidableEq, Repr

/-- A request frame of a command to another member: its tag, the embedding engine it counts against,
the entries or rows it asks for, whether it is sent, and its answer. `turn` numbers the attempts of a
replica fetch (R156, R173, R217, R300). -/
structure Ask where
  cmd : CmdId
  tag : Nat
  member : Nat
  engine : Nat
  turn : Nat
  rows : List Nat
  sent : Bool
  reply : Option (Status × List Byte)
  deriving DecidableEq, Repr

/-- An admitted batch (R154). -/
structure Batch where
  ctx : Nat
  bid : Nat
  binds : List (Nat × Nat)
  holds : List (Nat × Nat × Nat)
  angle : Angle
  passes : List Pass
  deriving DecidableEq, Repr

/-- A remote hold another member has on a version of this device (R155). -/
structure RemoteHold where
  member : Nat
  ctx : Nat
  table : Nat
  num : Nat
  count : Nat
  deriving DecidableEq, Repr

/-! ### Taproot -/

/-- A prepared region (R185, R223): its context, where its header and record lie, and the table whose
shard it holds. -/
structure Region where
  ctx : Nat
  header : Nat
  record : Nat
  table : Option Nat
  deriving DecidableEq, Repr

/-- The key a sector was encrypted under: context, slot, key number (R252). -/
structure KeyTag where
  ctx : Nat
  slot : Nat
  key : Nat
  deriving DecidableEq, Repr

/-- An undo record: its region's header, the grain's address, the epoch it belongs to, the moments field it
restores, whether memory has lost it, and the key it is encrypted under, none in plaintext (R206, R219, R370). -/
structure Undo where
  header : Nat
  addr : Nat
  epoch : Nat
  saved : List Byte
  bad : Bool
  tag : Option KeyTag
  deriving DecidableEq, Repr

/-- A norm record to be written: its address, whether it adds, its epoch, the sums rounded once and the counts
(R221). -/
structure NormRecord where
  addr : Nat
  acc : Bool
  epoch : Nat
  w2 : Nat
  g2 : Nat
  u2 : Nat
  elems : Nat
  skipped : Nat
  deriving DecidableEq, Repr

/-- An update whose work is over and whose completion record is still to be written: what its completion
brings to its region's header, and its norm record (R191, R211, R221, R325, R326). -/
structure TapDone where
  cmd : CmdId
  header : Nat
  epoch : Nat
  print : Nat
  skipped : Nat
  norm : Option NormRecord
  deriving DecidableEq, Repr

/-- A replica fetch this device serves as owner, or a verification a replica has asked for: its tag and
the rows it covers, and whether an engine's test has failed under it (R173, R213, R217, R218). -/
structure FetchServe where
  member : Nat
  ctx : Nat
  header : Nat
  epoch : Nat
  tag : Nat
  verify : Bool
  rows : List Nat
  failed : Bool
  first : Nat
  deriving DecidableEq, Repr

/-- A schedule slot (R202 to R204). -/
structure Sched where
  record : List Nat
  latched : Option (Nat × Nat)
  host : List (Nat × Nat)
  deriving DecidableEq, Repr

/-! ### Memory -/

/-- The key slots of a context: the current slot and the key numbers of both, none for a zeroed
slot (R252, R451). -/
structure KeySlots where
  current : Nat
  key0 : Option Nat
  key1 : Option Nat
  deriving DecidableEq, Repr

/-- A re-encryption sweep of a context: the retiring slot and the first page not yet swept (R253). -/
structure Sweep where
  active : Bool
  retiring : Nat
  next : Nat
  obj : Option Nat
  deriving DecidableEq, Repr

/-- How a retired pseudo-channel's grains are read during its migration (R247, R249, R483). -/
inductive MigSource where
  | readable | interface | unreadable
  deriving DecidableEq, Repr

/-- The migration of a retired pseudo-channel: its number, the next slot, how its grains are read, and how
many have been placed poisoned (R247, R249). -/
structure Migration where
  pc : Nat
  next : Nat
  from_ : MigSource
  lost : Nat
  deriving DecidableEq, Repr

/-- The pool's own state beside its bytes; `rates` are the regulators' rates and bursts in force, by stack × 16 +
partition (R240), `scan` the target and the kind of the margin scan started last (R256). -/
structure Pool where
  poison : Tab Bool
  tags : Tab (Option KeyTag)
  hashKeys : List Nat
  keys : Tab KeySlots
  sweeps : Tab Sweep
  migrations : List Migration
  reloc : Tab (Option Nat)
  buckets : Tab Nat
  rates : Tab (Nat × Nat)
  scrub : Nat
  scan : Nat × Nat
  deriving DecidableEq, Repr

/-! ### Carust -/

/-- A frame: the fields of its header and its payload, with the class it travels in, the port it came by, 24 for a
frame made here, and the inbound credits it holds there (R264, R267). -/
structure Frame where
  kind : Nat
  ctx : Nat
  ttl : Nat
  tag : Nat
  src : Nat
  dst : Nat
  epoch : Nat
  addr : Nat
  cls : Nat
  port : Nat
  frags : Nat
  body : List Byte
  deriving DecidableEq, Repr

/-- A data fragment of a frame, with its link sequence number once it is sent (R263); `note` tells the
frames of a collective's step from other frames, 0 for those; `dst` names the member that a frame made here goes to,
where a split with it stops the frame (R279). -/
structure Frag where
  note : Nat
  dst : Option Nat
  cls : Nat
  seq : Nat
  stream : Nat
  first : Bool
  last : Bool
  payload : List Byte
  deriving DecidableEq, Repr

/-- What a port knows of its partner from HELLO (R273). -/
structure Partner where
  member : Nat
  serial : Nat
  port : Nat
  job : Nat
  epoch : Nat
  mask : Nat
  deriving DecidableEq, Repr

/-- A lane mask to come into force on a port at a codeword of its count, once the partner has answered (R270). -/
structure LaneChange where
  mask : Nat
  due : Nat
  confirmed : Bool
  deriving DecidableEq, Repr

/-- A Carust port (R261 to R273): what it may send and grants, the frames that are coming in with the credits they
hold, the credits of each class that staging holds, the lane changes to come, the ECHO request still to be answered
and what has trained and waits for that answer (R261), the lanes that failed training by lane, the codewords sent up
to a time (R262), and the class of 1 to 3 whose turn to send it is (R266). -/
structure Port where
  up : Bool
  trainStart : Option Nat
  mask : Nat
  trained : Nat
  partner : Option Partner
  delay : Nat
  sendSeq : Nat
  recvSeq : Nat
  nakked : Bool
  replay : List Frag
  outq : List Frag
  credits : List Nat
  giveBack : List Nat
  split : List Nat
  partial_ : Tab (List Byte × Nat)
  staged : List Nat
  triggers : Tab (List Nat)
  changes : List LaneChange
  echo : Option Nat
  ready : Option Training
  failed : Tab Nat
  codewords : Nat
  cwAt : Nat
  turn : Nat
  deriving DecidableEq, Repr

/-- A membership record as pending (R277). -/
structure Pending where
  epoch : Nat
  effective : Nat
  self : Nat
  members : List Nat
  deriving DecidableEq, Repr

/-- What a member's last BEACON announced, and the port it came by (R279). -/
structure Beacon where
  member : Nat
  port : Nat
  epoch : Nat
  digest : Nat
  deriving DecidableEq, Repr

/-- Carust membership (R277 to R280). -/
structure Membership where
  epoch : Nat
  self : Nat
  members : List Nat
  digest : Nat
  prevEpoch : Nat
  prevSelf : Nat
  pending : Option Pending
  outcome : Nat
  unreachable : List Nat
  split : List Nat
  beacons : List Beacon
  deriving DecidableEq, Repr

/-! ### Collectives -/

/-- A received part of a collective's step: its sender, step, offset and last mark, the port it came
by, and its bytes (R287). -/
structure CollPart where
  src : Nat
  step : Nat
  off : Nat
  last : Bool
  port : Nat
  bytes : List Byte
  deriving DecidableEq, Repr

/-- A collective of a context and a tag: the command that runs it, none while only frames have come;
the epoch it binds, whether it has begun, the next step to receive, the steps it has sent, the parts
received, whether a peer has cancelled it, what of the step it has passed on (blocks of a hop, parts of a gather
step, lists of an exchange, by number), the sums of its own chunk as REAL32 codes, and the sum of the squares of its
input with their count, taken at its start (R287, R288, R294, R295, R297, R301, R305). -/
structure Coll where
  cmd : Option CmdId
  ctx : Nat
  tag : Nat
  epoch : Nat
  begun : Bool
  step : Nat
  sent : Nat
  parts : List CollPart
  cancelled : Bool
  passed : List Nat
  finals : List Nat
  square : Nat × Nat
  deriving DecidableEq, Repr

/-- A generation sequence slot (R302). -/
structure SeqSlot where
  opened : Bool
  ctx : Nat
  pos : Nat
  limit : Nat
  row : Nat
  pageList : Nat
  deriving DecidableEq, Repr

/-! ### Host and trust -/

/-- A host link; `split` is whether its port trained as two ×8 links, `failed` names the streams that an integrity
failure has made insecure (R349, R350, R366, R374). -/
structure HostLink where
  rate : Nat
  width : Nat
  cxl : Nat
  up : Bool
  secure : Bool
  cacheSecure : Bool
  selSecure : List Nat
  keySet : Tab Nat
  loaded : List (Nat × Nat)
  split : Bool
  failed : List Nat
  deriving DecidableEq, Repr

/-- The configuration, error status, interrupt table and pending bits, mailbox and SPDM connection of a function;
`header` and `data` are the last request written, `asked` one taken and not yet answered (R352, R353, R367, R403,
R404). -/
structure Func where
  config : Tab (Option Nat)
  errors : Nat
  msix : Tab Nat
  waiting : Tab Bool
  header : Nat
  data : List Byte
  lastSeq : Nat
  asked : Option (Nat × List Byte)
  resp : List Byte
  spdm : Nat
  spdmResp : List Byte
  deriving DecidableEq, Repr

/-- The TDISP interface states of R369. -/
inductive TdiState where
  | none | unlocked | locked | run | error
  deriving DecidableEq, Repr

/-- A context's TDISP interface (R368). `wasRun` holds from the end of RUN until the context has left its
slot and its keys are replaced, `rekey` from the end of CONFIG_LOCKED or RUN until then (R369). -/
structure Tdi where
  state : TdiState
  link : Nat
  fn : Nat
  nonce : Nat
  report : Bool
  wasRun : Bool
  rekey : Bool
  deriving DecidableEq, Repr

/-- Trust state of the device (R367 to R373). `alias_` is what the alias key of this reset was derived from.
`confLeft` is when a confidential context last left its slot. -/
structure Trust where
  tsp : List Nat
  cert1 : List Byte
  cert2 : List Byte
  alias_ : List Nat
  measured : Tab Nat
  ownCounters : Tab Nat
  bias : Tab Bool
  confLeft : Option Nat
  deriving DecidableEq, Repr

/-! ### Power -/

/-- A telemetry group (R378 to R380): the SEQ its next frame must carry plus 1, 0 before any frame, the time
of its last valid frame, and the run of valid frames. -/
structure TelemGroup where
  seq : Nat
  lastValid : Nat
  blind : Bool
  run : Nat
  deriving DecidableEq, Repr

/-- A rail: its samples, newest first (time, current in mA, voltage in 0.1 mV), its limit action in
steps, whether a limit stands exceeded, the run of low voltage samples and whether it stands, and the last
AVSBus reading in mA with its run of disagreements (R377, R381, R382). -/
structure Rail where
  samples : List (Nat × Nat × Nat)
  action : Nat
  exceeded : Bool
  underRun : Nat
  under : Bool
  avs : Nat
  avsBad : Nat
  deriving DecidableEq, Repr

/-- A Kyoty die: its operating point (8 is WM), the voltage commanded and the one raised ahead of a point to come in
mV, its envelope in mA, its understory duty in sixteenths, the steps by which the cap and heat lower its ceiling,
and when a voltage raised last has settled (R385 to R395). -/
structure DieOp where
  op : Nat
  mv : Nat
  ahead : Nat
  envelope : Nat
  duty : Nat
  ceilCap : Nat
  ceilHeat : Nat
  riseAt : Nat
  deriving DecidableEq, Repr

/-- Heat of a die or stack: its hottest sensor in 0.1 °C, the actions that stand (bit 0 the first, bit 1
the second of R395), when its last step was taken, and the sum, count, second and mean of its readings
(R373, R395). -/
structure Heat where
  temp : Int
  action : Nat
  since : Nat
  sum : Int
  count : Nat
  second : Nat
  mean : Int
  deriving DecidableEq, Repr

/-- The barrier waits of a stride (R391): the stride, the waits, the phase units held back, the angles of
the first start and the last end, the commands waiting, and the angle last looked at. -/
structure Barrier where
  stride : Nat
  waits : Nat
  slack : Nat
  arrival : Angle
  release : Angle
  active : List CmdId
  last : Angle
  deriving DecidableEq, Repr

/-- The power manager (R381 to R396). `wideAt` is the stride of a request not yet carried out, `capWritten`
a CAP_OFFSET not yet in force and the stride it was written in, `energy` counts 0.1 pJ, `marks` its value
at the starts of the last two 10 ms intervals, `ended` the slack record to be written. -/
structure Power where
  wideReq : Bool
  wide : Bool
  cause : Nat
  wideAt : Option Nat
  profile : List (List Nat)
  profEffective : Nat
  profPending : Option (List (List Nat) × Nat)
  entry : Nat
  capOffset : Int
  capWritten : Option (Int × Nat)
  groups : Tab TelemGroup
  rails : Tab Rail
  dies : Tab DieOp
  heat : Tab Heat
  energy : Nat
  marks : List (Nat × Nat)
  thermtrip : Bool
  clocksStopped : Bool
  barrier : Barrier
  ended : Option Barrier
  lowSince : Option Nat
  lastAvs : Nat
  deriving DecidableEq, Repr

/-! ### Dictionary, sessions and firmware -/

/-- The CANopen states of a bus (R401). -/
inductive Nmt where
  | initialisation | preOperational | operational | stopped
  deriving DecidableEq, Repr

/-- A CAN FD bus: its state, its node-ID, until when it recovers from bus-off, and its last EMCY and
heartbeat (R399 to R406). -/
structure Bus where
  nmt : Nmt
  node : Nat
  offUntil : Nat
  lastEmcy : Option Nat
  lastBeat : Option Nat
  deriving DecidableEq, Repr

/-- An open session: its channel, its role (2 operator, 3 vendor-service) and its last request
(R412). -/
structure Session where
  chan : Channel
  role : Nat
  last : Nat
  deriving DecidableEq, Repr

/-- An authorization record in force on a channel (R414). -/
structure Auth where
  chan : Channel
  index : Nat
  sub : Nat
  slot : Nat
  digest : Nat
  at_ : Nat
  deriving DecidableEq, Repr

/-- The refusals of session opens on a channel (R413). -/
structure Refusals where
  chan : Channel
  run : Nat
  until_ : Nat
  deriving DecidableEq, Repr

/-- The firmware store of one die type: two image slots, which holds the newest verified image, and
the staging state (R420, R421). -/
structure FwStore where
  slot0 : Mem
  slot1 : Mem
  newest : Option Nat
  staging : Nat
  deriving DecidableEq, Repr

/-- Firmware running on a die: version and security version (R422). -/
structure DieFw where
  version : Nat
  secVersion : Nat
  image : Nat
  deriving DecidableEq, Repr

/-- A request of a CAN FD bus that a takeover keeps waiting (R417). -/
structure CanAsk where
  bus : Nat
  client : Nat
  write : Bool
  index : Nat
  sub : Nat
  value : List Byte
  deriving DecidableEq, Repr

/-- The dictionary server and its sessions. `heldCan` are the requests of the buses that wait, `turn` the channel
served next: the buses, then the mailboxes (R417). `nonce` is the number of the draw it came from, `reload` the
location code of the die under reload, `heldSignals` the signals to objects on it, `mramFault` an MRAM write
check that has failed, with whether a rewrite succeeds (R410, R413, R422). -/
structure Server where
  sessions : List Session
  auths : List Auth
  refusals : List Refusals
  nonce : Nat
  selectors : List (Channel × Nat)
  fw : Tab FwStore
  dies : Tab DieFw
  reload : Option Nat
  heldSignals : List (Nat × Nat × Bool)
  heldCan : List CanAsk
  turn : Nat
  mramFault : Option Bool
  restore : Bool
  life : Nat
  transition : Option Nat
  serial : Nat
  straps : Nat
  deriving DecidableEq, Repr

/-! ### Faults and the recorder -/

/-- An entry of the deadwood list (R429). -/
structure Dead where
  unit : UnitId
  time : Nat
  seq : Nat
  deriving DecidableEq, Repr

/-- A unit under test or waiting for its test, the command that met the error, and what asked for
the test: 0 an error, 1 the operator, 2 undervoltage, 3 a takeover, 4 an owner verification, 5 an error in a line of
a store, after which no work is done again (R80, R81, R135);
`joined` that it waits with another of the unit and takes its verdict (R218, R424, R427, R433). -/
structure Test where
  unit : UnitId
  cmd : Option CmdId
  cause : Nat
  running : Bool
  event : Nat
  joined : Bool
  deriving DecidableEq, Repr

/-- An event record (R438). -/
structure Event where
  seq : Nat
  event : Nat
  unit : UnitId
  source : Nat
  outcome : Nat
  st : Nat
  ctx : Nat
  detail : Nat
  repeats : Nat
  angle : Angle
  lastAngle : Angle
  cal : Nat
  calFree : Bool
  unverified : Bool
  heartwood : Bool
  at_ : Nat
  deriving DecidableEq, Repr

/-- A calibration due or running (R434, R435): class bit, unit, when it fell due. -/
structure Calib where
  cls : Nat
  unit : UnitId
  due : Nat
  running : Bool
  deriving DecidableEq, Repr

/-- The management dies; `cause` is what has called for a takeover (R21, R432). -/
structure Mgmt where
  active : Nat
  standby : Bool
  lastBeat : Nat
  takeover : Bool
  cause : Nat
  stopped : Bool
  deriving DecidableEq, Repr

/-- The recorder, the deadwood list and the tests (R428 to R442). `worn` names the units that met their
16th transient error and the command they retire after, `calFrom` is the time of the last reset, from which the
intervals of units not calibrated since run (R425, R434). -/
structure Recorder where
  ring : List Event
  heartwood : List Event
  clearings : List Event
  next : Nat
  written : Nat
  folded : Nat
  emcy : Option Nat
  dead : List Dead
  transients : List (UnitId × List Nat)
  tests : List Test
  calibs : List Calib
  lastCal : List (UnitId × Nat × Nat)
  calFrom : Nat
  worn : List (UnitId × CmdId)
  deriving DecidableEq, Repr

/-! ### Pins and outputs -/

/-- What the device has sent, oldest first. -/
inductive Output where
  /-- A control fragment on a port: its type and its 16 bytes, or for FILL its header. -/
  | control (port kind : Nat) (fields : List Nat)
  /-- A data fragment on a port: its 64-bit header and its payload. -/
  | fragment (port header : Nat) (payload : List Byte)
  /-- An interrupt message: link, function, vector. -/
  | msix (link fn vector : Nat)
  /-- A dictionary response on a bus to a client: its CAN-ID, the abort code (0 for none), the value, and the
  frames it takes, one where the transfer is expedited. -/
  | usdo (bus id client code : Nat) (value : List Byte) (frames : Nat)
  /-- Boot-up, heartbeat and EMCY frames of a bus, with their CAN-ID. -/
  | bootUp (bus id : Nat)
  | heartbeat (bus id st : Nat)
  | emcy (bus id code reg event seq : Nat)
  /-- An AVSBus read of a rail of a bus: 0 its current, 1 its temperature, 2 its status. -/
  | avsRead (bus rail what : Nat)
  /-- A voltage write to a rail of a bus, in mV. -/
  | avsWrite (bus rail mv : Nat)
  /-- The VOUT transition rate written to a rail of a bus, in mV/µs. -/
  | avsRate (bus rail rate : Nat)
  /-- A host request: link, function of its requester ID, host address, bytes, whether it writes, and its T bit. -/
  | hostRequest (link fn addr n : Nat) (write trusted : Bool)
  /-- An answer to a security protocol request: link, function, code, bytes. -/
  | doe (link fn code : Nat) (value : List Byte)
  /-- An answer to a configuration request: link, function, retry status, value. -/
  | cfg (link fn : Nat) (retry : Bool) (value : Nat)
  /-- Data of a host read of the window; poisoned or refused. -/
  | hostData (link : Nat) (bad : Bool) (value : List Byte)
  deriving DecidableEq, Repr

/-- The pins and reset logic (R444 to R448). -/
structure Pins where
  powered : Bool
  resetN : Bool
  ready : Bool
  resetType : Nat
  deriving DecidableEq, Repr

/-- A host access that waits while its host die is reloaded or memory does not serve it: a doorbell, or one to the
window (R422, R483). -/
inductive HostAccess where
  | doorbell (link fn ctx queue value : Nat) (secure : Bool)
  | window (link addr : Nat) (write : Option (List Byte)) (len : Nat) (trusted : Bool)
  deriving DecidableEq, Repr

/-- The whole device. -/
structure State where
  now : Nat
  pace : Pace
  cal : Calendar
  windows : List Bool
  windowMark : List (Option Angle)
  queues : Tab Queue
  cmds : List Cmd
  abortWaits : List AbortWait
  notices : List NoticeWait
  ctxs : Tab Ctx
  sync : Tab SyncObj
  samples : List Sample
  stands : Tab Stand
  acc : Mem
  core : Mem
  feeder : Mem
  versions : List Version
  tables : Tab TableNum
  batches : List Batch
  asks : List Ask
  remoteHolds : List RemoteHold
  regions : List Region
  undo : List Undo
  tapDone : List TapDone
  fetches : List FetchServe
  scheds : Tab Sched
  mem : Mem
  host : Mem
  pool : Pool
  ports : Tab Port
  inbox : List Frame
  waiting : List (Frame × Nat)
  backlog : List Frame
  routes : Tab Nat
  hostWait : List HostAccess
  membership : Membership
  colls : List Coll
  seqs : Tab SeqSlot
  links : Tab HostLink
  funcs : Tab Func
  tdis : Tab Tdi
  trust : Trust
  power : Power
  obj : Tab (Option Nat)
  dom : Tab (List Byte)
  buses : Tab Bus
  server : Server
  recorder : Recorder
  mgmt : Mgmt
  pins : Pins
  out : List Output
  free : Nat
  draws : Nat
  nextTag : Nat
  releases : Nat
  turns : Tab Nat
  pending : List Instr
  deriving DecidableEq, Repr

/-! ### Values after reset -/

/-- A queue not in use, its record fields 0 (log entry 5). -/
def Queue.off : Queue := ⟨false, 0, 0, 0, 0, 0, 0, 0, 0, 0, 0, 0, 0, 1⟩

/-- A context not resident and not waiting. -/
def Ctx.off : Ctx := ⟨none, 0, none, false, false, 0, false, [], none⟩

/-- A synchronization object after the clearing (R331). -/
def SyncObj.clear : SyncObj := ⟨0, false⟩

/-- A stand after the clearing (R451): no tile, half 0 active, shadow set released. -/
def Stand.fresh : Stand := ⟨none, none, 0, true, false, none⟩

/-- A table that has had no version. -/
def TableNum.fresh : TableNum := ⟨0, false, false⟩

/-- A schedule slot without a record. -/
def Sched.empty : Sched := ⟨[], none, []⟩

/-- Key slots that hold no key. -/
def KeySlots.zeroed : KeySlots := ⟨0, none, none⟩

/-- Nothing latched yet. -/
def Latch.empty : Latch := ⟨0, none, none, 0, false, none⟩

/-- No sweep. -/
def Sweep.idle : Sweep := ⟨false, 0, 0, none⟩

/-- A port that is down and has never trained. -/
def Port.down : Port :=
  ⟨false, none, 0, 0, none, 0, 0, 0, false, [], [], [0, 0, 0, 0], [0, 0, 0, 0], [0, 0, 0], [],
    [0, 0, 0, 0], [], [], none, none, [], 0, 0, 3⟩

/-- A free sequence slot (R302). -/
def SeqSlot.unused : SeqSlot := ⟨false, 0, 0, 0, 0, 0⟩

/-- A host link that is down. -/
def HostLink.down : HostLink := ⟨0, 0, 0, false, false, false, [], [], [], false, []⟩

/-- A function after its reset. -/
def Func.fresh : Func := ⟨[], 0, [], [], 0, [], 0, none, [], 0, []⟩

/-- No TDISP interface. -/
def Tdi.absent : Tdi := ⟨.none, 0, 0, 0, false, false, false⟩

/-- A telemetry group before its first frame. -/
def TelemGroup.fresh : TelemGroup := ⟨0, 0, false, 0⟩

/-- A rail without samples. -/
def Rail.fresh : Rail := ⟨[], 0, false, 0, false, 0, 0⟩

/-- A Kyoty die at the wide-margin point (R394). -/
def DieOp.fresh : DieOp := ⟨8, 750, 0, 0, 0, 0, 0, 0⟩

/-- A die without a reading. -/
def Heat.fresh : Heat := ⟨0, 0, 0, 0, 0, 0, 0⟩

/-- No barrier waits. -/
def Barrier.idle : Barrier := ⟨0, 0, 0, 0, 0, [], 0⟩

/-- A CAN FD bus before boot-up. -/
def Bus.fresh : Bus := ⟨.initialisation, 0, 0, none, none⟩

/-- An empty firmware store of a die type. -/
def FwStore.empty : FwStore := ⟨[], [], none, 0⟩

/-- A die running version 0 (log entry 11). -/
def DieFw.fresh : DieFw := ⟨0, 0, 0⟩

/-- The pace unit after reset (R447). -/
def Pace.reset : Pace :=
  { mode := .unlocked, stride := 0, t64 := 0, that := 0, periods := [], lastEdge := 0, held := false,
    source := 0, port := 0xFF, hop := 0, origin := 0, glitches := 0, glitchRun := 0, holdStrides := 0,
    lastStride := 0, cand := [], valid := [], pendCount := none, slew64 := 0, genCount := 0,
    lastWord := none,
    signal := true, profileFollows := false }

/-- The calendar after a power-on reset (R446). -/
def Calendar.reset : Calendar := ⟨0, true, none, 0, false⟩

/-- The pool after reset. -/
def Pool.reset : Pool :=
  { poison := [], tags := [], hashKeys := List.replicate 11 0, keys := [], sweeps := [],
    migrations := [], reloc := [], buckets := [], rates := [], scrub := 0, scan := (0, 0) }

/-- A device that is no member (R280). -/
def Membership.reset : Membership :=
  { epoch := 0, self := 0xFFFF, members := [], digest := 0, prevEpoch := 0, prevSelf := 0xFFFF, pending := none,
    outcome := 0, unreachable := [], split := [], beacons := [] }

/-- Trust state after reset (R447). -/
def Trust.reset : Trust :=
  { tsp := [], cert1 := [], cert2 := [], alias_ := [], measured := [], ownCounters := [],
    bias := [], confLeft := none }

/-- The power manager after reset: wide-margin mode, one profile entry, no offset (R394, R398). -/
def Power.reset : Power :=
  { wideReq := true, wide := true, cause := 0, wideAt := none, profile := [[0, 0, 0, 2900]],
    profEffective := 0, profPending := none, entry := 0, capOffset := 0, capWritten := none, groups := [],
    rails := [], dies := [], heat := [], energy := 0, marks := [], thermtrip := false,
    clocksStopped := false, barrier := Barrier.idle, ended := none, lowSince := none, lastAvs := 0 }

/-- The dictionary server of a unit as shipped: PROVISIONED, serial number 1, straps 1 (log entries
8, 10, 12). -/
def Server.reset : Server :=
  { sessions := [], auths := [], refusals := [], nonce := 0, selectors := [], fw := [], dies := [],
    reload := none, heldSignals := [], heldCan := [], turn := 0, mramFault := none, restore := false, life := 1, transition := none, serial := 1, straps := 1 }

/-- The recorder of a part that has recorded nothing. -/
def Recorder.reset : Recorder :=
  { ring := [], heartwood := [], clearings := [], next := 0, written := 0, folded := 0, emcy := none,
    dead := [], transients := [], tests := [], calibs := [], lastCal := [], calFrom := 0,
    worn := [] }

/-- A0 active, A1 standby (R21). -/
def Mgmt.reset : Mgmt := ⟨0, true, 0, false, 0, false⟩

/-- Powered, RESET_N low, READY low (R444, R448). -/
def Pins.reset : Pins := ⟨true, false, false, 1⟩

/-- The machine in a power-on reset: powered with RESET_N low, every store, register, record and
setting at its value after the clearing or its default (R447), the queue of waiting commands empty.
RESET_N_RISE runs the start-up sequence from here to READY. -/
def State.reset : State :=
  { now := 0, pace := Pace.reset, cal := Calendar.reset, windows := List.replicate 8 false,
    windowMark := List.replicate 8 none,
    queues := [], cmds := [], abortWaits := [], notices := [],
    ctxs := [(0, { Ctx.off with slot := some 0 })], sync := [], samples := [],
    stands := [], acc := [], core := [], feeder := [], versions := [], tables := [], batches := [], asks := [],
    remoteHolds := [], regions := [], undo := [], tapDone := [], fetches := [], scheds := [], mem := [], host := [],
    pool := Pool.reset, ports := [], inbox := [], waiting := [], backlog := [], routes := [], hostWait := [],
    membership := Membership.reset, colls := [], seqs := [], links := [], funcs := [], tdis := [],
    trust := Trust.reset, power := Power.reset, obj := [], dom := [], buses := [],
    server := Server.reset, recorder := Recorder.reset, mgmt := Mgmt.reset, pins := Pins.reset,
    out := [], free := 0, draws := 0, nextTag := 0, releases := 0,
    turns := [],
    pending := [] }

end Sys2Proof.Machine
end

