-- ==== Sys2Proof/Machine/Ops.lean ====
section
/-! DEFINITION. The operations every meaning shares: the angle, the objects, free values, units and
the deadwood list, the memories, the recorder, signals and the finish of a command. -/

namespace Sys2Proof

/-! ### Units -/

/-- No unit. -/
def UnitId.none_ : UnitId := ⟨0, 0, 0, 0, 0⟩
/-- A column group of a stand (R429). -/
def UnitId.group (k g : Nat) : UnitId := ⟨0x01, k / 12, k % 12, g, 0⟩
/-- A stand (R429). -/
def UnitId.stand (k : Nat) : UnitId := ⟨0x02, k / 12, k % 12, 0, 0⟩
/-- A vector engine (R429). -/
def UnitId.vector (k : Nat) : UnitId := ⟨0x03, k / 12, k % 12, 0, 0⟩
/-- An embedding engine (R429). -/
def UnitId.embedding (e : Nat) : UnitId := ⟨0x04, e / 2, e % 2, 0, 0⟩
/-- A taproot engine (R429). -/
def UnitId.taproot (n : Nat) : UnitId := ⟨0x05, 20 + n, 0, 0, 0⟩
/-- A pseudo-channel (R429). -/
def UnitId.pc (p : Nat) : UnitId := ⟨0x06, 20 + p / 64, p % 64, 0, 0⟩
/-- A memory row (R429). -/
def UnitId.memRow (p r : Nat) : UnitId := ⟨0x07, 20 + p / 64, p % 64, 0, r⟩
/-- A Carust lane (R429). -/
def UnitId.lane (p l : Nat) : UnitId := ⟨0x08, 8 + p / 3, p, l, 0⟩
/-- A Carust port (R429). -/
def UnitId.port (p : Nat) : UnitId := ⟨0x09, 8 + p / 3, p, 0, 0⟩
/-- The collective adders of a link die (R429). -/
def UnitId.adders (l : Nat) : UnitId := ⟨0x0A, 8 + l, 0, 0, 0⟩
/-- A copy engine (R429). -/
def UnitId.copyEngine (h : Nat) : UnitId := ⟨0x0B, 16 + h, 0, 0, 0⟩
/-- A mover (R429). -/
def UnitId.mover (k : Nat) : UnitId := ⟨0x0C, k / 12, k % 12, 0, 0⟩
/-- A logic or base die (R429). -/
def UnitId.die (loc : Nat) : UnitId := ⟨0x0F, loc, 0, 0, 0⟩
/-- A management die (R429). -/
def UnitId.mgmt (a : Nat) : UnitId := ⟨0x10, 18 + a, 0, 0, 0⟩

/-- The location code of the logic die a stack is attached to (R17). -/
def stackDie (n : Nat) : Nat := if n < 16 then n / 2 else 16 + (n - 16) / 2

/-- Retiring unit a retires unit b: it is b, or b is part of it (R430, R431). -/
def UnitId.covers (a b : UnitId) : Bool :=
  decide (a = b) ||
  match a.kind with
  | 0x02 => decide (b.kind = 0x01 ∧ b.loc = a.loc ∧ b.i1 = a.i1)
  | 0x06 => decide (b.kind = 0x07 ∧ b.loc = a.loc ∧ b.i1 = a.i1)
  | 0x09 => decide (b.kind = 0x08 ∧ b.loc = a.loc ∧ b.i1 = a.i1)
  | 0x0F => decide (b.loc = a.loc) || (decide (20 ≤ b.loc) && decide (stackDie (b.loc - 20) = a.loc))
  | 0x10 => decide (b.loc = a.loc)
  | _ => false

/-- The pseudo-channels a deadwood entry retires. -/
def UnitId.pcCount (u : UnitId) : Nat :=
  match u.kind with
  | 0x06 => 1
  | 0x0F => if 20 ≤ u.loc then 64 else if u.loc < 8 ∨ u.loc = 16 ∨ u.loc = 17 then 128 else 0
  | _ => 0

end Sys2Proof

namespace Sys2Proof.Machine

/-! ### The angle -/

/-- The 48-bit angle of a stride and a phase. -/
def mkAngle (stride phase : Nat) : Angle := BitVec.ofNat 48 (stride % 2 ^ 32 * 65536 + phase % 65536)

/-- The phase the pace unit holds (R39); 0 before a period is known and while UNLOCKED (R32). -/
def Pace.phase (p : Pace) : Nat :=
  if p.mode = .unlocked ∨ p.that = 0 then 0 else min 0xFFFF (65536 * (p.t64 / 64) / p.that)

/-- The current angle (R28, R32, R39). -/
def State.angle (s : State) : Angle :=
  if s.pace.mode = .unlocked then 0 else mkAngle s.pace.stride s.pace.phase

/-- Angle a is at or after angle b (R30). -/
def atOrAfter (a b : Angle) : Bool := decide ((a - b).toNat < 2 ^ 47)

/-- The pace states in which gated work and angle-keyed events proceed (R45, R47). -/
def PaceMode.running : PaceMode → Bool
  | .locked | .holdover => true
  | _ => false

/-- The pace states in which a gated command completes with PACE_LOST (R47, R48). -/
def PaceMode.lost : PaceMode → Bool
  | .expired | .countPending => true
  | _ => false

/-- The code of a pace state (R51). -/
def PaceMode.code : PaceMode → Nat
  | .unlocked => 0 | .locked => 1 | .holdover => 2 | .expired => 3 | .countPending => 4

/-- Angle a lies within 2^24 strides of angle b, before or after (R31). -/
def nearAngle (a b : Angle) : Bool :=
  decide ((a - b).toNat ≤ 2 ^ 40) || decide ((b - a).toNat ≤ 2 ^ 40)

/-! ### Free values and draws -/

/-- Free value k after those already used. -/
def State.freeVal (s : State) (k : Nat) : Nat := Config.free (s.free + k)

/-- n free bytes. -/
def State.freeBytes (s : State) (n : Nat) : List Byte :=
  (List.range n).map fun k => BitVec.ofNat 8 (s.freeVal k)

/-- The state after n free values are used. -/
def State.usedFree (s : State) (n : Nat) : State := { s with free := s.free + n }

/-! ### Stored objects -/

/-- The place of an object in the store. -/
def objKey (index sub : Nat) : Nat := index * 256 + sub

/-- The stored value of an object, its default where none was written (R409). -/
def State.objv (s : State) (index sub : Nat) : Nat :=
  (Tab.get none s.obj (objKey index sub)).getD (objDefault index sub)

/-- The state with an object's value stored. -/
def State.setObj (s : State) (index sub v : Nat) : State :=
  let x := if v = objDefault index sub then none else some v
  { s with obj := Tab.put none s.obj (objKey index sub) x }

/-- The state with a counter object advanced. -/
def State.bump (s : State) (index sub n : Nat) : State :=
  if n = 0 then s else s.setObj index sub (s.objv index sub + n)

/-- A context's TDISP interface. -/
def State.tdi (s : State) (c : Nat) : Tdi := Tab.get Tdi.absent s.tdis c

/-- A context is confidential while its TDISP interface is in RUN, and after it until the context has
left its slot (R368, R369). -/
def State.confidential (s : State) (c : Nat) : Bool := decide ((s.tdi c).state = .run) || (s.tdi c).wasRun

/-- The place of a counter in a confidential context's own set (R373). -/
def ownKey (c index sub : Nat) : Nat := c * 2 ^ 24 + objKey index sub

/-- A counter advanced for a context's command: the context's own set where it is confidential
(R373), the device-wide value otherwise. -/
def State.tally (s : State) (c index sub n : Nat) : State :=
  if s.confidential c then
    { s with trust := { s.trust with
        ownCounters := Tab.modify 0 s.trust.ownCounters (ownKey c index sub) (· + n) } }
  else s.bump index sub n

/-- A high-water mark raised for a context's command: in the context's own set where it is confidential
(R373), the device-wide value otherwise. -/
def State.raiseTo (s : State) (c index sub v : Nat) : State :=
  if s.confidential c then
    { s with trust := { s.trust with
        ownCounters := Tab.modify 0 s.trust.ownCounters (ownKey c index sub) (max · v) } }
  else s.setObj index sub (max (s.objv index sub) v)

/-! ### Units and the deadwood list -/

/-- A unit is retired: the deadwood list holds it or a unit that contains it (R428). -/
def State.retired (s : State) (u : UnitId) : Bool := s.recorder.dead.any fun d => d.unit.covers u

/-- The number r of retired pseudo-channels (R247). -/
def State.retiredPcs (s : State) : Nat := (s.recorder.dead.map (·.unit.pcCount)).sum

/-- Retired column groups of a stand. -/
def State.retiredGroups (s : State) (k : Nat) : Nat :=
  (s.recorder.dead.filter fun d =>
    decide (d.unit.kind = 0x01 ∧ d.unit.loc = k / 12 ∧ d.unit.i1 = k % 12)).length

/-- The presented width of a stand, 0 once it is retired (R77). -/
def State.width (s : State) (k : Nat) : Nat :=
  if s.retired (.stand k) then 0 else 128 - 8 * s.retiredGroups k

/-- A unit is under test, or kept by a command that waits for its test: it takes no new work (R424, R427, R433). -/
def State.underTest (s : State) (u : UnitId) : Bool :=
  let hits := fun (v : UnitId) => v.covers u || u.covers v
  (s.recorder.tests.any fun t => t.running && hits t.unit) || s.cmds.any fun (c : Cmd) => c.testing.any hits

/-- A unit is out for a calibration (R435). -/
def State.underCal (s : State) (u : UnitId) : Bool :=
  s.recorder.calibs.any fun c => c.running && decide (c.unit = u)

/-- A die is paused: its firmware is being reloaded, or it runs its die test (R422, R426). -/
def State.reloadingDie (s : State) (loc : Nat) : Bool :=
  decide (s.server.reload = some loc) ||
    s.recorder.tests.any fun t => t.running && decide (t.unit.kind = 0x0F ∧ t.unit.loc = loc ∧ loc < 18)

/-- A unit pauses while its die's firmware is reloaded (R422). -/
def State.reloading (s : State) (u : UnitId) : Bool :=
  s.reloadingDie u.loc && decide (u.kind ∈ [0x01, 0x02, 0x03, 0x04, 0x05, 0x0A, 0x0B])

/-! ### The hash interleave -/

/-- The parity of a number of at most n bits. -/
def parityOf : Nat → Nat → Nat
  | 0, _ => 0
  | n + 1, x => (x % 2 + parityOf n (x / 2)) % 2

/-- The home of a grain: its pseudo-channel, 64 a stack, and its slot (R233). -/
def State.homeOf (s : State) (a : Nat) : Nat × Nat :=
  let g := bits a 39 8
  let sl := g / 1280
  let t := g % 1280
  let h := ((List.range 11).map fun b =>
    parityOf 22 (sl &&& s.pool.hashKeys.getD b 0) * 2 ^ b).sum
  let lam := 256 * ((t / 256 + h / 256) % 5) + ((t % 256) ^^^ (h % 256))
  (lam % 20 * 64 + lam / 20, sl)

/-- The pseudo-channel that holds a grain: its home, or where migration has moved it (R233, R236). -/
def State.pcOf (s : State) (a : Nat) : Nat :=
  (Tab.get none s.pool.reloc (a / 256)).getD (s.homeOf a).1

/-- The stack that holds a grain. -/
def State.stackOf (s : State) (a : Nat) : Nat := s.pcOf a / 64

/-- A window of a class is configured and enabled. -/
def State.windowFor (s : State) (cls : Nat) : List Nat :=
  (List.range 8).filter fun w =>
    decide (s.objv (0x5110 + w) 4 = 1) && (s.objv (0x5110 + w) 5).testBit cls

/-- Quiet work of a class may take its unit out now: in an open window of the class, or without one where
none is configured, the angle is not known to be the job's, or the deferral limit has passed (R43,
R435). -/
def State.quietNow (s : State) (cls due : Nat) : Bool :=
  let l := s.windowFor cls
  decide (l = []) || !s.pace.mode.running || l.any (fun w => s.windows.getD w false) ||
    (decide (s.objv 0x9010 10 ≠ 0) && decide (due + s.objv 0x9010 10 * 1000000000 ≤ s.now))

/-- A running test takes a pseudo-channel out of rotation: its own, that of a row of it, or that of its channel's
interface (R243, R433). -/
def testShuts (t : Test) (p : Nat) : Bool :=
  t.running && decide (t.unit.loc = 20 + p / 64) &&
    (decide ((t.unit.kind = 0x06 ∨ t.unit.kind = 0x07) ∧ t.unit.i1 = p % 64) ||
      decide (t.unit.kind = 0x06 ∧ t.event = 0x3003 ∧ t.unit.i1 / 2 = p % 64 / 2))

/-- A pseudo-channel serves no access now: it cannot be read and its grains are still to be moved, a test takes it out,
its channel is recalibrated, or a timing scan of it runs (R243, R249, R255, R256, R433, R483, log entry 122). -/
def State.pcShut (s : State) (p : Nat) : Bool :=
  (s.pool.migrations.any fun m => decide (m.pc = p ∧ m.from_ ≠ .readable)) ||
  (s.recorder.tests.any fun t => testShuts t p) ||
  (s.recorder.calibs.any fun c => c.running && decide (c.cls = 3 ∧ c.unit = UnitId.pc (p / 2 * 2))) ||
  (decide (s.objv 0x4300 6 = 1 ∧ s.pool.scan.2 < 2 ∧ s.pool.scan.1 = p) && s.quietNow 3 s.now)

/-- Some pseudo-channel may serve no access now. -/
def State.anyShut (s : State) : Bool :=
  (s.pool.migrations.any fun m => decide (m.from_ ≠ .readable)) ||
  (s.recorder.tests.any fun t => t.running && decide (t.unit.kind = 0x06 ∨ t.unit.kind = 0x07)) ||
  (s.recorder.calibs.any fun c => c.running && decide (c.cls = 3)) || decide (s.objv 0x4300 6 = 1)

/-! ### Addresses and partitions -/

/-- One GiB. -/
def gib : Nat := 2 ^ 30

/-- The first address of the host peer window (R355). -/
def hostBase : Nat := 2 ^ 47

/-- The top of the presented range (R231). -/
def State.top (s : State) : Nat := 0xEC00000000 - 0x30000000 * (s.retiredPcs - 21)

/-- A region lies in presented stack memory (R229). -/
def State.inStack (s : State) (a n : Nat) : Bool := decide (a + n ≤ s.top)

/-- A region lies in the host peer window. -/
def inHost (a n : Nat) : Bool := decide (hostBase ≤ a) && decide (a + n ≤ 2 * hostBase)

/-- Partition p is enabled (R239). -/
def State.partOn (s : State) (p : Nat) : Bool := decide (s.objv (0x4100 + p) 7 = 1)

/-- GiB g lies in partition p. -/
def State.partHas (s : State) (p g : Nat) : Bool :=
  s.partOn p && decide (s.objv (0x4100 + p) 1 ≤ g) &&
    decide (g < s.objv (0x4100 + p) 1 + s.objv (0x4100 + p) 2)

/-- The enabled partition a GiB lies in. -/
def State.partOf (s : State) (g : Nat) : Option Nat := (List.range 16).find? fun p => s.partHas p g

/-- GiB g is memory of context c (R239). -/
def State.ctxGib (s : State) (c g : Nat) : Bool :=
  (List.range 16).any fun p => s.partHas p g && (s.objv (0x4100 + p) 3).testBit c

/-- A region lies in the memory of context c (R239). -/
def State.ctxMem (s : State) (c a n : Nat) : Bool :=
  if n = 0 then true
  else (List.range ((a + n - 1) / gib + 1 - a / gib)).all fun k => s.ctxGib c (a / gib + k)

/-- The context whose key encrypts an address, none for plaintext (R252). -/
def State.encCtx (s : State) (a : Nat) : Option Nat :=
  match s.partOf (a / gib) with
  | none => none
  | some p => if s.objv (0x4100 + p) 4 = 0xFF then none else some (s.objv (0x4100 + p) 4)

/-- The key slots of a context. -/
def State.keySlots (s : State) (c : Nat) : KeySlots := Tab.get KeySlots.zeroed s.pool.keys c

/-- The key number a slot holds. -/
def KeySlots.key (k : KeySlots) (slot : Nat) : Option Nat := if slot = 0 then k.key0 else k.key1

/-- The tag a write of an address leaves on its sector: none in plaintext (R252). -/
def State.writeTag (s : State) (a : Nat) : Option KeyTag :=
  match s.encCtx a with
  | none => none
  | some c =>
    let k := s.keySlots c
    some ⟨c, k.current, (k.key k.current).getD 0⟩

/-- The tag of a sector. -/
def State.tag (s : State) (sector : Nat) : Option KeyTag := Tab.get none s.pool.tags sector

/-- A sector reads as it was written: plain in a plaintext partition, or under a key that its slot
still holds (R252). -/
def State.readable (s : State) (a : Nat) : Bool :=
  match s.encCtx a, s.tag (a / 32) with
  | none, none => true
  | some c, some t => decide (t.ctx = c) && decide ((s.keySlots c).key t.slot = some t.key)
  | _, _ => false

/-- The key a sector is read with: that of the slot its KEYGEN names, slot 0 where it was written in
plaintext (R242, R252). -/
def State.readTag (s : State) (a : Nat) : Option KeyTag :=
  match s.encCtx a with
  | none => none
  | some c =>
    let slot := ((s.tag (a / 32)).map (·.slot)).getD 0
    some ⟨c, slot, ((s.keySlots c).key slot).getD 0⟩

/-- What identifies a tag or a reader to the undecrypted bytes. -/
def tagIds : Option KeyTag → List Nat
  | none => []
  | some t => [t.ctx, t.slot, t.key]

/-- The byte at a stack address as a command reads it (R252, R452). -/
def State.stackByte (s : State) (a : Nat) : Byte :=
  if s.readable a then s.mem.byte a
  else Config.undecrypted (tagIds (s.readTag a)) (tagIds (s.tag (a / 32))) a (s.mem.byte a)

/-- The byte at a 48-bit device address: stack memory or the host peer window. -/
def State.devByte (s : State) (a : Nat) : Byte :=
  if hostBase ≤ a then s.host.byte a else s.stackByte a

/-- n bytes from a device address. -/
def State.devRead (s : State) (a n : Nat) : List Byte :=
  (List.range n).map fun k => s.devByte (a + k)

/-- The little-endian number at a device address. -/
def State.devNum (s : State) (a n : Nat) : Nat := ofBytes (s.devRead a n)

/-- A sector is poisoned, or its grain lies in a pseudo-channel that cannot be read (R244, R249). -/
def State.poisoned (s : State) (sector : Nat) : Bool :=
  Tab.get false s.pool.poison sector ||
    s.pool.migrations.any fun m => decide (m.from_ = .unreadable ∧ m.pc = s.pcOf (32 * sector))

/-- The side-band of a sector: check symbols over its data and bits 7:0, the poison mark and the key slot; no
command reads it (R242, log entry 97). -/
def State.sideBand (s : State) (sector : Nat) : Nat :=
  let low := b2n (s.poisoned sector) * 2 + ((s.tag sector).map (·.slot)).getD 0 % 2
  let data := (List.range 32).map fun k => (s.mem.byte (32 * sector + k)).toNat
  Config.checkSymbols (data ++ [low]) % 2 ^ 24 * 2 ^ 8 + low

/-- A read of a region meets poison (R244). -/
def State.devReadBad (s : State) (a n : Nat) : Bool :=
  decide (a < hostBase) && (sectorsOf a n).any s.poisoned

/-- A sector lies wholly inside a region. -/
def wholeSector (a n sector : Nat) : Bool := decide (a ≤ 32 * sector) && decide (32 * sector + 32 ≤ a + n)

/-- A write of a region meets poison in a sector it does not cover (R244). -/
def State.devWriteBad (s : State) (a n : Nat) : Bool :=
  decide (a < hostBase) && (sectorsOf a n).any fun k => s.poisoned k && !wholeSector a n k

/-- Bytes written to stack memory, those of a poisoned sector that the region does not cover
discarded (R244). -/
def writeKept (drop : Nat → Bool) (m : Mem) (a : Nat) : List Byte → Mem
  | [] => m
  | b :: t => writeKept drop (if drop (a / 32) then m else Tab.put (0 : Byte) m a b) (a + 1) t

/-- The sectors of a region whose old bytes the write must first bring under the new key: only
partly covered, written under another tag, not poisoned (R237, R252). -/
def State.mergeSectors (s : State) (a n : Nat) : List Nat :=
  (sectorsOf a n).filter fun k =>
    !wholeSector a n k && !s.poisoned k && decide (s.tag k ≠ s.writeTag (32 * k))

/-- A write of stack memory: partly covered sectors merge with their old bytes, whole sectors lose
their poison, every sector written takes the tag of its partition (R237, R244, R252). -/
def State.stackWrite (s : State) (a : Nat) (l : List Byte) : State :=
  let n := l.length
  let drop := fun k => s.poisoned k && !wholeSector a n k
  let m := (s.mergeSectors a n).foldl
    (fun m k => Mem.write m (32 * k) ((List.range 32).map fun i => s.stackByte (32 * k + i))) s.mem
  let live := (sectorsOf a n).filter fun k => !drop k
  { s with
    mem := writeKept drop m a l,
    pool := { s.pool with
      poison := live.foldl (fun p k => Tab.put false p k false) s.pool.poison,
      tags := live.foldl (fun p k => Tab.put none p k (s.writeTag (32 * k))) s.pool.tags } }

/-- A write at a device address. -/
def State.devWrite (s : State) (a : Nat) (l : List Byte) : State :=
  if hostBase ≤ a then { s with host := s.host.write a l } else s.stackWrite a l

/-! ### Host links -/

/-- The host die whose port an address of the host peer window names (R355). -/
def hostDie (a : Nat) : Nat := (a - hostBase) / 2 ^ 46

/-- A host link. -/
def State.link (s : State) (l : Nat) : HostLink := Tab.get HostLink.down s.links l

/-- Object 0x2300 selects two ×8 links for a host die's port (R349). -/
def State.splitChosen (s : State) (h : Nat) : Bool := decide (s.objv 0x2300 (h + 1) = 1)

/-- A host die's port is split into two ×8 links: as its links trained, or with none up as it will train
(R349). -/
def State.isSplit (s : State) (h : Nat) : Bool :=
  if (s.link (2 * h)).up then (s.link (2 * h)).split
  else (s.link (2 * h + 1)).up || s.splitChosen h

/-- The host link an address of the host peer window maps onto (R355). -/
def State.linkOf (s : State) (a : Nat) : Nat :=
  2 * hostDie a + (if s.isSplit (hostDie a) then a / 2 ^ 45 % 2 else 0)

/-- The host address of an address of the host peer window: offset bits 45:0, or 44:0 on a half-link (R355). -/
def State.hostAddr (s : State) (a : Nat) : Nat := if s.isSplit (hostDie a) then a % 2 ^ 45 else a % 2 ^ 46

/-- With IDE required, host requests pass only on a link whose link stream and, on links 0 and 2,
CXL.cache/CXL.mem stream are secure (R365, R366). -/
def State.linkSecure (s : State) (l : Nat) : Bool :=
  decide (s.objv 0x6300 1 = 0) ||
    ((s.link l).secure && (decide (l % 2 = 1) || (s.link l).cacheSecure))

/-- The first byte and the size of a window slice (R363). -/
def State.slice (s : State) (k : Nat) : Nat × Nat :=
  (s.objv 0x2302 (2 * k + 1) * gib, s.objv 0x2302 (2 * k + 2) * gib)

/-- The window slice a region lies wholly in. -/
def State.sliceOf (s : State) (a n : Nat) : Option Nat :=
  [0, 1].find? fun k => decide ((s.slice k).1 ≤ a ∧ a + n ≤ (s.slice k).1 + (s.slice k).2)

/-- The link and the function a context is bound to (R354). -/
def State.boundTo (s : State) (c : Nat) : Nat × Nat := (s.objv (0x6200 + c) 1, s.objv (0x6200 + c) 2)

/-- A host request for a context at an address of the host peer window, with the requester ID of its function, its
bytes counted on the link; a confidential context's carry the T bit unless the memory is shared (R355, R361, R368,
R374). -/
def State.hostAsk (s : State) (c a n : Nat) (write shared : Bool) : State :=
  if a < hostBase ∨ n = 0 then s
  else
    let l := s.linkOf a
    let t := s.tally c 0x7600 ((if write then 1 else 5) + l) n
    { t with out := t.out ++ [Output.hostRequest l (s.boundTo c).2 (s.hostAddr a) n write (s.confidential c && !shared)] }

/-! ### Core stores and places -/

/-- Bytes of core-local address space: operand cache and tile registers (R58). -/
def coreBytes : Nat := 0x480000

/-- Where core k's stores begin in the store of core bytes. -/
def coreBase (k : Nat) : Nat := k * 2 ^ 24

/-- Where half h of core k's accumulator store begins. -/
def accBase (k h : Nat) : Nat := (k * 2 + h) * 2 ^ 20

/-- A store an operand lies in: device memory (stack or host window), the stores of a core, or a half
of a core's accumulator store. -/
inductive Place where
  | dev
  | core (k : Nat)
  | acc (k h : Nat)
  deriving DecidableEq, Repr

/-- n bytes at a place. -/
def State.get (s : State) (p : Place) (a n : Nat) : List Byte :=
  match p with
  | .dev => s.devRead a n
  | .core k => s.core.read (coreBase k + a) n
  | .acc k h => s.acc.read (accBase k h + a) n

/-- The little-endian number at a place. -/
def State.num (s : State) (p : Place) (a n : Nat) : Nat := ofBytes (s.get p a n)

/-- Bytes written at a place. -/
def State.set (s : State) (p : Place) (a : Nat) (l : List Byte) : State :=
  match p with
  | .dev => s.devWrite a l
  | .core k => { s with core := s.core.write (coreBase k + a) l }
  | .acc k h => { s with acc := s.acc.write (accBase k h + a) l }

/-- A read at a place meets poison. -/
def State.readBad (s : State) (p : Place) (a n : Nat) : Bool :=
  match p with
  | .dev => s.devReadBad a n
  | _ => false

/-- A write at a place meets poison it does not clear. -/
def State.writeBad (s : State) (p : Place) (a n : Nat) : Bool :=
  match p with
  | .dev => s.devWriteBad a n
  | _ => false

/-- A region at a place written with free values: its contents are undefined. -/
def State.scramble (s : State) (p : Place) (a n : Nat) : State :=
  (s.set p a (s.freeBytes n)).usedFree n

/-! ### The recorder -/

/-- What an event record is made from. -/
structure EventIn where
  event : Nat
  unit : UnitId
  source : Nat
  outcome : Nat
  st : Nat
  ctx : Nat
  detail : Nat
  deriving DecidableEq, Repr

/-- The location code of the active management die. -/
def State.mgmtLoc (s : State) : Nat := 18 + s.mgmt.active

/-- A management event without a unit or a command. -/
def State.info (s : State) (event outcome detail : Nat) : EventIn :=
  ⟨event, .none_, s.mgmtLoc, outcome, 0xFF, 0xFF, detail⟩

/-- An event that an occurrence folds into (R439). -/
def foldsInto (e : EventIn) (r : Event) : Bool :=
  decide (r.event = e.event ∧ r.unit = e.unit ∧ r.source = e.source)

/-- The fold rule holds for a record (R439). -/
def State.foldOk (s : State) (e : EventIn) (r : Event) : Bool :=
  decide (e.outcome ≤ 1) && decide (r.outcome = e.outcome) && !r.heartwood &&
    decide (s.now ≤ r.at_ + s.objv 0x8000 6 * 1000000)

/-- The last position of a list at which a predicate holds. -/
def lastIdx {α : Type} (p : α → Bool) (l : List α) : Option Nat :=
  (l.foldl (fun (acc : Nat × Option Nat) x => (acc.1 + 1, if p x then some acc.1 else acc.2))
    (0, none)).2

/-- The error register of object 0x1001 (R486). -/
def State.errorRegister (s : State) : Nat :=
  b2n s.recorder.emcy.isSome + 0x80 * b2n s.power.wide

/-- EMCY on one bus, at most one per 10 ms (R400, R402). -/
def State.emcyOn (s : State) (b event seq : Nat) : State :=
  let bus := Tab.get Bus.fresh s.buses b
  if bus.nmt = .initialisation ∨ bus.nmt = .stopped ∨ s.now < bus.offUntil then s
  else if bus.lastEmcy.any fun t => decide (s.now < t + 10000000) then s
  else
    { s with
      buses := Tab.put Bus.fresh s.buses b { bus with lastEmcy := some s.now },
      out := s.out ++ [.emcy b (0x080 + bus.node) 0xFF00 s.errorRegister event seq] }

/-- A record is signalled by EMCY (R440). -/
def signalledEvent (event outcome : Nat) : Bool := decide (2 ≤ outcome) || decide (event / 4096 = 0)

/-- The record an event makes when it does not fold (R436, R438). -/
def State.newEvent (s : State) (e : EventIn) : Event :=
  { seq := s.recorder.next, event := e.event, unit := e.unit, source := e.source,
    outcome := e.outcome, st := e.st, ctx := e.ctx,
    detail := if e.ctx < 64 ∧ s.confidential e.ctx then 0 else e.detail,
    repeats := 0, angle := s.angle, lastAngle := 0, cal := s.cal.ns, calFree := s.cal.free,
    unverified := !s.pace.mode.running, heartwood := decide (s.recorder.written < 4096),
    at_ := s.now }

/-- An event written as a new record: in the ring, and in heartwood among the first 4,096 of the
part's life; a signalled record sets the error register and sends EMCY on both buses (R436, R437,
R440, R486). -/
def State.appendEvent (s : State) (e : EventIn) : State :=
  let r := s.recorder
  let x := s.newEvent e
  let t := { s with
    recorder := { r with
      ring := (r.ring ++ [x]).drop ((r.ring.length + 1) - 65536),
      heartwood := if x.heartwood then r.heartwood ++ [x] else r.heartwood,
      next := (r.next + 1) % 2 ^ 32,
      written := r.written + 1,
      emcy := if signalledEvent e.event e.outcome then some x.seq else r.emcy } }
  if signalledEvent e.event e.outcome then
    (t.emcyOn 0 e.event x.seq).emcyOn 1 e.event x.seq
  else t

/-- An event written to the recorder: folded into the newest record like it, or as a new record
(R436, R439). -/
def State.recordEvent (s : State) (e : EventIn) : State :=
  let r := s.recorder
  match (lastIdx (foldsInto e) r.ring).bind fun i => (r.ring[i]?).map fun x => (i, x) with
  | some (i, x) =>
    if s.foldOk e x then
      { s with recorder := { r with
          ring := setAt r.ring i
            { x with repeats := min 0xFFFFFFFF (x.repeats + 1), lastAngle := s.angle },
          folded := r.folded + 1 } }
    else s.appendEvent e
  | none => s.appendEvent e

/-! ### Synchronization objects -/

/-- A synchronization object. -/
def State.syncObj (s : State) (o : Nat) : SyncObj := Tab.get SyncObj.clear s.sync o

/-- A queue of DB_KIND 1 rung by the value of its object; one lower than the index held is ignored (R317). -/
def Queue.ring (x : Queue) (v : Nat) : Queue :=
  if x.dbKind = 1 ∧ reached32 v x.producer = true then { x with producer := v } else x

/-- A synchronization object replaced; it rings the queues whose doorbell it is (R317). -/
def State.setSync (s : State) (o : Nat) (x : SyncObj) : State :=
  { s with
    sync := Tab.put SyncObj.clear s.sync o x
    queues := s.queues.map fun q => if q.2.dbObj = o then (q.1, q.2.ring x.value) else q }

/-- An increment added to a local object modulo 2^32, and FAULT set where it is called for, as one step
(R332, R333, R335). -/
def State.addObj (s : State) (o inc : Nat) (fault : Bool) : State :=
  let x := s.syncObj o
  s.setSync o ⟨(x.value + inc) % 2 ^ 32, x.fault || fault⟩

/-- A signal applied to a local object, or held while the object's Kyoty die is reloaded (R333, R422). -/
def State.signalObj (s : State) (o inc : Nat) (fault : Bool) : State :=
  if s.reloadingDie (o / 8192) then
    { s with server := { s.server with heldSignals := s.server.heldSignals ++ [(o, inc, fault)] } }
  else s.addObj o inc fault

/-- The owner context of an object's block, 0xFF for none (R331, R348). -/
def State.owner (s : State) (o : Nat) : Nat :=
  let b := o / 256 % 256
  if b < 128 then s.objv 0x6100 (b + 1) else s.objv 0x6103 (b - 127)

/-- The Kyoty die of an object is retired (R431). -/
def State.syncDead (s : State) (o : Nat) : Bool := s.retired (.die (o / 8192))

/-! ### Reader counts -/

/-- The synchronization object that counts a version's readers (R151). -/
def Version.reader (v : Version) : Nat := bits v.raw 239 224

/-- An installed version of a table. -/
def State.findVersion (s : State) (c table num : Nat) : Option Version :=
  s.versions.find? fun v => decide (v.ctx = c ∧ v.table = table ∧ v.num = num)

/-- A version's reader count raised or lowered by n modulo 2^32 (R155). -/
def State.addReaders (s : State) (v : Version) (n : Nat) : State := s.addObj v.reader n false

/-- The remote holds of members that have left: each leaves its version's reader count (R155,
R177). -/
def State.dropHolds (s : State) (gone : Nat → Bool) : State :=
  let out := s.remoteHolds.filter fun h => gone h.member
  let t := out.foldl (fun (t : State) h =>
    match t.findVersion h.ctx h.table h.num with
    | some v => t.addReaders v (2 ^ 32 - h.count % 2 ^ 32)
    | none => t) s
  { t with remoteHolds := t.remoteHolds.filter fun h => !gone h.member }

/-! ### Contexts -/

/-- A context's place. -/
def State.ctx (s : State) (c : Nat) : Ctx := Tab.get Ctx.off s.ctxs c

/-- A context's place replaced. -/
def State.setCtx (s : State) (c : Nat) (x : Ctx) : State :=
  { s with ctxs := Tab.put Ctx.off s.ctxs c x }

/-- A context is defined (R339). -/
def State.isDefined (s : State) (c : Nat) : Bool := decide (c < 64 ∧ s.objv (0x6000 + c) 3 = 1)

/-- A context is resident (R339). -/
def State.resident (s : State) (c : Nat) : Bool := (s.ctx c).slot.isSome

/-- Core k is in a context's grant (R339, R348). -/
def State.hasCore (s : State) (c k : Nat) : Bool :=
  decide (k < 96) && (s.objv (0x6000 + c) 4).testBit k

/-- Embedding engine e is in a context's grant. -/
def State.hasEngine (s : State) (c e : Nat) : Bool :=
  decide (e < 16) && (s.objv (0x6000 + c) 5).testBit e

/-! ### Commands -/

/-- The command with an identity. -/
def State.findCmd (s : State) (id : CmdId) : Option Cmd := s.cmds.find? fun c => c.id = id

/-- The commands with one changed. -/
def State.updCmd (s : State) (id : CmdId) (f : Cmd → Cmd) : State :=
  { s with cmds := s.cmds.map fun c => if c.id = id then f c else c }

/-- The status a command that has done its work carries: DATA_SUSPECT where memory or the host gave
up data it used, RETRIED_OK after a retry, what its work earned otherwise (R14, R244). -/
def Cmd.earn (c : Cmd) (st : Status) : Status :=
  if st = .ok ∧ c.suspect then .dataSuspect
  else if st = .ok ∧ 0 < c.retries then .retriedOk
  else st

/-- A command's work ends with a status; its record is still to be written. -/
def State.finish (s : State) (id : CmdId) (st : Status) : State :=
  s.updCmd id fun c => { c with phase := .finished (c.earn st) }

/-- An access of bytes of stack memory waits: a pseudo-channel that holds a grain of them serves none now (R243,
R255, R483). -/
def State.grainWaits (s : State) (a n : Nat) : Bool :=
  s.anyShut && decide (a < hostBase ∧ 0 < n) && (List.range ((a + n - 1) / 256 + 1 - a / 256)).any fun k =>
    s.pcShut (s.pcOf (256 * (a / 256 + k)))

/-- A device access of bytes waits: a page of them in host bias must be resolved over a host link that may carry no
request now (R363, R366). -/
def State.biasWaits (s : State) (a n : Nat) : Bool :=
  let shut := [0, 1].filter fun k => decide ((s.slice k).2 ≠ 0) && (s.link (2 * k)).up && !s.linkSecure (2 * k)
  decide (shut ≠ [] ∧ a < hostBase ∧ 0 < n) && (List.range ((a + n - 1) / 4096 + 1 - a / 4096)).any fun i =>
    let p := a / 4096 + i
    !Tab.get false s.trust.bias p && shut.any fun k =>
      decide ((s.slice k).1 ≤ 4096 * p ∧ 4096 * p < (s.slice k).1 + (s.slice k).2)

/-- A partition's regulator is on at a stack, by stack × 16 + partition: its rate is the one of the last refill
(R240, R241). -/
def State.regulated (s : State) (k : Nat) : Bool := s.partOn (k % 16) && decide ((Tab.get (0, 0) s.pool.rates k).1 ≠ 0)

/-- A command's memory serves it: no access of it waits for a pseudo-channel or a host link, and the regulators have
let its accesses through (R241, R366, R483, log entry 26). -/
def State.memoryServes (s : State) (c : Cmd) : Bool :=
  !(c.mem.any fun x => (List.range x.rows).any fun i =>
      s.grainWaits (x.addr + i * x.pitch) x.n || s.biasWaits (x.addr + i * x.pitch) x.n) &&
    c.owed.all fun k => !s.regulated k.1

/-- The opcode of a descriptor (R320). -/
def opcode (d : Desc) : Nat := fld d 7 0

/-- The opcode is a collective's: REDUCE to LIST_EXCHANGE of R284. -/
def isCollective (d : Desc) : Bool := decide (0xC0 ≤ opcode d) && decide (opcode d ≤ 0xC4)

/-- A command waits for room in an outbound queue: a frame of it has found none (R272). -/
def State.framesHeld (s : State) (c : Cmd) : Bool :=
  s.backlog.any fun f => decide (f.src = s.membership.self ∧ f.ctx = c.id.ctx) &&
    match f.kind with
    | 0x20 => isCollective c.desc && decide (f.tag = fld c.desc 223 192)
    | 0x11 => decide (0x81 ≤ fld c.desc 7 0 ∧ fld c.desc 7 0 ≤ 0x87)
    | 0x03 => decide (f.tag = c.tag)
    | _ => false

/-- The released command a row names, when it carries the row's opcode, waits for no test or queue, memory serves
it, and the clock of stands, vector and embedding engines runs where it needs that (R241, R272, R385, R396,
R483). -/
def State.runnable (s : State) (id : CmdId) (p : Desc → Bool) : Option Cmd :=
  (s.findCmd id).filter fun c =>
    decide (c.phase = .released) && c.testing.isNone && p c.desc &&
      s.memoryServes c && !s.framesHeld c &&
      !(decide (0x40 ≤ opcode c.desc ∧ opcode c.desc < 0xA0) && s.power.clocksStopped)

/-- A row's work on the released command it names; without one the row changes nothing (log entry
14). -/
def State.run (s : State) (id : CmdId) (p : Desc → Bool) (f : State → Cmd → State × Status) :
    State :=
  match s.runnable id p with
  | none => s
  | some c => (f s c).1.finish id (f s c).2

/-- An error event of a command: its DETAIL names the sequence number, the queue, the opcode and the
retries (R438). -/
def cmdEvent (c : Cmd) (event : Nat) (u : UnitId) (loc outcome st : Nat) : EventIn :=
  ⟨event, u, loc, outcome, st, c.id.ctx,
    c.id.seq % 2 ^ 32 * 2 ^ 96 + c.id.queue * 2 ^ 92 + opcode c.desc * 2 ^ 84 + min 255 c.retries * 2 ^ 76⟩

/-- A descriptor has an opcode. -/
def isOp (n : Nat) (d : Desc) : Bool := decide (opcode d = n)

/-- The member ID a field means for this device: 0xFFFF, or its own ID (R330, R343). -/
def State.isSelf (s : State) (m : Nat) : Bool := decide (m = 0xFFFF ∨ m = s.membership.self)

/-- A unit refuses work now: under test, out for a calibration, or paused by a reload (R422, R427, R435). -/
def State.blocked (s : State) (u : UnitId) : Bool := s.underTest u || s.underCal u || s.reloading u

/-- Released commands that fit complete with MEMBERSHIP_CHANGED; collectives among them are counted
(R315). -/
def State.failWhere (s : State) (p : Cmd → Bool) : State :=
  let hit := s.cmds.filter fun c => decide (c.phase = .released) && p c
  hit.foldl (fun t c =>
    let t := t.finish c.id .membershipChanged
    if isCollective c.desc then t.tally c.id.ctx 0x7140 25 1 else t) s

/-- Every released command that still waits for frames of a member that fits completes with
MEMBERSHIP_CHANGED (R177, R278, R279). -/
def State.failNeeds (s : State) (lost : Nat → Bool) : State := s.failWhere fun c => c.needs.any lost

/-- A collective in flight across a membership change: it stays only on a device that stays, and only
over the first change after its release (R306). -/
def State.collPast (s : State) (c : Cmd) : Bool :=
  isCollective c.desc && (decide (s.membership.self = 0xFFFF) ||
    s.colls.any fun x => decide (x.cmd = some c.id ∧ x.epoch ≠ s.membership.prevEpoch))

/-! ### The deadwood list -/

/-- An entry added to the list, folding those it covers; a fold is recorded (R429, R430). -/
def State.addDead (s : State) (u : UnitId) (seq : Nat) : State :=
  if s.retired u then s
  else
    let folded := (s.recorder.dead.filter fun d => u.covers d.unit).length
    let dead := s.recorder.dead.filter fun d => !u.covers d.unit
    let t := { s with recorder := { s.recorder with
        dead := dead ++ [⟨u, s.cal.ns / 1000000000 % 2 ^ 32, seq⟩] } }
    if folded = 0 then t else t.recordEvent (t.info 0x0005 0 folded)

/-- The pseudo-channel with the most row entries (R430). -/
def State.fullestPc (s : State) : Nat :=
  ((List.range 1280).foldl (fun (best : Nat × Nat) p =>
    let n := (s.recorder.dead.filter fun d =>
      decide (d.unit.kind = 0x07 ∧ d.unit.loc = 20 + p / 64 ∧ d.unit.i1 = p % 64)).length
    if best.2 < n then (p, n) else best) (0, 0)).1

/-- Whether an entry for a unit would fit after folding. -/
def State.deadFits (s : State) (u : UnitId) : Bool :=
  decide ((s.recorder.dead.filter fun d => !u.covers d.unit).length < 4096)

/-- Room made in a full list by retiring the pseudo-channel with the most row entries, as often as it
takes (R430). -/
def State.makeRoom : Nat → State → UnitId → Nat → State
  | 0, s, _, _ => s
  | n + 1, s, u, seq =>
    if s.deadFits u then s
    else State.makeRoom n (s.addDead (.pc s.fullestPc) seq) u seq

/-- A unit retired: the event recorded with outcome 0x02, the entry committed (R424, R428). -/
def State.retire (s : State) (u : UnitId) (e : EventIn) : State :=
  let seq := s.recorder.next
  let t := s.recordEvent { e with outcome := 2 }
  ((t.makeRoom 4096 u seq).addDead u seq)

end Sys2Proof.Machine
end

