-- ==== Sys2Proof/Machine/Due.lean ====
section
/-! DEFINITION. Gates, maintenance windows and the order of the events keyed on the angle: what has fallen
due, and what comes before it (chapter The Stride Angle, R41 to R43, R480). -/

namespace Sys2Proof.Machine

/-! ### Gates and waits -/

/-- A command is gated (R320). -/
def gated (d : Desc) : Bool := flag d 17

/-- The not-before angle (R320). -/
def notBefore (d : Desc) : Angle := BitVec.ofNat 48 (fld d 79 32)

/-- The effective angle of a record keyed on a stride (R277, R387). -/
def strideAngle (n : Nat) : Angle := mkAngle n 0

/-- The gate of a command is open (R41, R47, R323). -/
def State.gateOpen (s : State) (d : Desc) : Bool :=
  !gated d || (s.pace.mode.running && atOrAfter s.angle (notBefore d))

/-- The synchronization object a command waits on. -/
def waitObj (d : Desc) : Nat := fld d 95 80

/-- The wait of a command is satisfied (R323, R332). -/
def State.waitMet (s : State) (d : Desc) : Bool :=
  !flag d 18 || reached32 (s.syncObj (waitObj d)).value (fld d 127 96)

/-- The object waited on has FAULT set (R333). -/
def State.waitFault (s : State) (d : Desc) : Bool := flag d 18 && (s.syncObj (waitObj d)).fault

/-- Sequence number a comes before sequence number b of the same queue. -/
def earlierSeq (a b : Nat) : Bool := decide (a ≠ b) && reached32 b a

/-- The commands fetched before one in its queue and not complete. -/
def State.before (s : State) (id : CmdId) : List Cmd :=
  s.cmds.filter fun (x : Cmd) =>
    decide (x.id.ctx = id.ctx ∧ x.id.queue = id.queue) && earlierSeq x.id.seq id.seq

/-- The earlier commands of its queue let a command go: each released, or complete without release; under
FENCE all complete (R318, R325). -/
def State.orderOk (s : State) (c : Cmd) : Bool :=
  if flag c.desc 21 then decide (s.before c.id = [])
  else (s.before c.id).all fun (x : Cmd) => decide (0 < x.rank)

/-- An install: EMB_TABLE_INSTALL, or TAP_SCHED of a record (R480). -/
def isInstall (d : Desc) : Bool := isOp 0x80 d || (isOp 0xA2 d && decide (fld d 308 307 = 0))

/-- A gated install of the state before takes effect at its angle: its gate has just opened, its wait is
satisfied, and its queue's earlier commands let it go (R480). -/
def State.opensOnTime (s old : State) (c : Cmd) : Bool :=
  decide (c.phase = Phase.admitted) && gated c.desc && isInstall c.desc && !old.gateOpen c.desc &&
    s.gateOpen c.desc && s.waitMet c.desc && s.orderOk c

/-- The installs whose angle is passed from one state to the next are marked to take effect there, where
nothing holds them back (R480). -/
def State.latchInstalls (s old : State) : State :=
  { s with cmds := s.cmds.map fun (c : Cmd) =>
      if s.opensOnTime old c then { c with onTime := true } else c }

/-- A gated install is due to take effect although it is not released (R480). -/
def State.installDue (s : State) (c : Cmd) : Bool :=
  decide (c.phase = Phase.admitted) && gated c.desc && isInstall c.desc && c.onTime && s.gateOpen c.desc

/-! ### Maintenance windows -/

/-- The angle from which a window's openings are counted: the one that has last closed, else its start
(R43). -/
def State.windowBase (s : State) (w : Nat) : Angle :=
  (s.windowMark.getD w none).getD (BitVec.ofNat 48 (s.objv (0x5110 + w) 1))

/-- The angle at which a window's k-th opening from its base begins. -/
def State.windowStart (s : State) (w k : Nat) : Angle :=
  s.windowBase w + BitVec.ofNat 48 (k * s.objv (0x5110 + w) 3 * 65536)

/-- The opening that the current angle has last reached, counted from the base. -/
def State.windowTurn (s : State) (w : Nat) : Nat :=
  let rep := s.objv (0x5110 + w) 3 * 65536
  if rep = 0 then 0 else (s.angle - s.windowBase w).toNat / rep

/-- A window can open at or before the current angle: its start is reached, or an opening has closed and it
repeats (R43). -/
def State.windowBegun (s : State) (w : Nat) : Bool :=
  match s.windowMark.getD w none with
  | none => atOrAfter s.angle (s.windowBase w)
  | some _ => decide (s.objv (0x5110 + w) 3 ≠ 0)

/-- What is known of a window's openings follows the angle: the start of the last opening reached is its new base, so
that a window long shut or disabled opens at its next turn (R30, R43). -/
def State.keepWindow (s : State) (w : Nat) : Option Angle :=
  if decide (s.objv (0x5110 + w) 3 ≠ 0) && !s.windows.getD w false && s.windowBegun w && decide (s.pace.mode ≠ .unlocked)
  then some (s.windowStart w (s.windowTurn w))
  else s.windowMark.getD w none

/-- The angle has moved on from the state before: installs whose angle it has passed are marked, and the windows'
openings follow it (R43, R480). -/
def State.angleMoved (s old : State) : State :=
  let t := s.latchInstalls old
  if (List.range 8).all fun w => decide (t.objv (0x5110 + w) 3 = 0) then t
  else { t with windowMark := (List.range 8).map t.keepWindow }

/-- The angle lies inside a window that is enabled (R43). -/
def State.inWindow (s : State) (w : Nat) : Bool :=
  let a := s.windowStart w (s.windowTurn w)
  decide (s.objv (0x5110 + w) 4 = 1) && s.windowBegun w &&
    decide ((s.angle - a).toNat < s.objv (0x5110 + w) 2)

/-- The angle at which an open window closes: the end of its opening, or now where that lies ahead. -/
def State.windowEnd (s : State) (w : Nat) : Angle :=
  let e := s.windowStart w (s.windowTurn w) + BitVec.ofNat 48 (s.objv (0x5110 + w) 2)
  if atOrAfter s.angle e then e else s.angle

/-! ### The profile -/

/-- An entry of the profile in force: PHASE, OP, ENVELOPE, CAP (R387). -/
def Power.profEntry (p : Power) (i : Nat) : List Nat := p.profile.getD i [0, 0, 0, 2900]

/-- The position of the entry a phase lies in (R387). -/
def entryAt (l : List (List Nat)) (phase : Nat) : Nat :=
  ((l.filter fun e => decide (e.getD 0 0 ≤ phase)).length) - 1

/-- The profile follows the angle (R388). -/
def State.follows (s : State) : Bool := s.pace.mode.running && s.pace.profileFollows

/-- The angle of the current stride's entry that the current phase lies in. -/
def State.entryAngle (s : State) : Angle :=
  mkAngle s.pace.stride ((s.power.profEntry (entryAt s.power.profile s.pace.phase)).getD 0 0)

/-! ### The order of R42 -/

/-- An event keyed on the angle: its angle and its place among those of one angle. The places: 1 epoch
change, 2 version install, 3 schedule install, 4 step sizes published, 5 profile, 6 entry and cap, 7
wide-margin mode, 8 window closing, 9 window opening, 10 preemption deadline, 11 release (R42, R203, log
entry 76). -/
abbrev DueEvent := Angle × Nat

/-- A window's closing or opening that has fallen due. -/
def State.dueWindow (s : State) (w : Nat) : List DueEvent :=
  if s.windows.getD w false then (if s.inWindow w then [] else [(s.windowEnd w, 8)])
  else if s.inWindow w then [(s.windowStart w (s.windowTurn w), 9)] else []

/-- The operating-point changes that have fallen due (R388, R392, R394). -/
def State.duePower (s : State) : List DueEvent :=
  let now := strideAngle s.pace.stride
  (match s.power.profPending with
    | some (_, eff) => if atOrAfter s.angle (strideAngle eff) then [(strideAngle eff, 5)] else []
    | none => []) ++
  (if s.follows && decide (s.power.entry ≠ entryAt s.power.profile s.pace.phase) then [(s.entryAngle, 6)]
    else []) ++
  (match s.power.capWritten with
    | some (_, k) => if k = s.pace.stride then [] else [(now, 6)]
    | none => []) ++
  match s.power.wideAt with
  | some k => if k = s.pace.stride then [] else [(now, 7)]
  | none => []

/-- A context's preemption deadlines that have fallen due (R343). -/
def State.dueYield (s : State) (x : Ctx) : List DueEvent :=
  if x.slot.isSome && !x.leaving then (x.yieldAt.filter (atOrAfter s.angle)).map fun a => (a, 10) else []

/-- The events of positions 1 to 6 of R42 that have fallen due and have not taken effect; none where the
angle is not the job's (R42, R47). -/
def State.dueEvents (s : State) : List DueEvent :=
  if !s.pace.mode.running then []
  else
    (match s.membership.pending with
      | some p =>
        if atOrAfter s.angle (strideAngle p.effective) then [(strideAngle p.effective, 1)] else []
      | none => []) ++
    ((s.cmds.filter s.installDue).map fun (c : Cmd) =>
      (notBefore c.desc, if isOp 0x80 c.desc then 2 else 3)) ++
    s.duePower ++
    ((List.range 8).map s.dueWindow).flatten ++
    (s.ctxs.map fun x => s.dueYield x.2).flatten

/-- One event keyed on the angle comes before another: its angle is earlier, or it stands first among the
events of one angle (R42). -/
def State.dueBefore (s : State) (x y : DueEvent) : Bool :=
  decide ((s.angle - y.1).toNat < (s.angle - x.1).toNat) || (decide (x.1 = y.1) && decide (x.2 < y.2))

/-- An event keyed on the angle may take effect: every event before it has (R42). -/
def State.mayAct (s : State) (x : DueEvent) : Bool := s.dueEvents.all fun e => !s.dueBefore e x

end Sys2Proof.Machine
end

