-- ==== Sys2Proof/Machine/Pace.lean ====
section
/-! DEFINITION. The pace unit: sources, lock, interpolation, holdover, maintenance windows and the
calendar (chapter The Stride Angle). -/

namespace Sys2Proof.Machine

/-- The pace sources of the priority list, highest first (R33). -/
def State.sourceList (s : State) : List Nat :=
  [s.objv 0x5100 1, s.objv 0x5100 2, s.objv 0x5100 3].filter (· ≠ 0)

/-- Source a stands above source b in the priority list. -/
def State.outranks (s : State) (a b : Nat) : Bool :=
  decide (s.sourceList.idxOf a < s.sourceList.idxOf b)

/-- Four boundaries whose three periods each differ from their mean by at most 1% (R35). -/
def regular : List Nat → Bool
  | [a, b, c, d] =>
    let p := [b - a, c - b, d - c]
    let sum := d - a
    decide (0 < sum) && p.all fun x => decide ((3 * x - sum) * 100 ≤ sum ∧ (sum - 3 * x) * 100 ≤ sum)
  | _ => false

/-- The candidate boundary times of a source. -/
def Pace.times (p : Pace) (src : Nat) : List Nat := Tab.get [] p.cand src

/-- The mean of the three periods between the last four boundaries of a source, 0 while there are fewer. -/
def Pace.mean4 (p : Pace) (src : Nat) : Nat :=
  match p.times src with
  | [a, _, _, d] => (d - a) / 3
  | _ => 0

/-- The boundary times of a source taken with the next one: of a source that has achieved lock one before
15/16 of a period is ignored and one after 17/16 starts it afresh, as R36 has it for the source in use; the
last four are kept (R33, R35, R36, log entry 77). -/
def Pace.nextTimes (p : Pace) (src t : Nat) : List Nat :=
  let l := p.times src
  let gap := t - l.getLast?.getD 0
  let fresh := (l ++ [t]).drop (l.length + 1 - 4)
  if src ∈ p.valid ∧ src ≠ 3 ∧ 0 < p.mean4 src then
    if 16 * gap < 15 * p.mean4 src then l else if 16 * gap ≤ 17 * p.mean4 src then fresh else [t]
  else fresh

/-- A boundary time noted for a source: it achieves lock on four regular ones and keeps it while its
boundaries go on in their windows; the local generator is valid at once (R33, R35). -/
def Pace.note (p : Pace) (src t : Nat) : Pace :=
  let l := p.nextTimes src t
  let ok := decide (src = 3) || regular l || decide (src ∈ p.valid ∧ l.length = 4)
  { p with
    cand := Tab.put [] p.cand src l
    valid := if ok then addOnce p.valid src else p.valid.filter (· ≠ src) }

/-- A lost source is no longer valid and starts its lock afresh. -/
def Pace.forget (p : Pace) (src : Nat) : Pace :=
  { p with cand := Tab.put [] p.cand src [], valid := p.valid.filter (· ≠ src) }

/-- The mean of the accepted periods, rounded down to whole ns (R39, log entry 78). -/
def meanPeriod (l : List Nat) : Nat := if l = [] then 0 else l.sum / l.length

/-- Every gated command not released completes with PACE_LOST, and so does a gated install of a table version
that is released and has not taken effect (R47, R48, R176). -/
def State.losePace (s : State) : State :=
  let lost := fun (c : Cmd) => gated c.desc &&
    (decide (c.phase = Phase.admitted) || (isOp 0x80 c.desc && decide (c.phase = Phase.released)))
  { s with cmds := s.cmds.map fun (c : Cmd) => if lost c then { c with phase := .finished .paceLost } else c }

/-- Every maintenance window closes (R43, R47). -/
def State.closeWindows (s : State) : State := { s with windows := List.replicate 8 false }

/-- The comparisons that UNLOCKED deferred, made at the boundary that achieves lock: a gated command
outside the window of R31 completes with INVALID; a membership record or a profile whose stride has
been reached or lies too far ahead is discarded and recorded (R32). -/
def State.deferredChecks (s : State) : State :=
  let a := s.angle
  let bad := fun n => atOrAfter a (strideAngle n) || !nearAngle (strideAngle n) a
  let s1 := { s with cmds := s.cmds.map fun (c : Cmd) =>
      if c.phase = Phase.admitted ∧ gated c.desc ∧ nearAngle (notBefore c.desc) a = false
      then { c with phase := .finished .invalid } else c }
  let s2 := match s1.membership.pending with
    | some p =>
      if bad p.effective then
        ({ s1 with membership := { s1.membership with pending := none, outcome := 0x06 } }).recordEvent
          (s1.info 0x4006 0 0)
      else s1
    | none => s1
  match s2.power.profPending with
  | some (_, eff) =>
    if bad eff then
      ({ s2 with power := { s2.power with profPending := none } }).recordEvent (s2.info 0x7007 0 0)
    else s2
  | none => s2

/-! ### Ports and control fragments -/

/-- A port. -/
def State.port (s : State) (p : Nat) : Port := Tab.get Port.down s.ports p

/-- A port replaced. -/
def State.setPort (s : State) (p : Nat) (x : Port) : State :=
  { s with ports := Tab.put Port.down s.ports p x }

/-- A fragment header passes its CRC (R263, R268). -/
def headerOk (h : Nat) : Bool := decide (crc8 ((toBytes 7 (h / 256)).reverse) = h % 256)

/-- The acknowledgement a port sends: the last SEQ received in order (R263). -/
def Port.ack (x : Port) : Nat := (x.recvSeq + 4095) % 4096

/-- The class of the credits a port returns next: the lowest that has some. -/
def Port.creditClass (x : Port) : Nat :=
  ((List.range 4).find? fun c => decide (0 < x.giveBack.getD c 0)).getD 0

/-- The count of the credits a port returns next, at most 1,023. -/
def Port.creditCount (x : Port) : Nat := min 1023 (x.giveBack.getD x.creditClass 0)

/-- The port once those credits are on their way. -/
def Port.creditsSent (x : Port) : Port :=
  let left := x.giveBack.getD x.creditClass 0 - x.creditCount
  { x with giveBack := setAt x.giveBack x.creditClass left }

/-- The header a port gives a control fragment of a type: the acknowledgement and the credits it owes (R263,
R267). -/
def Port.controlHeader (x : Port) (ctype : Nat) : Nat :=
  let h := 2 ^ 11 + x.creditCount * 2 ^ 28 + x.creditClass * 2 ^ 38 + x.ack * 2 ^ 40 + ctype % 256 * 2 ^ 52
  h + crc8 ((toBytes 7 (h / 256)).reverse)

/-- A control fragment sent on a port: its header, and its 16 bytes of payload (R263, R267). -/
def State.sendControl (s : State) (p ctype payload : Nat) : State :=
  let x := s.port p
  { (s.setPort p x.creditsSent) with out := s.out ++ [.control p ctype [x.controlHeader ctype, payload]] }

/-- A FILL sent on a port (R263). -/
def State.sendFill (s : State) (p : Nat) : State := s.sendControl p 0x00 0

/-! ### Pace words and sources -/

/-- A pace word's 16-byte payload (R281). -/
def paceWordOf (stride offset hops origin : Nat) : Nat :=
  origin % 65536 + hops % 16 * 2 ^ 68 + offset % 2 ^ 24 * 2 ^ 72 + stride % 2 ^ 32 * 2 ^ 96

/-- A port carries traffic: up, enabled and not retired (R37, R261, R282, log entry 79). -/
def State.portUp (s : State) (p : Nat) : Bool :=
  decide (p < 24) && decide (s.objv 0x5202 (p + 1) = 1) && (s.port p).up && !s.retired (.port p)

/-- Pace words sent on every port in service at a boundary while LOCKED: by the origin with hop count 0 and
its own member ID, by a follower with the selected word's origin and its hop count raised by 1 (R37,
R281). -/
def State.sendPaceWords (s : State) (late : Nat) : State :=
  if s.pace.mode ≠ .locked then s
  else
    let w :=
      if s.pace.source = 2 then paceWordOf s.pace.lastStride late (s.pace.hop + 1) s.pace.origin
      else paceWordOf s.pace.lastStride late 0 s.membership.self
    ((List.range 24).filter s.portUp).foldl (fun (t : State) p => t.sendControl p 0x02 w) s

/-- The windows at a jump of the angle: a repeating one is counted from its start again (R43, log entry
80). -/
def State.windowsAnew (s : State) : State :=
  { s with windowMark := (List.range 8).map fun w =>
      if s.objv (0x5110 + w) 3 = 0 then s.windowMark.getD w none else none }

/-- The period estimate at a lock: the mean of the three periods that achieved it; the local generator's
period where it is valid before it has given any, else the last estimate (R35, R39, log entry 78). -/
def State.lockEstimate (s : State) (src : Nat) (per : List Nat) : Nat :=
  if per ≠ [] then meanPeriod per else if src = 3 then s.objv 0x5100 4 else s.pace.that

/-- The angle and the state set at a lock that takes a source's own count, or the count known for it; the
holdover count is cleared on the return to LOCKED (R35, R48, R455). -/
def State.lockAt (s : State) (src count late : Nat) (mode : PaceMode) : State :=
  let per := match s.pace.times src with
    | [a, b, c, d] => [b - a, c - b, d - c]
    | _ => []
  let that := s.lockEstimate src per
  let t : State := { s with pace := { s.pace with
      mode := mode
      stride := count % 2 ^ 32
      t64 := 64 * late
      that := that
      periods := per
      lastEdge := s.now - late
      held := false
      source := src
      glitchRun := 0
      holdStrides := if mode = PaceMode.locked then 0 else s.pace.holdStrides
      lastStride := count % 2 ^ 32
      pendCount := none
      slew64 := 0
      profileFollows := false } }
  t.windowsAnew

/-- The first lock after a reset (R35, R455): a source that carries its count gives it, the pins take
the count last written, or none is known. -/
def State.firstLock (s : State) (src : Nat) (count : Option Nat) (late : Nat) : State :=
  match count, s.pace.pendCount with
  | some c, _ => (s.lockAt src c late .locked).deferredChecks
  | none, some c => ((s.lockAt src c late .locked).deferredChecks).recordEvent (s.info 0x6006 0 0)
  | none, none => ((s.lockAt src 0 late .countPending).deferredChecks).losePace

/-- The lock event of a return from HOLDOVER, EXPIRED or COUNT_PENDING. -/
def State.regained (s : State) : State := s.recordEvent (s.info 0x6003 0 0)

/-- How many boundaries on from the last one the interpolated boundary nearest a source's boundary is, the
later of two equally near (R38, R48). -/
def Pace.nearTurn (p : Pace) (late : Nat) : Int :=
  let t : Int := ((p.t64 / 64 : Nat) : Int) - late
  (2 * t + p.that) / (2 * p.that)

/-- How far the interpolated angle is ahead of the source's boundary, in ns: its time since the nearest
interpolated boundary, negative before it (R38, R48). -/
def Pace.offset (p : Pace) (late : Nat) : Int :=
  ((p.t64 / 64 : Nat) : Int) - late - p.nearTurn late * p.that

/-- The stride count the interpolated angle reaches at the boundary nearest the source's (R38, R48). -/
def Pace.nearStride (p : Pace) (late : Nat) : Nat :=
  (((p.stride : Int) + p.nearTurn late) % 2 ^ 32).toNat

/-- The return to LOCKED, or the change of source in it: the angle passes to the boundary that has been
reached, keeps a boundary to come, and the offset is removed by slewing (R38, R48). -/
def State.returnLocked (s : State) (src late : Nat) : State :=
  let p := s.pace
  let k := (p.nearTurn late).toNat
  let reached := decide (0 < k ∧ 64 * k * p.that ≤ p.t64)
  let t := { s with pace := { p with
      mode := .locked
      source := src
      stride := if reached then (p.stride + k) % 2 ^ 32 else p.stride
      t64 := if reached then p.t64 - 64 * k * p.that else p.t64
      lastEdge := s.now - late
      glitchRun := 0
      holdStrides := 0
      lastStride := p.nearStride late
      held := decide (0 < k) && !reached
      slew64 := -(64 * p.offset late)
      pendCount := none } }
  if p.mode = .locked then t else t.regained

/-- Holdover ends in EXPIRED: gated commands complete with PACE_LOST, windows close, the entry is
recorded (R47, R48). -/
def State.expire (s : State) : State :=
  let t := { s with pace := { s.pace with mode := .expired, profileFollows := false } }
  (t.losePace.closeWindows).recordEvent (t.info 0x6002 4 0)

/-- The active source is lost: HOLDOVER from LOCKED, recorded; EXPIRED from COUNT_PENDING, a count
not yet applied discarded, where no holdover expires and gated commands have none to lose (R45, R48). -/
def State.loseSource (s : State) : State :=
  let p := s.pace.forget s.pace.source
  match s.pace.mode with
  | .locked =>
    let t := { s with pace := { p with mode := .holdover, glitchRun := 0 } }
    t.recordEvent (t.info 0x6001 4 0)
  | .countPending =>
    { s with pace := { p with mode := .expired, pendCount := none, glitchRun := 0, profileFollows := false } }.closeWindows
  | _ => { s with pace := p }

/-- A boundary of the active source accepted while LOCKED or COUNT_PENDING: the angle steps to the
next stride, or to the count written for it, and the period enters the mean (R36, R39, R49). -/
def State.acceptBoundary (s : State) (late : Nat) : State :=
  let p := s.pace
  let per := (p.periods ++ [s.now - late - p.lastEdge]).drop (p.periods.length + 1 - 16)
  let next := (p.pendCount).getD ((p.stride + 1) % 2 ^ 32)
  let applied := decide (p.mode = .countPending) && p.pendCount.isSome
  let t := { s with pace := { p with
      mode := if applied then .locked else p.mode,
      stride := next % 2 ^ 32, t64 := 64 * late, periods := per,
      that := meanPeriod per,
      lastEdge := s.now - late, held := false, glitchRun := 0,
      holdStrides := if applied then 0 else p.holdStrides, lastStride := next % 2 ^ 32,
      pendCount := none, slew64 := 0,
      profileFollows := decide (p.mode = .locked) } }
  if applied then (t.recordEvent (t.info 0x6006 0 0)).regained else t

/-- A boundary below phase 0xF000 is a glitch: ignored and counted; four in a row lose the source
(R36). -/
def State.glitch (s : State) : State :=
  let t := { s with pace := { s.pace with
      glitches := s.pace.glitches + 1, glitchRun := s.pace.glitchRun + 1 } }
  if t.pace.glitchRun = 4 then t.loseSource else t

/-- A boundary of the active source (R36): accepted at or above phase 0xF000 within 1.0625 periods,
a glitch below. -/
def State.activeBoundary (s : State) (src late : Nat) : State :=
  if s.pace.phase < 0xF000 then s.glitch
  else if 16 * (s.now - late - s.pace.lastEdge) ≤ 17 * s.pace.that then
    ({ s with pace := s.pace.note src (s.now - late) }).acceptBoundary late
  else s

/-- The adoption of another source, or the disagreement recorded (R38). -/
def State.adopt (s : State) (src : Nat) (count : Option Nat) (late : Nat) : State :=
  let okCount := match count with
    | none => true
    | some c => decide (c % 2 ^ 32 = s.pace.nearStride late)
  if okCount && decide ((s.pace.offset late).natAbs ≤ 2000) then s.returnLocked src late
  else s.recordEvent (s.info 0x6004 0 0)

/-- The stride count of the boundary nearest the interpolated angle: the next one from phase 0x8000
on (R48). -/
def Pace.nearCount (p : Pace) : Nat := if p.phase < 0x8000 then p.stride else p.stride + 1

/-- The recovery from EXPIRED (R48): a source that carries the count sets the angle; the pins at
their lock take the count written meanwhile, or the count of the nearest interpolated boundary. -/
def State.recover (s : State) (src : Nat) (count : Option Nat) (late : Nat) : State :=
  match count, s.pace.pendCount with
  | some c, _ => (s.lockAt src c late .locked).regained
  | none, some c => ((s.lockAt src c late .locked).recordEvent (s.info 0x6006 0 0)).regained
  | none, none => s.lockAt src s.pace.nearCount late .countPending

/-- A source in the list is valid now: it has achieved lock, and its next boundary is not overdue; the local
generator always is (R33, R36). -/
def State.sourceLive (s : State) (src : Nat) : Bool :=
  decide (src ∈ s.sourceList) &&
    (decide (src = 3) || (decide (src ∈ s.pace.valid) &&
      decide (16 * (s.now - (s.pace.times src).getLast?.getD 0) ≤ 17 * s.pace.mean4 src)))

/-- A source is the one of highest priority among those that are valid (R33). -/
def State.highestSource (s : State) (src : Nat) : Bool :=
  s.sourceLive src && s.sourceList.all fun b => !(s.outranks b src && s.sourceLive b)

/-- What a boundary of a source does when the source is not the one in use, or none is in use: only the valid
source of highest priority counts. The source returning in HOLDOVER is compared by its boundary alone: R48 says
nothing of a stride count it carries that is another than the interpolated one, and the model ignores it (DESIGN
CHOICE, log entry 127) (R33, R38, R48). -/
def State.otherBoundary (s : State) (src : Nat) (count : Option Nat) (late : Nat) : State :=
  let t := { s with pace := s.pace.note src (s.now - late) }
  if !t.highestSource src then t
  else match t.pace.mode with
    | .unlocked => t.firstLock src count late
    | .locked | .countPending => if t.outranks src t.pace.source then t.adopt src count late else t
    | .holdover =>
      if src = t.pace.source then
        (if 16 * (t.pace.offset late).natAbs ≤ t.pace.that then t.returnLocked src late else t.expire)
      else t.adopt src count late
    | .expired => t.recover src count late

/-- At a stride boundary the operations that need an unreachable member complete with MEMBERSHIP_CHANGED
(R279). -/
def State.dropUnreachable (s : State) : State := s.failNeeds fun m => decide (m ∈ s.membership.unreachable)

/-- A stride boundary of a source, `late` ns before now, out of reset (R33 to R38, R48, R455, R480). -/
def State.boundary (s : State) (src : Nat) (count : Option Nat) (late : Nat) : State :=
  if !s.pins.resetN then s
  else
  let t :=
    if (s.pace.mode = .locked ∨ s.pace.mode = .countPending) ∧ src = s.pace.source then
      s.activeBoundary src late
    else s.otherBoundary src count late
  let t := t.angleMoved s
  if t.pace.lastEdge ≠ s.now - late then t
  else if t.pace.mode = .locked then (t.sendPaceWords late).dropUnreachable
  else if t.pace.mode = .countPending then t.dropUnreachable
  else t

/-- The priority list written: an active source that it no longer holds is lost (R33, log entry 77). -/
def State.sourcesChanged (s : State) : State :=
  if (s.pace.mode = .locked ∨ s.pace.mode = .countPending) ∧ s.pace.source ∉ s.sourceList then s.loseSource
  else s

/-- The last of a list of times or periods moved from one time to another. -/
def moveLast (old new : Nat) (l : List Nat) : List Nat :=
  match l.getLast? with
  | none => []
  | some x => l.dropLast ++ [x + new - old]

/-- The pace unit with the boundary of its source, taken at one time, taken at another: t restarts from the
earlier one, and a later one is approached by slewing; where the mean of the periods grows t grows with it, so that the
phase does not fall (R29, R37, log entry 81). -/
def Pace.retime (p : Pace) (old new : Nat) : Pace :=
  let per := moveLast old new p.periods
  let that := if per = [] then p.that else meanPeriod per
  let t := p.t64 / 64 + (old - new)
  let u := if p.that < that then (t * that + p.that - 1) / p.that else t
  { p with
    lastEdge := new
    periods := per
    that := that
    t64 := 64 * u + p.t64 % 64
    slew64 := p.slew64 - 64 * ((new - old : Nat) : Int) - 64 * ((u - t : Nat) : Int) }

/-- A better word of a boundary already taken: it is the one selected, the boundary is timed by it, and while
it is followed it is forwarded in the other's place (R37, log entry 81). -/
def State.reselect (s : State) (late : Nat) : State :=
  match (s.pace.times 2).getLast? with
  | none => s
  | some old =>
    let new := s.now - late
    let p : Pace := { s.pace with cand := Tab.put [] s.pace.cand 2 (moveLast old new (s.pace.times 2)) }
    if p.source = 2 ∧ p.mode = .locked ∧ p.lastEdge = old then
      (({ s with pace := p.retime old new }).angleMoved s).sendPaceWords late
    else { s with pace := p }

/-! ### The rows -/

/-- PACE_BOUNDARY: a rising edge on the PACE pins (R34, R36). -/
def execPaceBoundary (s : State) : Host.Outcome State Fault Refusal :=
  .next (({ s with pace := { s.pace with signal := true } }).boundary 1 none 0)

/-- PACE_WORD: a PACE control fragment on a port in service. Words of more than eight hops are ignored; of a
boundary's words the one of the fewest hops is selected, of those the one on the lowest port (R37, R281). -/
def execPaceWord (port : Nat) (word : BitVec 128) (s : State) : Host.Outcome State Fault Refusal :=
  let count := bits word.toNat 127 96
  let hops := bits word.toNat 71 68
  let late := bits word.toNat 95 72 + (s.port port).delay
  let taken := { s with pace := { s.pace with
      lastWord := some count
      hop := hops
      port := port
      origin := bits word.toNat 15 0 } }
  if !s.portUp port || decide (8 < hops) then .next s
  else if s.pace.lastWord ≠ some count then .next (taken.boundary 2 (some count) late)
  else if hops < s.pace.hop ∨ (hops = s.pace.hop ∧ port < s.pace.port) then .next (taken.reselect late)
  else .next s

/-- LOCAL_GENERATOR_BOUNDARY: the generator's period elapses; its count starts at 0, or at the count
written to object 0x5103 before lock (R33, R455). -/
def execLocalGeneratorBoundary (s : State) : Host.Outcome State Fault Refusal :=
  if 3 ∈ s.sourceList then
    let c := if s.pace.mode = .unlocked then (s.pace.pendCount).getD s.pace.genCount
      else s.pace.genCount
    .next (({ s with pace := { s.pace with genCount := (c + 1) % 2 ^ 32 } }).boundary 3 (some c) 0)
  else .next s

/-- PACE_SOURCE_LOST: no boundary by 1.0625 periods; the angle steps to (S+1):0x1000 (R36, R45). -/
def execPaceSourceLost (s : State) : Host.Outcome State Fault Refusal :=
  if (s.pace.mode = .locked ∨ s.pace.mode = .countPending) ∧
      17 * s.pace.that ≤ 16 * (s.now - s.pace.lastEdge) then
    .next ((({ s with pace := { s.pace with
      stride := (s.pace.stride + 1) % 2 ^ 32, t64 := 4 * s.pace.that + 63,
      holdStrides := s.pace.holdStrides + 1 } }).loseSource).angleMoved s |>.dropUnreachable)
  else .next s

/-- PACE_SIGNAL_LOST: the PACE input has lost signal; when the pins are the active source, holdover
or expiry starts (R45, R48, R469). -/
def execPaceSignalLost (s : State) : Host.Outcome State Fault Refusal :=
  let t := { s with pace := { s.pace with signal := false } }
  if s.pace.source = 1 ∧ (s.pace.mode = .locked ∨ s.pace.mode = .countPending) then
    .next t.loseSource
  else .next { t with pace := t.pace.forget 1 }

/-- HOLDOVER_BOUNDARY: t reaches the period estimate while the angle is interpolated; in HOLDOVER the profile follows
the angle from it on (R39, R47, R388). -/
def execHoldoverBoundary (s : State) : Host.Outcome State Fault Refusal :=
  if (s.pace.mode = .holdover ∨ s.pace.mode = .expired) ∧ 0 < s.pace.that ∧
      64 * s.pace.that ≤ s.pace.t64 then
    .next (({ s with pace := { s.pace with
      stride := (s.pace.stride + 1) % 2 ^ 32, t64 := s.pace.t64 - 64 * s.pace.that,
      holdStrides := if s.pace.mode = PaceMode.holdover then s.pace.holdStrides + 1
        else s.pace.holdStrides
      profileFollows := s.pace.profileFollows || decide (s.pace.mode = PaceMode.holdover) } }).angleMoved s |>.dropUnreachable)
  else .next s

/-- HOLDOVER_EXPIRY: the interpolated angle reaches (L + 1 + H):0x0000 (R47). -/
def execHoldoverExpiry (s : State) : Host.Outcome State Fault Refusal :=
  if s.pace.mode = .holdover ∧
      atOrAfter s.angle (strideAngle (s.pace.lastStride + 1 + s.objv 0x5104 0)) then
    .next s.expire
  else .next s

/-- SOURCE_ADOPTION: in HOLDOVER, or for a source of higher priority in LOCKED or COUNT_PENDING, the boundary of
another valid source is adopted or the disagreement recorded (R38). -/
def execSourceAdoption (source : Nat) (count : BitVec 32) (s : State) :
    Host.Outcome State Fault Refusal :=
  if s.pace.mode = .holdover ∨ s.pace.mode = .locked ∨ s.pace.mode = .countPending then
    if source ∈ s.sourceList ∧ source ≠ s.pace.source then
      .next (s.boundary source (if source = 1 then none else some count.toNat) 0)
    else .next s
  else .next s

/-- MAINTENANCE_WINDOW_OPEN: a window opens at its start, in LOCKED or HOLDOVER only, in its place among the
events of that angle (R42, R43). -/
def execMaintenanceWindowOpen (w : Nat) (s : State) : Host.Outcome State Fault Refusal :=
  if s.pace.mode.running && decide (w < 8) && s.inWindow w && s.mayAct (s.windowStart w (s.windowTurn w), 9) then
    .next { s with windows := setAt s.windows w true }
  else .next s

/-- MAINTENANCE_WINDOW_CLOSE: the angle has passed the window's length; a later opening is counted from this
one (R42, R43). -/
def execMaintenanceWindowClose (w : Nat) (s : State) : Host.Outcome State Fault Refusal :=
  if s.inWindow w || !s.windows.getD w false || !s.mayAct (s.windowEnd w, 8) then .next s
  else .next { s with
    windows := setAt s.windows w false
    windowMark := setAt s.windowMark w (some (s.windowStart w (s.windowTurn w))) }

/-- PPS_IN_EDGE: a loaded second is applied; an edge within 100 µs of the whole second the calendar
expects steps it there; another is rejected and counted, but the one after three consecutive rejects
is the new reference for the whole second nearest the calendar, recorded (R44, log entry 82). -/
def execPpsInEdge (s : State) : Host.Outcome State Fault Refusal :=
  let sec := 1000000000
  let near := (s.cal.ns + sec / 2) / sec * sec
  let off := (s.cal.ns - near) + (near - s.cal.ns)
  let set := fun (n : Nat) => { s.cal with ns := n % 2 ^ 64, rejects := 0, ppsSeen := true }
  match s.cal.pend with
  | some v => .next { s with cal := { set (v * sec) with pend := none, free := false } }
  | none =>
    if off ≤ 100000 then .next { s with cal := set near }
    else if 3 ≤ s.cal.rejects then
      let t := { s with cal := set near }
      .next (t.recordEvent (t.info 0x6005 0 0))
    else
      .next (({ s with cal := { s.cal with rejects := s.cal.rejects + 1 } }).bump 0x5120 3 1)

/-- The clocks one ns on: time, calendar and t, which runs faster or slower by 1/64 while an offset is slewed
away; a boundary already given by its source is passed without another (R39, R44, R48). -/
def State.clockOn (s : State) : State :=
  let p := s.pace
  let d : Int := if 0 < p.slew64 then 1 else if p.slew64 < 0 then -1 else 0
  let t64 := ((p.t64 + 64 : Nat) + d).toNat
  let wrap := p.held && decide (0 < p.that ∧ 64 * p.that ≤ t64)
  { s with
    now := s.now + 1,
    cal := { s.cal with ns := (s.cal.ns + 1) % 2 ^ 64 },
    pace := { p with
      t64 := if wrap then t64 - 64 * p.that else t64,
      stride := if wrap then (p.stride + 1) % 2 ^ 32 else p.stride,
      held := p.held && !wrap,
      slew64 := p.slew64 - d } }

/-- One tick of the clock, and the installs whose angle it reaches (R39, R480). -/
def State.clockTick (s : State) : State := s.clockOn.angleMoved s

end Sys2Proof.Machine
end

