-- ==== Sys2Proof/Machine/Carust.lean ====
section
/-! DEFINITION. Carust links: fragments and frames, credits and replay, training and lanes, routing
and membership (chapter Carust Links). -/

namespace Sys2Proof.Machine

/-- A port is enabled and not retired (R275). -/
def State.portOpen (s : State) (p : Nat) : Bool :=
  decide (p < 24) && decide (s.objv 0x5202 (p + 1) = 1) && !s.retired (.port p)

/-- A partner is foreign: of another job, or without a member ID (R273). -/
def State.foreign (s : State) (x : Partner) : Bool :=
  decide (x.job ≠ s.objv 0x5207 1) || decide (x.member = 0xFFFF)

/-- A port is usable: enabled, not retired, up, and its partner known and not foreign (R273, R275). -/
def State.portUsable (s : State) (p : Nat) : Bool :=
  s.portOpen p && s.portUp p && (s.port p).partner.any fun x => !s.foreign x

/-! ### Tests: when they start -/

/-- Two units are of one kind on one die. -/
def sameBench (a b : UnitId) : Bool := decide (a.kind = b.kind ∧ a.loc = b.loc)

/-- The host link a lane of a host die's port belongs to (R349). -/
def State.laneLink (s : State) (u : UnitId) : Nat :=
  2 * (u.loc - 16) + (if s.isSplit (u.loc - 16) then u.i1 / 8 else 0)

/-- A lane is out of use for its test: one of a Carust port once the port has narrowed to exclude it, or is down; one
of a host link while the link is to be trained again (R269, R426, R433). -/
def State.laneFree (s : State) (u : UnitId) : Bool :=
  match u.kind with
  | 0x08 => !s.portUp u.i1 || !(s.port u.i1).mask.testBit u.i2
  | 0x0D => !(s.link (s.laneLink u)).up
  | _ => true

/-- The tests that may start do, in the order in which they were asked for: one of each kind on a die
(R433). -/
def startTests (free : UnitId → Bool) (l : List Test) : List Test :=
  l.foldl (fun acc t =>
    let held := (l ++ acc).any fun x => x.running && sameBench x.unit t.unit
    acc ++ [if t.running || t.joined || held || !free t.unit then t else { t with running := true }]) []

/-- The waiting tests that may start. -/
def State.startTests (s : State) : State :=
  { s with recorder := { s.recorder with tests := Machine.startTests s.laneFree s.recorder.tests } }

/-- A test added to those asked for; one of a unit whose test is waiting joins that test (R433). -/
def addTest (l : List Test) (t : Test) : List Test :=
  let mine := fun (x : Test) => decide (x.unit = t.unit) && !x.running
  match l.reverse.findIdx? mine with
  | some i => l.take (l.length - i) ++ { t with joined := true } :: l.drop (l.length - i)
  | none => l ++ [t]

/-- A test asked for (R424, R433). -/
def State.askTest (s : State) (t : Test) : State :=
  { s with recorder := { s.recorder with tests := addTest s.recorder.tests t } }.startTests

/-- A frame dropped or refused at a port, counted (R264, R273, R278). -/
def State.countDrop (s : State) (p : Nat) : State := s.bump 0x7500 (145 + p) 1

/-! ### Fragments -/

/-- The 8-byte header of a data fragment with its CRC (R263): the acknowledgement of the other
direction and the credits returned for one class ride in it. -/
def dataHeader (f : Frag) (ack crClass crCount : Nat) : Nat :=
  let x := b2n f.first * 2 ^ 17 + b2n f.last * 2 ^ 16 + f.cls * 2 ^ 18 + f.stream * 2 ^ 20 +
    (f.payload.length / 16 - 1) * 2 ^ 12 + crCount * 2 ^ 28 + crClass * 2 ^ 38 + ack % 4096 * 2 ^ 40 +
    f.seq % 4096 * 2 ^ 52
  x + crc8 ((toBytes 7 (x / 256)).reverse)

/-- A class 0 fragment about to leave a port preempts a frame of another class in progress there or does not, by
a free bit: how long a fragment takes is timing (R266, R282, log entry 98). -/
def State.countPreempt (s : State) (p : Nat) (f : Frag) : State :=
  let x := s.port p
  if f.cls = 0 ∧ (x.replay ++ x.outq).any (fun g => decide (g.cls ≠ 0)) = true then
    (s.bump 0x7500 (121 + p) (s.freeVal 0 % 2)).usedFree 1
  else s

/-- One fragment sent: it takes the next SEQ, a credit of its class, and a place in the replay
buffer (R267, R268). -/
def State.sendFrag (s : State) (p : Nat) (f : Frag) : State :=
  let s := s.countPreempt p f
  let x := s.port p
  let g := { f with seq := x.sendSeq }
  let h := dataHeader g x.ack x.creditClass x.creditCount
  let y := x.creditsSent
  let t := s.setPort p { y with
    sendSeq := (x.sendSeq + 1) % 4096, replay := x.replay ++ [g],
    credits := setAt x.credits f.cls (x.credits.getD f.cls 0 - 1) }
  ({ t with out := t.out ++ [Output.fragment p h g.payload] }).bump 0x7500 (1 + p) g.payload.length

/-- Fragments the replay buffer holds at most: 1 MiB of 256 bytes each, less one, so that an acknowledgement
names one place in it (R263, R268, R272, log entry 99). -/
def replayRoom : Nat := 4095

/-- The next fragment of a class that may leave a usable port: one is queued, a credit is held, the replay
buffer has room, and while the link die is reloaded only in class 0 (R267, R272, R273, R422). -/
def State.readyFrag (s : State) (p cls : Nat) : Option Frag :=
  let x := s.port p
  if s.portUsable p = true ∧ 0 < x.credits.getD cls 0 ∧ x.replay.length < replayRoom ∧
      (cls = 0 ∨ s.reloadingDie (8 + p / 3) = false) then
    x.outq.find? fun f => decide (f.cls = cls)
  else none

/-- Deficit round-robin over classes 1 to 3 (R266): the class that sends next and the bytes each may still send.
A class whose turn comes gains 256 bytes for each unit of its weight; one with nothing ready loses what it had.
Four turns reach every class. -/
def drrTurn (size : Nat → Option Nat) (weight : Nat → Nat) : Nat → Nat → List Nat → Option (Nat × List Nat)
  | 0, _, _ => none
  | n + 1, c, d =>
    let have_ := d.getD c 0
    let next := c % 3 + 1
    let pass := fun (e : List Nat) => drrTurn size weight n next (setAt e next (e.getD next 0 + 256 * weight next))
    match size c with
    | some k => if k ≤ have_ then some (c, setAt d c (have_ - k)) else pass d
    | none => pass (setAt d c 0)

/-- A queued fragment sent. -/
def State.sendQueued (s : State) (p : Nat) (f : Frag) : State :=
  let x := s.port p
  (s.setPort p { x with outq := x.outq.erase f }).sendFrag p f

/-- Up to n fragments of a port's queue sent, class 0 first, the others by deficit round-robin (R266). -/
def State.sendQueue (p : Nat) : Nat → Nat → List Nat → State → State
  | 0, c, _, s => s.setPort p { s.port p with turn := c }
  | n + 1, c, d, s =>
    match s.readyFrag p 0 with
    | some f => State.sendQueue p n c d (s.sendQueued p f)
    | none =>
      let r := drrTurn (fun k => (s.readyFrag p k).map (·.payload.length)) (s.objv 0x5208) 4 c d
      match r, r.bind fun x => s.readyFrag p x.1 with
      | some x, some f => State.sendQueue p n x.1 x.2 (s.sendQueued p f)
      | _, _ => s.setPort p { s.port p with turn := c }

/-- A port's queue sent as far as its credits go (R266, R267, R422). -/
def State.flush (s : State) (p : Nat) : State :=
  let x := s.port p
  State.sendQueue p x.outq.length x.turn [0, 0, 0, 0] s

/-! ### Frames -/

/-- The class a frame kind travels in; a SIGNAL of priority 0 is urgent (R265). -/
def kindClass : Nat → Option Nat
  | 0x01 => some 1
  | 0x02 | 0x03 => some 0
  | 0x10 | 0x11 | 0x12 | 0x13 => some 1
  | 0x20 => some 2
  | 0x30 | 0x31 | 0x32 | 0x33 | 0x34 => some 3
  | _ => none

/-- The 32-byte frame header (R264). -/
def frameHeader (f : Frame) : List Byte :=
  toBytes 4 0 ++ toBytes 2 f.dst ++ toBytes 2 f.src ++ toBytes 4 f.tag ++
    toBytes 4 (f.ttl % 256 + f.ctx % 64 * 2 ^ 18 + f.kind % 256 * 2 ^ 24) ++ toBytes 4 f.epoch ++
    toBytes 6 f.addr ++ toBytes 3 f.body.length ++ toBytes 3 0

/-- Payload bytes of a frame at most (R264). -/
def frameRoom : Nat := 1048576

/-- A frame read from the bytes of its fragments; none when they hold less than its LENGTH, or its LENGTH or
size is more than a frame of its class may have (R264). -/
def parseFrame (cls port : Nat) (l : List Byte) : Option Frame :=
  let x := ofBytes (l.take 32)
  let len := bits x 231 208
  if l.length < 32 + len ∨ frameRoom < len ∨ (cls = 0 ∧ 64 < l.length) then none
  else some {
    kind := bits x 127 120, ctx := bits x 119 114, ttl := bits x 103 96, tag := bits x 95 64,
    src := bits x 63 48, dst := bits x 47 32, epoch := bits x 159 128, addr := bits x 207 160,
    cls := cls, port := port, frags := 0, body := (l.drop 32).take len }

/-- Bytes padded with zeros to a multiple of 16. -/
def pad16 (l : List Byte) : List Byte := l ++ List.replicate ((16 - l.length % 16) % 16) 0

/-- A list of bytes cut into pieces of 256. -/
def pieces : Nat → List Byte → List (List Byte)
  | 0, _ => []
  | n + 1, l => if l.length ≤ 256 then [l] else l.take 256 :: pieces n (l.drop 256)

/-- What tells the frames of a collective's step from other frames: its context, tag and step. -/
def stepNote (ctx tag step : Nat) : Nat := 1 + ctx + 64 * (tag + 2 ^ 32 * step)

/-- The note a frame's fragments carry. -/
def Frame.note (f : Frame) : Nat :=
  if f.kind = 0x20 then stepNote f.ctx f.tag (bits (ofBytes (f.body.take 32)) 175 160) else 0

/-- The member whose split stops a frame: of one made here its destination, but for an answer of REFUSED (R279, log
entry 100). -/
def Frame.stopsFor (f : Frame) : Option Nat := if f.port = 24 ∧ f.kind ≠ 0x34 then some f.dst else none

/-- The fragments of a frame, stream 0 of its class (R264, log entry 22). -/
def fragsOf (f : Frame) : List Frag :=
  let l := pad16 (frameHeader f ++ f.body)
  let ps := pieces (l.length / 256 + 1) l
  (List.range ps.length).map fun i =>
    { note := f.note, dst := f.stopsFor, cls := f.cls, seq := 0, stream := 0, first := decide (i = 0),
      last := decide (i + 1 = ps.length), payload := ps.getD i [] }

/-- Bytes a port holds queued in a class (R275). -/
def Port.queued (x : Port) (cls : Nat) : Nat :=
  ((x.outq.filter fun f => decide (f.cls = cls)).map (·.payload.length)).sum

/-- The ports of a member's route-table entry that fit (R275). -/
def State.routePorts (s : State) (m : Nat) (ok : Nat → Bool) : List Nat :=
  (List.range 24).filter fun p => (Tab.get 0 s.routes m).testBit p && ok p

/-- A member is marked unreachable (R275). -/
def State.markUnreachable (s : State) (m : Nat) : State :=
  { s with membership := { s.membership with unreachable := addOnce s.membership.unreachable m } }

/-- A signal that cannot be delivered: recorded and counted (R335). -/
def State.lostSignal (s : State) (c : Nat) : State :=
  (s.bump 0x6102 2 1).recordEvent ⟨0xA001, .none_, s.mgmtLoc, 0, 0xFF, c, 0⟩

/-- A frame of this device's own that cannot be delivered: its destination is marked unreachable, and
a signal among them is recorded and counted (R275, R335). -/
def State.undelivered (s : State) (f : Frame) : State :=
  let t := s.markUnreachable f.dst
  if f.kind = 0x01 then t.lostSignal f.ctx else t

/-- The bytes of a port's outbound queue that a class may fill: 15 MiB in all, divided so that no class waits on
another's frames there (R265, R272, log entry 128). -/
def queueRoom (cls : Nat) : Nat := if cls = 0 then 49152 else 5226496

/-- The port whose outbound queue holds a frame that waits for a port of its route to be usable: the lowest that is
enabled and not retired (R275, log entry 128). -/
def State.waitPort (s : State) (f : Frame) : Option Nat := (s.routePorts f.dst s.portOpen).head?

/-- Bytes of a frame as fragments carry it. -/
def Frame.size (f : Frame) : Nat := (pad16 (frameHeader f ++ f.body)).length

/-- Bytes of a class in a port's outbound queue, those of the frames that wait there included (R272, R275). -/
def State.queuedAt (s : State) (p cls : Nat) : Nat :=
  (s.port p).queued cls +
    ((s.waiting.filter fun w => decide (w.1.cls = cls ∧ s.waitPort w.1 = some p)).map (·.1.size)).sum

/-- A frame has room in a port's outbound queue (R272). -/
def State.hasRoom (s : State) (f : Frame) (p : Nat) : Bool := decide (s.queuedAt p f.cls + f.size ≤ queueRoom f.cls)

/-- Credits of a class that a port owes its partner. -/
def State.oweCredits (s : State) (p cls n : Nat) : State :=
  let x := s.port p
  s.setPort p { x with giveBack := setAt x.giveBack cls (x.giveBack.getD cls 0 + n) }

/-- A frame leaves inbound staging: the credits it held go back (R267). -/
def State.unstage (s : State) (f : Frame) : State :=
  if f.frags = 0 then s
  else
    let x := s.port f.port
    let n := min f.frags (x.staged.getD f.cls 0)
    ((s.setPort f.port { x with staged := setAt x.staged f.cls (x.staged.getD f.cls 0 - n) }).oweCredits f.port f.cls n).sendFill
      f.port

/-- A frame handed to a port; where its outbound queue has no room, the frame waits for some, one of this device's own
with its command, another's in inbound staging (R267, R272). -/
def State.toPort (s : State) (f : Frame) (p : Nat) : State :=
  if s.hasRoom f p then
    let t := s.unstage f
    let x := t.port p
    (t.setPort p { x with outq := x.outq ++ fragsOf f }).flush p
  else { s with backlog := s.backlog ++ [f] }

/-- The usable port of a member's route with the fewest queued bytes of a class, the lowest port on ties
(R275). -/
def State.bestPort (s : State) (m cls : Nat) : Option Nat :=
  minBy (fun p => (s.port p).queued cls) (s.routePorts m s.portUsable)

/-- A frame sent without the answer a failure to forward sends back: delivered here, handed to a
port, left waiting since a time, or undeliverable (R275); the flag says it could not be sent. -/
def State.offer (s : State) (f : Frame) (since : Nat) : State × Bool :=
  if f.dst = s.membership.self then ({ s with inbox := s.inbox ++ [f] }, false)
  else
    match s.bestPort f.dst f.cls with
    | some p => (s.toPort f p, false)
    | none =>
      match s.waitPort f with
      | some p =>
        if s.hasRoom f p then
          let t := s.unstage f
          ({ t with waiting := t.waiting ++ [({ f with frags := 0 }, since)] }, false)
        else ({ s with backlog := s.backlog ++ [f] }, false)
      | none => (s, true)

/-- A frame of this device's own sent (R275). No data frame but an answer of REFUSED goes to a member that is
split: the operation that needs it fails there (R279, log entry 100). -/
def State.sendFrame (s : State) (f : Frame) : State :=
  if f.dst ∈ s.membership.split ∧ f.kind ≠ 0x34 then (if f.kind = 0x01 then s.lostSignal f.ctx else s)
  else
    let r := s.offer f s.now
    if r.2 then r.1.undelivered f else r.1

/-- A frame of this device to a member: its epoch and own member ID, 16 hops to go (R264, R278). -/
def State.mkFrame (s : State) (kind ctx dst tag addr : Nat) (body : List Byte) : Frame :=
  { kind := kind, ctx := ctx, ttl := 16, tag := tag, src := s.membership.self, dst := dst,
    epoch := s.membership.epoch, addr := addr, cls := (kindClass kind).getD 3,
    port := 24, frags := 0, body := body }

/-- REFUSED with the tag and a status code (R265, R276, R330). -/
def State.sendRefused (s : State) (f : Frame) (st : Status) : State :=
  s.sendFrame (s.mkFrame 0x34 f.ctx f.src f.tag 0 (toBytes 4 f.tag ++ toBytes 1 st.code))

/-- NO_ROUTE to the source of a frame that cannot be forwarded: its tag and destination (R275). -/
def State.sendNoRoute (s : State) (f : Frame) : State :=
  s.sendFrame (s.mkFrame 0x33 f.ctx f.src f.tag 0 (toBytes 4 f.tag ++ toBytes 2 f.dst))

/-- A frame refused or dropped here, recorded (class 0xA). -/
def State.noteRefused (s : State) (ctx : Nat) : State :=
  s.recordEvent ⟨0xA002, .none_, s.mgmtLoc, 0, 0xFF, ctx, 0⟩

/-- A data frame is accepted: its source a current member that is not split, its epoch the current one
or the one immediately before it (R278, R279). -/
def State.acceptsFrame (s : State) (f : Frame) : Bool :=
  decide (f.src ∈ s.membership.members) && decide (f.src ∉ s.membership.split) &&
    (decide (f.epoch = s.membership.epoch) || decide (f.epoch = s.membership.prevEpoch))

/-- A frame sent that may be another device's: one that cannot be forwarded is answered with NO_ROUTE, this
device's own is undeliverable (R275). -/
def State.forward (s : State) (f : Frame) (since : Nat) : State :=
  let r := s.offer f since
  if !r.2 then r.1 else if f.port = 24 then r.1.undelivered f else (r.1.unstage f).sendNoRoute f

/-- The frames that wait for a port, or for room in the queue of one, tried again; one that no port of its route
can take any more fails at once (R272, R275). -/
def State.retryWaiting (s : State) : State :=
  let t := s.waiting.foldl (fun (t : State) w => t.forward w.1 w.2) { s with waiting := [] }
  s.backlog.foldl (fun (t : State) f => t.forward f t.now) { t with backlog := [] }

/-- A frame a collective of this device still needs is refused: the collective completes with
MEMBERSHIP_CHANGED (R306). -/
def State.collRefused (s : State) (f : Frame) : State :=
  if f.kind ≠ 0x20 then s
  else s.failWhere fun c => decide (f.src ∈ c.needs) && s.colls.any fun x =>
    decide (x.cmd = some c.id ∧ x.ctx = f.ctx ∧ x.tag = f.tag)

/-- A whole frame arrived at a port: delivered, refused, dropped or forwarded (R264, R275, R278). -/
def State.arrive (s : State) (p : Nat) (f : Frame) : State :=
  if f.dst = s.membership.self then
    if (kindClass f.kind).isNone then (s.unstage f).countDrop p
    else if s.acceptsFrame f then { s with inbox := s.inbox ++ [f] }
    else
      ((((s.unstage f).countDrop p).noteRefused f.ctx).sendRefused f .membershipChanged).collRefused f
  else if f.ttl ≤ 1 then ((s.unstage f).countDrop p).sendNoRoute f
  else s.forward { f with ttl := f.ttl - 1 } s.now

/-- The frames of a port that are not wholly sent: their first fragments are queued or held for replay, their
last is still queued. -/
def Port.unsent (x : Port) (p : Nat) : List Frame :=
  let l := (x.replay.map fun f => (f, false)) ++ x.outq.map fun f => (f, true)
  ((List.range 4).map fun c =>
    ((l.filter fun y => decide (y.1.cls = c)).foldl (fun (a : List Frame × Option (List Byte)) y =>
      let bytes := if y.1.first then some y.1.payload else a.2.map (· ++ y.1.payload)
      if !y.1.last then (a.1, bytes)
      else (a.1 ++ (if y.2 then (bytes.bind (parseFrame c p)).toList else []), none)) ([], none)).1).flatten

/-- A port's link starts afresh: the frames that came by it and are still in staging hold no credits of the new one
(R267). -/
def State.creditsGone (s : State) (p : Nat) : State :=
  let clear := fun (f : Frame) => if f.port = p then { f with frags := 0 } else f
  { s with
    inbox := s.inbox.map clear
    backlog := s.backlog.map clear }

/-- A port is down, with nothing of its link left. -/
def State.portDown (s : State) (p : Nat) : State :=
  let x := s.port p
  ((s.setPort p { Port.down with triggers := x.triggers, failed := x.failed, split := x.split }).creditsGone
    p).startTests

/-- A port out of service: what it had not wholly sent takes the other ports (R271, R275, log entry 69). -/
def State.moveTraffic (s : State) (p : Nat) : State :=
  let own := fun (f : Frame) => if f.src = s.membership.self then { f with port := 24 } else f
  ((((s.port p).unsent p).map own).foldl (fun (t : State) f => t.forward f t.now) (s.portDown p)).retryWaiting

/-! ### What a split and a lost staging buffer take with them -/

/-- The fragments of a queue without the frames that a split with a member stops; of a frame begun the rest goes on
(R279). -/
def keepFrags (m : Nat) (l : List Frag) : List Frag :=
  (l.foldl (fun (a : List Frag × Tab Bool) f =>
    let drop := if f.first then decide (f.dst = some m) else Tab.get false a.2 f.cls
    (if drop then a.1 else a.1 ++ [f], Tab.put false a.2 f.cls drop)) ([], [])).1

/-- Frames of this device to a member that are not on their way are dropped as it is split; signals among them are
recorded and counted (R279, R335). -/
def State.dropFramesTo (s : State) (m : Nat) : State :=
  let stops := fun (f : Frame) => decide (f.stopsFor = some m)
  let queued := ((List.range 24).map fun p => (s.port p).unsent p).flatten.filter fun f =>
    decide (f.src = s.membership.self ∧ f.dst = m ∧ f.kind = 0x01)
  let lost := queued ++ (s.backlog ++ s.waiting.map (·.1)).filter fun f => stops f && decide (f.kind = 0x01)
  let t := (List.range 24).foldl (fun (t : State) p =>
    let x := t.port p
    if x.outq = [] then t else t.setPort p { x with outq := keepFrags m x.outq }) s
  let t := { t with
    backlog := t.backlog.filter fun f => !stops f
    waiting := t.waiting.filter fun w => !stops w.1 }
  lost.foldl (fun (t : State) f => t.lostSignal f.ctx) t

/-- A frame lost with the staging buffer it lay in: the operation that needs it completes with MEMBERSHIP_CHANGED, a
collective not yet released among them; a signal of this device is recorded and counted (R279, R335, R431). -/
def State.frameLost (s : State) (f : Frame) : State :=
  let coll := fun (c : Cmd) => isCollective c.desc &&
    decide (f.kind = 0x20 ∧ c.id.ctx = f.ctx ∧ fld c.desc 223 192 = f.tag)
  let t := s.failWhere fun c => coll c ||
    s.asks.any (fun a => decide (a.cmd = c.id ∧ a.tag = f.tag ∧ f.kind ≠ 0x20)) ||
    s.abortWaits.any fun w => decide (w.id = c.id ∧ w.remote.isSome ∧ w.tag = f.tag)
  let early := t.cmds.filter fun (c : Cmd) => decide (c.phase = Phase.admitted) && coll c
  let t := early.foldl (fun (t : State) c => (t.finish c.id .membershipChanged).tally c.id.ctx 0x7140 25 1) t
  if f.kind = 0x01 ∧ f.src = s.membership.self then t.lostSignal f.ctx else t

/-- A link die retired: the frames in the staging of its ports are lost (R431). -/
def State.loseStaging (s : State) (p : Nat) : State :=
  let x := s.port p
  let parts := x.partial_.filterMap fun k => parseFrame (k.1 / 256) p (k.2.1 ++ List.replicate frameRoom 0)
  let here := fun (f : Frame) => decide (f.port = p)
  let gone := x.unsent p ++ parts ++ (s.inbox ++ s.backlog).filter here ++
    (s.waiting.filter fun w => decide (s.waitPort w.1 = some p)).map (·.1)
  let t := { s with
    inbox := s.inbox.filter fun f => !here f
    backlog := s.backlog.filter fun f => !here f
    waiting := s.waiting.filter fun w => decide (s.waitPort w.1 ≠ some p) }
  gone.foldl State.frameLost (t.portDown p)

/-- A port enabled or disabled: a disabled one carries nothing, what it had not wholly sent takes the other ports
(R275, R282, log entry 79). -/
def State.portSwitched (s : State) (p : Nat) : State :=
  if s.objv 0x5202 (p + 1) = 1 then s.retryWaiting else s.moveTraffic p

/-- The job tag written: partners may be foreign no longer (R273, R275). -/
def State.portsFlushed (s : State) : State :=
  ((List.range 24).foldl (fun (t : State) p => t.flush p) s).retryWaiting

/-! ### Rows: fragments -/

/-- What a fragment's header brings: an acknowledgement that frees replay entries, and credits; frames that wait
for room in a queue are tried again (R267, R268, R272). -/
def State.applyHeader (s : State) (p h : Nat) : State :=
  let x := s.port p
  let ack := bits h 51 40
  let kept := match x.replay.findIdx? fun f => decide (f.seq = ack) with
    | some i => x.replay.drop (i + 1)
    | none => x.replay
  let cls := bits h 39 38
  let t := (s.setPort p { x with
    replay := kept,
    credits := setAt x.credits cls (x.credits.getD cls 0 + bits h 37 28) }).flush p
  if t.backlog = [] then t else t.retryWaiting

/-- A data fragment discarded: counted, and answered by one NAK that names the SEQ expected
(R268). -/
def State.discardFrag (s : State) (p : Nat) : State :=
  let s := s.countDrop p
  let x := s.port p
  if x.nakked then s
  else ((s.setPort p { x with nakked := true }).sendControl p 0x03 x.recvSeq)

/-- A collective of a context and a tag. -/
def State.coll (s : State) (ctx tag : Nat) : Option Coll :=
  s.colls.find? fun x => decide (x.ctx = ctx ∧ x.tag = tag)

/-- A collective of which nothing has come. -/
def Coll.idle (ctx tag : Nat) : Coll := ⟨none, ctx, tag, 0, false, 0, 0, [], false, [], [], (0, 0)⟩

/-- A collective replaced, or noted for the first time. -/
def State.setColl (s : State) (x : Coll) : State :=
  { s with colls := (s.colls.filter fun y => !decide (y.ctx = x.ctx ∧ y.tag = x.tag)) ++ [x] }

/-- A fragment of a frame that has come as far as `l` holds its credit in staging: but for the last slot of its class,
which serves the rest of a frame that goes on from there as it comes; a collective frame for this device whose
collective is not released fills that too (R267, R272, R288, log entry 129). -/
def State.holdsCredit (s : State) (p cls : Nat) (l : List Byte) : Bool :=
  let x := ofBytes (l.take 32)
  let most := if cls = 0 then 256 else (s.port p).split.getD (cls - 1) 0
  decide ((s.port p).staged.getD cls 0 + 1 < most) ||
    decide (bits x 47 32 = s.membership.self ∧ bits x 127 120 = 0x20 ∧
      ((s.coll (bits x 119 114) (bits x 95 64)).bind (·.cmd)) = none)

/-- A fragment that has come in order: its credit is held or goes back at once (R267). Answers the frame's bytes so
far and the credits it holds. -/
def State.takeFrag (s : State) (p cls key : Nat) (first : Bool) (payload : List Byte) : State × List Byte × Nat :=
  let x := s.port p
  let held := Tab.get ([], 0) x.partial_ key
  let s := if first && decide (0 < held.2) then
      (s.setPort p { x with staged := setAt x.staged cls (x.staged.getD cls 0 - held.2) }).oweCredits p cls held.2
    else s
  let x := s.port p
  let old := if first then ([], 0) else held
  let l := old.1 ++ payload
  if s.holdsCredit p cls l then
    (s.setPort p { x with staged := setAt x.staged cls (x.staged.getD cls 0 + 1) }, l, old.2 + 1)
  else (s.oweCredits p cls 1, l, old.2)

/-- DATA_FRAGMENT: a data fragment received on a port; `good` is false where its codeword was
uncorrectable. In order and of the length its header gives it is reassembled into its frame; otherwise it is
discarded with a NAK (R262 to R268, R273). -/
def execDataFragment (port : Nat) (hdr : BitVec 64) (payload : List Byte) (good : Bool) (s : State) :
    Host.Outcome State Fault Refusal :=
  let h := hdr.toNat
  let x := s.port port
  if !s.portUp port then .next s
  else if !s.portUsable port then .next (s.countDrop port)
  else if !good then .next (s.discardFrag port)
  else if !headerOk h || h.testBit 11 || decide (payload.length ≠ 16 * (bits h 15 12 + 1)) ||
      decide (bits h 63 52 ≠ x.recvSeq) then .next (s.discardFrag port)
  else
    let cls := bits h 19 18
    let key := cls * 256 + bits h 27 20
    let r := s.takeFrag port cls key (h.testBit 17) payload
    let last := h.testBit 16
    let y := r.1.port port
    let t := r.1.setPort port { y with
      recvSeq := (x.recvSeq + 1) % 4096
      nakked := false
      partial_ := Tab.put ([], 0) y.partial_ key (if last then ([], 0) else r.2) }
    let t := ((t.bump 0x7500 (25 + port) payload.length).applyHeader port h).sendFill port
    if last then
      match parseFrame cls port r.2.1 with
      | some f => .next (t.arrive port { f with frags := r.2.2 })
      | none => .next ((t.unstage ⟨0, 0, 0, 0, 0, 0, 0, 0, cls, port, r.2.2, []⟩).countDrop port)
    else .next t

/-- The fragments of the replay buffer from a place on, sent again in their order; a port whose partner is
foreign sends none (R268, R273). -/
def State.resend (s : State) (p i : Nat) : State :=
  if !s.portUsable p then s
  else
  let x := s.port p
  let l := x.replay.drop i
  let outs := l.map fun f => Output.fragment p (dataHeader f x.ack 0 0) f.payload
  ({ s with out := s.out ++ outs }).bump 0x7500 (97 + p) l.length

/-- NAK: the sender resends every fragment from the SEQ named (R268). -/
def execNak (port : Nat) (body : BitVec 128) (s : State) : Host.Outcome State Fault Refusal :=
  if s.portUp port then
    match (s.port port).replay.findIdx? fun f => decide (f.seq = bits body.toNat 11 0) with
    | some i => .next (s.resend port i)
    | none => .next s
  else .next s

/-- REPLAY_TIMEOUT: no acknowledgement has advanced for 2 µs while fragments are held (R268). -/
def execReplayTimeout (port : Nat) (s : State) : Host.Outcome State Fault Refusal :=
  if s.portUp port then .next (s.resend port 0) else .next s

/-- FILL_CONTROL_FRAGMENT: the header of a control fragment delivers its acknowledgement and credits;
a fragment that fails its CRC, or of a reserved type, is discarded and counted (R263, R267). -/
def execFillControlFragment (port : Nat) (hdr : BitVec 64) (s : State) :
    Host.Outcome State Fault Refusal :=
  let h := hdr.toNat
  if !s.portUp port then .next s
  else if !headerOk h || !h.testBit 11 then .next (s.countDrop port)
  else if 0x06 < bits h 59 52 then .next ((s.countDrop port).applyHeader port h)
  else .next (s.applyHeader port h)

/-! ### Rows: partners -/

/-- The lanes of a port not on the deadwood list (R269). -/
def State.goodLanes (s : State) (p : Nat) : Nat :=
  ((List.range 8).map fun l => if s.retired (.lane p l) then 0 else 2 ^ l).sum

/-- Lanes in a mask. -/
def laneCount (m : Nat) : Nat := ((List.range 8).filter fun l => m.testBit l).length

/-- The HELLO a port sends (R263, R273). -/
def State.helloOf (s : State) (p : Nat) : Nat :=
  (s.port p).mask % 256 + p * 2 ^ 8 + s.membership.self * 2 ^ 16 + s.membership.epoch * 2 ^ 32 +
    s.objv 0x5207 1 * 2 ^ 64 + s.server.serial * 2 ^ 96

/-- HELLO: the partner's identity is recorded, and frames that wait are tried again (R273, R275). -/
def execHello (port : Nat) (body : BitVec 128) (s : State) : Host.Outcome State Fault Refusal :=
  if s.portUp port then
    let b := body.toNat
    let x := s.port port
    let who : Partner := ⟨bits b 31 16, bits b 127 96, bits b 15 8, bits b 95 64, bits b 63 32, bits b 7 0⟩
    .next (((s.setPort port { x with partner := some who }).flush port).retryWaiting)
  else .next s

/-- HELLO_TIMER: an up port sends HELLO each millisecond (R273). -/
def execHelloTimer (port : Nat) (s : State) : Host.Outcome State Fault Refusal :=
  if s.portUp port then .next (s.sendControl port 0x01 (s.helloOf port)) else .next s

/-- The BEACON a device sends (R263). -/
def State.beaconOf (s : State) : Nat :=
  s.membership.members.length * 2 ^ 32 + s.membership.self * 2 ^ 48 + s.membership.digest * 2 ^ 64 +
    s.membership.epoch * 2 ^ 96

/-- The members a BEACON of the current epoch with another digest makes split, recorded; what needs them
completes with MEMBERSHIP_CHANGED (R279). -/
def State.meetBeacons (s : State) : State :=
  s.membership.beacons.foldl (fun (t : State) b =>
    if b.epoch = t.membership.epoch ∧ b.digest ≠ t.membership.digest ∧ b.member ∉ t.membership.split then
      let u := { t with membership := { t.membership with split := t.membership.split ++ [b.member] } }
      ((u.recordEvent ⟨0x4005, .port b.port, 8 + b.port / 3, 4, 0xFF, 0xFF, 0⟩).failNeeds
        fun x => decide (x = b.member)).dropFramesTo b.member
    else t) s

/-- BEACON: what a partner announces is kept, for it may come before this device enters that epoch; one of the
same epoch and another digest is split (R279, log entry 101). -/
def execBeacon (port : Nat) (body : BitVec 128) (s : State) : Host.Outcome State Fault Refusal :=
  if s.portUp port then
    let b := body.toNat
    let new : Beacon := ⟨bits b 63 48, port, bits b 127 96, bits b 95 64⟩
    let old := s.membership.beacons.filter fun x => decide (x.member ≠ new.member)
    .next { s with membership := { s.membership with beacons := old ++ [new] } }.meetBeacons
  else .next s

/-- The request of an ECHO exchange, with its send time (R263). -/
def State.askEcho (s : State) (p : Nat) : State :=
  let n := s.now % 2 ^ 32
  (s.setPort p { s.port p with echo := some n }).sendControl p 0x06 (n * 2 ^ 96)

/-! ### Rows: lanes and training -/

/-- The codewords a port has counted: every lane in service carries 224 Gbit/s, a codeword is 5,440 bits (R259, R262,
R270). -/
def State.cwTotal (s : State) (p : Nat) : Nat :=
  let x := s.port p
  x.codewords + (s.now - x.cwAt) * (224 * laneCount x.mask) / 5440

/-- The codeword count of a port as LANE names it (R270). -/
def State.cwCount (s : State) (p : Nat) : Nat := s.cwTotal p % 1024

/-- The next codeword of a port that a count of 10 bits names (R270). -/
def State.cwNext (s : State) (p cw : Nat) : Nat := s.cwTotal p + (cw + 1024 - s.cwCount p) % 1024

/-- The lanes of a port in service: those it sends on, before it is up those not retired (R269, R271). -/
def State.lanesUp (s : State) (p : Nat) : Nat :=
  if (s.port p).up then laneCount ((s.port p).mask &&& s.goodLanes p) else laneCount (s.goodLanes p)

/-- The tests and calibrations of retired lanes and ports are dropped. -/
def State.dropLaneTests (s : State) : State :=
  let gone := fun (u : UnitId) => decide (u.kind = 0x08 ∨ u.kind = 0x09) && s.retired u
  { s with recorder := { s.recorder with
      tests := s.recorder.tests.filter fun x => !gone x.unit
      calibs := s.recorder.calibs.filter fun x => !gone x.unit } }.startTests

/-- A port with fewer than four lanes in service is retired, entered in the deadwood list, and its traffic takes
the other ports (R271). -/
def State.checkPort (s : State) (p : Nat) : State :=
  if s.retired (.port p) || decide (4 ≤ s.lanesUp p) then s
  else ((s.retire (.port p) ⟨0x4003, .port p, 8 + p / 3, 2, 0xFF, 0xFF, 0⟩).moveTraffic p).dropLaneTests

/-- A lane mask in force on a port, its codewords counted on, recorded as narrowed or widened; the test of a lane it
excludes starts (R269 to R271). -/
def State.setLanes (s : State) (p mask : Nat) (later : List LaneChange) : State :=
  let old := (s.port p).mask
  let t := s.setPort p { s.port p with
    mask := mask, changes := later, codewords := s.cwTotal p, cwAt := s.now }
  ((t.recordEvent ⟨0x4002, .port p, 8 + p / 3, if laneCount mask < laneCount old then 4 else 0, 0xFF,
    0xFF, mask⟩).checkPort p).startTests

/-- The lane mask a port will have once the changes under way are in force (R270). -/
def Port.maskAhead (x : Port) : Nat := (x.changes.getLast?.map (·.mask)).getD x.mask

/-- LANE: the partner names a new lane mask and the codeword at which it applies; the device answers
with a LANE reply and switches there. A reply confirms a change this device has asked for (R270). -/
def execLane (port : Nat) (body : BitVec 128) (s : State) : Host.Outcome State Fault Refusal :=
  if s.portUp port then
    let b := body.toNat
    let x := s.port port
    if b.testBit 18 then
      let mine := fun (c : LaneChange) => decide (c.mask = bits b 7 0 ∧ c.due % 1024 = bits b 17 8)
      .next (s.setPort port { x with
        changes := x.changes.map fun c => if mine c then { c with confirmed := true } else c })
    else
      let t := s.setPort port { x with changes := x.changes ++ [⟨bits b 7 0, s.cwNext port (bits b 17 8), true⟩] }
      .next (t.sendControl port 0x04 (bits b 17 0 + 2 ^ 18 + b2n (b.testBit 19) * 2 ^ 19))
  else .next s

/-- The place of the change that comes into force next: the first that the partner has answered and whose codeword
has come (R270). -/
def State.laneDue (s : State) (p : Nat) : Option Nat :=
  (s.port p).changes.findIdx? fun c => c.confirmed && decide (c.due ≤ s.cwTotal p)

/-- LANE_WIDTH_CHANGE: both ends switch striping at the codeword announced, once the change is answered (R270). -/
def execLaneWidthChange (port : Nat) (s : State) : Host.Outcome State Fault Refusal :=
  let l := (s.port port).changes
  match (if s.portUp port then s.laneDue port else none).bind fun i => l[i]?.map fun c => (c.mask, l.drop (i + 1)) with
  | some (m, later) => .next (s.setLanes port m later)
  | none => .next s

/-- A width change asked for by this end: LANE with the mask and a codeword 256 ahead (R270). -/
def State.askLanes (s : State) (p mask : Nat) (test : Bool) : State :=
  let x := s.port p
  let due := s.cwTotal p + 256
  (s.setPort p { x with changes := x.changes ++ [⟨mask, due, false⟩] }).sendControl p 0x04
    (mask % 256 + due % 1024 * 2 ^ 8 + b2n test * 2 ^ 19)

/-- A port narrows to exclude a lane, where no change under way does already (R269, R271). -/
def State.narrow (s : State) (p l : Nat) (test : Bool) : State :=
  let m := (s.port p).maskAhead
  if s.portUp p && m.testBit l then s.askLanes p (m - 2 ^ l) test else s

/-- A lane that trained is readmitted by widening (R269). -/
def State.widen (s : State) (p l : Nat) : State :=
  let x := s.port p
  if s.portUp p && x.trained.testBit l && !x.maskAhead.testBit l && !s.retired (.lane p l) then
    s.askLanes p (x.maskAhead ||| 2 ^ l) false
  else s

/-- The credit split a training applies: the stored values when they sum to 65,280, otherwise the
ones last applied or the defaults, recorded (R484). -/
def State.creditSplit (s : State) (p : Nat) : List Nat × Bool :=
  let w := [s.objv 0x5208 4, s.objv 0x5208 5, s.objv 0x5208 6]
  let old := (s.port p).split
  if w.sum = 65280 then (w, true)
  else (if old = [0, 0, 0] then [16320, 24480, 24480] else old, false)

/-- The lanes of a port that failed training, each counted once more (R261). -/
def State.countFailed (s : State) (p lanes : Nat) : State :=
  let bad := (List.range 8).filter fun l => (s.goodLanes p).testBit l && !lanes.testBit l
  let x := s.port p
  s.setPort p { x with failed := bad.foldl (fun t l => Tab.modify 0 t l (· + 1)) x.failed }

/-- A port comes up with its trained lanes: link sequence, replay and reassembly start afresh, the codeword count
at a free value, the credits the partner grants of classes 1 to 3 are held and this end's own split is
applied, HELLO is sent (R261, R262, R267, R273, R484, log entry 102). -/
def State.comeUp (s : State) (p : Nat) (r : Training) : State :=
  let x := s.port p
  let c := s.creditSplit p
  let t := ((s.setPort p { Port.down with
    up := true, mask := r.lanes.toNat, trained := r.lanes.toNat, delay := x.delay, echo := x.echo, outq := x.outq,
    credits := [256, r.g1, r.g2, 65280 - r.g1 - r.g2], split := c.1, triggers := x.triggers, failed := x.failed,
    codewords := s.freeVal 0 % 1024, cwAt := s.now }).usedFree 1).creditsGone p
  let t := if c.2 then t
    else t.recordEvent ⟨0x4007, .port p, 8 + p / 3, 0, 0xFF, 0xFF, p⟩
  (t.sendControl p 0x01 (t.helloOf p)).flush p

/-- A port that may train: enabled, in service, down, in a device out of reset (R261, R448). -/
def State.mayTrain (s : State) (p : Nat) : Bool := s.portOpen p && s.pins.resetN && !(s.port p).up

/-- The lanes of a training that are not retired. -/
def State.trainedLanes (s : State) (p : Nat) (r : Training) : BitVec 8 := r.lanes &&& BitVec.ofNat 8 (s.goodLanes p)

/-- Lanes that have trained: the port measures its delay by ECHO and comes up at the answer (R261). -/
def State.measure (s : State) (p : Nat) (r : Training) : State :=
  (s.setPort p { s.port p with ready := some r }).askEcho p

/-- PORT_TRAINING: an enabled port that detects a signal trains, not before its retry time. Once every lane not
retired has trained it measures its delay by ECHO; with fewer it goes on. The credits that the partner does not grant
classes 1 and 2 are of class 3 (R261, R267, R448, log entry 102). -/
def execPortTraining (port : Nat) (r : Training) (s : State) : Host.Outcome State Fault Refusal :=
  let m := s.trainedLanes port r
  let x := s.port port
  if !s.mayTrain port || x.ready.isSome || !(x.trainStart.all fun t => decide (t ≤ s.now)) then .next s
  else
    let t := s.setPort port { x with trainStart := some (x.trainStart.getD s.now) }
    .next (if m.toNat = s.goodLanes port then t.measure port { r with lanes := m } else t)

/-- PORT_TRAINING_TIMEOUT: 500 ms after signal detection the port comes up on the lanes that did
train, four at least, after the delay measurement, or without it where that has had no answer; with fewer it stays
down and tries again after 1 s (R261, log entry 130). -/
def execPortTrainingTimeout (port : Nat) (r : Training) (s : State) : Host.Outcome State Fault Refusal :=
  let m := s.trainedLanes port r
  if !s.mayTrain port || !((s.port port).trainStart.any fun t => decide (t + 500000000 ≤ s.now)) then .next s
  else
    match (s.port port).ready with
    | some a => .next (s.comeUp port a)
    | none =>
      let t := s.countFailed port m.toNat
      if 4 ≤ laneCount m.toNat then .next (t.measure port { r with lanes := m })
      else .next (t.setPort port { t.port port with trainStart := some (s.now + 1000000000) })

/-- The answer to the ECHO of this port's training: half the round trip less the partner's turnaround is the one-way
delay, and a port that has trained comes up (R261, R281). -/
def State.delayKnown (s : State) (p b : Nat) : State :=
  let x := s.port p
  let round := (s.now + 2 ^ 32 - bits b 127 96) % 2 ^ 32
  let turn := (bits b 63 32 + 2 ^ 32 - bits b 95 64) % 2 ^ 32
  let t := s.setPort p { x with delay := (round - turn) / 2, echo := none }
  match x.ready with
  | some r => if s.mayTrain p then t.comeUp p r else t
  | none => t

/-- ECHO: a request is answered with the times of its receipt and reply; the reply to the request of this port's
training gives the one-way delay (R261, R263, R281). -/
def execEcho (port : Nat) (reply : Bool) (body : BitVec 128) (s : State) :
    Host.Outcome State Fault Refusal :=
  let b := body.toNat
  let n := s.now % 2 ^ 32
  if !s.portOpen port then .next s
  else if reply then
    .next (if (s.port port).echo = some (bits b 127 96) then s.delayKnown port b else s)
  else .next (s.sendControl port 0x06 (bits b 127 96 * 2 ^ 96 + n * 2 ^ 64 + n * 2 ^ 32))

/-- A lane retired: entered in the deadwood list, out of the port's lanes; a port left with fewer than four is
retired (R269, R271). -/
def State.retireLane (s : State) (p l : Nat) : State :=
  if s.retired (.lane p l) then s
  else
    let t := s.retire (.lane p l) ⟨0x4001, .lane p l, 8 + p / 3, 2, 0xFF, 0xFF, 0⟩
    ((t.dropLaneTests).checkPort p).narrow p l false

/-- LANE_ERROR_TRIGGER: the symbols a lane has had corrected within a millisecond are counted, and the uncorrectable
codeword of which it carried the most errored symbols. Where the symbols exceed LANE_SER_LIMIT, or for such a
codeword, the port narrows to exclude the lane, which then runs its loopback test; a fourth trigger within 3,600 s
retires it (R269, R282). -/
def execLaneErrorTrigger (port : Nat) (e : LaneErrors) (s : State) : Host.Outcome State Fault Refusal :=
  let lane := e.lane
  if s.portUp port && decide (lane < 8) && (s.port port).mask.testBit lane && !s.retired (.lane port lane) then
    let s := (s.bump 0x7500 (49 + port) e.symbols).bump 0x7500 (73 + port) (b2n e.worst)
    if !e.worst && decide (e.symbols ≤ s.objv 0x5209 1) then .next s
    else
      let x := s.port port
      let old := (Tab.get [] x.triggers lane).filter fun t => decide (s.now < t + 3600000000000)
      let l := old ++ [s.now]
      let u := (s.setPort port { x with triggers := Tab.put [] x.triggers lane l }).narrow port lane true
      .next (if 4 ≤ l.length then u.retireLane port lane
        else u.askTest ⟨.lane port lane, none, 0, false, 0x4001, false⟩)
  else .next s

/-! ### Rows: routing and membership -/

/-- ROUTE_WAIT_EXPIRY: frames that have waited 10 ms without a usable port cannot be sent: the
source marks the destination unreachable, a forwarding device answers NO_ROUTE (R275). -/
def execRouteWaitExpiry (s : State) : Host.Outcome State Fault Refusal :=
  let old := s.waiting.filter fun w => decide (w.2 + 10000000 ≤ s.now)
  let t := { s with waiting := s.waiting.filter fun w => decide (s.now < w.2 + 10000000) }
  .next (old.foldl (fun t w =>
    if w.1.src = t.membership.self then t.undelivered w.1 else t.sendNoRoute w.1) t)

/-- The digest of a member list (R277). -/
def memberDigest (l : List Nat) : Nat := crc32 ((l.map (toBytes 2)).flatten)

/-- The pending record takes effect; collectives that cannot complete on the old membership fail (R278,
R306). -/
def State.enterEpoch (s : State) (p : Pending) : State :=
  let gone := s.membership.members.filter fun m => decide (m ∉ p.members)
  let t := { s with
    membership := {
      epoch := p.epoch, self := p.self, members := p.members, digest := memberDigest p.members,
      prevEpoch := s.membership.epoch,
      prevSelf := if s.membership.self = 0xFFFF then s.membership.prevSelf else s.membership.self,
      pending := none, outcome := s.membership.outcome,
      unreachable := [], split := [], beacons := s.membership.beacons },
    fetches := s.fetches.filter fun f => decide (f.member ∉ gone) }
  let t := t.dropHolds fun m => decide (m ∈ gone)
  let t := ((List.range 24).filter t.portUp).foldl (fun u q => u.sendControl q 0x05 t.beaconOf) t
  let t := t.recordEvent (t.info 0x4004 0 p.epoch)
  (((t.failNeeds fun m => decide (m ∈ gone)).failWhere t.collPast).meetBeacons).retryWaiting

/-- MEMBERSHIP_EPOCH_CHANGE: at EFFECTIVE the pending record takes effect; in EXPIRED or
COUNT_PENDING it is discarded and recorded (R278, R280). -/
def execMembershipEpochChange (s : State) : Host.Outcome State Fault Refusal :=
  match s.membership.pending with
  | none => .next s
  | some p =>
    if !atOrAfter s.angle (strideAngle p.effective) then .next s
    else if s.pace.mode.running then
      .next (if s.mayAct (strideAngle p.effective, 1) then s.enterEpoch p else s)
    else if s.pace.mode.lost then
      let t := { s with membership := { s.membership with pending := none, outcome := 0x0B } }
      .next (t.recordEvent (t.info 0x4006 0 0))
    else .next s

/-- A membership record from its bytes; none where it is malformed (R277). -/
def parseMembership (l : List Byte) : Option Pending :=
  let n := ofBytes ((l.drop 10).take 2)
  let ms := (List.range n).map fun k => ofBytes ((l.drop (16 + 2 * k)).take 2)
  let self := ofBytes ((l.drop 8).take 2)
  if l.length = 16 + 2 * n ∧ 1 ≤ n ∧ n ≤ 4096 ∧ ofBytes ((l.drop 12).take 4) = 0 ∧
      (ms.zip (ms.drop 1)).all (fun p => decide (p.1 < p.2)) ∧ ms.all (fun m => decide (m < 4096)) ∧
      (self = 0xFFFF ∨ self ∈ ms) then
    some ⟨ofBytes (l.take 4), ofBytes ((l.drop 4).take 4), self, ms⟩
  else none

/-- A membership record may become pending: a later epoch, and while the angle is known an effective
stride ahead of it and near (R32, R277). -/
def State.membershipOk (s : State) (p : Pending) : Bool :=
  decide (s.membership.epoch < p.epoch) &&
    (decide (s.pace.mode = .unlocked) ||
      (!atOrAfter s.angle (strideAngle p.effective) && nearAngle (strideAngle p.effective) s.angle))

end Sys2Proof.Machine
end

