-- ==== Sys2Proof/Machine/Flags.lean ====
section
/-! DEFINITION. What a command's checks and conversions report: the order of admission checks, and
the format-health counts. -/

namespace Sys2Proof.Machine

/-- The admission checks a descriptor fails (R12). -/
structure Checks where
  invalid : Bool
  denied : Bool
  keyBusy : Bool
  busy : Bool
  deriving DecidableEq, Repr

/-- No check fails. -/
def Checks.pass : Checks := ⟨false, false, false, false⟩

/-- A failed INVALID check. -/
def Checks.inv (b : Bool) : Checks := ⟨b, false, false, false⟩

/-- A failed ACCESS_DENIED check. -/
def Checks.deny (b : Bool) : Checks := ⟨false, b, false, false⟩

/-- Two sets of checks together. -/
def Checks.and (a b : Checks) : Checks :=
  ⟨a.invalid || b.invalid, a.denied || b.denied, a.keyBusy || b.keyBusy, a.busy || b.busy⟩

/-- A list of checks together. -/
def Checks.all (l : List Checks) : Checks := l.foldl Checks.and Checks.pass

/-- The first failing check in the order of R12; PACE_LOST stands between ACCESS_DENIED and
KEY_BUSY. -/
def Checks.first (c : Checks) (paceLost : Bool) : Option Status :=
  if c.invalid then some .invalid
  else if c.denied then some .accessDenied
  else if paceLost then some .paceLost
  else if c.keyBusy then some .keyBusy
  else if c.busy then some .busy
  else none

/-- Reserved bits of a descriptor that must be 0 (R8). -/
def reservedZero (d : Desc) (l : List (Nat × Nat)) : Bool := l.all fun p => decide (fld d p.1 p.2 = 0)

/-- A counter as it stands for a context's commands: the context's own where it is confidential (R373). -/
def State.tallied (s : State) (c index sub : Nat) : Nat :=
  if s.confidential c then Tab.get 0 s.trust.ownCounters (ownKey c index sub) else s.objv index sub

/-- A format-health counter advanced; it saturates at 2^64 − 1 (R116). -/
def State.tallyFull (s : State) (c index sub n : Nat) : State :=
  s.tally c index sub (min n (2 ^ 64 - 1 - s.tallied c index sub))

/-- The four format-health counters of a tensor group and a target format advanced by a count of conversions
and of those that overflowed, vanished and gave a NaN (R115 to R117). -/
def State.healthBy (s : State) (c group f n ovf vanish nan : Nat) : State :=
  let i := 0x7200 + group
  (((s.tallyFull c i (4 * f + 1) n).tallyFull c i (4 * f + 2) ovf).tallyFull c i (4 * f + 3) vanish).tallyFull c i
    (4 * f + 4) nan

/-- Conversions of a command with a tensor group counted against its target format (R115, R116). -/
def State.health (s : State) (c group f : Nat) (l : List Conv) : State :=
  let n := fun (p : Conv → Bool) => (l.filter p).length
  s.healthBy c group f l.length (n (·.ovf)) (n (·.vanish)) (n (·.nan))

/-- Conversions of a command that ended part-way counted: what became of them are free values (R116, log entry
89). -/
def State.healthOf (s : State) (c group f n : Nat) : State :=
  let k := fun (i : Nat) => s.freeVal i % (n + 1)
  (s.healthBy c group f n (k 0) (k 1) (k 2)).usedFree 3

/-- The conversions of a command that ended part-way, at most n: how many it had written is a free value too (R116,
log entry 89). -/
def State.healthPart (s : State) (c group f n : Nat) : State :=
  (s.usedFree 1).healthOf c group f (s.freeVal 0 % (n + 1))

end Sys2Proof.Machine
end

