-- ==== Sys2Proof/Machine/Operands.lean ====
section
/-! DEFINITION. Operand forms: regions of the address spaces and their checks, packed elements, rows
and tiles at a pitch. -/

namespace Sys2Proof.Machine

/-- The checks of a region of stack memory: presented range and alignment first, the context's memory
after (R229, R239, R258). -/
def State.stackRegion (s : State) (c a n align : Nat) : Checks :=
  ⟨!s.inStack a n || decide (a % align ≠ 0), !s.ctxMem c a n, false, false⟩

/-- The checks of a region of stack memory or of the host peer window. -/
def State.devRegion (s : State) (c a n align : Nat) : Checks :=
  if hostBase ≤ a then Checks.inv (!inHost a n || decide (a % align ≠ 0))
  else s.stackRegion c a n align

/-- A region of a core's local stores: the operand cache, or the tile registers, wholly inside one of
them (R58). -/
def inCore (a n : Nat) : Bool :=
  decide (a + n ≤ 0x400000) || (decide (0x400000 ≤ a) && decide (a + n ≤ coreBytes))

/-- The checks of a region of a core's local stores. -/
def coreRegion (a n align : Nat) : Checks := Checks.inv (!inCore a n || decide (a % align ≠ 0))

/-- The checks of a region at a place. -/
def State.region (s : State) (c : Nat) (p : Place) (a n align : Nat) : Checks :=
  match p with
  | .dev => s.stackRegion c a n align
  | .core _ => coreRegion a n align
  | .acc _ _ => Checks.inv (decide (2 ^ 20 < a + n) || decide (a % align ≠ 0))

/-- Two regions overlap. -/
def overlap (a n b m : Nat) : Bool := decide (a < b + m) && decide (b < a + n) && decide (0 < n ∧ 0 < m)

/-- Element n of w bits in the packed row at an address (R57, R95). -/
def State.elem (s : State) (p : Place) (row w n : Nat) : Nat :=
  let b := n * w
  bits (s.num p (row + b / 8) ((b % 8 + w + 7) / 8)) (b % 8 + w - 1) (b % 8)

/-- A row of codes of w bits packed into bytes, the first in the lowest bits (R57, R95). -/
def packCodes (w : Nat) (l : List Nat) : List Byte :=
  toBytes ((l.length * w + 7) / 8) (l.foldr (fun c acc => c % 2 ^ w + 2 ^ w * acc) 0)

/-- The codes of n packed elements of w bits in a row of bytes (R57, R95). -/
def codesOf (w n : Nat) (l : List Byte) : List Nat :=
  let x := ofBytes l
  (List.range n).map fun i => (x >>> (w * i)) % 2 ^ w

/-- A row of codes packed into bytes; the spare half of a last byte is a free value (log entry 24). -/
def State.packRow (s : State) (w : Nat) (l : List Nat) : List Byte :=
  packCodes w (if w * l.length % 8 = 4 then l ++ [s.freeVal 0] else l)

/-- The core a TARGET field names: bits 6:4 the Kyoty die, bits 3:0 the core on it (R89). -/
def coreOf (t : Nat) : Nat := t / 16 * 12 + t % 16

/-- A TARGET field names a core (R89). -/
def coreOk (t : Nat) : Bool := decide (t % 16 < 12)

/-- Bytes of a row of n elements of w bits. -/
def rowBytes (w n : Nat) : Nat := (n * w + 7) / 8

/-- Bytes spanned by rows of n bytes at a pitch. -/
def spanBytes (rows pitch n : Nat) : Nat := if rows = 0 then 0 else (rows - 1) * pitch + n

/-- A read of any row of a tile meets poison. -/
def State.rowsBad (s : State) (p : Place) (a rows pitch n : Nat) : Bool :=
  (List.range rows).any fun r => s.readBad p (a + r * pitch) n

/-- The checks of rows of stack memory at a pitch: every row in the context's memory (R92, R239). -/
def State.stackRows (s : State) (c a rows pitch n : Nat) : Checks :=
  ⟨!s.inStack a (spanBytes rows pitch n),
    !((List.range rows).all fun i => s.ctxMem c (a + i * pitch) n), false, false⟩

/-- Rows of bytes written at a pitch. -/
def State.setRows (s : State) (p : Place) (a pitch : Nat) (rows : List (List Byte)) : State :=
  ((List.range rows.length).zip rows).foldl (fun t r => t.set p (a + r.1 * pitch) r.2) s

/-- A write of any row of a tile meets poison it does not clear. -/
def State.rowsWriteBad (s : State) (p : Place) (a rows pitch n : Nat) : Bool :=
  (List.range rows).any fun r => s.writeBad p (a + r * pitch) n

/-- Rows at a pitch written with free values. -/
def State.scrambleRows (s : State) (p : Place) (a rows pitch n : Nat) : State :=
  (List.range rows).foldl (fun t r => t.scramble p (a + r * pitch) n) s

/-- An operand's extent: rows of n bytes at a pitch in a store. -/
structure Extent where
  place : Place
  addr : Nat
  rows : Nat
  pitch : Nat
  n : Nat
  deriving DecidableEq, Repr

/-- One run of bytes as an extent. -/
def Extent.flat (p : Place) (a n : Nat) : Extent := ⟨p, a, 1, 0, n⟩

/-- An extent lies where its place has bytes: of device memory, in the presented range or the host window. -/
def State.extentHere (s : State) (r : Extent) : Bool :=
  decide (r.place ≠ .dev) || inHost r.addr (spanBytes r.rows r.pitch r.n) ||
    s.inStack r.addr (spanBytes r.rows r.pitch r.n)

/-- Extents whose contents are undefined from here on: every byte a free value. -/
def State.scrambleAll (s : State) (l : List Extent) : State :=
  (l.filter s.extentHere).foldl (fun t r => t.scrambleRows r.place r.addr r.rows r.pitch r.n) s

/-- The outputs of a command that one not ordered against it has met are undefined (R99, R119). -/
def State.spoil (s : State) (c : Cmd) (l : List Extent) : State := if c.spoilt then s.scrambleAll l else s

/-- A read of any extent meets poison (R244). -/
def State.regionsBad (s : State) (l : List Extent) : Bool :=
  l.any fun r => s.rowsBad r.place r.addr r.rows r.pitch r.n

/-- A write of any extent meets poison it does not clear (R244). -/
def State.regionsWriteBad (s : State) (l : List Extent) : Bool :=
  l.any fun r => s.rowsWriteBad r.place r.addr r.rows r.pitch r.n

/-- Two extents touch a common byte. -/
def Extent.meets (a b : Extent) : Bool :=
  decide (a.place = b.place) &&
    overlap a.addr (spanBytes a.rows a.pitch a.n) b.addr (spanBytes b.rows b.pitch b.n) &&
    (List.range a.rows).any fun i => (List.range b.rows).any fun j =>
      overlap (a.addr + i * a.pitch) a.n (b.addr + j * b.pitch) b.n

/-! ### Taking a unit -/

/-- The core a stand or vector command targets (R89, R142). -/
def standCore (d : Desc) : Nat := coreOf (fld d 198 192)

/-- The order of a stand command: matrix instructions and zeroings in the first, drains and releases in
the second (R72). -/
def standOrder (d : Desc) : Nat :=
  if opcode d = 0x40 ∨ opcode d = 0x41 ∨ (opcode d = 0x43 ∧ fld d 203 202 = 0) then 1 else 2

/-- The engine an embedding command names (R149). -/
def engineOf (d : Desc) : Nat :=
  match opcode d with
  | 0x81 => fld d 502 499
  | 0x82 => fld d 303 300
  | 0x83 => fld d 432 429
  | 0x84 => fld d 383 380
  | 0x85 => fld d 341 338
  | _ => fld d 285 282

/-- The unit a command competes for with others: a stand in each of its two orders, a vector engine, an
embedding engine, a copy engine or a mover; none for the commands that others do not hold up so (R72, R118,
R149, R319, R361). -/
def State.unitSought (s : State) (d : Desc) : Option Nat :=
  let copy := fun (agent target : Nat) =>
    if agent = 2 then 900 + coreOf target
    else if s.retired (.copyEngine agent) then 800 + (1 - agent) else 800 + agent
  match opcode d with
  | 0x20 => some (copy (fld d 416 415) (fld d 414 408))
  | 0x21 => some (copy (fld d 400 399) (fld d 398 392))
  | 0x40 | 0x41 | 0x42 | 0x43 => some (2 * standCore d + standOrder d)
  | 0x60 | 0x61 | 0x62 | 0x63 => some (300 + standCore d)
  | 0x81 | 0x82 | 0x83 | 0x84 | 0x85 | 0x86 => some (600 + engineOf d)
  | _ => none

/-- The place of a unit's turns: of contexts at 64, of a context's queues below (R319). -/
def turnKey (u k : Nat) : Nat := u * 128 + k

/-- How soon a command's turn at a unit comes: its queue's PRIORITY, then the contexts in turn, then the
queues of a context in turn (R319). -/
def State.turnOf (s : State) (u : Nat) (c : Cmd) : Nat :=
  let prio := (Tab.get Queue.off s.queues (c.id.ctx * 16 + c.id.queue)).priority
  let ctx := (c.id.ctx + 64 - Tab.get 0 s.turns (turnKey u 64) % 64) % 64
  let q := (c.id.queue + 16 - Tab.get 0 s.turns (turnKey u c.id.ctx) % 16) % 16
  (prio * 64 + ctx) * 16 + q

/-- Another released command that waits for the same unit or holds it, one that is to stop among them until it
has stopped; at a unit that does not keep the dispatch order, not one that has begun and waits for another member
(R72, R80, R319, R424). -/
def State.rivals (s : State) (u : Nat) (c : Cmd) : List Cmd :=
  s.cmds.filter fun (x : Cmd) =>
    decide (x.phase = Phase.released ∧ x.id ≠ c.id ∧ s.unitSought x.desc = some u) &&
      (decide (u < 600) || x.testing.isSome || (decide (x.needs = []) &&
        !s.asks.any fun a => decide (a.cmd = x.id)))

/-- A command goes before another at a unit they share by turns: one that has met an error keeps the unit, then
PRIORITY, then the turns, then the order of dispatch within a queue (R319, R424). -/
def State.goesBefore (s : State) (u : Nat) (c x : Cmd) : Bool :=
  if decide (0 < c.errors) ≠ decide (0 < x.errors) then decide (0 < c.errors)
  else decide (s.turnOf u c < s.turnOf u x) ||
    (decide (s.turnOf u c = s.turnOf u x) && decide (c.rank ≤ x.rank))

/-- A command takes its unit before the others that compete for it: at a stand, in each of its two orders,
and at a vector engine in the order of dispatch; elsewhere in the order of `goesBefore` (R72, R80, R91, R118,
R319, R424, log entry 67). -/
def State.takesUnit (s : State) (c : Cmd) : Bool :=
  match s.unitSought c.desc with
  | none => true
  | some u => (s.rivals u c).all fun (x : Cmd) =>
      if u < 600 then decide (c.rank < x.rank) else s.goesBefore u c x

/-- A command has taken its unit: the next turn is another's (R319). -/
def State.took (s : State) (c : Cmd) : State :=
  match s.unitSought c.desc with
  | none => s
  | some u => { s with
      turns := Tab.put 0 (Tab.put 0 s.turns (turnKey u 64) ((c.id.ctx + 1) % 64)) (turnKey u c.id.ctx)
        ((c.id.queue + 1) % 16) }

/-! ### Regulators -/

/-- Extents of stack memory as accesses of a kind. -/
def toAccesses (write : Bool) (kind : Nat) (l : List Extent) : List Access :=
  (l.filter fun e => decide (e.place = .dev ∧ e.addr < hostBase ∧ 0 < e.rows * e.n)).map fun e =>
    ⟨e.addr, e.rows, e.pitch, e.n, write, kind⟩

/-- One run of bytes as a wide access, none where it lies in the host peer window (R237). -/
def oneAccess (a n : Nat) (write : Bool) : List Access := toAccesses write 0 [.flat .dev a n]

/-- Bytes at the data pins of one row of an access within a line: the lines or sectors it touches, and a line for
a sector it writes in part (R237, R241). -/
def Access.lines (x : Access) (a : Nat) : List (Nat × Nat) :=
  let unit := if x.kind = 0 then 64 else 32
  let l := (List.range ((a + x.n - 1) / unit + 1 - a / unit)).map fun k => unit * (a / unit + k)
  l.map fun y => (y, if x.write && !(decide (a ≤ y) && decide (y + unit ≤ a + x.n)) then 64 else unit)

/-- What accesses cost each stack's bucket of each partition, by stack × 16 + partition, in twentieths of a byte; the
internal path of the taproot costs nothing (R241, log entry 96). -/
def State.charges (s : State) (l : List Access) : Tab Nat :=
  if s.pool.rates.any fun k => s.regulated k.1 then
    let lines := ((l.filter fun x => decide (x.kind ≠ 2)).map fun x =>
      ((List.range x.rows).map fun i => x.lines (x.addr + i * x.pitch)).flatten).flatten
    lines.foldl (fun t y =>
      match s.partOf (y.1 / gib) with
      | some p =>
        let k := s.stackOf y.1 * 16 + p
        if s.regulated k then Tab.modify 0 t k (· + 20 * y.2) else t
      | none => t) []
  else []

/-- One stack's bucket of a partition pays a command as far as it holds (R241). -/
def State.payOne (s : State) (id : CmdId) (k : Nat) : State :=
  match s.findCmd id with
  | none => s
  | some c =>
    let n := min (Tab.get 0 c.owed k) (Tab.get 0 s.pool.buckets k)
    let t := s.updCmd id fun x => { x with owed := Tab.put 0 x.owed k (Tab.get 0 x.owed k - n) }
    { t with pool := { t.pool with buckets := Tab.put 0 t.pool.buckets k (Tab.get 0 t.pool.buckets k - n) } }

/-- A command waits for tokens of a bucket. -/
def State.bucketOwed (s : State) (k : Nat) : Bool := s.cmds.any fun c => decide (0 < Tab.get 0 c.owed k)

/-- A bucket pays the commands that wait for it, in the order of their release (R241). -/
def State.payBucket (s : State) (k : Nat) : State :=
  if s.bucketOwed k then
    ((List.range (s.releases + 1)).foldl (fun (t : State) r =>
      match t.cmds.find? fun c => decide (c.rank = r ∧ 0 < Tab.get 0 c.owed k) with
      | some c => t.payOne c.id k
      | none => t) s)
  else s

/-- The regulators let an access that no command's work makes through now: no command waits before it, and each bucket
holds its tokens, or is full where it needs more than that (R241, log entry 123). -/
def State.mayTake (s : State) (l : List Access) : Bool :=
  (s.charges l).all fun x => !s.bucketOwed x.1 &&
    decide (min x.2 (Tab.get (0, 0) s.pool.rates x.1).2 ≤ Tab.get 0 s.pool.buckets x.1)

/-- The tokens of an access that no command's work makes taken (R241). -/
def State.payFor (s : State) (l : List Access) : State :=
  (s.charges l).foldl (fun (t : State) x =>
    { t with pool := { t.pool with buckets := Tab.modify 0 t.pool.buckets x.1 (· - x.2) } }) s

/-- Accesses that no command's work makes are served now: no pseudo-channel of them is shut, and the regulators let
them through (R241, R243, R483). -/
def State.serves (s : State) (l : List Access) : Bool :=
  (l.all fun x => (List.range x.rows).all fun i => !s.grainWaits (x.addr + i * x.pitch) x.n) && s.mayTake l

/-! ### Units -/

/-- A command names a synchronization object of a retired Kyoty die: in its wait or signal, or as the object that its
sweep or its version's release signals (R253, R151, R431). -/
def State.objectGone (s : State) (d : Desc) : Bool :=
  (flag d 18 && s.syncDead (waitObj d)) || (flag d 19 && decide (fld d 191 176 = 0xFFFF) && s.syncDead (fld d 143 128)) ||
    (isOp 0x23 d && flag d 208 && s.syncDead (fld d 207 192)) ||
    (isOp 0x80 d && s.syncDead (fld d 271 256))

/-- What a command finds at the units it runs on: one retired, one busy with a test or a calibration,
or all free (R319, R427). -/
inductive UnitsAre where
  | gone
  | busy
  | free
  deriving DecidableEq, Repr

/-- What a list of units is found to be. -/
def State.unitsAre (s : State) (l : List UnitId) : UnitsAre :=
  if l.any s.retired then .gone else if l.any s.blocked then .busy else .free

/-- A row's work on the released command it names, on the units the command needs: it completes with
UNIT_RETIRED at a retired unit and waits at a busy one and for its turn (R319, R427). -/
def State.runOn (s : State) (id : CmdId) (p : Desc → Bool) (units : State → Cmd → List UnitId)
    (f : State → Cmd → State × Status) : State :=
  match s.runnable id p with
  | none => s
  | some c =>
    match s.unitsAre (units s c) with
    | .gone => s.finish id .unitRetired
    | .busy => s
    | .free =>
      if s.takesUnit c then
        let r := f (s.took c) c
        r.1.finish id r.2
      else s

/-- A row's work on the released command it names that may go on past one step: without a status the
command stays released (R319, R427). -/
def State.workOn (s : State) (id : CmdId) (p : Desc → Bool) (units : State → Cmd → List UnitId)
    (f : State → Cmd → State × Option Status) : State :=
  match s.runnable id p with
  | none => s
  | some c =>
    match s.unitsAre (units s c) with
    | .gone => s.finish id .unitRetired
    | .busy => s
    | .free =>
      if s.takesUnit c then
        match f (s.took c) c with
        | (t, some st) => t.finish id st
        | (t, none) => t
      else s

/-- Work that reads and writes extents: poison met by a read makes it DATA_SUSPECT with its outputs
undefined; of partial writes to poisoned sectors only those are discarded, and it is DATA_SUSPECT too (R10,
R244). -/
def State.withPoison (s : State) (reads writes : List Extent) (work : State → State × Status) :
    State × Status :=
  if s.regionsBad reads then (s.scrambleAll writes, .dataSuspect)
  else if s.regionsWriteBad writes then
    let r := work s
    (r.1, if r.2.clean then .dataSuspect else r.2)
  else work s

end Sys2Proof.Machine
end

