-- ==== Sys2Proof/Machine/Groups.lean ====
section
/-! DEFINITION. What a collective names: its group records and shares, its CHECK, and the frames it sends (chapter
Mapping Training Jobs and Collectives, R284 to R287 and R308). -/

namespace Sys2Proof.Machine

/-! ### Groups and shares -/

/-- A group record (R284). -/
structure Group where
  members : List Nat
  counts : Option (List Nat)
  deriving DecidableEq, Repr

/-- Where the counts of a group record of D members begin (R284). -/
def countsAt (d : Nat) : Nat := (8 + 2 * d + 7) / 8 * 8

/-- The group record at an address (R284). -/
def State.group (s : State) (a : Nat) : Group :=
  let d := s.devNum a 2
  { members := (List.range d).map fun k => s.devNum (a + 8 + 2 * k) 2,
    counts := if (s.devNum (a + 2) 1).testBit 0 then
        some ((List.range d).map fun k => s.devNum (a + countsAt d + 8 * k) 8)
      else none }

/-- The bytes of the group record at an address. -/
def State.groupSize (s : State) (a : Nat) : Nat :=
  let d := s.devNum a 2
  if (s.devNum (a + 2) 1).testBit 0 then countsAt d + 8 * d else 8 + 2 * d

/-- A group record cannot be read at admission: it leaves stack memory, or memory has lost it; the last is met again at
its release (R12, R309). -/
def State.groupShut (s : State) (c a : Nat) : Bool :=
  (s.stackRegion c a 8 256).invalid || s.devReadBad a 8 || s.devReadBad a (s.groupSize a)

/-- The checks of a group record (R284, R314); `own` asks for this device's own member ID. -/
def State.groupChecks (s : State) (c a : Nat) (own : Bool) : Checks :=
  if s.groupShut c a then s.stackRegion c a 8 256
  else
    let d := s.devNum a 2
    let g := s.group a
    (Checks.inv (decide (d = 0 ∨ 4096 < d ∨ 1 < s.devNum (a + 2) 1 ∨ s.devNum (a + 3) 5 ≠ 0) ||
      g.members.any (fun m => decide (4095 < m)) || decide (g.members.eraseDups ≠ g.members) ||
      (own && decide (s.membership.self ∉ g.members)))).and (s.stackRegion c a (s.groupSize a) 256)

/-- The share of ring position p: its units and its first unit (R285). -/
def share (rule u d : Nat) (counts : List Nat) (p : Nat) : Nat × Nat :=
  let q := u / d
  let x := u % d
  match rule with
  | 0 => (if p < x then q + 1 else q, p * q + min p x)
  | 1 => (if d - x ≤ p then q + 1 else q, p * q + (p - (d - x)))
  | _ => (counts.getD p 0, (counts.take p).sum)

/-- The share of a group's position. -/
def Group.share (g : Group) (rule u p : Nat) : Nat × Nat :=
  Machine.share rule u g.members.length (g.counts.getD []) p

/-- A rule that a group cannot follow: reserved, or explicit without counts that sum to U (R285). -/
def Group.ruleBad (g : Group) (rule u : Nat) : Bool :=
  decide (rule = 3) || (decide (rule = 2) && decide (g.counts.map List.sum ≠ some u))

/-- This device's ring position in a group. -/
def State.ringPos (s : State) (g : Group) : Nat := g.members.idxOf s.membership.self

/-! ### Descriptors -/

/-- A 40-bit address field in units of 256 bytes whose lowest bit is lo (R314). -/
def addrAt (d : Desc) (lo : Nat) : Nat := fld d (lo + 39) lo * 256

/-- The tag of a collective. -/
def collTag (d : Desc) : Nat := fld d 223 192

/-- The group records a collective names (R284, R314). -/
def State.collGroups (s : State) (d : Desc) : List Group :=
  match opcode d with
  | 0xC0 | 0xC1 | 0xC4 => [s.group (addrAt d 224)]
  | 0xC3 => [s.group (addrAt d 224), s.group (addrAt d 264)]
  | _ => []

/-- The members a collective names. -/
def State.collMembers (s : State) (d : Desc) : List Nat :=
  match opcode d with
  | 0xC2 => [fld d 431 416, fld d 447 432].filter (· ≠ 0xFFFF)
  | _ => ((s.collGroups d).map (·.members)).flatten.eraseDups

/-- The other members a collective names. -/
def State.collPeers (s : State) (d : Desc) : List Nat :=
  (s.collMembers d).filter (· ≠ s.membership.self)

/-- Units, unit bytes, format codes, mode and rules of a collective, 0 where its opcode has none
(R287). -/
def collTerms (d : Desc) : List (Nat × Nat) :=
  match opcode d with
  | 0xC0 =>
    let f := fld d 491 488
    [(4, fld d 455 424), (4, if f = 0xC then 33 else if f = 0x2 then 64 else 128), (1, f),
      (1, fld d 495 492), (1, fld d 496 496), (1, fld d 498 497)]
  | 0xC1 => [(4, fld d 375 344), (4, fld d 391 376 + 1), (1, 0), (1, 0), (1, 0), (1, fld d 393 392)]
  | 0xC3 => [(4, fld d 455 424), (4, fld d 471 456 + 1), (1, 0), (1, 0), (1, 0), (1, fld d 473 472),
      (1, fld d 475 474)]
  | _ => [(4, 0), (4, 0), (1, 0), (1, 0), (1, 0), (1, 0)]

/-- The rule each group of a collective is shared by. -/
def collRules (d : Desc) : List Nat :=
  match opcode d with
  | 0xC0 => [fld d 498 497]
  | 0xC1 => [fld d 393 392]
  | 0xC3 => [fld d 473 472, fld d 475 474]
  | _ => []

/-- The CHECK of a collective (R287). -/
def State.collCheck (s : State) (d : Desc) : Nat :=
  let gs := s.collGroups d
  let rules := collRules d
  crc32 (toBytes 1 (opcode d) ++ ((collTerms d).map fun p => toBytes p.1 p.2).flatten ++
    (gs.map fun g => (g.members.map (toBytes 2)).flatten).flatten ++
    ((List.range gs.length).map fun i =>
      if rules.getD i 0 = 2 then (((gs[i]?).bind (·.counts)).getD [] |>.map (toBytes 8)).flatten
      else []).flatten)

/-! ### Frames -/

/-- The 32-byte payload header of a COLLECTIVE frame (R287). -/
def collHead (check step off op : Nat) (last cancel : Bool) : List Byte :=
  toBytes 32 (b2n cancel * 2 ^ 96 + b2n last * 2 ^ 97 + op % 256 * 2 ^ 104 + off % 2 ^ 48 * 2 ^ 112 +
    step % 65536 * 2 ^ 160 + check % 2 ^ 32 * 2 ^ 176)

/-- Data bytes of a COLLECTIVE frame at most (R287). -/
def collRoom : Nat := 1048544

/-- Data of a step sent to a member from an offset of that step's data, in frames of at most 1,048,544 data
bytes; `last` marks the last of them as the step's last. Without data it is one frame (R287). -/
def State.sendPart (s : State) (c : Cmd) (dst step off : Nat) (last : Bool) (l : List Byte) : State :=
  let ps := if l = [] then [[]] else chunks collRoom (l.length / collRoom + 1) l
  let check := s.collCheck c.desc
  ((List.range ps.length).zip ps).foldl (fun (t : State) p =>
    t.sendFrame (t.mkFrame 0x20 c.id.ctx dst (collTag c.desc) 0
      (collHead check step (off + p.1 * collRoom) (opcode c.desc) (last && decide (p.1 + 1 = ps.length)) false ++
        p.2))) s

/-- The data of a step sent to a member (R287). -/
def State.sendStep (s : State) (c : Cmd) (dst step : Nat) (l : List Byte) : State := s.sendPart c dst step 0 true l

/-- A CANCEL frame to a member (R287, R308). -/
def State.sendCancel (s : State) (d : Desc) (ctx dst : Nat) : State :=
  s.sendFrame (s.mkFrame 0x20 ctx dst (collTag d) 0
    (collHead (s.collCheck d) 0 0 (opcode d) true true))

/-- Memory has lost a group record that a collective names (R309). -/
def State.groupLost (s : State) (d : Desc) : Bool :=
  let lost := fun a => s.devReadBad a (s.groupSize a)
  match opcode d with
  | 0xC0 | 0xC1 | 0xC4 => lost (addrAt d 224)
  | 0xC3 => lost (addrAt d 224) || lost (addrAt d 264)
  | _ => false

/-- No link die has adders in service (R309). -/
def State.noAdders (s : State) : Bool := (List.range 8).all fun m => s.retired (.adders m)

/-- CANCEL to every other member a collective names (R308). -/
def State.cancelPeers (s : State) (c : Cmd) : State :=
  if !isCollective c.desc || s.groupLost c.desc then s
  else (s.collPeers c.desc).foldl (fun (t : State) m => t.sendCancel c.desc c.id.ctx m) s

end Sys2Proof.Machine
end

