-- ==== Sys2Proof/Machine/Control.lean ====
section
/-! DEFINITION. The control commands (chapter Commands, Contexts and Synchronization, R327 to R347). -/

namespace Sys2Proof.Machine

/-! ### Queues as an ABORT sees them -/

/-- A queue of a context. -/
def State.queue (s : State) (c q : Nat) : Queue := Tab.get Queue.off s.queues (c * 16 + q)

/-- A queue replaced. -/
def State.setQueue (s : State) (c q : Nat) (x : Queue) : State :=
  { s with queues := Tab.put Queue.off s.queues (c * 16 + q) x }

/-- Descriptors of a queue's ring. -/
def Queue.ringSize (x : Queue) : Nat := 2 ^ (x.ringLog2 + 4)

/-- Records of a queue's completion ring. -/
def Queue.compSize (x : Queue) : Nat := 2 ^ (x.compLog2 + 4)

/-- What an ABORT finds for its target or its range: no such sequence number, nothing left to abort,
or the targets without a record (R327, R329). -/
inductive AbortSet where
  | invalid
  | already
  | targets (l : List CmdId)
  deriving DecidableEq, Repr

/-- A command has its record: it was fetched and is no longer held. -/
def State.recorded (s : State) (id : CmdId) : Bool :=
  !reached32 id.seq (s.queue id.ctx id.queue).next && (s.findCmd id).isNone

/-- The targets of an abort: one sequence number, or every one from it up to a producer index; the
ABORT leaves itself out (R327, R329). -/
def State.abortSet (s : State) (c q seq producer : Nat) (scope : Bool) (self : Option CmdId) : AbortSet :=
  let x := s.queue c q
  let n := (producer + 2 ^ 32 - seq) % 2 ^ 32
  if !x.enabled || decide (n = 0) || decide (2 ^ 31 ≤ n) || decide (x.ringSize < n) then .invalid
  else
    let ids := (List.range (if scope then n else 1)).map fun k => CmdId.mk c q ((seq + k) % 2 ^ 32)
    let l := ids.filter fun i => decide (some i ≠ self) && !s.recorded i
    if l = [] then .already else .targets l

/-- An abort reaches its targets: one not released completes with ABORTED at once, a collective with a CANCEL to
its peers; a released one, or one whose record is held, stops at its next safe point (R308, R326, R327). -/
def State.abortTargets (s : State) (l : List CmdId) : State :=
  let t := (s.cmds.filter fun (c : Cmd) => decide (c.id ∈ l ∧ c.phase = Phase.admitted)).foldl State.cancelPeers s
  { t with cmds := t.cmds.map fun (c : Cmd) =>
      if c.id ∉ l then c
      else match c.phase with
        | .admitted => { c with phase := .finished .aborted }
        | _ => { c with abortReq := true } }

/-- A member is not of the epoch or is split: what needs it ends at once (R278, R279). -/
def State.memberGone (s : State) (m : Nat) : Bool :=
  decide (m ∉ s.membership.members ∨ m ∈ s.membership.split)

/-- A member cannot be reached: not in the epoch, split, or unreachable (R330, R347). -/
def State.memberLost (s : State) (m : Nat) : Bool :=
  decide (m ∉ s.membership.members) || decide (m ∈ s.membership.split) ||
    decide (m ∈ s.membership.unreachable)

/-! ### The rows -/

/-- NOP: no work (R346). -/
def execNop (id : CmdId) (s : State) : Host.Outcome State Fault Refusal :=
  .next (s.run id (isOp 0x00) fun s _ => (s, .ok))

/-- ABORT: decided here for a queue of this device, by notice for another member's; it completes once
its targets have records, or when the member answers (R327 to R330). -/
def execAbort (id : CmdId) (s : State) : Host.Outcome State Fault Refusal :=
  match s.runnable id (isOp 0x01) with
  | none => .next s
  | some c =>
    if s.abortWaits.any fun w => decide (w.id = id) then .next s
    else
      let d := c.desc
      let m := fld d 276 261
      let q := fld d 259 256
      let seq := fld d 223 192
      let scope := flag d 260
      if s.isSelf m then
        match s.abortSet id.ctx q seq c.latch.range scope (some id) with
        | .invalid => .next (s.finish id .invalid)
        | .already => .next (s.finish id .alreadyComplete)
        | .targets l =>
          let w : AbortWait := ⟨id, l, false, none, c.tag⟩
          .next { s.abortTargets l with abortWaits := s.abortWaits ++ [w] }
      else if s.memberLost m then .next (s.finish id .membershipChanged)
      else
        let body := toBytes 4 seq ++ toBytes 1 q ++ toBytes 1 (b2n scope) ++ toBytes 2 0
        let w : AbortWait := ⟨id, [], false, some m, c.tag⟩
        let t := ({ s with abortWaits := s.abortWaits ++ [w] }).sendFrame
          (s.mkFrame 0x02 id.ctx m c.tag 0 body)
        if t.memberLost m then .next (t.finish id .membershipChanged)
        else .next (t.updCmd id fun x => { x with needs := [m] })

/-- SYNC_SET: the object's value is set and its FAULT cleared (R333, R346). -/
def execSyncSet (id : CmdId) (s : State) : Host.Outcome State Fault Refusal :=
  .next (s.run id (isOp 0x02) fun s c =>
    let o := fld c.desc 207 192
    if s.syncDead o then (s, .unitRetired) else (s.setSync o ⟨fld c.desc 255 224, false⟩, .ok))

/-- Step 1 of leaving a slot: the context's queues stop releasing (R341). -/
def State.beginLeave (s : State) (c : Nat) : State :=
  if s.resident c && !(s.ctx c).leaving then
    s.setCtx c { s.ctx c with leaving := true, leaveAt := s.now, drained := false }
  else s

/-- A context's deadlines that have come: reached, or any of them where the angle is not known to be the job's
(R343). -/
def State.yieldsDue (s : State) (x : Ctx) : List Angle :=
  x.yieldAt.filter fun a => !s.pace.mode.running || atOrAfter s.angle a

/-- A context yields at a deadline, beside those it has already: at once where it is reached, or where the angle is
not known to be the job's (R343). -/
def State.yieldCtx (s : State) (c : Nat) (deadline : Angle) : State :=
  if s.resident c then
    let t := s.setCtx c { s.ctx c with yieldAt := addOnce (s.ctx c).yieldAt deadline }
    if !s.pace.mode.running || atOrAfter s.angle deadline then t.beginLeave c else t
  else s

/-- CTX_PREEMPT: the issuing context leaves its slot here at DEADLINE, or a notice goes to the member
named (R343). -/
def execCtxPreempt (id : CmdId) (s : State) : Host.Outcome State Fault Refusal :=
  .next (s.run id (isOp 0x03) fun s c =>
    let m := fld c.desc 255 240
    let dl : Angle := BitVec.ofNat 48 (fld c.desc 239 192)
    if s.isSelf m then (s.yieldCtx id.ctx dl, .ok)
    else if s.memberLost m then (s, .membershipChanged)
    else
      let body := toBytes 1 0xFF ++ toBytes 3 0 ++ toBytes 4 (dl.toNat % 2 ^ 32)
      let t := s.sendFrame (s.mkFrame 0x03 id.ctx m c.tag 0 body)
      (t, if t.memberLost m then .membershipChanged else .ok))

/-- The OP field of CTRL_SAMPLE. -/
def sampleOp (n : Nat) (d : Desc) : Bool := isOp 0x04 d && decide (fld d 270 269 = n)

/-- The descriptors of a context's sample group, in the order they were created (R345). -/
def State.groupOf (s : State) (c g : Nat) : List Sample :=
  s.samples.filter fun x => decide (x.ctx = c ∧ x.group = g)

/-- CTRL_SAMPLE OPEN: COUNT descriptors in state LANDED from the list of sample IDs, none where a limit
would be exceeded (R344, R345). -/
def execCtrlSampleOpen (id : CmdId) (s : State) : Host.Outcome State Fault Refusal :=
  .next (s.run id (sampleOp 0) fun s c =>
    let n := fld c.desc 260 245
    let a := fld c.desc 239 192
    let own := (s.samples.filter fun x => decide (x.ctx = id.ctx)).length
    if 32768 < s.samples.length + n ∨ s.objv (0x6000 + id.ctx) 10 < own + n then (s, .busy)
    else if s.devReadBad a (8 * n) then (s, .dataSuspect)
    else
      let l := (List.range n).map fun k =>
        Sample.mk id.ctx (fld c.desc 268 261) (s.devNum (a + 8 * k) 8) 1 s.angle 0 0
      ({ s with samples := s.samples ++ l }, .ok))

/-- CTRL_SAMPLE ADVANCE: every descriptor of the group moves to STATE; INVALID where one already holds
it or a later state (R345). -/
def execCtrlSampleAdvance (id : CmdId) (s : State) : Host.Outcome State Fault Refusal :=
  .next (s.run id (sampleOp 1) fun s c =>
    let g := fld c.desc 268 261
    let st := fld c.desc 273 271
    if (s.groupOf id.ctx g).any fun x => decide (st ≤ x.st) then (s, .invalid)
    else
      ({ s with samples := s.samples.map fun x =>
          if x.ctx = id.ctx ∧ x.group = g then
            { x with st := st, advAngle := s.angle, epoch := fld c.desc 305 274 }
          else x }, .ok))

/-- CTRL_SAMPLE CLOSE: every descriptor of the group is freed (R345). -/
def execCtrlSampleClose (id : CmdId) (s : State) : Host.Outcome State Fault Refusal :=
  .next (s.run id (sampleOp 2) fun s c =>
    ({ s with samples := s.samples.filter fun x =>
        !decide (x.ctx = id.ctx ∧ x.group = fld c.desc 268 261) }, .ok))

/-- A sample descriptor as READ writes it (R344). -/
def sampleBytes (x : Sample) : List Byte :=
  toBytes 8 x.sid ++ toBytes 1 x.st ++ toBytes 1 x.group ++ toBytes 6 0 ++ toBytes 6 x.openAngle.toNat ++
    toBytes 6 x.advAngle.toNat ++ toBytes 4 x.epoch

/-- CTRL_SAMPLE READ: the group's descriptors written in creation order; INVALID where the group holds
more than COUNT (R345). -/
def execCtrlSampleRead (id : CmdId) (s : State) : Host.Outcome State Fault Refusal :=
  .next (s.run id (sampleOp 3) fun s c =>
    let l := s.groupOf id.ctx (fld c.desc 268 261)
    let a := fld c.desc 239 192
    if fld c.desc 260 245 < l.length then (s, .invalid)
    else
      let bs := (l.map sampleBytes).flatten
      (s.devWrite a bs, if s.devWriteBad a bs.length then .dataSuspect else .ok))

/-- What CTRL_SAMPLE READ writes: the group's descriptors, where they are no more than COUNT (R326, R345). -/
def State.sampleOutputs (s : State) (c : Nat) (d : Desc) : List Extent :=
  let n := (s.groupOf c (fld d 268 261)).length
  if sampleOp 3 d && decide (n ≤ fld d 260 245) then [.flat .dev (fld d 239 192) (32 * n)] else []

/-! ### Admission -/

/-- The checks of a CTRL_SAMPLE body (R345, R346). -/
def State.sampleChecks (s : State) (c : Nat) (d : Desc) : Checks :=
  let op := fld d 270 269
  let n := fld d 260 245
  let a := fld d 239 192
  let st := fld d 273 271
  let list := decide (op = 0 ∨ op = 3)
  let bytes := if op = 0 then 8 * n else 32 * n
  (Checks.inv (!reservedZero d [(511, 306), (244, 240)] ||
    (list && (decide (n = 0) || decide (32768 < n))) || (!list && decide (n ≠ 0 ∨ a ≠ 0)) ||
    (decide (op = 1) && (decide (st = 0) || decide (4 < st) || decide (st ≠ 4 ∧ fld d 305 274 ≠ 0))) ||
    (decide (op ≠ 1) && decide (st ≠ 0 ∨ fld d 305 274 ≠ 0)))).and
    (if list then s.stackRegion c a bytes 8 else Checks.pass)

/-- A member ID of the reserved range (R273). -/
def reservedMember (m : Nat) : Bool := decide (4096 ≤ m ∧ m < 0xFFFF)

/-- The checks of a control command's body (R8, R273, R327, R346, log entry 68). -/
def State.controlChecks (s : State) (id : CmdId) (d : Desc) : Checks :=
  match opcode d with
  | 0x00 => Checks.inv (!reservedZero d [(511, 192)])
  | 0x01 => Checks.inv (!reservedZero d [(511, 277), (255, 224)] || reservedMember (fld d 276 261) ||
      (s.isSelf (fld d 276 261) && !flag d 260 && decide (fld d 259 256 = id.queue) &&
        decide (fld d 223 192 = id.seq)))
  | 0x02 => ⟨!reservedZero d [(511, 256), (223, 208)],
      decide (s.owner (fld d 207 192) ≠ id.ctx), false, false⟩
  | 0x03 => Checks.inv (!reservedZero d [(511, 256)] || reservedMember (fld d 255 240))
  | 0x04 => s.sampleChecks id.ctx d
  | _ => Checks.inv true

end Sys2Proof.Machine
end

