-- ==== Sys2Proof/Machine/Embedding.lean ====
section
/-! DEFINITION. The embedding engines (chapter The Embedding Engine, R149 to R184, R482): table
versions, admission, gather, gradient merge and replica fetch. -/

namespace Sys2Proof.Machine

/-! ### Table descriptors -/

/-- A table descriptor record (R151); `shards` is D. -/
structure TableDesc where
  mapAddr : Nat
  index : Nat
  shards : Nat
  owner : Nat
  policy : Nat
  contig : Bool
  kind : Nat
  fmt : FC
  present : Bool
  rowBytes : Nat
  pitch : Nat
  dflt : Nat
  rows : Nat
  presence : Nat
  base : Nat
  deriving DecidableEq, Repr

/-- The record read from its 64 bytes (R151). -/
def tableDesc (x : Nat) : TableDesc :=
  { mapAddr := bits x 327 280, index := bits x 279 268, shards := bits x 267 256 + 1,
    owner := bits x 255 240, policy := bits x 217 216, contig := decide (bits x 215 214 = 1),
    kind := bits x 213 212, fmt := (FC.ofCode (bits x 211 208)).getD .fp32,
    present := x.testBit 207, rowBytes := (bits x 206 200 + 1) * 32, pitch := bits x 199 176,
    dflt := bits x 175 136, rows := bits x 135 96, presence := bits x 95 48, base := bits x 47 0 }

/-- The descriptor of an installed version. -/
def Version.desc (v : Version) : TableDesc := tableDesc v.raw

/-- Elements of a row (R151). -/
def TableDesc.elems (t : TableDesc) : Nat := 8 * t.rowBytes / t.fmt.bits

/-- The shard a row belongs to (R152). -/
def TableDesc.shardOf (t : TableDesc) (r : Nat) : Nat :=
  if t.kind ≠ 1 then 0
  else if t.contig then
    let q := t.rows / t.shards
    let x := t.rows % t.shards
    if r < x * (q + 1) then r / (q + 1) else x + (r - x * (q + 1)) / q
  else r % t.shards

/-- The local slot of a row within its shard (R152). -/
def TableDesc.slotOf (t : TableDesc) (r : Nat) : Nat :=
  if t.kind ≠ 1 then r
  else if t.contig then
    let k := t.shardOf r
    r - (k * (t.rows / t.shards) + min k (t.rows % t.shards))
  else r / t.shards

/-- A row is local: its shard is the one held here (R152). -/
def TableDesc.isLocal (t : TableDesc) (r : Nat) : Bool :=
  decide (t.kind ≠ 1) || decide (t.shardOf r = t.index)

/-- The local rows of a table (R152). -/
def TableDesc.localRows (t : TableDesc) : Nat :=
  if t.kind ≠ 1 then t.rows
  else if t.contig then t.rows / t.shards + (if t.index < t.rows % t.shards then 1 else 0)
  else (t.rows + t.shards - 1 - t.index) / t.shards

/-- The row in a local slot (R152). -/
def TableDesc.rowAt (t : TableDesc) (slot : Nat) : Nat :=
  if t.kind ≠ 1 then slot
  else if t.contig then
    slot + (t.index * (t.rows / t.shards) + min t.index (t.rows % t.shards))
  else slot * t.shards + t.index

/-- The address of a local row (R152). -/
def TableDesc.rowAddr (t : TableDesc) (r : Nat) : Nat := t.base + t.slotOf r * t.pitch

/-- The member the shard map names for a row, as the map stands at each use (R151, R152, log entry 113). -/
def State.rowOwner (s : State) (t : TableDesc) (r : Nat) : Nat :=
  s.devNum (t.mapAddr + 2 * t.shardOf r) 2

/-- The members a shard map names, as the map stands at each use: the record is read once, of the map no rule says
when (R151, log entry 113). -/
def State.shardMembers (s : State) (t : TableDesc) : List Nat :=
  if t.kind = 1 then (List.range t.shards).map fun k => s.devNum (t.mapAddr + 2 * k) 2 else []

/-- The presence bit of a local slot (R151). -/
def State.isPresent (s : State) (t : TableDesc) (slot : Nat) : Bool :=
  (s.devByte (t.presence + slot / 8)).toNat.testBit (slot % 8)

/-- A field of a record breaks R151. -/
def recordBad (x : Nat) : Bool :=
  let t := tableDesc x
  decide (bits x 511 328 ≠ 0 ∨ bits x 223 218 ≠ 0 ∨ 1 < bits x 217 216 ∨ 1 < bits x 215 214 ∨ t.kind = 3 ∨
    4 < bits x 211 208 ∨ t.rows = 0 ∨ t.pitch % 32 ≠ 0 ∨ t.pitch < t.rowBytes) ||
    decide (t.kind ≠ 1 ∧ (t.mapAddr ≠ 0 ∨ t.index ≠ 0 ∨ t.shards ≠ 1 ∨ t.contig = true)) ||
    decide (t.kind = 1 ∧ (t.shards ≤ t.index ∨ t.present = true)) ||
    decide (t.kind ≠ 2 ∧ t.owner ≠ 0)

/-- The checks of a record at its install (R157, R178, R183): its fields, its storage, and the default
row under policy 0b01. -/
def State.recordChecks (s : State) (c x : Nat) : Checks :=
  let t := tableDesc x
  let n := t.localRows
  let pre := Checks.all [Checks.inv (recordBad x),
    if n = 0 then Checks.pass else s.stackRegion c t.base ((n - 1) * t.pitch + t.rowBytes) 1,
    if t.kind = 1 then s.stackRegion c t.mapAddr (2 * t.shards) 1 else Checks.pass,
    if t.present then s.stackRegion c t.presence ((n + 7) / 8) 1 else Checks.pass]
  pre.and (Checks.inv (decide (t.policy = 1) && !pre.invalid &&
    (decide (t.rows ≤ t.dflt) || !t.isLocal t.dflt ||
      (t.present && !s.isPresent t (t.slotOf t.dflt)))))

/-! ### Versions -/

/-- The current version of a table (R150). -/
def State.currentVersion (s : State) (c table : Nat) : Option Version :=
  s.versions.find? fun v => decide (v.ctx = c ∧ v.table = table) && v.current

/-- The numbering of a table. -/
def State.tableNum (s : State) (c table : Nat) : TableNum := Tab.get TableNum.fresh s.tables (c * 1024 + table)

/-- The numbering of a table replaced. -/
def State.setTable (s : State) (c table : Nat) (x : TableNum) : State :=
  { s with tables := Tab.put TableNum.fresh s.tables (c * 1024 + table) x }

/-- An object is the reader object of an installed version (R157). -/
def State.isReader (s : State) (o : Nat) : Bool := s.versions.any fun v => decide (v.reader = o)

/-- Two versions are the same one. -/
def Version.same (a b : Version) : Bool := decide (a.ctx = b.ctx ∧ a.table = b.table ∧ a.num = b.num)

/-- A version released: no longer served, its directory entry free, its release object signalled
(R155). -/
def State.releaseVersion (s : State) (v : Version) : State :=
  let t := { s with versions := s.versions.filter fun w => !v.same w }
  match v.release with
  | some o => t.signalObj o 1 false
  | none => t

/-- A version that is no longer current; without readers it is released at once (R153, R155). -/
def State.supersede (s : State) (v : Version) (release : Nat) : State :=
  let w := { v with current := false, release := some release }
  let t := { s with versions := s.versions.map fun x => if v.same x then w else x }
  if (t.syncObj w.reader).value = 0 then t.releaseVersion w else t

/-- A new version of a table installed and current (R150, R153, R155). -/
def State.addVersion (s : State) (c table x : Nat) : State :=
  let num := (s.tableNum c table).last % 0xFFFF + 1
  let v : Version := ⟨c, table, num, x, true, none⟩
  let t := s.setTable c table { s.tableNum c table with last := num, defined := true }
  let t := { t with versions := t.versions ++ [v] }
  t.setSync v.reader ⟨0, false⟩

/-- The table has 4 versions installed and unreleased, or the device 4,096 (R150, R157). -/
def State.versionsFull (s : State) (c table : Nat) : Bool :=
  decide (4 ≤ (s.versions.filter fun v => decide (v.ctx = c ∧ v.table = table)).length) ||
    decide (4096 ≤ s.versions.length)

/-- An install takes effect: the record at DESC_ADDR becomes the current version, or an install that
breaks R157 has no effect (R153, R157). -/
def State.install (s : State) (c : Cmd) : State × Status :=
  let d := c.desc
  let table := fld d 249 240
  let rel := fld d 271 256
  let cur := s.currentVersion c.id.ctx table
  let x := s.devNum (fld d 239 192) 64
  if s.devReadBad (fld d 239 192) 64 then (s, .dataSuspect)
  else
    let busy := s.versionsFull c.id.ctx table || s.isReader (bits x 239 224) || s.isReader rel
    match ((s.recordChecks c.id.ctx x).and ⟨false, false, false, busy⟩).first false with
    | some st => (s, st)
    | none =>
      let t := s.addVersion c.id.ctx table x
      match cur with
      | some v => (t.supersede v rel, .ok)
      | none => (t, .ok)

/-- A remove takes effect: the table has no current version; the limits of R157 hold for it as for every
install (R153, R157). -/
def State.remove (s : State) (c : Cmd) : State × Status :=
  let table := fld c.desc 249 240
  let rel := fld c.desc 271 256
  match s.currentVersion c.id.ctx table with
  | none => (s, .invalid)
  | some v =>
    if s.versionsFull c.id.ctx table || s.isReader rel then (s, .busy) else (s.supersede v rel, .ok)

/-- EMB_TABLE_INSTALL: a released install takes effect (R153). -/
def execEmbTableInstall (id : CmdId) (s : State) : Host.Outcome State Fault Refusal :=
  .next (s.run id (fun d => isOp 0x80 d && !flag d 250) fun s c => s.install c)

/-- EMB_TABLE_REMOVE: a released install with REMOVE set takes effect (R153). -/
def execEmbTableRemove (id : CmdId) (s : State) : Host.Outcome State Fault Refusal :=
  .next (s.run id (fun d => isOp 0x80 d && flag d 250) fun s c => s.remove c)

/-- VERSION_INSTALL_TAKES_EFFECT: a gated install or remove takes effect at its not-before angle when its wait and its
queue's order allow, in its place among the events of that angle; a satisfied wait on an object with FAULT set
aborts it (R42, R333, R480). -/
def execVersionInstallTakesEffect (id : CmdId) (s : State) : Host.Outcome State Fault Refusal :=
  match (s.findCmd id).filter fun c => isOp 0x80 c.desc && s.installDue c with
  | none => .next s
  | some c =>
    if !s.mayAct (notBefore c.desc, 2) then .next s
    else if s.objectGone c.desc then .next (s.finish id .unitRetired)
    else if s.waitFault c.desc then .next (s.finish id .aborted)
    else
      let r := if flag c.desc 250 then s.remove c else s.install c
      .next (r.1.finish id r.2)

/-- VERSION_RELEASE: a superseded version whose reader count has reached zero is released (R155). -/
def execVersionRelease (ctx table num : Nat) (s : State) : Host.Outcome State Fault Refusal :=
  match s.findVersion ctx table num with
  | none => .next s
  | some v =>
    if !v.current && decide ((s.syncObj v.reader).value = 0) then .next (s.releaseVersion v) else .next s

/-! ### Requests to other members -/

/-- The requests of a command. -/
def State.asksOf (s : State) (id : CmdId) : List Ask := s.asks.filter fun a => decide (a.cmd = id)

/-- The requests of a command dropped. -/
def State.dropAsks (s : State) (id : CmdId) : State :=
  { s with asks := s.asks.filter fun a => decide (a.cmd ≠ id) }

/-- A request noted under a fresh tag, not yet sent. -/
def State.addAsk (s : State) (id : CmdId) (member engine turn : Nat) (rows : List Nat) : State :=
  { s with
    nextTag := (s.nextTag + 1) % 2 ^ 32,
    asks := s.asks ++ [⟨id, s.nextTag, member, engine, turn, rows, false, none⟩] }

/-- A request changed. -/
def State.updAsk (s : State) (tag : Nat) (f : Ask → Ask) : State :=
  { s with asks := s.asks.map fun (a : Ask) => if a.tag = tag then f a else a }

/-- Requests of an engine to a member that wait for their answers (R300). -/
def State.asksOut (s : State) (engine member : Nat) : Nat :=
  (s.asks.filter fun a => decide (a.engine = engine ∧ a.member = member) && a.sent && a.reply.isNone).length

/-- The requests of a command that are not sent go out, at most 16 of an engine to one member at a time
(R300); `frame` makes the frame of a request. -/
def State.sendAsks (s : State) (id : CmdId) (frame : Ask → Frame) : State :=
  (s.asksOf id).foldl (fun (t : State) a =>
    if !a.sent && decide (t.asksOut a.engine a.member < 16) then
      (t.updAsk a.tag fun x => { x with sent := true }).sendFrame (frame a)
    else t) s

/-- Every request of a list is answered. -/
def answered (l : List Ask) : Bool := l.all fun a => a.reply.isSome

/-- The first refusal among the answers. -/
def refusalOf (l : List Ask) : Option Status :=
  (l.filterMap (fun a => a.reply)).findSome? fun r => if r.1 = .ok then none else some r.1

/-- An answer to a request: its status and bytes kept, for the command that waits (R264). -/
def State.answerAsk (s : State) (tag member : Nat) (st : Status) (l : List Byte) : State :=
  s.updAsk tag fun a =>
    if a.member = member ∧ a.sent = true ∧ a.reply = none then { a with reply := some (st, l) } else a

/-- The members a command waits for: those with a request it has not had answered. -/
def State.noteNeeds (s : State) (id : CmdId) : State :=
  let l := ((s.asksOf id).filter fun a => a.reply.isNone).map (·.member)
  s.updCmd id fun c => { c with needs := l.eraseDups }

/-! ### Batches -/

/-- A batch of a context. -/
def State.batch (s : State) (c bid : Nat) : Option Batch :=
  s.batches.find? fun b => decide (b.ctx = c ∧ b.bid = bid)

/-- A batch replaced. -/
def State.setBatch (s : State) (b : Batch) : State :=
  { s with batches := s.batches.map fun x => if x.ctx = b.ctx ∧ x.bid = b.bid then b else x }

/-- The version a batch has bound for a table (R154). -/
def State.boundVersion (s : State) (b : Batch) (table : Nat) : Option Version :=
  match b.binds.find? fun p => decide (p.1 = table) with
  | some p => s.findVersion b.ctx table p.2
  | none => none

/-- The batch a command names, none for a command of no batch (R174). -/
def batchOf (d : Desc) : Option Nat :=
  match opcode d with
  | 0x81 => some (fld d 488 481)
  | 0x82 => some (fld d 289 282)
  | 0x83 => some (fld d 418 411)
  | 0x84 => some (fld d 369 362)
  | 0x87 => some (fld d 199 192)
  | 0xC4 => some (fld d 393 386)
  | _ => none

/-- The table a prefetch, gather or merge names. -/
def tableOf (d : Desc) : Nat :=
  match opcode d with
  | 0x81 => fld d 498 489
  | 0x82 => fld d 299 290
  | 0x83 => fld d 428 419
  | _ => fld d 379 370

/-- The bound version and the completed pass a prefetch, gather or merge works on (R154, R174,
R183). -/
def State.passOf (s : State) (c : Nat) (d : Desc) : Option (Version × Pass) := do
  let b ← s.batch c (← batchOf d)
  let v ← s.boundVersion b (tableOf d)
  let p ← b.passes.find? fun p => decide (p.table = tableOf d) && p.done
  return (v, p)

/-- A command that needs a completed pass has none at its release (R183). -/
def State.passMissing (s : State) (c : Nat) (d : Desc) : Bool :=
  decide (opcode d = 0x82 ∨ opcode d = 0x83 ∨ opcode d = 0x84) && (s.passOf c d).isNone

/-- An admission pass has its record with OK or RETRIED_OK: commands may work on it (R183). -/
def State.passRecorded (s : State) (c : Nat) (d : Desc) : State :=
  match (batchOf d).bind (s.batch c) with
  | some b =>
    let l := b.passes.map fun (p : Pass) => if p.table = tableOf d then { p with done := true } else p
    s.setBatch { b with passes := l }
  | none => s

/-- The units of an embedding command. -/
def embUnits (_ : State) (c : Cmd) : List UnitId := [.embedding (engineOf c.desc)]

/-- An engine counter advanced for a context (R184). -/
def State.embCount (s : State) (c engine k n : Nat) : State :=
  s.tally c (0x7120 + engine / 2) (12 * (engine % 2) + k) n

/-! ### Workspaces -/

/-- Bytes of a workspace (R160). -/
def workBytes (n bags : Nat) (weights : Bool) : Nat :=
  64 + 20 * n + 4 * (bags + 1) + if weights then 4 * n else 0

/-- The workspace of a pass. -/
def Pass.extent (p : Pass) : Extent := .flat .dev p.ws (workBytes p.n p.bags p.weights)

/-- A unique entry (R160). -/
structure Entry where
  owner : Nat
  mult : Nat
  staged : Bool
  subst : Bool
  remote : Bool
  sat : Bool
  thicket : Bool
  row : Nat
  deriving DecidableEq, Repr

/-- The 16 bytes of a unique entry (R160). -/
def Entry.bytes (e : Entry) : List Byte :=
  toBytes 16 (e.row + b2n e.thicket * 2 ^ 48 + b2n e.sat * 2 ^ 49 + b2n e.remote * 2 ^ 50 +
    b2n e.subst * 2 ^ 51 + b2n e.staged * 2 ^ 52 + e.mult * 2 ^ 64 + e.owner * 2 ^ 96)

/-- A unique entry read from 16 bytes. -/
def entryOf (x : Nat) : Entry :=
  { owner := bits x 111 96, mult := bits x 95 64, staged := x.testBit 52, subst := x.testBit 51,
    remote := x.testBit 50, sat := x.testBit 49, thicket := x.testBit 48, row := bits x 39 0 }

/-- Unique entry u of a pass. -/
def State.entry (s : State) (p : Pass) (u : Nat) : Entry := entryOf (s.devNum (p.ws + 64 + 16 * u) 16)

/-- The entries in a pass's unique list (R161). -/
def State.uniqueCount (s : State) (p : Pass) : Nat := s.devNum p.ws 4

/-- The staging address a pass has recorded, 0 for none (R163). -/
def State.stageOf (s : State) (p : Pass) : Nat := s.devNum (p.ws + 32) 6

/-- The map value of occurrence o (R160). -/
def State.occ (s : State) (p : Pass) (o : Nat) : Nat := s.devNum (p.ws + 64 + 16 * p.n + 4 * o) 4

/-- The occurrence is dropped (R160). -/
def dropped (m : Nat) : Bool := decide (m = 0xFFFFFFFF)

/-- The occurrence is substituted (R160). -/
def substituted (m : Nat) : Bool := !dropped m && m.testBit 31

/-- The unique position of an occurrence. -/
def position (m : Nat) : Nat := m % 2 ^ 31

/-- Offset b of a pass. -/
def State.offset (s : State) (p : Pass) (b : Nat) : Nat := s.devNum (p.ws + 64 + 20 * p.n + 4 * b) 4

/-- The occurrences of bag b, in index-list order. -/
def State.bagOccs (s : State) (p : Pass) (b : Nat) : List Nat :=
  (List.range (s.offset p (b + 1) - s.offset p b)).map (· + s.offset p b)

/-- The weight of an occurrence, 1.0 without weights. -/
def State.weight (s : State) (p : Pass) (o : Nat) : FVal :=
  if p.weights then f32 (s.devNum (p.ws + 64 + 20 * p.n + 4 * (p.bags + 1) + 4 * o) 4) else .ofNat 1

/-! ### Admission -/

/-- What an index list entry is (R158). -/
inductive IndexKind where
  | padding | invalid | missing | valid
  deriving DecidableEq, Repr

/-- The class of an entry (R158). -/
def State.classify (s : State) (t : TableDesc) (x : Nat) : IndexKind :=
  if x = 2 ^ 64 - 1 then .padding
  else if 2 ^ 40 ≤ x ∨ t.rows ≤ x then .invalid
  else if t.present && !s.isPresent t (t.slotOf x) then .missing
  else .valid

/-- The row an entry stands for and whether it is substituted, none where it is dropped (R158). -/
def resolve (t : TableDesc) (k : IndexKind) (x : Nat) : Option (Nat × Bool) :=
  match k with
  | .padding => none
  | .valid => some (x, false)
  | _ => if t.policy = 1 then some (t.dflt, true) else none

/-- What an admission pass takes from its descriptor. -/
structure AdmitBody where
  engine : Nat
  table : Nat
  bid : Nat
  bindCount : Nat
  bags : Nat
  n : Nat
  bind : Nat
  ws : Nat
  weightAddr : Nat
  offsetAddr : Nat
  indexAddr : Nat
  weights : Bool
  openPass : Bool
  deriving DecidableEq, Repr

/-- The body of EMB_ADMIT (R183). -/
def admitBody (d : Desc) : AdmitBody :=
  { engine := fld d 502 499, table := fld d 498 489, bid := fld d 488 481,
    bindCount := fld d 480 474, bags := fld d 473 453, n := fld d 452 432, bind := fld d 431 384,
    ws := fld d 383 336, weightAddr := fld d 335 288, offsetAddr := fld d 287 240,
    indexAddr := fld d 239 192, weights := flag d 504, openPass := flag d 503 }

/-- The table IDs of a bind list. -/
def State.bindList (s : State) (b : AdmitBody) : List Nat :=
  (List.range b.bindCount).map fun k => s.devNum (b.bind + 2 * k) 2

/-- The offsets start at 0, end at N and never decrease (R158). -/
def State.offsetsOk (s : State) (b : AdmitBody) : Bool :=
  let o := (List.range (b.bags + 1)).map fun k => s.devNum (b.offsetAddr + 4 * k) 4
  decide (o.head? = some 0 ∧ o.getLast? = some b.n) && (o.zip o.tail).all fun p => decide (p.1 ≤ p.2)

/-- The multiplicities of the rows an index list refers to and whether any occurrence was substituted,
by row in ascending order (R159). -/
def multiplicities (l : List (Option (Nat × Bool))) : Tab (Nat × Bool) :=
  l.foldl (fun t x =>
    match x with
    | some (r, sub) => Tab.modify (0, false) t r fun v => (v.1 + 1, v.2 || sub)
    | none => t) []

/-- The unique list (R159, R160). -/
def State.uniqueList (s : State) (t : TableDesc) (m : Tab (Nat × Bool)) : List Entry :=
  m.map fun p =>
    let remote := !t.isLocal p.1
    { owner := if remote then s.rowOwner t p.1 else 0, mult := p.2.1, staged := false,
      subst := p.2.2, remote := remote, sat := false, thicket := decide (4096 ≤ p.2.1), row := p.1 }

/-- The pass summary (R161). -/
def summary (u thickets missing invalid padding version n : Nat) (angle : Angle) : List Byte :=
  toBytes 64 (u + n * 2 ^ 32 + angle.toNat * 2 ^ 64 + version * 2 ^ 112 + padding * 2 ^ 128 +
    invalid * 2 ^ 160 + missing * 2 ^ 192 + thickets * 2 ^ 224)

/-- What an admission pass reads of its table's version: presence bits, and the shard map's members of rows held
elsewhere (R151, R158, R160). -/
def State.admitExtents (s : State) (b : AdmitBody) (t : TableDesc) : List Extent :=
  let xs := ((List.range b.n).map fun k => s.devNum (b.indexAddr + 8 * k) 8).filter fun x =>
    decide (x < 2 ^ 40 ∧ x < t.rows)
  let bit := xs.map fun x => Extent.flat .dev (t.presence + t.slotOf x / 8) 1
  let far := (xs.filter fun x => !t.isLocal x).map fun x => Extent.flat .dev (t.mapAddr + 2 * t.shardOf x) 2
  (if t.present then bit else []) ++ far

/-- Extents of device memory lie in the presented range and in a context's memory (R231, R232, R239). -/
def State.reachChecks (s : State) (c : Nat) (l : List Extent) : Checks :=
  Checks.all (l.map fun e => if e.n = 0 then Checks.pass else s.stackRows c e.addr e.rows e.pitch e.n)

/-- The work of an admitted pass: its index list classified, sorted and made unique into its workspace, and counted. A
second pass of a table in one batch takes the place of the first for the commands after it; no rule speaks of one
(R158 to R161, R184, log entry 118). -/
def State.passWork (s : State) (c : Cmd) (b : AdmitBody) (v : Version) (angle : Angle) : State × Status :=
  let t := v.desc
  let p : Pass := ⟨b.table, b.ws, b.n, b.bags, b.weights, false, false⟩
  let note := fun (s : State) => match s.batch c.id.ctx b.bid with
    | some x => s.setBatch { x with passes := x.passes.filter (fun (q : Pass) => decide (q.table ≠ b.table)) ++ [p] }
    | none => s
  let reads := [Extent.flat .dev b.indexAddr (8 * b.n), Extent.flat .dev b.offsetAddr (4 * (b.bags + 1))] ++
    (if b.weights then [Extent.flat .dev b.weightAddr (4 * b.n)] else []) ++ s.admitExtents b t
  (note s).withPoison reads [p.extent] fun (s : State) =>
    let xs := (List.range b.n).map fun k => s.devNum (b.indexAddr + 8 * k) 8
    let kinds := xs.map (s.classify t)
    let rows := (kinds.zip xs).map fun q => resolve t q.1 q.2
    let m := multiplicities rows
    let us := s.uniqueList t m
    let keys := m.map (·.1)
    let occs := rows.map fun r =>
      match r with
      | some (r, sub) => keys.idxOf r + if sub then 2 ^ 31 else 0
      | none => 0xFFFFFFFF
    let count := fun k => (kinds.filter fun x => decide (x = k)).length
    let thick := (us.filter (·.thicket)).length
    let offs := s.devRead b.offsetAddr (4 * (b.bags + 1))
    let wts := if b.weights then s.devRead b.weightAddr (4 * b.n) else []
    let u := s.devWrite (b.ws + 64) (us.map Entry.bytes).flatten
    let u := u.devWrite (b.ws + 64 + 16 * b.n) (occs.map (toBytes 4)).flatten
    let u := u.devWrite (b.ws + 64 + 20 * b.n) (offs ++ wts)
    let u := u.devWrite b.ws (summary us.length thick (count .missing) (count .invalid) (count .padding)
      v.num b.n angle)
    let cnt := fun (u : State) k n => u.embCount c.id.ctx b.engine k n
    let u := cnt (cnt (cnt u 1 b.n) 2 us.length) 3 (count .padding)
    let u := cnt (cnt u 4 (count .invalid)) 5 (count .missing)
    let subs := (rows.filterMap id).filter fun q => q.2
    (cnt (cnt u 6 subs.length) 9 thick, .ok)

/-- EMB_ADMIT: a pass of an open batch (R154, R158, R174, R231, R232, R239). -/
def execEmbAdmit (id : CmdId) (s : State) : Host.Outcome State Fault Refusal :=
  .next (s.runOn id (fun d => isOp 0x81 d && !flag d 503) embUnits fun s c =>
    let b := admitBody c.desc
    match s.batch id.ctx b.bid with
    | none => (s, .invalid)
    | some x =>
      match s.boundVersion x b.table with
      | none => (s, .invalid)
      | some v =>
        if s.devReadBad b.offsetAddr (4 * (b.bags + 1)) then
          (s.scrambleAll [.flat .dev b.ws (workBytes b.n b.bags b.weights)], .dataSuspect)
        else if !s.offsetsOk b then (s, .invalid)
        else
          match (s.reachChecks id.ctx (s.admitExtents b v.desc)).first false with
          | some st => (s, st)
          | none => s.passWork c b v x.angle)

/-- What an OPEN pass reads of the versions it is to bind: their shard maps, and of its own table what its index list
touches (R151, R156, R158). -/
def State.openExtents (s : State) (c : Nat) (b : AdmitBody) : List Extent :=
  let vs := (s.bindList b).filterMap (s.currentVersion c)
  ((vs.filter fun v => decide (v.desc.kind = 1)).map fun v => Extent.flat .dev v.desc.mapAddr (2 * v.desc.shards)) ++
    ((s.currentVersion c b.table).map fun v => s.admitExtents b v.desc).getD []

/-- What an OPEN pass meets before it may bind (R154, R158, R174, R231, R232, R239, R482). -/
def State.openChecks (s : State) (c : Nat) (b : AdmitBody) : Option Status :=
  let ids := s.bindList b
  let reach := (s.reachChecks c (s.openExtents c b)).first false
  if s.devReadBad b.bind (2 * b.bindCount) || s.devReadBad b.offsetAddr (4 * (b.bags + 1)) ||
      s.devReadBad b.indexAddr 8 || s.regionsBad (s.openExtents c b) then some .dataSuspect
  else if ids.any (fun t => (s.currentVersion c t).isNone) || decide (b.table ∉ ids) ||
      (s.batch c b.bid).isSome || !s.offsetsOk b then some .invalid
  else if reach.isSome then reach
  else if 1024 ≤ s.batches.length then some .busy
  else none

/-- The current versions of a bind list. -/
def State.bindVersions (s : State) (c : Nat) (b : AdmitBody) : List Version :=
  (s.bindList b).filterMap (s.currentVersion c)

/-- The remote holds an OPEN pass needs: member, table, version (R156). -/
def State.holdsNeeded (s : State) (c : Nat) (b : AdmitBody) : List (Nat × Nat × Nat) :=
  ((s.bindVersions c b).map fun v =>
    (((s.shardMembers v.desc).eraseDups.filter fun m => !s.isSelf m).map fun m => (m, v.table, v.num))).flatten

/-- A HOLD frame: table, version, batch, and whether it adds or withdraws (R265, log entry 23). -/
def State.holdFrame (s : State) (c member tag table num bid : Nat) (add : Bool) : Frame :=
  s.mkFrame 0x11 c member tag 0 (toBytes 2 table ++ toBytes 2 num ++ toBytes 2 bid ++ toBytes 2 (b2n add))

/-- Holds withdrawn on the members that have them (R155). -/
def State.withdraw (s : State) (c bid : Nat) (l : List (Nat × Nat × Nat)) : State :=
  l.foldl (fun (t : State) h =>
    if t.memberLost h.1 then t else t.sendFrame (t.holdFrame c h.1 0 h.2.1 h.2.2 bid false)) s

/-- The hold a request of an OPEN pass asks for. -/
def Ask.hold (a : Ask) : Nat × Nat × Nat := (a.member, a.rows.getD 0 0, a.rows.getD 1 0)

/-- The requests of a command ended: those of an OPEN pass that has not admitted its batch withdraw the
holds they asked for (R156, R482). -/
def State.endAsks (s : State) (c : Cmd) : State :=
  let l := (s.asksOf c.id).filter fun a => !(a.reply.any fun r => decide (r.1 ≠ .ok))
  let t := s.dropAsks c.id
  if isOp 0x81 c.desc then t.withdraw c.id.ctx (admitBody c.desc).bid (l.map Ask.hold) else t

/-- The batch admitted: its versions bound, their readers counted, its record open (R154, R155). -/
def State.admitBatch (s : State) (c : Nat) (b : AdmitBody) (holds : List (Nat × Nat × Nat)) : State :=
  let vs := s.bindVersions c b
  let t := vs.foldl (fun (t : State) v => t.addReaders v 1) s
  { t with batches := t.batches ++
      [⟨c, b.bid, vs.map fun v => (v.table, v.num), holds, s.angle, []⟩] }

/-- An install of a context is due at the current angle or before it: a pass admitted now binds what it
installs (R153, R154). -/
def State.installsDue (s : State) (c : Nat) : Bool :=
  s.cmds.any fun (x : Cmd) => isOp 0x80 x.desc && decide (x.id.ctx = c) && s.installDue x

/-- EMB_ADMIT_OPEN: an OPEN pass asks its remote holds, then admits its batch, binds the current versions
and sorts its index list, after the installs that are due. A refused hold, or a version replaced meanwhile,
withdraws the holds (R154 to R156, R482). -/
def execEmbAdmitOpen (id : CmdId) (s : State) : Host.Outcome State Fault Refusal :=
  .next (s.workOn id (fun d => isOp 0x81 d && flag d 503) embUnits fun s c =>
    let b := admitBody c.desc
    if s.installsDue id.ctx then (s, none)
    else
    match s.openChecks id.ctx b with
    | some st => (s.endAsks c, some st)
    | none =>
      let need := s.holdsNeeded id.ctx b
      let have_ := s.asksOf id
      if need.any fun h => s.memberLost h.1 then (s.endAsks c, some .membershipChanged)
      else if have_.map Ask.hold ≠ need then
        let t := s.endAsks c
        let t := need.foldl (fun (t : State) h => t.addAsk id h.1 b.engine 0 [h.2.1, h.2.2]) t
        let t := (t.asksOf id).foldl (fun (t : State) a =>
          (t.updAsk a.tag fun x => { x with sent := true }).sendFrame
            (t.holdFrame id.ctx a.member a.tag a.hold.2.1 a.hold.2.2 b.bid true)) t
        (t.noteNeeds id, none)
      else if !answered have_ then (s.noteNeeds id, none)
      else if (refusalOf have_).isSome then ((s.endAsks c).noteNeeds id, some .invalid)
      else
        match s.currentVersion id.ctx b.table with
        | none => (s.endAsks c, some .invalid)
        | some v =>
          let t := ((s.dropAsks id).noteNeeds id).admitBatch id.ctx b need
          let r := t.passWork c b v s.angle
          (r.1, some r.2))

/-- The commands of a batch dispatched before a command and not complete (R174). -/
def State.batchBusy (s : State) (c : Cmd) (bid : Nat) : Bool :=
  s.cmds.any fun (x : Cmd) =>
    decide (x.id.ctx = c.id.ctx ∧ batchOf x.desc = some bid ∧ 0 < x.rank ∧ x.rank < c.rank)

/-- A batch ended: its reader counts and remote holds withdrawn, its record free (R155, R174). -/
def State.closeBatch (s : State) (b : Batch) : State :=
  let t := (b.binds.filterMap fun p => s.findVersion b.ctx p.1 p.2).foldl
    (fun (t : State) v => t.addReaders v (2 ^ 32 - 1)) s
  let t := t.withdraw b.ctx b.bid b.holds
  { t with batches := t.batches.filter fun x => !decide (x.ctx = b.ctx ∧ x.bid = b.bid) }

/-- EMB_BATCH_CLOSE: takes effect once every earlier-dispatched command of the batch has completed
(R174). -/
def execEmbBatchClose (id : CmdId) (s : State) : Host.Outcome State Fault Refusal :=
  .next (s.workOn id (isOp 0x87) (fun _ _ => []) fun s c =>
    let bid := fld c.desc 199 192
    if s.batchBusy c bid then (s, none)
    else
      match s.batch id.ctx bid with
      | none => (s, some .invalid)
      | some b => (s.closeBatch b, some .ok))

/-! ### Rows -/

/-- Rows a ROW_REQUEST may ask for (R300). -/
def rowsPerFrame (rowBytes : Nat) : Nat := min 4096 (1048544 / rowBytes)

/-- A ROW_REQUEST frame: 16 bytes a row, table, version and row index (R166, R265, log entry 23). -/
def State.rowRequest (s : State) (p : Pass) (v : Version) (a : Ask) : Frame :=
  s.mkFrame 0x10 v.ctx a.member a.tag 0 ((a.rows.map fun u =>
    toBytes 2 v.table ++ toBytes 2 v.num ++ toBytes 4 0 ++ toBytes 8 (s.entry p u).row).flatten)

/-- The unique positions that lie with other members, grouped by owner (R300). -/
def State.remoteGroups (s : State) (p : Pass) (us : List Nat) : List (Nat × List Nat) :=
  let owners := (us.map fun u => (s.entry p u).owner).eraseDups
  owners.map fun m => (m, us.filter fun u => decide ((s.entry p u).owner = m))

/-- The requests for remote rows noted, in unique-list order (R300). -/
def State.askRows (s : State) (c : Cmd) (p : Pass) (v : Version) (us : List Nat) : State :=
  (s.remoteGroups p us).foldl (fun (t : State) g =>
    (chunks (rowsPerFrame v.desc.rowBytes) g.2.length g.2).foldl
      (fun (t : State) l => t.addAsk c.id g.1 (engineOf c.desc) 1 l) t) s

/-- The bytes a request brought for unique position u. -/
def Ask.rowBytes (a : Ask) (n u : Nat) : Option (List Byte) :=
  if u ∈ a.rows then a.reply.map fun r => (r.2.drop (a.rows.idxOf u * n)).take n else none

/-- The row of unique position u: from staging, from the bound version, or as its owner sent it
(R164). -/
def State.rowOf (s : State) (c : Cmd) (p : Pass) (v : Version) (live : Bool) (u : Nat) : List Byte :=
  let e := s.entry p u
  let n := v.desc.rowBytes
  if e.staged && !live then s.devRead (s.stageOf p + u * n) n
  else if e.remote then ((s.asksOf c.id).findSome? fun a => a.rowBytes n u).getD []
  else s.devRead (v.desc.rowAddr e.row) n

/-- Where the row of unique position u is read on this device; empty for a remote row. -/
def State.rowExtent (s : State) (p : Pass) (v : Version) (live : Bool) (u : Nat) : Extent :=
  let e := s.entry p u
  let n := v.desc.rowBytes
  if e.staged && !live then .flat .dev (s.stageOf p + u * n) n
  else if e.remote then .flat .dev 0 0
  else .flat .dev (v.desc.rowAddr e.row) n

/-- The workspace of a pass, and the rows here that a command on it touches, lie in the presented range and in the
context's memory (R231, R232, R239). -/
def State.passReach (s : State) (c : Nat) (p : Pass) (v : Version) (live : Bool) (us : List Nat) : Checks :=
  let w := s.reachChecks c [p.extent]
  if w.invalid || w.denied then w else s.reachChecks c (us.map (s.rowExtent p v live))

/-- Work that needs the rows of unique positions `us`: the remote ones are asked for first, and the
work waits for their owners (R164, R166, R177). -/
def State.withRows (s : State) (c : Cmd) (p : Pass) (v : Version) (live : Bool) (us : List Nat)
    (outs : List Extent) (work : State → State × Status) : State × Option Status :=
  let far := us.filter fun u => (s.entry p u).remote && (live || !(s.entry p u).staged)
  let have_ := s.asksOf c.id
  let fail := fun (st : Status) => ((s.dropAsks c.id).scrambleAll outs, some st)
  if (far.map fun u => (s.entry p u).owner).any s.memberLost then fail .membershipChanged
  else if far ≠ [] ∧ have_ = [] then
    let t := s.askRows c p v far
    ((t.sendAsks c.id (t.rowRequest p v)).noteNeeds c.id, none)
  else
    match refusalOf have_ with
    | some st => fail st
    | none =>
      if !answered have_ then ((s.sendAsks c.id (s.rowRequest p v)).noteNeeds c.id, none)
      else
        let r := (s.noteNeeds c.id).withPoison (p.extent :: us.map (s.rowExtent p v live)) outs work
        (r.1.dropAsks c.id, some r.2)

/-! ### Prefetch -/

/-- The positions of a prefetch. -/
def prefetchRange (d : Desc) : List Nat := (List.range (fld d 281 261)).map (· + fld d 260 240)

/-- The staging bytes of a prefetch. -/
def prefetchExtent (d : Desc) (rowBytes : Nat) : Extent :=
  .flat .dev (fld d 239 192 + fld d 260 240 * rowBytes) (fld d 281 261 * rowBytes)

/-- The checks of a prefetch that its pass decides (R163, R183, R231, R232, R239). -/
def State.prefetchLate (s : State) (c : Nat) (d : Desc) (v : Version) (p : Pass) : Checks :=
  let e := prefetchExtent d v.desc.rowBytes
  let past := decide (s.uniqueCount p < fld d 260 240 + fld d 281 261)
  Checks.all [s.stackRegion c e.addr e.n 1,
    Checks.inv (past || decide (p.staged = true ∧ s.stageOf p ≠ fld d 239 192)),
    s.passReach c p v true (if past then [] else prefetchRange d)]

/-- The pass of a prefetch has recorded its staging address (R163). -/
def State.noteStaged (s : State) (c : Nat) (d : Desc) : State :=
  match (batchOf d).bind (s.batch c) with
  | some b =>
    let l := b.passes.map fun (q : Pass) => if q.table = tableOf d then { q with staged := true } else q
    s.setBatch { b with passes := l }
  | none => s

/-- The first rows of a prefetch staged and their entries marked; the rows count as gathered (R163, R184, log
entry 93). -/
def State.stageRows (s : State) (c : Cmd) (p : Pass) (v : Version) (us : List Nat) : State :=
  let a := fld c.desc 239 192
  let n := v.desc.rowBytes
  let rows := us.map (s.rowOf c p v true)
  let t := s.devWrite (prefetchExtent c.desc n).addr rows.flatten
  let t := (t.devWrite (p.ws + 32) (toBytes 6 a)).noteStaged c.id.ctx c.desc
  let t := us.foldl (fun (t : State) u =>
    t.devWrite (p.ws + 64 + 16 * u) { s.entry p u with staged := true }.bytes) t
  t.embCount c.id.ctx (engineOf c.desc) 7 (us.length * (n / 32))

/-- The rows of a prefetch staged (R163). -/
def State.stage (s : State) (c : Cmd) (p : Pass) (v : Version) : State × Status :=
  (s.stageRows c p v (prefetchRange c.desc), .ok)

/-- A prefetch stopped at a safe point: of its groups of 4,096 entries a free number have landed whole and are
marked, as far as no row of them is still to come from its owner (R163, R180). -/
def State.stagePart (s : State) (c : Cmd) : State :=
  match s.passOf c.id.ctx c.desc with
  | none => s
  | some (v, p) =>
    let us := prefetchRange c.desc
    let groups := s.freeVal 0 % ((us.length + 4095) / 4096)
    let l := us.take (4096 * groups)
    let t := s.usedFree 1
    if l = [] ∨ (l.any fun u => (s.entry p u).remote) = true then t else t.stageRows c p v l

/-- EMB_PREFETCH: rows of a range of unique entries copied into a staging region, STAGED set on them
(R163). -/
def execEmbPrefetch (id : CmdId) (s : State) : Host.Outcome State Fault Refusal :=
  .next (s.workOn id (isOp 0x82) embUnits fun s c =>
    match s.passOf id.ctx c.desc with
    | none => (s, some .invalid)
    | some (v, p) =>
      match (s.prefetchLate id.ctx c.desc v p).first false with
      | some st => (s, some st)
      | none =>
        s.withRows c p v true (prefetchRange c.desc) [prefetchExtent c.desc v.desc.rowBytes]
          fun s => s.stage c p v)

/-! ### Gather -/

/-- The body of EMB_GATHER_POOL (R183). -/
structure GatherBody where
  live : Bool
  flags : Option Nat
  core : Option Nat
  pool : Nat
  out : FC
  tgroup : Nat
  seed : Nat
  bags : Nat
  first : Nat
  pitch : Nat
  dest : Nat
  deriving DecidableEq, Repr

/-- The body read from a descriptor; none for a reserved output format. -/
def gatherBody (d : Desc) : Option GatherBody := do
  let f ← FC.ofCode (fld d 397 394)
  return {
    live := flag d 410, flags := if flag d 409 then some (fld d 311 264) else none,
    core := if fld d 401 400 = 0 then some (coreOf (fld d 408 402)) else none,
    pool := fld d 399 398, out := f, tgroup := fld d 393 386, seed := fld d 385 354,
    bags := fld d 353 333, first := fld d 332 312, pitch := fld d 263 240, dest := fld d 239 192 }

/-- Where a gather writes. -/
def GatherBody.place (g : GatherBody) : Place :=
  match g.core with
  | some k => .core k
  | none => .dev

/-- The bags of a gather. -/
def GatherBody.range (g : GatherBody) : List Nat := (List.range g.bags).map (· + g.first)

/-- The output rows of a gather: one a bag, or under NONE one an occurrence (R167). -/
def State.gatherRows (s : State) (g : GatherBody) (p : Pass) : Nat :=
  if g.pool = 0 then s.offset p (g.first + g.bags) - s.offset p g.first else g.bags

/-- The extents a gather writes. -/
def State.gatherWrites (s : State) (g : GatherBody) (p : Pass) (elems : Nat) : List Extent :=
  ⟨g.place, g.dest, s.gatherRows g p, g.pitch, rowBytes g.out.bits elems⟩ ::
    (g.flags.map fun a => Extent.flat .dev a g.bags).toList

/-- The unique positions a gather needs, each once. -/
def State.gatherNeeds (s : State) (g : GatherBody) (p : Pass) : List Nat :=
  let os := (g.range.map (s.bagOccs p)).flatten
  let ms := (os.map (s.occ p)).filter fun m => !dropped m
  (ms.foldl (fun (t : Tab Bool) m => Tab.put false t (position m) true) []).map (·.1)

/-- The checks of a gather that its pass decides (R178, R183, R231, R232, R239). -/
def State.gatherLate (s : State) (c : Nat) (g : GatherBody) (v : Version) (p : Pass) : Checks :=
  let n := rowBytes g.out.bits v.desc.elems
  let rows := s.gatherRows g p
  Checks.all [Checks.inv (decide (p.bags < g.first + g.bags ∨ g.pitch < n)),
    s.passReach c p v g.live (if p.bags < g.first + g.bags then [] else s.gatherNeeds g p),
    match g.core with
    | some _ => Checks.inv (!inCore g.dest (spanBytes rows g.pitch n))
    | none => s.stackRows c g.dest rows g.pitch n,
    match g.flags with
    | some a => s.stackRegion c a g.bags 1
    | none => Checks.pass]

/-- The element vector an occurrence contributes (R167). -/
def State.contribution (s : State) (c : Cmd) (p : Pass) (v : Version) (live : Bool) (o : Nat) : List FVal :=
  let e := v.desc.elems
  let x := (codesOf v.desc.fmt.bits e (s.rowOf c p v live (position (s.occ p o)))).map fun k =>
    v.desc.fmt.decode k 0 0
  if p.weights then x.map fun y => rnd32 ((s.weight p o).mul y) else x

/-- An elementwise FP32 sum. -/
def addRows (a b : List FVal) : List FVal := (a.zip b).map fun p => rnd32 (p.1.add p.2)

/-- A row of zeros. -/
def zeroRow (n : Nat) : List FVal := List.replicate n .zero

/-- The rounding of element (i, j) under a salt: to nearest with salt 0 (R106, R167). -/
def seeded (seed i j : Nat) : Rnd := if seed = 0 then .rne else .sr (srDraw seed i j)

/-- The output row of a bag under SUM or MEAN (R167, R168). -/
def State.poolBag (s : State) (c : Cmd) (g : GatherBody) (p : Pass) (v : Version) (b : Nat) : List FVal :=
  let os := (s.bagOccs p b).filter fun o => !dropped (s.occ p o)
  let sum := os.foldl (fun t o => addRows t (s.contribution c p v g.live o)) (zeroRow v.desc.elems)
  if g.pool = 2 ∧ os ≠ [] then sum.map fun x => rnd32 (x.div (.ofNat os.length)) else sum

/-- The output rows of a gather before conversion (R167). -/
def State.poolRows (s : State) (c : Cmd) (g : GatherBody) (p : Pass) (v : Version) : List (List FVal) :=
  if g.pool = 0 then
    ((g.range.map (s.bagOccs p)).flatten).map fun o =>
      if dropped (s.occ p o) then zeroRow v.desc.elems else s.contribution c p v g.live o
  else g.range.map (s.poolBag c g p v)

/-- The flag byte of a bag (R168). -/
def State.bagFlag (s : State) (p : Pass) (b : Nat) (nan : Bool) : Byte :=
  let ms := (s.bagOccs p b).map (s.occ p)
  BitVec.ofNat 8 (b2n (ms.all dropped) + 2 * b2n nan + 4 * b2n (ms.any substituted) + 8 * b2n (ms.any dropped))

/-- The work of a gather: rows pooled, converted, written, flagged and counted; the sectors counted are those of
every row it needs, staged and remote ones too, and a bag with no occurrence left counts as empty under NONE as well
(R167, R168, R184, log entries 93 and 119). -/
def State.gather (s : State) (c : Cmd) (g : GatherBody) (p : Pass) (v : Version) : State × Status :=
  let rows := s.poolRows c g p v
  let convs := (List.range rows.length).map fun i =>
    let r := rows.getD i []
    (List.range r.length).map fun j => g.out.convert (seeded g.seed i j) (r.getD j .zero)
  let bytes := convs.map fun r => packCodes g.out.bits (r.map (·.code))
  let t := s.setRows g.place g.dest g.pitch bytes
  let t := match g.flags with
    | some a =>
      t.devWrite a ((List.range g.bags).map fun i =>
        s.bagFlag p (g.first + i) ((convs.getD i []).any fun x => (g.out.decode x.code 0 0).isNan))
    | none => t
  let os := (g.range.map (s.bagOccs p)).flatten
  let used := os.filter fun o => !dropped (s.occ p o)
  let empty := g.range.filter fun b => (s.bagOccs p b).all fun o => dropped (s.occ p o)
  let e := engineOf c.desc
  let t := (t.embCount c.id.ctx e 7 ((s.gatherNeeds g p).length * (v.desc.rowBytes / 32))).embCount c.id.ctx
    e 8 used.length
  ((t.embCount c.id.ctx e 11 empty.length).health c.id.ctx g.tgroup g.out.code convs.flatten, .ok)

/-- EMB_GATHER_POOL: rows gathered and pooled into bags (R164, R167). -/
def execEmbGatherPool (id : CmdId) (s : State) : Host.Outcome State Fault Refusal :=
  .next (s.workOn id (isOp 0x83) embUnits fun s c =>
    match gatherBody c.desc, s.passOf id.ctx c.desc with
    | some g, some (v, p) =>
      match (s.gatherLate id.ctx g v p).first false with
      | some st => (s, some st)
      | none =>
        s.withRows c p v g.live (s.gatherNeeds g p) (s.gatherWrites g p v.desc.elems)
          fun s => s.gather c g p v
    | _, _ => (s, some .invalid))

/-! ### Merged lists -/

/-- Bytes of a merged-list record (R171). -/
def recordBytes (f : FC) (elems : Nat) : Nat :=
  (16 + rowBytes f.bits elems + (if f = .g8 then elems / 32 else 0) + 31) / 32 * 32

/-- The header of a merged list (R171). -/
structure ListHead where
  version : Nat
  table : Nat
  fmt : Nat
  elems : Nat
  entries : Nat
  deriving DecidableEq, Repr

/-- The 64 bytes of a header. -/
def ListHead.bytes (h : ListHead) : List Byte :=
  toBytes 64 (h.entries + h.elems * 2 ^ 32 + h.fmt * 2 ^ 48 + h.table * 2 ^ 64 + h.version * 2 ^ 80)

/-- A header read at a device address. -/
def State.listHead (s : State) (a : Nat) : ListHead :=
  let x := s.devNum a 64
  { version := bits x 95 80, table := bits x 73 64, fmt := bits x 51 48, elems := bits x 47 32,
    entries := bits x 31 0 }

/-- The record format of a list, none where a merged list cannot have it (R171). -/
def ListHead.format (h : ListHead) : Option FC :=
  if h.fmt = 0x0 ∨ h.fmt = 0x2 ∨ h.fmt = 0xC then FC.ofCode h.fmt else none

/-- Bytes of one record of a list. -/
def ListHead.stride (h : ListHead) : Nat := (h.format.map fun f => recordBytes f h.elems).getD 32

/-- Bytes of a whole list (R172). -/
def ListHead.size (h : ListHead) : Nat := 64 + h.entries * h.stride

/-- The unique entry of record k of a list. -/
def State.listEntry (s : State) (a : Nat) (h : ListHead) (k : Nat) : Entry :=
  entryOf (s.devNum (a + 64 + k * h.stride) 16)

/-- The gradient elements of record k of a list. -/
def State.listRow (s : State) (a : Nat) (h : ListHead) (k : Nat) : List FVal :=
  let f := h.format.getD .fp32
  let b := a + 64 + k * h.stride + 16
  let n := rowBytes f.bits h.elems
  let codes := codesOf f.bits h.elems (s.devRead b n)
  (List.range h.elems).map fun j =>
    f.decode (codes.getD j 0) (if f = .g8 then s.devNum (b + n + j / 32) 1 else 0) 0

/-- One record: the entry, the elements, the block exponents of G8, zeros to a multiple of 32 bytes,
and its conversions (R171). -/
def recordOf (f : FC) (seed i : Nat) (e : Entry) (row : List FVal) : List Byte × List Conv :=
  let pairs := (List.range row.length).map fun j => (seeded seed i j, row.getD j FVal.zero)
  let blocks := (chunks (if f = .g8 then 32 else row.length) (row.length + 1) pairs).map f.convertBlock
  let convs := (blocks.map (·.elems)).flatten
  let exps := if f = .g8 then blocks.map fun b => BitVec.ofNat 8 b.scale else []
  let l := e.bytes ++ packCodes f.bits (convs.map (·.code)) ++ exps
  (l ++ List.replicate (recordBytes f row.length - l.length) 0, convs)

/-- A merged list's bytes and its conversions; record i of the list rounds as row i (R167, R171, log entry
90). -/
def listOf (h : ListHead) (f : FC) (seed : Nat) (l : List (Entry × List FVal)) : List Byte × List Conv :=
  let rs := (List.range l.length).map fun i =>
    match l[i]? with
    | some x => recordOf f seed i x.1 x.2
    | none => ([], [])
  (({ h with entries := l.length }).bytes ++ (rs.map (·.1)).flatten, (rs.map (·.2)).flatten)

/-! ### Merge -/

/-- The body of EMB_GRAD_MERGE (R183). -/
structure MergeBody where
  pool : Nat
  out : FC
  grad : FC
  tgroup : Nat
  seed : Nat
  dest : Nat
  pitch : Nat
  src : Nat
  deriving DecidableEq, Repr

/-- The body read from a descriptor. -/
def mergeBody (d : Desc) : Option MergeBody := do
  let f ← FC.ofCode (fld d 359 356)
  let g ← FC.ofCode (fld d 355 352)
  return {
    pool := fld d 361 360, out := f, grad := g, tgroup := fld d 351 344, seed := fld d 343 312,
    dest := fld d 311 264, pitch := fld d 263 240, src := fld d 239 192 }

/-- A gradient row decoded (R169). -/
def State.gradRow (s : State) (m : MergeBody) (elems k : Nat) : List FVal :=
  (codesOf m.grad.bits elems (s.devRead (m.src + k * m.pitch) (rowBytes m.grad.bits elems))).map fun x =>
    m.grad.decode x 0 0

/-- The contribution of an occurrence of bag b (R169). -/
def State.gradContribution (s : State) (m : MergeBody) (p : Pass) (elems b o : Nat) : List FVal :=
  let g := s.gradRow m elems (if m.pool = 0 then o else b)
  if m.pool = 2 then
    let n := ((s.bagOccs p b).filter fun o => !dropped (s.occ p o)).length
    let f := rnd32 ((s.weight p o).div (.ofNat n))
    g.map fun x => rnd32 (x.mul f)
  else if p.weights then g.map fun x => rnd32 (x.mul (s.weight p o))
  else g

/-- The contributing occurrences with their bags, in index-list order (R169). -/
def State.contributors (s : State) (p : Pass) : List (Nat × Nat) :=
  (((List.range p.bags).map fun b => (s.bagOccs p b).map fun o => (b, o)).flatten).filter fun x =>
    !dropped (s.occ p x.2) && !substituted (s.occ p x.2)

/-- Adjacent pairs summed, an odd last one passed on (R170). -/
def pairSums : List (List FVal) → List (List FVal)
  | a :: b :: t => addRows a b :: pairSums t
  | l => l

/-- The segmented tree of R170. -/
def treeSum : Nat → List (List FVal) → List FVal
  | 0, l => l.headD []
  | n + 1, l => if l.length ≤ 1 then l.headD [] else treeSum n (pairSums l)

/-- The sum of an entry's contributions: in index-list order, or on the wide path for a thicket row
(R170). -/
def mergeSum (thicket : Bool) (elems : Nat) (l : List (List FVal)) : List FVal :=
  if thicket then treeSum l.length l else l.foldl addRows (zeroRow elems)

/-- The extents a merge reads: the workspace and the gradient rows. -/
def State.mergeReads (m : MergeBody) (p : Pass) (elems : Nat) : List Extent :=
  [p.extent, ⟨.dev, m.src, if m.pool = 0 then p.n else p.bags, m.pitch, rowBytes m.grad.bits elems⟩]

/-- The extent of a merge's list at its greatest, a record for each unique entry (R171, R183, log entry 91). -/
def State.mergeExtent (s : State) (m : MergeBody) (p : Pass) (elems : Nat) : Extent :=
  .flat .dev m.dest (64 + s.uniqueCount p * recordBytes m.out elems)

/-- The checks of a merge that its pass decides (R183, R231, R232, R239). -/
def State.mergeLate (s : State) (c : Nat) (m : MergeBody) (v : Version) (p : Pass) : Checks :=
  let e := v.desc.elems
  let rows := if m.pool = 0 then p.n else p.bags
  Checks.all [Checks.inv (decide (m.out = .g8 ∧ e % 32 ≠ 0)), s.reachChecks c [p.extent],
    s.stackRows c m.src rows m.pitch (rowBytes m.grad.bits e),
    s.stackRegion c m.dest (s.mergeExtent m p e).n 64]

/-- The merged gradients of a pass, by unique entry in ascending row order (R170, R171). -/
def State.mergeItems (s : State) (m : MergeBody) (p : Pass) (elems : Nat) : List (Entry × List FVal) :=
  let l := s.contributors p
  let byEntry := l.foldl (fun (t : Tab (List (Nat × Nat))) x =>
    Tab.modify [] t (position (s.occ p x.2)) (· ++ [x])) []
  byEntry.map fun q =>
    let e := s.entry p q.1
    let cs := q.2.map fun x => s.gradContribution m p elems x.1 x.2
    ({ e with mult := q.2.length, thicket := decide (4096 ≤ q.2.length) }, mergeSum e.thicket elems cs)

/-- EMB_GRAD_MERGE: bag gradients merged into one gradient per unique row (R169 to R171). -/
def execEmbGradMerge (id : CmdId) (s : State) : Host.Outcome State Fault Refusal :=
  .next (s.runOn id (isOp 0x84) embUnits fun s c =>
    match mergeBody c.desc, s.passOf id.ctx c.desc with
    | some m, some (v, p) =>
      match (s.mergeLate id.ctx m v p).first false with
      | some st => (s, st)
      | none =>
        let e := v.desc.elems
        s.withPoison (State.mergeReads m p e) [s.mergeExtent m p e] fun s =>
          let r := listOf ⟨v.num, v.table, m.out.code, e, 0⟩ m.out m.seed (s.mergeItems m p e)
          ((s.devWrite m.dest r.1).health id.ctx m.tgroup m.out.code r.2, .ok)
    | _, _ => (s, .invalid))

/-! ### Combine -/

/-- The list addresses of a combine (R183). -/
def State.combineLists (s : State) (d : Desc) : List Nat :=
  (List.range (fld d 337 332 + 1)).map fun k => s.devNum (fld d 239 192 + 8 * k) 8

/-- A combined entry: rows added, multiplicities added with saturation, flags ORed; where the lists name different
owners, the first remote entry's stands (R162, R172, log entry 114). -/
def joinEntries (a b : Entry × List FVal) : Entry × List FVal :=
  let n := a.1.mult + b.1.mult
  ({ owner := if a.1.remote then a.1.owner else b.1.owner, mult := min n 0xFFFFFFFF,
     staged := a.1.staged || b.1.staged, subst := a.1.subst || b.1.subst,
     remote := a.1.remote || b.1.remote, sat := a.1.sat || b.1.sat || decide (0xFFFFFFFF < n),
     thicket := decide (4096 ≤ n), row := a.1.row }, addRows a.2 b.2)

/-- The records of lists combined by row, in the order the lists are named (R172). -/
def combineItems (l : List (Entry × List FVal)) : List (Entry × List FVal) :=
  (l.foldl (fun (t : Tab (Option (Entry × List FVal))) x =>
    Tab.modify none t x.1.row fun o =>
      match o with
      | some y => some (joinEntries y x)
      | none => some ({ x.1 with thicket := decide (4096 ≤ x.1.mult) }, x.2)) []).filterMap (·.2)

/-- The combined entries whose summed multiplicity saturates: more than one record of a row, and a sum above
the greatest count (R162, R172). -/
def saturatedSums (l : List (Entry × List FVal)) : Nat :=
  let sums := l.foldl (fun (t : Tab (Nat × Nat)) x =>
    Tab.modify (0, 0) t x.1.row fun n => (n.1 + 1, n.2 + x.1.mult)) []
  (sums.filter fun x => decide (1 < x.2.1 ∧ 0xFFFFFFFF < x.2.2)).length

/-- Every record of a merged list. -/
def State.listItems (s : State) (a : Nat) : List (Entry × List FVal) :=
  let h := s.listHead a
  (List.range h.entries).map fun k => (s.listEntry a h k, s.listRow a h k)

/-- The output of a combine at its greatest, a record for each entry of its lists (R172, R183, log entry 91). -/
def State.combineExtent (s : State) (d : Desc) (f : FC) : Extent :=
  let hs := (s.combineLists d).map s.listHead
  .flat .dev (fld d 287 240)
    (64 + (hs.map (·.entries)).sum * recordBytes f ((hs.head?.map (·.elems)).getD 0))

/-- The checks of a combine's headers when it runs: one table, version and row length (R172). -/
def State.combineHeads (s : State) (d : Desc) (f : FC) : Checks :=
  let hs := (s.combineLists d).map s.listHead
  let same := hs.all fun h => hs.head?.any fun g =>
    decide (h.table = g.table ∧ h.version = g.version ∧ h.elems = g.elems)
  Checks.inv (!same || hs.any (fun h => h.format.isNone) ||
    (decide (f = .g8) && hs.any fun h => decide (h.elems % 32 ≠ 0)))

/-- The checks of a combine's lists when it runs, each at its full size (R172). -/
def State.combineSizes (s : State) (c : Nat) (d : Desc) : Checks :=
  Checks.all ((s.combineLists d).map fun a => s.stackRegion c a (s.listHead a).size 1)

/-- The work of a combine (R162, R172). -/
def State.combine (s : State) (c : Nat) (d : Desc) (f : FC) : State :=
  let ls := s.combineLists d
  let all := (ls.map s.listItems).flatten
  let h := (ls.head?.map s.listHead).getD ⟨0, 0, 0, 0, 0⟩
  let r := listOf { h with fmt := f.code } f (fld d 319 288) (combineItems all)
  ((s.devWrite (fld d 287 240) r.1).embCount c (engineOf d) 10 (saturatedSums all)).health c (fld d 327 320)
    f.code r.2

/-- EMB_GRAD_COMBINE: up to 64 merged lists of one table and version combined into one; a list that leaves its
memory leaves the output undefined (R172). -/
def execEmbGradCombine (id : CmdId) (s : State) : Host.Outcome State Fault Refusal :=
  .next (s.runOn id (isOp 0x85) embUnits fun s c =>
    let d := c.desc
    match FC.ofCode (fld d 331 328) with
    | none => (s, .invalid)
    | some f =>
      let ls := s.combineLists d
      let out := s.combineExtent d f
      let region := s.stackRegion id.ctx out.addr out.n 64
      let sizes := s.combineSizes id.ctx d
      match (Checks.all [s.combineHeads d f, region, sizes]).first false with
      | some st =>
        if (sizes.first false).isSome && (region.first false).isNone then (s.scrambleAll [out], st) else (s, st)
      | none =>
        s.withPoison (.flat .dev (fld d 239 192) (8 * ls.length) ::
            ls.map fun a => Extent.flat .dev a (s.listHead a).size) [out] fun s => (s.combine id.ctx d f, .ok))

/-! ### Replica fetch -/

/-- The fingerprint term of parameter n with working-copy encoding c at epoch t (R216). -/
def fpTerm (tag t n c : Nat) : Nat :=
  let w := 2 ^ 64
  let x := (tag * 2 ^ 32 + t + n * 0x9E3779B97F4A7C15) % w
  let x := x ^^^ (c % w)
  let x := (x ^^^ (x >>> 30)) * 0xBF58476D1CE4E5B9 % w
  let x := (x ^^^ (x >>> 27)) * 0x94D049BB133111EB % w
  x ^^^ (x >>> 31)

/-- The fingerprint of a list of parameters (R216). -/
def fpSum (tag t : Nat) (l : List (Nat × Nat)) : Nat :=
  (l.foldl (fun a p => a + fpTerm tag t p.1 p.2) 0) % 2 ^ 64

/-- Rows a FETCH_REQUEST may ask for. -/
def fetchPerFrame (rowBytes : Nat) : Nat := min 131070 (1048560 / rowBytes)

/-- A FETCH_REQUEST frame: table, flags (bit 0 the first of a turn, bit 1 the end of the fetch, bit 2 verify,
bit 3 the last of the list to verify), epoch, the tag of the fetch's first request, then the rows (R173, R217, R265,
log entry 23). -/
def State.fetchFrame (s : State) (c table epoch flags first : Nat) (a : Ask) : Frame :=
  s.mkFrame 0x13 c a.member a.tag 0 (toBytes 2 table ++ toBytes 2 flags ++ toBytes 4 epoch ++ toBytes 4 first ++
    (a.rows.map (toBytes 8)).flatten)

/-- The tag of a fetch's first request, which tells it from the other fetches of its device. -/
def State.fetchKey (s : State) (id : CmdId) : Nat := ((s.asksOf id).head?.map (·.tag)).getD s.nextTag

/-- The rows a replica fetch names that its table holds; an index at or above NUM_ROWS is left out (R173, log
entry 92). -/
def State.fetchList (s : State) (v : Version) (a : Nat) : List Nat :=
  let h := s.listHead a
  ((List.range h.entries).map fun k => (s.listEntry a h k).row).filter fun r => decide (r < v.desc.rows)

/-- One more request of a fetch sent: the rows after those already asked for in this turn. -/
def State.askFetch (s : State) (c : Cmd) (v : Version) (turn : Nat) (verify : Bool) (rows : List Nat) : State :=
  let old := (s.asksOf c.id).filter fun a => decide (a.turn = turn)
  let done := (old.map (·.rows.length)).sum
  let l := (rows.drop done).take (fetchPerFrame v.desc.rowBytes)
  let flags := b2n (old = []) + 4 * b2n verify + 8 * b2n (verify && decide (rows.length ≤ done + l.length))
  let t := s.addAsk c.id v.desc.owner (engineOf c.desc) turn l
  let t := t.updAsk s.nextTag fun x => { x with sent := true }
  ((t.asksOf c.id).filter fun a => decide (a.tag = s.nextTag)).foldl (fun (u : State) a =>
    u.sendFrame (u.fetchFrame c.id.ctx v.table (fld c.desc 271 240) flags (s.fetchKey c.id) a)) t |>.noteNeeds c.id

/-- A fetch is over: its owner is told, where it has been asked and can be reached (R173). -/
def State.endFetch (s : State) (c : Cmd) : State :=
  let l := s.asksOf c.id
  let t := s.dropAsks c.id
  match l.getLast? with
  | some a =>
    if t.memberLost a.member then t
    else t.sendFrame (t.fetchFrame c.id.ctx (fld c.desc 281 272) (fld c.desc 271 240) 2 (s.fetchKey c.id)
      { a with rows := [] })
  | none => t

/-- A replica fetch ends because its owner has left: the rows it names are undefined (R177). -/
def State.fetchLeft (s : State) (c : Cmd) (v : Version) (rows : List Nat) : State :=
  (s.endFetch c).scrambleAll (rows.map fun r => .flat .dev (v.desc.rowAddr r) v.desc.rowBytes)

/-- The rows an answer brought, written whole into the replica (R164, R173). -/
def State.landRows (s : State) (v : Version) (a : Ask) : State :=
  let n := v.desc.rowBytes
  let l := (a.reply.map (·.2)).getD []
  ((List.range a.rows.length).zip a.rows).foldl (fun (t : State) p =>
    t.devWrite (v.desc.rowAddr p.2) ((l.drop (16 + p.1 * n)).take n)) s

/-- The fingerprint of the rows that one turn of a fetch received. A received element's parameter number is its row
index × E + its place; the owner's local slots, which R186 numbers by, are not sent (R216, R217, log entry 115). -/
def State.turnPrint (s : State) (c : Cmd) (v : Version) (turn : Nat) : Nat :=
  let t := v.desc
  let asks := (s.asksOf c.id).filter fun a => decide (a.turn = turn)
  let head := ofBytes (((asks.head?.bind (·.reply)).map (·.2)).getD [])
  let terms := (asks.map fun a =>
    let l := (a.reply.map (·.2)).getD []
    (((List.range a.rows.length).zip a.rows).map fun p =>
      let codes := codesOf t.fmt.bits t.elems ((l.drop (16 + p.1 * t.rowBytes)).take t.rowBytes)
      (List.range t.elems).map fun k => (p.2 * t.elems + k, codes.getD k 0)).flatten).flatten
  fpSum (bits head 31 0) (bits head 63 32) terms

/-- The stored fingerprint an answer carries. -/
def Ask.print (a : Ask) : Nat := bits (ofBytes ((a.reply.map (·.2)).getD [])) 127 64

/-- The replica's shard is suspect, or is no longer (R180, R217). -/
def State.markSuspect (s : State) (c table : Nat) (b : Bool) : State :=
  s.setTable c table { s.tableNum c table with suspect := b }

/-- The end of a turn of a fetch: a matching fingerprint completes it, a mismatch fetches again, and
the third asks the owner to verify (R217). -/
def State.turnEnd (s : State) (c : Cmd) (v : Version) (turn : Nat) (rows : List Nat) :
    State × Option Status :=
  let asks := (s.asksOf c.id).filter fun a => decide (a.turn = turn)
  let fp := s.turnPrint c v turn
  if asks.head?.any fun a => decide (a.print = fp) then
    ((s.endFetch c).markSuspect c.id.ctx v.table false,
      some (if turn = 1 then .ok else .retriedOk))
  else
    let t := (s.tally c.id.ctx 0x7131 1 1).markSuspect c.id.ctx v.table true
    let t := t.recordEvent (cmdEvent c 0x2002 .none_ t.mgmtLoc 1 0xFF)
    let t := t.updCmd c.id fun x => { x with retries := x.retries + 1 }
    (t.askFetch c v (turn + 1) (decide (turn = 3)) rows, none)

/-- The owner's answer to the verification a fetch asked for (R217). -/
def State.verifyEnd (s : State) (c : Cmd) (v : Version) : State × Option Status :=
  let fp := s.turnPrint c v 3
  let ok := ((s.asksOf c.id).filter fun a => decide (a.turn = 4)).any fun a => decide (a.print = fp)
  let t := s.endFetch c
  if ok then (t.markSuspect c.id.ctx v.table false, some .retriedOk) else (t, some .dataSuspect)

/-- EMB_REPLICA_FETCH: the rows a merged list names fetched from the owner into the version of the replica that is
current at each step, their fingerprint checked; without a current replica version it is INVALID (R13, R173, R177, R217,
R231, R232, R239, log entries 116 and 117). -/
def execEmbReplicaFetch (id : CmdId) (s : State) : Host.Outcome State Fault Refusal :=
  .next (s.workOn id (isOp 0x86) embUnits fun s c =>
    let d := c.desc
    let a := fld d 239 192
    let h := s.listHead a
    match (s.currentVersion id.ctx (fld d 281 272)).filter fun v => decide (v.desc.kind = 2) with
    | none => (s.endFetch c, some .invalid)
    | some v =>
      let chk := (Checks.inv h.format.isNone).and (s.stackRegion id.ctx a h.size 1)
      match chk.first false with
      | some st => (s.endFetch c, some st)
      | none =>
        let rows := s.fetchList v a
        let asks := s.asksOf id
        let reach := s.reachChecks id.ctx (rows.map fun r => .flat .dev (v.desc.rowAddr r) v.desc.rowBytes)
        if (reach.first false).isSome then (s.endFetch c, reach.first false)
        else if s.memberLost v.desc.owner then (s.fetchLeft c v rows, some .membershipChanged)
        else if s.devReadBad a h.size then (s.endFetch c, some .dataSuspect)
        else
          match asks.getLast? with
          | none => (s.askFetch c v 1 false rows, none)
          | some last =>
            match last.reply with
            | none => (s, none)
            | some (st, _) =>
              let got := ((asks.filter fun x => decide (x.turn = last.turn)).map (·.rows.length)).sum
              if st = .membershipChanged then ((s.fetchLeft c v rows).noteNeeds id, some st)
              else if st ≠ .ok then ((s.endFetch c).noteNeeds id, some st)
              else if last.turn = 4 then
                if got < rows.length then ((s.noteNeeds id).askFetch c v 4 true rows, none)
                else (s.noteNeeds id).verifyEnd c v
              else
                let t := (s.landRows v last).noteNeeds id
                if got < rows.length then (t.askFetch c v last.turn false rows, none)
                else t.turnEnd c v last.turn rows)

/-! ### Admission and outputs -/

/-- The engine a command names is in its context's grant (R178). -/
def State.engineDenied (s : State) (c : Nat) (d : Desc) : Checks :=
  Checks.deny (!s.hasEngine c (engineOf d))

/-- A count of 1 to 1,048,576. -/
def countBad (n : Nat) : Bool := decide (n = 0 ∨ 1048576 < n)

/-- The checks of EMB_TABLE_INSTALL's body (R183). -/
def State.installChecks (s : State) (c : Nat) (d : Desc) : Checks :=
  let a := fld d 239 192
  (Checks.inv (!reservedZero d [(511, 272), (255, 251)])).and
    (if flag d 250 then Checks.inv (decide (a ≠ 0)) else s.stackRegion c a 64 64)

/-- The checks of EMB_ADMIT's body (R183). -/
def State.admitChecks (s : State) (c : Nat) (d : Desc) : Checks :=
  let b := admitBody d
  let ids := s.bindList b
  Checks.all [s.engineDenied c d,
    Checks.inv (!reservedZero d [(511, 505)] || countBad b.n || countBad b.bags ||
      (b.openPass && decide (b.bindCount = 0 ∨ 64 < b.bindCount)) ||
      (!b.openPass && decide (b.bindCount ≠ 0 ∨ b.bind ≠ 0)) || (!b.weights && decide (b.weightAddr ≠ 0)) ||
      (b.openPass && (decide (ids.eraseDups ≠ ids) || ids.any fun t => decide (1024 ≤ t) || !(s.tableNum c t).defined))),
    s.stackRegion c b.indexAddr (8 * b.n) 1, s.stackRegion c b.offsetAddr (4 * (b.bags + 1)) 1,
    s.stackRegion c b.ws (workBytes b.n b.bags b.weights) 256,
    if b.weights then s.stackRegion c b.weightAddr (4 * b.n) 1 else Checks.pass,
    if b.openPass then s.stackRegion c b.bind (2 * b.bindCount) 1 else Checks.pass]

/-- The checks that a completed pass decides, made where one is there (R183). -/
def State.lateChecks (s : State) (c : Nat) (d : Desc) : Checks :=
  match s.passOf c d with
  | none => Checks.pass
  | some (v, p) =>
    match opcode d with
    | 0x82 => s.prefetchLate c d v p
    | 0x83 => ((gatherBody d).map fun g => s.gatherLate c g v p).getD Checks.pass
    | 0x84 => ((mergeBody d).map fun m => s.mergeLate c m v p).getD Checks.pass
    | _ => Checks.pass

/-- The checks of EMB_GATHER_POOL's body (R178, R183). -/
def State.gatherChecks (s : State) (c : Nat) (d : Desc) : Checks :=
  let kind := fld d 401 400
  let pool := fld d 399 398
  ⟨!reservedZero d [(511, 433)] || countBad (fld d 353 333) ||
      decide (pool = 3 ∨ 1 < kind ∨ 4 < fld d 397 394) || (flag d 409 && decide (pool = 0)) ||
      (!flag d 409 && decide (fld d 311 264 ≠ 0)) ||
      !coreOk (fld d 408 402) || (decide (kind = 0) && decide (fld d 239 216 ≠ 0)),
    decide (kind = 0) && !s.hasCore c (coreOf (fld d 408 402)), false, false⟩

/-- An output format a merged list may have (R171). -/
def listFormat (n : Nat) : Bool := decide (n = 0x0 ∨ n = 0x2 ∨ n = 0xC)

/-- The checks of EMB_GRAD_COMBINE's body: the array of addresses and each header (R172, R183). -/
def State.combineChecks (s : State) (c : Nat) (d : Desc) : Checks :=
  let arr := s.stackRegion c (fld d 239 192) (8 * (fld d 337 332 + 1)) 1
  let ls := s.combineLists d
  Checks.all [Checks.inv (!reservedZero d [(511, 342)] || !listFormat (fld d 331 328)),
    s.stackRegion c (fld d 287 240) 64 64, arr,
    if arr.invalid || arr.denied then Checks.pass
    else Checks.all (ls.map fun a => (Checks.inv (decide (2 ^ 48 ≤ a))).and (s.stackRegion c a 64 1))]

/-- The checks of an embedding command's body (R178, R183). -/
def State.embeddingChecks (s : State) (c : Nat) (d : Desc) : Checks :=
  match opcode d with
  | 0x80 => s.installChecks c d
  | 0x81 => s.admitChecks c d
  | 0x82 => Checks.all [s.engineDenied c d, s.lateChecks c d,
      Checks.inv (!reservedZero d [(511, 304)] || countBad (fld d 281 261) ||
        decide (fld d 239 192 % 256 ≠ 0))]
  | 0x83 => Checks.all [s.engineDenied c d, s.lateChecks c d, s.gatherChecks c d]
  | 0x84 => Checks.all [s.engineDenied c d, s.lateChecks c d,
      Checks.inv (!reservedZero d [(511, 384)] || decide (fld d 361 360 = 3 ∨ 2 < fld d 355 352) ||
        !listFormat (fld d 359 356) || decide (fld d 311 264 % 64 ≠ 0))]
  | 0x85 => (s.engineDenied c d).and (s.combineChecks c d)
  | 0x86 =>
    let head := s.stackRegion c (fld d 239 192) 64 1
    let n := if head.invalid || head.denied then 64 else (s.listHead (fld d 239 192)).size
    Checks.all [s.engineDenied c d, Checks.inv (!reservedZero d [(511, 286)]), head,
      s.stackRegion c (fld d 239 192) n 1]
  | 0x87 => Checks.inv (!reservedZero d [(511, 200)])
  | _ => Checks.inv true

/-- What a stopped embedding command leaves undefined (R177, R180). -/
def State.embeddingOutputs (s : State) (c : Nat) (d : Desc) : List Extent :=
  match opcode d with
  | 0x81 =>
    let b := admitBody d
    [.flat .dev b.ws (workBytes b.n b.bags b.weights)]
  | 0x85 => ((FC.ofCode (fld d 331 328)).map (s.combineExtent d)).toList
  | _ =>
    match s.passOf c d with
    | none => []
    | some (v, p) =>
      match opcode d with
      | 0x82 => [prefetchExtent d v.desc.rowBytes]
      | 0x83 => ((gatherBody d).map fun g => s.gatherWrites g p v.desc.elems).getD []
      | 0x84 => ((mergeBody d).map fun m => s.mergeExtent m p v.desc.elems).toList
      | _ => []

/-- The rows a replica fetch names, of which a membership change or a retirement leaves the contents undefined
(R10, R177). -/
def State.fetchOutputs (s : State) (c : Nat) (d : Desc) : List Extent :=
  match (s.currentVersion c (fld d 281 272)).filter fun v => isOp 0x86 d && decide (v.desc.kind = 2) with
  | none => []
  | some v => (s.fetchList v (fld d 239 192)).map fun r => .flat .dev (v.desc.rowAddr r) v.desc.rowBytes

/-! ### Serving other members -/

/-- Row k of a ROW_REQUEST. -/
def requestRow (body : List Byte) (k : Nat) : Nat × Nat × Nat :=
  let x := ofBytes ((body.drop (16 * k)).take 16)
  (bits x 15 0, bits x 31 16, bits x 127 64)

/-- A requested row is served: its version is installed and unreleased, and the row is local
(R166). -/
def State.rowServed (s : State) (c : Nat) (q : Nat × Nat × Nat) : Option (Nat × Nat) :=
  match s.findVersion c q.1 q.2.1 with
  | none => none
  | some v =>
    if v.desc.isLocal q.2.2 ∧ q.2.2 < v.desc.rows then some (v.desc.rowAddr q.2.2, v.desc.rowBytes) else none

/-- The rows of a ROW_REQUEST, none where one is not served here. -/
def State.rowsServed (s : State) (f : Frame) : List (Option (Nat × Nat)) :=
  (List.range (f.body.length / 16)).map fun k => s.rowServed f.ctx (requestRow f.body k)

/-- The accesses that answering a ROW_REQUEST makes: narrow ones (R237). -/
def State.rowsAccess (s : State) (f : Frame) : List Access :=
  toAccesses false 1 ((s.rowsServed f).filterMap id |>.map fun q => .flat .dev q.1 q.2)

/-- A request for rows answered: the rows in request order, or REFUSED, as is a request for more than one reply may
hold, or for a row outside the presented range or the context's memory (R166, R231, R232, R239, R264, R300). -/
def State.serveRows (s : State) (f : Frame) : State :=
  let qs := s.rowsServed f
  let l := qs.filterMap id
  let reach := s.reachChecks f.ctx (l.map fun q => .flat .dev q.1 q.2)
  if qs.any (·.isNone) || decide (frameRoom < (l.map (·.2)).sum) then s.sendRefused f .invalid
  else
    match reach.first false with
    | some st => s.sendRefused f st
    | none =>
    if l.any fun q => s.devReadBad q.1 q.2 then s.sendRefused f .dataSuspect
    else s.sendFrame (s.mkFrame 0x30 f.ctx f.src f.tag 0 (l.map fun q => s.devRead q.1 q.2).flatten)

/-- A HOLD applied: one more reader of the version, or one fewer; a version that is not installed
refuses it (R155, R156). -/
def State.applyHold (s : State) (f : Frame) : State :=
  let x := ofBytes f.body
  let table := bits x 15 0
  let num := bits x 31 16
  let here := fun (h : RemoteHold) => decide (h.member = f.src ∧ h.ctx = f.ctx ∧ h.table = table ∧ h.num = num)
  if x.testBit 48 then
    match s.findVersion f.ctx table num with
    | none => s.sendRefused f .invalid
    | some v =>
      let l := if s.remoteHolds.any here then
          s.remoteHolds.map fun h => if here h then { h with count := h.count + 1 } else h
        else s.remoteHolds ++ [⟨f.src, f.ctx, table, num, 1⟩]
      (({ s with remoteHolds := l }).addReaders v 1).sendRefused f .ok
  else
    match s.remoteHolds.find? here with
    | none => s
    | some h =>
      let l := if h.count ≤ 1 then s.remoteHolds.filter fun h => !here h
        else s.remoteHolds.map fun h => if here h then { h with count := h.count - 1 } else h
      let t := { s with remoteHolds := l }
      match t.findVersion f.ctx table num with
      | some v => t.addReaders v (2 ^ 32 - 1)
      | none => t

end Sys2Proof.Machine
end

