-- ==== Sys2Proof/Machine/Stand.lean ====
section
/-! DEFINITION. The stand commands (chapters Stands: The Matrix Arrays, and Number Formats, Accumulation
and Quantization). -/

namespace Sys2Proof.Machine

/-- A stand. -/
def State.stand (s : State) (k : Nat) : Stand := Tab.get Stand.fresh s.stands k

/-- A stand replaced. -/
def State.setStand (s : State) (k : Nat) (x : Stand) : State :=
  { s with stands := Tab.put Stand.fresh s.stands k x }

/-! ### Fields every stand command has -/

/-- The width a stand command was built for (R77, R89). -/
def standWidth (d : Desc) : Nat := 128 - 8 * fld d 201 199

/-- Bytes of an accumulator element: FP32 or BF16 (R59). -/
def accBytes (fmtAcc : Nat) : Nat := if fmtAcc = 1 then 2 else 4

/-- The value of an accumulator element's encoding. -/
def accValue (fmtAcc c : Nat) : FVal := if fmtAcc = 1 then Fmt.bf16.decode c else Fmt.fp32.decode c

/-- The checks every stand command shares: the target core, the width code, the accumulator format, the
rows, and the grant (R83, R89, R92). -/
def State.standCommon (s : State) (c : Nat) (d : Desc) (fmtAcc m : Nat) : Checks :=
  ⟨!coreOk (fld d 198 192) || decide (4 < fld d 201 199 ∨ 1 < fmtAcc ∨ m = 0 ∨ 4096 < m),
    !s.hasCore c (standCore d), false, false⟩

/-- A region of one half of the accumulator store that ends at or below 1 MiB (R59, R92). -/
def accRegionBad (offset m w b : Nat) : Bool := decide (2 ^ 20 < 256 * offset + m * w * b)

/-- The instruction whose flip a stand waits for: one that is still at work (R67, R68). -/
def State.flipWaits (s : State) (k : Nat) : Option Cmd :=
  ((s.stand k).flipPending.bind s.findCmd).filter fun c => decide (c.phase = Phase.released)

/-! ### Stand rows -/

/-- A stand row's work on the released command it names, in dispatch order; a width that is
not the presented one completes it with UNIT_RETIRED (R72, R78, log entry 88). -/
def State.runStand (s : State) (id : CmdId) (p : Desc → Bool) (ready : State → Cmd → Bool)
    (f : State → Cmd → State × Status) : State :=
  match s.runnable id p with
  | none => s
  | some c =>
    let k := standCore c.desc
    if !s.takesUnit c then s
    else if s.width k ≠ standWidth c.desc then s.finish id .unitRetired
    else if s.blocked (.stand k) || !ready s c then s
    else
      let r := f (s.took c) c
      r.1.finish id r.2

/-! ### Matrix instructions -/

/-- A MAC class: MACs per cell per clock for the K depth, and whether it is the 32-bit class (R53,
R54). -/
structure MacClass where
  p : Nat
  wide : Bool
  deriving DecidableEq, Repr

/-- The class of an operand pair, none outside the pairing table (R101). -/
def pairClass (fs fm : FC) : Option MacClass :=
  let eight : List FC := [.e4m3, .e5m2, .mx8e4, .mx8e5, .g8]
  if (fs = .bf16 ∧ fm = .bf16) ∨ (fs = .fp16 ∧ fm = .fp16) then some ⟨1, false⟩
  else if (fs ∈ eight ∨ fs = .cb8) ∧ fm ∈ eight then some ⟨2, false⟩
  else if fs = .mxint8 ∧ fm = .mxint8 then some ⟨2, false⟩
  else if (fs = .mx6e2 ∨ fs = .mx6e3) ∧ (fm = .mx6e2 ∨ fm = .mx6e3) then some ⟨2, false⟩
  else if (fs = .fp4 ∨ fs = .mx4 ∨ fs = .cb4) ∧ (fm = .fp4 ∨ fm = .mx4) then some ⟨4, false⟩
  else if fs = .fp32 ∧ fm = .fp32 then some ⟨1, true⟩
  else none

/-- The body of a matrix instruction (R89). -/
structure MatBody where
  fs : FC
  fm : FC
  cls : MacClass
  core : Nat
  w : Nat
  m : Nat
  fmtAcc : Nat
  mode : Nat
  ts : Bool
  tm : Bool
  reuse : Bool
  flip : Bool
  accOff : Nat
  srcS : Nat
  pitchS : Nat
  srcM : Nat
  pitchM : Nat
  scaleS : Nat
  scaleSEn : Bool
  scaleM : Nat
  scaleMEn : Bool
  tgroup : Nat
  seed : Nat
  gen : Bool
  deriving DecidableEq, Repr

/-- The body read from a descriptor; none for a format code or a pair that is not admitted. -/
def matBody (d : Desc) : Option MatBody := do
  let fs ← FC.ofCode (fld d 205 202)
  let fm ← FC.ofCode (fld d 209 206)
  let cls ← pairClass fs fm
  return {
    fs := fs, fm := fm, cls := cls, core := standCore d, w := standWidth d, m := fld d 236 224,
    fmtAcc := fld d 211 210, mode := fld d 213 212, ts := flag d 214, tm := flag d 215,
    reuse := flag d 216, flip := flag d 217, accOff := fld d 251 240, srcS := fld d 279 256,
    pitchS := fld d 303 288, srcM := fld d 343 320, pitchM := fld d 319 304,
    scaleS := fld d 375 352, scaleSEn := flag d 218, scaleM := fld d 407 384,
    scaleMEn := flag d 219, tgroup := fld d 351 344, seed := fld d 447 416,
    gen := decide (opcode d = 0x41) }

/-- The K depth (R53). -/
def MatBody.k (b : MatBody) : Nat := 128 * b.cls.p

/-- Bytes of a codebook that stands before the stationary scales (R98). -/
def MatBody.bookBytes (b : MatBody) : Nat :=
  match b.fs with
  | .cb8 => 512
  | .cb4 => 32
  | _ => 0

/-- The span of the stationary operand: rows and elements a row (R57). -/
def MatBody.stationarySpan (b : MatBody) : Nat :=
  if b.ts then spanBytes b.w b.pitchS (rowBytes b.fs.bits b.k)
  else spanBytes b.k b.pitchS (rowBytes b.fs.bits b.w)

/-- The span of a moving operand read from SRC_M. -/
def MatBody.movingSpan (b : MatBody) : Nat :=
  if b.tm then spanBytes b.k b.pitchM (rowBytes b.fm.bits b.m)
  else spanBytes b.m b.pitchM (rowBytes b.fm.bits b.k)

/-- Row r of n packed elements at a pitch in core k's stores. -/
def State.coreRow (s : State) (k a pitch w n r : Nat) : List Nat :=
  codesOf w n (s.get (.core k) (a + r * pitch) (rowBytes w n))

/-- One byte of core k's stores. -/
def State.coreByte (s : State) (k a : Nat) : Nat := s.num (.core k) a 1

/-- The stationary tile the fields name, decoded: K rows of W values (R57, R97, R98). -/
def State.stationary (s : State) (b : MatBody) : List (List FVal) :=
  let n := b.fs.bits
  let rows := if b.ts then (List.range b.w).map (s.coreRow b.core b.srcS b.pitchS n b.k)
    else (List.range b.k).map (s.coreRow b.core b.srcS b.pitchS n b.w)
  (List.range b.k).map fun x => (List.range b.w).map fun j =>
    let c := if b.ts then (rows.getD j []).getD x 0 else (rows.getD x []).getD j 0
    let scale := if b.fs.scaled then s.coreByte b.core (b.scaleS + b.bookBytes + x / 32 * b.w + j) else 0
    let entry := if b.fs.book then s.num (.core b.core) (b.scaleS + 2 * c) 2 else 0
    b.fs.decode c scale entry

/-- Codes of moving rows decoded with their block scales (R98). -/
def State.decodeMoving (s : State) (b : MatBody) (rows : List (List Nat)) : List (List FVal) :=
  (List.range rows.length).map fun i => (List.range b.k).map fun x =>
    let scale := if b.fm.scaled then s.coreByte b.core (b.scaleM + i * (b.k / 32) + x / 32) else 0
    b.fm.decode ((rows.getD i []).getD x 0) scale 0

/-- The moving rows of opcode 0x40 (R57). -/
def State.movingRows (s : State) (b : MatBody) : List (List FVal) :=
  let n := b.fm.bits
  if b.tm then
    let stored := (List.range b.k).map (s.coreRow b.core b.srcM b.pitchM n b.m)
    s.decodeMoving b ((List.range b.m).map fun i => (List.range b.k).map fun x =>
      (stored.getD x []).getD i 0)
  else s.decodeMoving b ((List.range b.m).map (s.coreRow b.core b.srcM b.pitchM n b.k))

/-! ### The generator -/

/-- A generator record, its value − 1 fields decoded (R74). -/
structure GenRec where
  bp : Nat
  yp : Nat
  xp : Nat
  ih : Nat
  iw : Nat
  y0 : Int
  x0 : Int
  b1 : Nat
  b0 : Nat
  dy : Nat
  dx : Nat
  sy : Nat
  sx : Nat
  ky : Nat
  kx : Nat
  c : Nat
  chOff : Nat
  base : Nat
  deriving DecidableEq, Repr

/-- The record in 64 bytes of operand cache (R74). -/
def genRec (x : Nat) : GenRec :=
  { bp := bits x 279 256, yp := bits x 255 232, xp := bits x 227 208, ih := bits x 207 192 + 1,
    iw := bits x 191 176 + 1, y0 := toSigned 20 (bits x 171 152), x0 := toSigned 20 (bits x 147 128),
    b1 := bits x 123 112 + 1, b0 := bits x 107 96 + 1, dy := bits x 87 84 + 1, dx := bits x 83 80 + 1,
    sy := bits x 79 76 + 1, sx := bits x 75 72 + 1, ky := bits x 71 68 + 1, kx := bits x 67 64 + 1,
    c := bits x 56 48, chOff := bits x 47 32, base := bits x 23 0 }

/-- A generator record uses a reserved bit (R74, log entry 66). -/
def genReserved (x : Nat) : Bool :=
  decide (bits x 511 280 ≠ 0 ∨ bits x 231 228 ≠ 0 ∨ bits x 175 172 ≠ 0 ∨ bits x 151 148 ≠ 0 ∨
    bits x 127 124 ≠ 0 ∨ bits x 111 108 ≠ 0 ∨ bits x 95 88 ≠ 0 ∨ bits x 63 57 ≠ 0 ∨ bits x 31 24 ≠ 0)

/-- The address of tap t of row r, none for padding (R75). -/
def GenRec.tap (g : GenRec) (r t : Nat) : Option Nat :=
  let x : Int := g.x0 + (r % g.b0 * g.sx : Nat) + (t % g.kx * g.dx : Nat)
  let y : Int := g.y0 + (r / g.b0 % g.b1 * g.sy : Nat) + (t / g.kx * g.dy : Nat)
  if 0 ≤ x ∧ x < g.iw ∧ 0 ≤ y ∧ y < g.ih then
    some (g.base + r / (g.b0 * g.b1) * g.bp + y.toNat * g.yp + x.toNat * g.xp + g.chOff)
  else none

/-- A tap's bytes lie in the store that holds BASE (R76). -/
def GenRec.tapOk (g : GenRec) (a : Nat) : Bool :=
  if g.base < 0x400000 then decide (a + g.c ≤ 0x400000)
  else decide (0x400000 ≤ a ∧ a + g.c ≤ coreBytes)

/-- A generator record passes R76 for M rows of K elements of w bits. -/
def GenRec.ok (g : GenRec) (m k w : Nat) : Bool :=
  decide (1 ≤ g.c ∧ g.c ≤ 256 ∧ g.kx * g.ky * g.c ≤ rowBytes w k ∧ 8 * g.c % w = 0) &&
    decide (g.base < coreBytes) &&
    (List.range m).all fun r => (List.range (g.kx * g.ky)).all fun t =>
      match g.tap r t with
      | some a => g.tapOk a
      | none => true

/-- Row r as the generator forms it: the taps in order, then zeros up to K elements (R75). -/
def State.genRow (s : State) (core : Nat) (g : GenRec) (w k r : Nat) : List Nat :=
  let taps := (List.range (g.kx * g.ky)).map fun t =>
    match g.tap r t with
    | some a => s.get (.core core) a g.c
    | none => List.replicate g.c 0
  codesOf w k taps.flatten

/-- The generator record a body names. -/
def State.genRecord (s : State) (b : MatBody) : GenRec := genRec (s.num (.core b.core) b.srcM 64)

/-- The moving rows of opcode 0x41 (R75). -/
def State.generatedRows (s : State) (b : MatBody) : List (List FVal) :=
  let g := s.genRecord b
  s.decodeMoving b ((List.range b.m).map (s.genRow b.core g b.fm.bits b.k))

/-! ### The product -/

/-- An exact sum in list order. -/
def sumExact : List FVal → FVal
  | [] => .zero
  | x :: t => t.foldl FVal.add x

/-- The p products of one cell row (R102). -/
def cellProducts (a b : List FVal) (p k : Nat) : List FVal :=
  (List.range p).map fun q => (a.getD (k * p + q) .zero).mul (b.getD (k * p + q) .zero)

/-- A result: 128 cell rows from top to bottom, one FP32 rounding at each (R102). -/
def standSum (p : Nat) (a b : List FVal) : FVal :=
  (List.range 128).foldl (fun s k => rnd32 (s.add (sumExact (cellProducts a b p k)))) .zero

/-- The column j of a tile. -/
def column (t : List (List FVal)) (j : Nat) : List FVal := t.map fun r => r.getD j .zero

/-- One accumulator write: the encoding, and what format health counts of it (R104, R115). -/
def accWrite (fmtAcc mode seed i j : Nat) (stored res : FVal) (clean : Bool) : Conv :=
  let v := if mode = 1 then rnd32 (stored.add res) else res
  let c := if fmtAcc = 1 then Fmt.bf16.convert (.sr (srDraw seed i j)) v else Fmt.fp32.convert .rne v
  let out := accValue fmtAcc c.code
  let ok := clean && (decide (mode ≠ 1) || !stored.special)
  ⟨c.code, out.isInf && ok, c.vanish, out.isNan⟩

/-- The key REUSE compares: the fields that name a stationary tile (R60). -/
def MatBody.tileKey (b : MatBody) : List Nat :=
  [b.fs.code, b.srcS, b.pitchS, b2n b.ts, b.w, b.k, if b.fs.scaled then b.scaleS else 0]

/-- The tile a stand holds that an instruction uses without a fill: under REUSE, while its fields still name
it (R60). -/
def State.heldTile (s : State) (b : MatBody) : Option Tile :=
  (s.stand b.core).tile.filter fun t => decide (b.reuse = true ∧ t.key = b.tileKey)

/-- The stationary tile an instruction uses: the one held, otherwise a fill from its fields (R55, R60). -/
def State.tileFor (s : State) (b : MatBody) : Tile := (s.heldTile b).getD ⟨b.tileKey, s.stationary b⟩

/-- The accumulator region an instruction names, in a half (R59). -/
def MatBody.region (b : MatBody) (half : Nat) : Extent :=
  .flat (.acc b.core half) (256 * b.accOff) (b.m * b.w * accBytes b.fmtAcc)

/-- The accumulator region an instruction names, in the active half (R59). -/
def State.accExtent (s : State) (b : MatBody) : Extent := b.region (s.stand b.core).half

/-- The writes of an instruction, row by row (R102, R104). -/
def State.matWrites (s : State) (b : MatBody) (tile : List (List FVal)) (moving : List (List FVal)) :
    List Conv :=
  let e := s.accExtent b
  let n := accBytes b.fmtAcc
  let cols := (List.range b.w).map (column tile)
  let clean := cols.map fun c => c.all fun v => !v.special
  ((List.range b.m).map fun i =>
    let a := moving.getD i []
    let rowClean := a.all fun v => !v.special
    (List.range b.w).map fun j =>
      let stored := accValue b.fmtAcc (s.num e.place (e.addr + (i * b.w + j) * n) n)
      accWrite b.fmtAcc b.mode b.seed i j stored (standSum b.cls.p a (cols.getD j []))
        (rowClean && clean.getD j true)).flatten

/-- The row counters of a stand: rows streamed, and bubbles of each cause by free amounts: none of the fill
floor without a fill, none of a flip wait without a flip that finds the shadow set unreleased (R65, R79, log
entry 3). -/
def State.countRows (s : State) (c core m : Nat) (fill flipWait : Bool) : State :=
  let i := 0x7100 + core / 12
  let n := core % 12
  let t := (s.tally c i (1 + n) m).tally c i (13 + n) (s.freeVal 0)
  let t := if fill then t.tally c i (25 + n) (s.freeVal 1) else t
  (if flipWait then t.tally c i (37 + n) (s.freeVal 2) else t).usedFree 3

/-- A tile filled from scales or a codebook that another command has met: its values are free (R99). -/
def State.freeTile (s : State) (b : MatBody) : Tile :=
  ⟨b.tileKey, (List.range b.k).map fun x => (List.range b.w).map fun j =>
    let n := 3 * (x * b.w + j)
    b.fs.decode (s.freeVal n % 2 ^ b.fs.bits) (s.freeVal (n + 1) % 256) (s.freeVal (n + 2) % 65536)⟩

/-- A stand's tile replaced by free values: what its fill read has been met (R99). -/
def State.spoilTile (s : State) (b : MatBody) : State :=
  let tile := s.freeTile b
  (s.setStand b.core { s.stand b.core with tile := some tile, pendingTile := some tile }).usedFree
    (3 * b.k * b.w)

/-- What a command met makes undefined of a matrix instruction: its region, and with what only a fill reads the
tile it filled too, so that a later REUSE finds free values (R60, R99, R119). -/
def State.spoilMat (s : State) (c : Cmd) (b : MatBody) (region : Extent) : State :=
  let filled := c.fillSpoilt && c.filled
  let t := if filled then s.spoilTile b else s
  if filled || c.spoilt then t.scrambleAll [region] else t

/-- A matrix instruction's work: fill, stream, write, and the request of its flip; the half it wrote stays
with it, and whether it has filled (R55, R60, R68). -/
def State.matmul (s : State) (c : Cmd) (b : MatBody) (moving : List (List FVal)) : State :=
  let x := s.stand b.core
  let fill := (s.heldTile b).isNone
  let tile := s.tileFor b
  let ws := s.matWrites b tile.vals moving
  let e := s.accExtent b
  let n := accBytes b.fmtAcc
  let t := s.set e.place e.addr ((ws.map fun w => toBytes n w.code).flatten)
  let t := t.setStand b.core { x with
    tile := some tile, pendingTile := some tile,
    flipPending := if b.flip then some c.id else none }
  let t := t.updCmd c.id fun y => { y with half := some x.half, filled := fill }
  (t.countRows c.id.ctx b.core b.m fill (b.flip && !x.released)).health c.id.ctx b.tgroup
    (if b.fmtAcc = 1 then 0x2 else 0x0) ws

/-- A matrix instruction that ends part-way: the rows it had injected are written and counted, by a free amount,
and the stand holds its tile, a part of it or still the one before: its tile once a row was injected (R60, R79, R82,
R116, log entry 89). -/
def State.partMat (s : State) (c : Cmd) (b : MatBody) : State :=
  let m := s.freeVal 0 % (b.m + 1)
  let had := if 0 < m then 2 else s.freeVal 1 % 3
  let x := s.stand b.core
  let fill := (s.heldTile b).isNone
  let tile := some (s.tileFor b)
  let t := (s.usedFree 2).setStand b.core (match had with
    | 0 => x
    | 1 => if fill then { x with tile := none, pendingTile := none } else x
    | _ => { x with tile := tile, pendingTile := tile })
  let t := if c.fillSpoilt && fill && decide (had = 2) then t.spoilTile b else t
  (t.countRows c.id.ctx b.core m fill false).healthOf c.id.ctx b.tgroup (if b.fmtAcc = 1 then 0x2 else 0x0) (m * b.w)

/-- A matrix row: the work of the released instruction it names. An instruction whose flip falls due
stays released until the FLIP row; a command that met its operands, or a generator record spoilt since
admission, leaves the region undefined (R68, R99, R119). -/
def State.runMat (s : State) (id : CmdId) (op : Nat) (moving : State → MatBody → List (List FVal)) :
    State :=
  match s.runnable id (isOp op) with
  | none => s
  | some c =>
    match matBody c.desc with
    | none => s
    | some b =>
      if !s.takesUnit c || (s.flipWaits b.core).isSome then s
      else if s.width b.core ≠ b.w then s.finish id .unitRetired
      else if s.blocked (.stand b.core) then s
      else
        let t := (s.took c).matmul c b (moving s b)
        let bad := b.gen && !(s.genRecord b).ok b.m b.k b.fm.bits
        let t := t.spoilMat { c with filled := (s.heldTile b).isNone, spoilt := c.spoilt || bad } b (s.accExtent b)
        if b.flip then t else t.finish id .ok

/-- STAND_MATMUL: fills one stationary tile, streams M moving rows and writes M by W results into the
active set (R55). -/
def execStandMatmul (id : CmdId) (s : State) : Host.Outcome State Fault Refusal :=
  .next (s.runMat id 0x40 State.movingRows)

/-- STAND_MATMUL_GEN: the moving rows come from the address generator (R75). -/
def execStandMatmulGen (id : CmdId) (s : State) : Host.Outcome State Fault Refusal :=
  .next (s.runMat id 0x41 State.generatedRows)

/-- FLIP: a pending flip takes effect once the shadow set is released and the stand clock runs: the halves
swap, the instruction that asked for it is done, and where its data failed or met another command the tile now
in the shadow set is undefined. The flip of an instruction that has stopped is dropped; on a stand retired
meanwhile the instruction completes with UNIT_RETIRED (R10, R67, R68, R99, R427). -/
def execFlip (core : Nat) (s : State) : Host.Outcome State Fault Refusal :=
  let x := s.stand core
  let dropped := s.setStand core { x with flipPending := none }
  match s.flipWaits core with
  | some c =>
    if s.retired (.stand core) then .next (dropped.finish c.id .unitRetired)
    else if c.testing.isNone && x.released && !s.power.clocksStopped && !s.reloading (.stand core) then
      let t := s.setStand core { x with
        half := 1 - x.half, released := false, flipped := true, flipPending := none }
      let t := match matBody c.desc with
        | some b => t.spoilMat { c with spoilt := c.spoilt || c.suspect } b (b.region x.half)
        | none => t
      .next ((t.finish c.id .ok).updCmd c.id fun y => { y with suspect := false })
    else .next s
  | none => .next dropped

/-! ### The drain -/

/-- The body of STAND_DRAIN (R90). -/
structure DrainBody where
  core : Nat
  w : Nat
  m : Nat
  fmtAcc : Nat
  out : FC
  destDev : Bool
  trans : Bool
  last : Bool
  resEn : Bool
  resDev : Bool
  axisM : Bool
  rescale : Bool
  srcOff : Nat
  dest : Nat
  pitch : Nat
  tgroup : Nat
  res : Nat
  rescaleAddr : Nat
  seed : Nat
  deriving DecidableEq, Repr

/-- The body read from a descriptor; none for an output format that is not admitted. -/
def drainBody (d : Desc) : Option DrainBody := do
  let out ← FC.ofCode (fld d 207 204)
  if out.book then none
  else return {
    core := standCore d, w := standWidth d, m := fld d 228 216, fmtAcc := fld d 203 202, out := out,
    destDev := decide (fld d 209 208 = 1), trans := flag d 210, last := flag d 211, resEn := flag d 212,
    resDev := flag d 213, axisM := flag d 214, rescale := flag d 215, srcOff := fld d 243 232,
    dest := fld d 303 256, pitch := fld d 327 304, tgroup := fld d 335 328, res := fld d 383 336,
    rescaleAddr := fld d 407 384, seed := fld d 447 416 }

/-- Lines written, and elements a line (R70). -/
def DrainBody.lines (b : DrainBody) : Nat × Nat := if b.trans then (b.w, b.m) else (b.m, b.w)

/-- Rows and columns of the block grid (R112). -/
def DrainBody.grid (b : DrainBody) : Nat × Nat :=
  if b.axisM then (b.m / 32, b.w) else (b.m, b.w / 32)

/-- Where the destination and the residual lie. -/
def DrainBody.destPlace (b : DrainBody) : Place := if b.destDev then .dev else .core b.core
/-- Where the residual lies. -/
def DrainBody.resPlace (b : DrainBody) : Place := if b.resDev then .dev else .core b.core

/-- The address of the scale plane (R112). -/
def DrainBody.plane (b : DrainBody) : Nat := b.dest + b.lines.1 * b.pitch

/-- Bytes of the scale plane, 0 for a format without scales. -/
def DrainBody.planeBytes (b : DrainBody) : Nat := if b.out.scaled then b.grid.1 * b.grid.2 else 0

/-- The extents a drain writes: its lines, its scale plane, its residual (R70, R71, R112). -/
def DrainBody.writes (b : DrainBody) : List Extent :=
  [⟨b.destPlace, b.dest, b.lines.1, b.pitch, rowBytes b.out.bits b.lines.2⟩,
    .flat b.destPlace b.plane b.planeBytes] ++
  (if b.resEn then [.flat b.resPlace b.res (2 * b.m * b.w)] else [])

/-- The rescale record header and the arrays of REAL32 after it (R110). -/
structure Rescale where
  header : Nat
  base : Nat
  core : Nat
  m : Nat
  w : Nat
  deriving DecidableEq, Repr

/-- A REAL32 of a core's stores. -/
def State.real32 (s : State) (core a : Nat) : FVal := f32 (s.num (.core core) a 4)

/-- Rescaling of one value (R110). -/
def State.rescaled (s : State) (r : Rescale) (i j : Nat) (a : FVal) : FVal :=
  let h := r.header
  let arr := fun (off n : Nat) => s.real32 r.core (r.base + off + 4 * n)
  let zp := h.testBit 2
  let zb := f32 (bits h 159 128)
  let za := f32 (bits h 127 96)
  let t1 := if zp then fma32 zb.negate (arr (32 + 4 * r.m + 4 * r.w) i) a else a
  let t2 := if zp then fma32 za.negate (arr (32 + 8 * r.m + 4 * r.w) j) t1 else t1
  let t3 := if zp then rnd32 (t2.add (f32 (bits h 191 160))) else t2
  let t4 := if h.testBit 0 then rnd32 (t3.mul (arr 32 i)) else t3
  let t5 := if h.testBit 1 then rnd32 (t4.mul (arr (32 + 4 * r.m) j)) else t4
  if h.testBit 3 then rnd32 (t5.add (arr (32 + 8 * r.m + 8 * r.w) j)) else t5

/-- The value v of each element before its encoding, M rows of W (R109). -/
def State.drainValues (s : State) (b : DrainBody) : List (List FVal) :=
  let n := accBytes b.fmtAcc
  let sh : Place := .acc b.core (1 - (s.stand b.core).half)
  let r : Rescale := ⟨s.num (.core b.core) b.rescaleAddr 32, b.rescaleAddr, b.core, b.m, b.w⟩
  (List.range b.m).map fun i => (List.range b.w).map fun j =>
    let a := accValue b.fmtAcc (s.num sh (256 * b.srcOff + (i * b.w + j) * n) n)
    let t := if b.rescale then s.rescaled r i j a else a
    if b.resEn then
      rnd32 (t.add (Fmt.bf16.decode (s.num b.resPlace (b.res + 2 * (i * b.w + j)) 2)))
    else t

/-- The rounding of an element (R109). -/
def drainRnd (seed i j : Nat) : Rnd := if seed = 0 then .rne else .sr (srDraw seed i j)

/-- Element (i, j) of rows. -/
def at2 (vs : List (List FVal)) (i j : Nat) : FVal := (vs.getD i []).getD j .zero

/-- The conversion of every element with its block's scale byte: M rows of W (R109, R111). -/
def drainConvs (f : FC) (axisM : Bool) (seed m w : Nat) (vs : List (List FVal)) :
    List (List (Nat × Conv)) :=
  let el := fun (i j : Nat) => (drainRnd seed i j, at2 vs i j)
  if f.scaled then
    let blocks := if axisM then
        (List.range (m / 32)).map fun r => (List.range w).map fun j =>
          f.convertBlock ((List.range 32).map fun x => el (32 * r + x) j)
      else (List.range m).map fun i => (List.range (w / 32)).map fun r =>
          f.convertBlock ((List.range 32).map fun x => el i (32 * r + x))
    (List.range m).map fun i => (List.range w).map fun j =>
      let bl := if axisM then (blocks.getD (i / 32) []).getD j ⟨0, []⟩
        else (blocks.getD i []).getD (j / 32) ⟨0, []⟩
      (bl.scale, bl.elems.getD (if axisM then i % 32 else j % 32) ⟨0, false, false, false⟩)
  else (List.range m).map fun i => (List.range w).map fun j =>
    (0, f.convert (el i j).1 (el i j).2)

/-- The residual of an element (R113, R114). -/
def residualOf (f : FC) (v : FVal) (scale : Nat) (q : Conv) : Nat :=
  let back := f.back scale q
  if f = .fp32 ∨ v.special ∨ back.special then 0 else Fmt.bf16.encode (v.sub back)

/-- A drain's work (R69, R109 to R114). -/
def State.drain (s : State) (c : Cmd) (b : DrainBody) : State :=
  let vs := s.drainValues b
  let qs := drainConvs b.out b.axisM b.seed b.m b.w vs
  let q := fun (i j : Nat) => (qs.getD i []).getD j (0, ⟨0, false, false, false⟩)
  let rows := (List.range b.lines.1).map fun l => s.packRow b.out.bits
    ((List.range b.lines.2).map fun e => if b.trans then (q e l).2.code else (q l e).2.code)
  let t := s.setRows b.destPlace b.dest b.pitch rows
  let g := b.grid
  let scale := fun (r x : Nat) => if b.axisM then (q (32 * r) x).1 else (q r (32 * x)).1
  let plane := if b.trans then
      (List.range (g.1 * g.2)).map fun n => scale (n % g.1) (n / g.1)
    else (List.range (g.1 * g.2)).map fun n => scale (n / g.2) (n % g.2)
  let t := if b.out.scaled then t.set b.destPlace b.plane (plane.map fun x => BitVec.ofNat 8 x) else t
  let res := (List.range (b.m * b.w)).map fun n =>
    toBytes 2 (residualOf b.out (at2 vs (n / b.w) (n % b.w)) (q (n / b.w) (n % b.w)).1
      (q (n / b.w) (n % b.w)).2)
  let t := if b.resEn then t.set b.resPlace b.res res.flatten else t
  (t.usedFree 1).health c.id.ctx b.tgroup b.out.code (qs.flatten.map (·.2))

/-- A drain that ends part-way: the elements it had written are counted, by a free amount (R116, log entry 89). -/
def State.drainPart (s : State) (c : Cmd) (b : DrainBody) : State :=
  s.healthPart c.id.ctx b.tgroup b.out.code (b.m * b.w)

/-- The reserved bits of a rescale record header that must be 0 (R110). -/
def rescaleBad (h : Nat) : Bool := decide (bits h 255 192 ≠ 0 ∨ bits h 95 4 ≠ 0)

/-- STAND_DRAIN: M rows of the shadow set converted, rescaled, quantized and written, the residual updated. It
waits for a flip since the last release; after DATA_SUSPECT its destination and residual are undefined (R69,
R119). -/
def execStandDrain (id : CmdId) (s : State) : Host.Outcome State Fault Refusal :=
  .next (s.runStand id (fun d => isOp 0x42 d && (drainBody d).isSome)
    (fun s c => (s.stand (standCore c.desc)).flipped) (fun s c =>
      match drainBody c.desc with
      | none => (s, .invalid)
      | some b =>
        let residual := if b.resEn then [.flat b.resPlace b.res (2 * b.m * b.w)] else []
        if b.rescale && rescaleBad (s.num (.core b.core) b.rescaleAddr 32) then (s, .invalid)
        else if s.regionsWriteBad b.writes || s.regionsBad residual then
          ((s.drainPart c b).scrambleAll b.writes, .dataSuspect)
        else ((s.drain c b).spoil c b.writes, .ok)))

/-- STAND_ACC_ZERO: a region of the active set zeroed in dispatch order with matrix instructions; behind one
whose flip waits it waits for that flip (R91, log entry 85). -/
def execStandAccZero (id : CmdId) (s : State) : Host.Outcome State Fault Refusal :=
  .next (s.runStand id (fun d => isOp 0x43 d && decide (fld d 203 202 = 0))
    (fun s c => (s.flipWaits (standCore c.desc)).isNone) (fun s c =>
      let k := standCore c.desc
      let n := fld c.desc 220 208 * standWidth c.desc * accBytes (fld c.desc 241 240)
      (s.set (.acc k (s.stand k).half) (256 * fld c.desc 235 224) (List.replicate n 0), .ok)))

/-- The shadow set of a stand is released (R68). -/
def State.releaseShadow (s : State) (k : Nat) : State :=
  s.setStand k { s.stand k with released := true, flipped := false }

/-- Every drain of the stand released before a command has its record (R91). -/
def State.drainsDone (s : State) (c : Cmd) : Bool :=
  s.cmds.all fun (x : Cmd) =>
    !(isOp 0x42 x.desc && decide (standCore x.desc = standCore c.desc ∧ 0 < x.rank ∧ x.rank < c.rank))

/-- STAND_ACC_RELEASE: the shadow set is released without being read, once every earlier drain has
completed (R91). -/
def execStandAccRelease (id : CmdId) (s : State) : Host.Outcome State Fault Refusal :=
  .next (s.runStand id (fun d => isOp 0x43 d && decide (fld d 203 202 = 1))
    (fun s c => s.drainsDone c) (fun s c => (s.releaseShadow (standCore c.desc), .ok)))

/-! ### Admission and outputs -/

/-- The checks of a matrix instruction's body; a transposed 6-bit row of any length passes (R76, R89, R92, R101,
log entry 86). -/
def State.matChecks (s : State) (c : Nat) (d : Desc) : Checks :=
  let pre := (s.standCommon c d (fld d 211 210) (fld d 236 224)).and (Checks.inv (
    !reservedZero d [(511, 448), (415, 408), (383, 376), (287, 280), (255, 252), (239, 237), (223, 220)] ||
      decide (1 < fld d 213 212)))
  match matBody d with
  | none => pre.and (Checks.inv true)
  | some b =>
    let scalesS := b.bookBytes + b.k / 32 * b.w
    let moving := if b.gen then
        decide (b.pitchM ≠ 0) || b.tm || b.fm.scaled || decide (b.srcM % 64 ≠ 0 ∨ 0x400000 ≤ b.srcM) ||
          genReserved (s.num (.core b.core) b.srcM 64) || !(s.genRecord b).ok b.m b.k b.fm.bits
      else !inCore b.srcM b.movingSpan
    pre.and (Checks.inv (
      (b.cls.wide && decide (b.fmtAcc = 1)) || !inCore b.srcS b.stationarySpan ||
      (b.fs.scaled && (!b.scaleSEn || !inCore b.scaleS scalesS)) ||
      (b.fm.scaled && (!b.scaleMEn || !inCore b.scaleM (b.m * (b.k / 32)))) ||
      accRegionBad b.accOff b.m b.w (accBytes b.fmtAcc) || moving))

/-- The checks of an extent a drain writes: within one core-local store, or stack memory of the
context (R90, R92). -/
def State.drainPlace (s : State) (c : Nat) (dev : Bool) (e : Extent) : Checks :=
  if dev then s.stackRows c e.addr e.rows e.pitch e.n
  else Checks.inv (!inCore e.addr (spanBytes e.rows e.pitch e.n))

/-- The checks of STAND_DRAIN's body (R70, R90, R92). -/
def State.drainChecks (s : State) (c : Nat) (d : Desc) : Checks :=
  let pre := (s.standCommon c d (fld d 203 202) (fld d 228 216)).and (Checks.inv (
    !reservedZero d [(511, 448), (415, 408), (255, 244), (231, 229)] || decide (1 < fld d 209 208)))
  match drainBody d with
  | none => pre.and (Checks.inv true)
  | some b =>
    let lines := spanBytes b.lines.1 b.pitch (rowBytes b.out.bits b.lines.2)
    let oneStore := b.destDev || decide (b.planeBytes = 0) ||
      inCore b.dest (max lines (b.lines.1 * b.pitch + b.planeBytes))
    let axis := b.out.scaled &&
      (if b.axisM then decide (b.m % 32 ≠ 0) else decide (b.w ≠ 128 ∧ b.w ≠ 96))
    let six := decide (b.out.bits = 6 ∧ b.lines.2 % 4 ≠ 0)
    Checks.all [pre,
      s.drainPlace c b.destDev
        ⟨b.destPlace, b.dest, b.lines.1, b.pitch, rowBytes b.out.bits b.lines.2⟩,
      if b.planeBytes = 0 then Checks.pass
        else s.drainPlace c b.destDev (.flat b.destPlace b.plane b.planeBytes),
      if b.resEn then s.drainPlace c b.resDev (.flat b.resPlace b.res (2 * b.m * b.w)) else Checks.pass,
      Checks.inv (!oneStore || accRegionBad b.srcOff b.m b.w (accBytes b.fmtAcc) || axis || six ||
        (b.rescale && !inCore b.rescaleAddr (32 + 8 * b.m + 12 * b.w)))]

/-- The checks of STAND_ACC's body (R91, R92). -/
def State.accChecks (s : State) (c : Nat) (d : Desc) : Checks :=
  let op := fld d 203 202
  let m := fld d 220 208
  (s.standCommon c d (fld d 241 240) (if op = 0 then m else 1)).and (Checks.inv (
    !reservedZero d [(511, 242), (239, 236), (223, 221), (207, 204)] || decide (1 < op) ||
    (decide (op = 0) && accRegionBad (fld d 235 224) m (standWidth d) (accBytes (fld d 241 240)))))

/-- The checks of a stand command's body. -/
def State.standChecks (s : State) (c : Nat) (d : Desc) : Checks :=
  match opcode d with
  | 0x40 | 0x41 => s.matChecks c d
  | 0x42 => s.drainChecks c d
  | 0x43 => s.accChecks c d
  | _ => Checks.inv true

/-- What a stopped stand command leaves undefined: a matrix instruction that has written, its tile in the half
it wrote (R68, R81, R82). -/
def State.standOutputs (s : State) (c : Cmd) : List Extent :=
  let d := c.desc
  match opcode d with
  | 0x40 | 0x41 => ((matBody d).map fun b => b.region (c.half.getD (s.stand b.core).half)).toList
  | 0x42 => ((drainBody d).map DrainBody.writes).getD []
  | 0x43 =>
    if fld d 203 202 = 0 then
      let k := standCore d
      [.flat (.acc k (s.stand k).half) (256 * fld d 235 224)
        (fld d 220 208 * standWidth d * accBytes (fld d 241 240))]
    else []
  | _ => []

/-! ### What a stand command reads -/

/-- The scales and the codebook that a fill reads (R98, R99). -/
def MatBody.fillScales (b : MatBody) : List Extent :=
  if b.fs.scaled then [.flat (.core b.core) b.scaleS (b.bookBytes + b.k / 32 * b.w)] else []

/-- All that a fill reads: the stationary operand, its scales and its codebook (R55, R98, R99). -/
def MatBody.fillReads (b : MatBody) : List Extent :=
  (if b.ts then ⟨.core b.core, b.srcS, b.w, b.pitchS, rowBytes b.fs.bits b.k⟩
    else ⟨.core b.core, b.srcS, b.k, b.pitchS, rowBytes b.fs.bits b.w⟩) :: b.fillScales

/-- The scales of the moving operand, read as each row is fed (R98, R99). -/
def MatBody.rowScales (b : MatBody) : List Extent :=
  if b.fm.scaled then [.flat (.core b.core) b.scaleM (b.m * (b.k / 32))] else []

/-- Extents of a matrix instruction, none for any other command. -/
def matExtents (f : MatBody → List Extent) (d : Desc) : List Extent :=
  if isOp 0x40 d || isOp 0x41 d then ((matBody d).map f).getD [] else []

/-- The moving rows an instruction reads: the tile, or the generator's record and taps (R57, R75). -/
def State.movingReads (s : State) (b : MatBody) : List Extent :=
  let place : Place := .core b.core
  if b.gen then
    let g := s.genRecord b
    .flat place b.srcM 64 :: ((List.range b.m).map fun r =>
      ((List.range (g.kx * g.ky)).filterMap (g.tap r)).map fun a => Extent.flat place a g.c).flatten
  else if b.tm then [⟨place, b.srcM, b.k, b.pitchM, rowBytes b.fm.bits b.m⟩]
  else [⟨place, b.srcM, b.m, b.pitchM, rowBytes b.fm.bits b.k⟩]

/-- What a matrix instruction reads as it streams: its moving operand with its scales, and its region under MODE
0b01 (R57, R81). -/
def State.streamReads (s : State) (b : MatBody) : List Extent :=
  s.movingReads b ++ b.rowScales ++ (if b.mode = 1 then [s.accExtent b] else [])

/-- All that a matrix instruction reads as the stand stands now: with a fill, its stationary operand too (R57, R60,
R81). -/
def State.matReads (s : State) (b : MatBody) : List Extent :=
  (if (s.heldTile b).isSome then [] else b.fillReads) ++ s.streamReads b

/-- All that a drain reads: its tile, its residual and its rescale arrays (R69, R71, R110). -/
def State.drainReads (s : State) (b : DrainBody) : List Extent :=
  [.flat (.acc b.core (1 - (s.stand b.core).half)) (256 * b.srcOff) (b.m * b.w * accBytes b.fmtAcc)] ++
    (if b.resEn then [.flat b.resPlace b.res (2 * b.m * b.w)] else []) ++
    (if b.rescale then [.flat (.core b.core) b.rescaleAddr (32 + 8 * b.m + 12 * b.w)] else [])

/-- What a stand command reads (R81, R119). -/
def State.standReads (s : State) (d : Desc) : List Extent :=
  match opcode d with
  | 0x40 | 0x41 => ((matBody d).map s.matReads).getD []
  | 0x42 => ((drainBody d).map s.drainReads).getD []
  | _ => []

end Sys2Proof.Machine
end

