-- ==== Sys2Proof/Machine/Collective.lean ====
section
/-! DEFINITION. Collectives and generation sequences (chapter Mapping Training Jobs and Collectives). -/

namespace Sys2Proof.Machine

/-! ### Frames received -/

/-- Every fragment of a step this device has sent is acknowledged (R298, R299). -/
def State.stepAcked (s : State) (c : Cmd) (step : Nat) : Bool :=
  let n := stepNote c.id.ctx (collTag c.desc) step
  ((List.range 24).all fun p =>
    (s.port p).outq.all (fun f => decide (f.note ≠ n)) && (s.port p).replay.all fun f => decide (f.note ≠ n)) &&
    s.waiting.all (fun w => decide (w.1.note ≠ n)) && s.backlog.all fun f => decide (f.note ≠ n)

/-- Parts laid end to end from an offset. -/
def chain : Nat → List CollPart → Nat → List Byte
  | 0, _, _ => []
  | k + 1, ps, o =>
    match ps.find? fun q => decide (q.off = o ∧ q.bytes ≠ []) with
    | none => []
    | some q => q.bytes ++ chain k ps (o + q.bytes.length)

/-- The parts of a member's step. -/
def Coll.partsOf (x : Coll) (m step : Nat) : List CollPart :=
  x.parts.filter fun q => decide (q.src = m ∧ q.step = step)

/-- The data of a member's step once all of it has come. -/
def Coll.stepData (x : Coll) (m step : Nat) : Option (List Byte) :=
  let ps := x.partsOf m step
  match ps.find? (·.last) with
  | none => none
  | some q =>
    let l := chain (ps.length + 1) ps 0
    if l.length = q.off + q.bytes.length then some l else none

/-- A collective past a step: its parts are used. -/
def Coll.past (x : Coll) (step : Nat) : Coll :=
  { x with step := step + 1, parts := x.parts.filter (fun q => decide (q.step ≠ step)), passed := [] }

/-! ### Release, match and end -/

/-- The collective a command runs. -/
def State.collOf (s : State) (id : CmdId) : Option Coll := s.colls.find? fun x => decide (x.cmd = some id)

/-- A collective that ends at its release: what has come for it is dropped from staging (R288, R305). -/
def State.collEnds (s : State) (c : Cmd) (st : Status) : State :=
  let mine := fun (f : Frame) => decide (f.kind = 0x20 ∧ f.ctx = c.id.ctx ∧ f.tag = collTag c.desc)
  let t := (s.inbox.filter mine).foldl State.unstage s
  { t with
    colls := t.colls.filter fun x => !decide (x.ctx = c.id.ctx ∧ x.tag = collTag c.desc)
    inbox := t.inbox.filter fun f => !mine f }.finish c.id st

/-- What a collective runs on is retired: every link die's adders, of a reduction; the Kyoty die that holds an object,
of a pass (R309, R431). -/
def State.collGone (s : State) (d : Desc) : Bool :=
  (isOp 0xC0 d && s.noAdders) || (isOp 0xC2 d && (s.syncDead (fld d 463 448) || s.syncDead (fld d 479 464)))

/-- A collective released: it binds the current epoch. It completes with UNIT_RETIRED where what it runs on is gone,
with MEMBERSHIP_CHANGED where a member it names is not in the epoch, split or unreachable, with DATA_SUSPECT where its
group record is lost (R13, R305, R309, R431). -/
def State.collRelease (s : State) (c : Cmd) : State :=
  let d := c.desc
  let tag := collTag d
  if s.collGone d then s.collEnds c .unitRetired
  else if !s.groupLost d && (s.collMembers d).any s.memberLost then
    (s.collEnds c .membershipChanged).tally c.id.ctx 0x7140 25 1
  else if s.groupLost d then s.collEnds c .dataSuspect
  else
    let t := s.setColl { Coll.idle c.id.ctx tag with cmd := some c.id, epoch := s.membership.epoch }
    t.updCmd c.id fun x => { x with needs := s.collPeers d }

/-- A command's collective is over. -/
def State.endColl (s : State) (c : Cmd) : State :=
  { s with colls := s.colls.filter fun x => !decide (x.cmd = some c.id) }

/-- A collective stopped by an abort: it cancels its peers, unless a peer has cancelled it (R308). -/
def State.stopColl (s : State) (c : Cmd) : State :=
  if (s.collOf c.id).any fun x => !x.cancelled then s.cancelPeers c else s

/-! ### Data -/

/-- Bytes read for a collective; where memory cannot give them they are free values and the command is
suspect (R244, R309). -/
def State.readFor (s : State) (id : CmdId) (a n : Nat) : State × List Byte :=
  if s.devReadBad a n then
    ((s.updCmd id fun x => { x with suspect := true }).usedFree n, s.freeBytes n)
  else (s, s.devRead a n)

/-- Bytes written for a collective; a write that poison drops makes it suspect (R244). -/
def State.writeFor (s : State) (id : CmdId) (a : Nat) (l : List Byte) : State :=
  let bad := s.devWriteBad a l.length
  let t := s.devWrite a l
  if bad then t.updCmd id fun x => { x with suspect := true } else t

/-- The body of COLL_REDUCE (R314). -/
structure CollReduce where
  group : Nat
  src : Nat
  dst : Nat
  res : Nat
  noise : Nat
  u : Nat
  scale : Nat
  fin : Nat
  fout : Nat
  all : Bool
  rule : Nat
  resEn : Bool
  noiseEn : Bool
  tgroup : Nat
  deriving DecidableEq, Repr

/-- The body read from a descriptor. -/
def collReduceBody (d : Desc) : CollReduce :=
  { group := addrAt d 224, src := addrAt d 264, dst := addrAt d 304, res := addrAt d 344,
    noise := addrAt d 384, u := fld d 455 424, scale := fld d 487 456, fin := fld d 491 488,
    fout := fld d 495 492, all := flag d 496, rule := fld d 498 497, resEn := flag d 499,
    noiseEn := flag d 500, tgroup := fld d 508 501 }

/-- A format of a reduction (R292). -/
def reduceFmt (n : Nat) : FC := if n = 0xC then .g8 else if n = 0x2 then .bf16 else .fp32

/-- Element bytes of a block of 32 in a format. -/
def blockBytes (f : FC) : Nat := 4 * f.bits

/-- Bytes of u blocks: the elements, and under G8 an exponent byte a block (R289). -/
def chunkSize (f : FC) (u : Nat) : Nat := u * blockBytes f + (if f = .g8 then u else 0)

/-- The values of u blocks in a list of bytes, elements first and then the exponents (R97, R289). -/
def chunkVals (f : FC) (u : Nat) (l : List Byte) : List FVal :=
  let codes := codesOf f.bits (32 * u) l
  let exps := l.drop (u * blockBytes f)
  (List.range (32 * u)).map fun n =>
    f.decode (codes.getD n 0) (if f = .g8 then (exps.getD (n / 32) 0).toNat else 0) 0

/-- u blocks from block b of a tensor of U blocks at an address, as a step carries them (R289). -/
def State.tensorPart (s : State) (id : CmdId) (f : FC) (a total b u : Nat) : State × List Byte :=
  let r := s.readFor id (a + b * blockBytes f) (u * blockBytes f)
  if f = .g8 then
    let e := r.1.readFor id (a + total * blockBytes f + b) u
    (e.1, r.2 ++ e.2)
  else r

/-- u blocks written at their place in a tensor of U blocks (R291). -/
def State.putPart (s : State) (id : CmdId) (f : FC) (a total b u : Nat) (l : List Byte) : State :=
  let t := s.writeFor id (a + b * blockBytes f) (l.take (u * blockBytes f))
  if f = .g8 then t.writeFor id (a + total * blockBytes f + b) (l.drop (u * blockBytes f)) else t

/-- Blocks of values converted to a format: the codes, the exponent bytes under G8, and the conversions
with their scales (R105, R111). -/
def encodeBlocks (f : FC) (vs : List FVal) : List Byte × List (Nat × Conv) :=
  let bs := (chunks 32 (vs.length / 32 + 1) vs).map fun v => f.convertBlock (v.map fun x => (Rnd.rne, x))
  let qs := (bs.map fun b => b.elems.map fun q => (b.scale, q)).flatten
  let exps := if f = .g8 then bs.map fun b => BitVec.ofNat 8 b.scale else []
  (packCodes f.bits (qs.map (·.2.code)) ++ exps, qs)

/-- Values encoded for the wire or the output: with the hop residual of their chunk where it applies,
counted against the tensor group (R290, R292). `first` is the chunk's first element. -/
def State.encodeChunk (s : State) (c : Cmd) (b : CollReduce) (f : FC) (useRes : Bool) (first : Nat)
    (ts : List FVal) : State × List Byte :=
  let n := ts.length
  let a := b.res + 2 * first
  let r := if useRes then s.readFor c.id a (2 * n) else (s, [])
  let res := codesOf 16 n r.2
  let vs := if useRes then
      (List.range n).map fun i => rnd32 ((ts.getD i .zero).add (Fmt.bf16.decode (res.getD i 0)))
    else ts
  let e := encodeBlocks f vs
  let t := r.1.health c.id.ctx b.tgroup f.code (e.2.map (·.2))
  let t := if useRes then
      t.writeFor c.id a (packCodes 16 ((List.range n).map fun i =>
        let q := e.2.getD i (0, ⟨0, false, false, false⟩)
        residualOf f (vs.getD i .zero) q.1 q.2))
    else t
  (t, e.1)

/-! ### The adders -/

/-- Where a link die hangs on the grove fabric: its column and its row (R18, R19). -/
def dieHops (a b : Nat) : Nat :=
  let x := (a % 4 + 4 - b % 4) % 4
  min x (4 - x) + (if a / 4 = b / 4 then 0 else 1)

/-- The link die whose adders serve a fragment received on die l: its own, or the nearest die whose
adders are in service (R309). -/
def State.adderDie (s : State) (l : Nat) : Option Nat :=
  minBy (fun m => 8 * dieHops l m + m) ((List.range 8).filter fun m => !s.retired (.adders m))

/-- The number of the block that byte x of a chunk of u blocks lies in or comes before: bytes of elements, then
under G8 one exponent byte a block (R289). -/
def blockAt (f : FC) (u x : Nat) : Nat :=
  let n := blockBytes f
  if x ≤ u * n then (x + n - 1) / n else x - u * n

/-- The fragments of a part's frame. -/
def partFrags (q : CollPart) : Nat := (64 + q.bytes.length + 255) / 256

/-- Blocks b to b + n of a step counted at the adders that add them, those of the link die that received the
block's first byte, and with its first block a part's fragments sent to another die's adders (R295, R309,
R315). -/
def State.countAdds (s : State) (ctx : Nat) (f : FC) (u b n : Nat) (ps : List CollPart) : State :=
  ps.foldl (fun (t : State) q =>
    let l := q.port / 3
    let first := blockAt f u q.off
    let past := min (b + n) (blockAt f u (min (u * blockBytes f) (q.off + q.bytes.length)))
    match t.adderDie l with
    | none => t
    | some m =>
      let t := if q.off < u * blockBytes f then t.tally ctx 0x7140 (1 + m) (past - max b first) else t
      if m ≠ l ∧ b ≤ first ∧ first < b + n then t.tally ctx 0x7140 (17 + l) (partFrags q) else t) s

/-- The adders that a step's parts need are under test: the collective waits (R310). -/
def State.addersBusy (s : State) (ps : List CollPart) : Bool :=
  ps.any fun q => (s.adderDie (q.port / 3)).any fun m => s.blocked (.adders m)

/-! ### The reduction -/

/-- The exact sum of the squares of the finite values, rounded once, and their count (R198, R294). -/
def squareSum (vs : List FVal) : Nat × Nat :=
  let l := vs.filter fun v => !v.special
  (toF32 (l.foldl (fun t v => t.add (v.mul v)) .zero), l.length)

/-- The squares of a reduction's input elements noted, before it writes anything (R294). -/
def State.noteSquare (s : State) (c : Cmd) (b : CollReduce) : State :=
  match s.collOf c.id with
  | some x =>
    if b.noiseEn then
      let f := reduceFmt b.fin
      let r := s.tensorPart c.id f b.src b.u 0 b.u
      r.1.setColl { x with square := squareSum (chunkVals f b.u r.2) }
    else s
  | none => s

/-- The noise record written, of the input elements' squares and the final chunk (R294). -/
def State.writeNoise (s : State) (c : Cmd) (b : CollReduce) (own : Nat × Nat) (final : List FVal) : State :=
  if b.noiseEn then
    let g := squareSum final
    s.writeFor c.id b.noise (toBytes 4 own.1 ++ toBytes 4 g.1 ++ toBytes 8 0 ++ toBytes 8 own.2 ++ toBytes 8 g.2)
  else s

/-- A received chunk added to this member's own: the sums, each rounded once (R290). -/
def State.hopSum (s : State) (c : Cmd) (b : CollReduce) (fin_ : FC) (first u : Nat) (l : List Byte) :
    State × List FVal :=
  let f := reduceFmt b.fin
  let own := s.tensorPart c.id f b.src b.u first u
  let x := chunkVals fin_ u l
  let y := chunkVals f u own.2
  (own.1, (List.range (32 * u)).map fun n => rnd32 ((x.getD n .zero).add (y.getD n .zero)))

/-- Blocks of this member's own chunk end: scaled, encoded to OUT_FMT and written at their place, `total` blocks
from `at_` on for the whole tensor or the chunk alone (R290, R291). Answers the encoded blocks. -/
def State.endBlocks (s : State) (c : Cmd) (b : CollReduce) (first u total at_ : Nat) (ts : List FVal) :
    State × List Byte :=
  let out := reduceFmt b.fout
  let e := s.encodeChunk c b out (b.resEn && decide (out = .g8)) (32 * first)
    (ts.map fun v => rnd32 (v.mul (f32 b.scale)))
  (e.1.putPart c.id out b.dst total at_ u e.2, e.2)

/-- What a finished collective answers; with data that memory could not give its outputs are undefined
(R10, R309). -/
def State.collDone (s : State) (c : Cmd) (outs : List Extent) : State × Option Status :=
  if (s.findCmd c.id).any (·.suspect) then (s.scrambleAll outs, some .dataSuspect) else (s, some .ok)

/-- The member this device is, or was before its own record removed it (R306). -/
def State.lastSelf (s : State) : Nat :=
  if s.membership.self = 0xFFFF then s.membership.prevSelf else s.membership.self

/-- What a reduction writes. -/
def State.reduceOutputs (s : State) (b : CollReduce) : List Extent :=
  let g := s.group b.group
  let u := if b.all then b.u else (g.share b.rule b.u (g.members.idxOf s.lastSelf)).1
  [.flat .dev b.dst (chunkSize (reduceFmt b.fout) u)] ++
    (if b.resEn then [.flat .dev b.res (64 * b.u)] else []) ++
    (if b.noiseEn then [.flat .dev b.noise 32] else [])

/-- A reduction that runs alone: its only chunk ends at once (R290, R294). -/
def State.reduceAlone (s : State) (c : Cmd) (b : CollReduce) : State × Option Status :=
  let f := reduceFmt b.fin
  let own := s.tensorPart c.id f b.src b.u 0 b.u
  let ts := (chunkVals f b.u own.2).map rnd32
  let sq := squareSum (chunkVals f b.u own.2)
  let t := ((own.1.writeNoise c b sq ts).endBlocks c b 0 b.u b.u 0 ts).1
  t.collDone c (t.reduceOutputs b)

/-- Bytes of a member's step from an offset, once all of them have come. -/
def Coll.bytesAt (x : Coll) (m step a n : Nat) : Option (List Byte) :=
  let ps := x.partsOf m step
  let l := (List.range n).map fun i =>
    (ps.find? fun q => decide (q.off ≤ a + i ∧ a + i < q.off + q.bytes.length)).bind fun q => q.bytes[a + i - q.off]?
  if l.all (·.isSome) then some (l.filterMap id) else none

/-- Block b of a chunk of u blocks as it has come: its elements, and under G8 its exponent byte (R289). -/
def Coll.blockData (x : Coll) (f : FC) (u m step b : Nat) : Option (List Byte × List Byte) :=
  match x.bytesAt m step (b * blockBytes f) (blockBytes f) with
  | none => none
  | some e => if f = .g8 then (x.bytesAt m step (u * blockBytes f + b) 1).map fun t => (e, t) else some (e, [])

/-- The first blocks in a row of an ascending list: the first of them and their count. -/
def firstRun : List Nat → Nat × Nat
  | [] => (0, 0)
  | b :: l => (b, 1 + ((List.range l.length).takeWhile fun i => decide (l.getD i 0 = b + 1 + i)).length)

/-- The blocks of a step that have come and have not been passed on, the first in a row of them (R295). -/
def Coll.nextRun (x : Coll) (f : FC) (u m step : Nat) : Nat × Nat :=
  firstRun ((List.range u).filter fun b => decide (b ∉ x.passed) && (x.blockData f u m step b).isSome)

/-- The bytes of n blocks from block b as a step of n blocks carries them. -/
def Coll.runData (x : Coll) (f : FC) (u m step b n : Nat) : List Byte :=
  let l := (List.range n).filterMap fun i => x.blockData f u m step (b + i)
  (l.map (·.1)).flatten ++ (l.map (·.2)).flatten

/-- n blocks from block b of a chunk of u blocks sent on, at their places in the step's data (R287, R295). -/
def State.sendRun (s : State) (c : Cmd) (dst step : Nat) (f : FC) (u b n : Nat) (last : Bool) (l : List Byte) : State :=
  if n = u then s.sendPart c dst step 0 last l
  else
    let e := n * blockBytes f
    let t := s.sendPart c dst step (b * blockBytes f) (last && decide (f ≠ .g8)) (l.take e)
    if f = .g8 then t.sendPart c dst step (u * blockBytes f + b) last (l.drop e) else t

/-- A hop of a reduction: the blocks that have come are added and go on, or end here; it does not wait for the whole
step (R289, R290, R294, R295). -/
def State.hopStep (s : State) (c : Cmd) (x : Coll) (b : CollReduce) (d p prev next : Nat) : State × Option Status :=
  let k := x.step
  let f := reduceFmt b.fin
  let hop : FC := if f = .g8 then .g8 else .fp32
  let wire := if k = 0 then f else hop
  let sh := (s.group b.group).share b.rule b.u ((p + 2 * d - 2 - k) % d)
  let ps := x.partsOf prev k
  let r := x.nextRun wire sh.1 prev k
  let done := if sh.1 = 0 then ps.any (·.last) else decide (x.passed.length + r.2 = sh.1)
  let ends := decide (d ≤ k + 2)
  if s.addersBusy ps || (decide (r.2 = 0) && !done) then (s, none)
  else
    let sum := (s.countAdds c.id.ctx wire sh.1 r.1 r.2 ps).hopSum c b wire (sh.2 + r.1) r.2
      (x.runData wire sh.1 prev k r.1 r.2)
    let y := { x with
      passed := x.passed ++ (List.range r.2).map (· + r.1)
      finals := if ends then x.finals ++ sum.2.map toF32 else [] }
    let t := sum.1.setColl (if done then y.past k else y)
    if !ends then
      let e := if hop = .g8 then t.encodeChunk c b .g8 b.resEn (32 * (sh.2 + r.1)) sum.2
        else (t, (encodeBlocks .fp32 sum.2).1)
      (e.1.sendRun c next (k + 1) hop sh.1 r.1 r.2 done e.2, none)
    else
      let e := if b.all then t.endBlocks c b (sh.2 + r.1) r.2 b.u (sh.2 + r.1) sum.2
        else t.endBlocks c b (sh.2 + r.1) r.2 sh.1 r.1 sum.2
      let t := if done then e.1.writeNoise c b x.square (y.finals.map f32) else e.1
      if b.all then (t.sendRun c next (k + 1) (reduceFmt b.fout) sh.1 r.1 r.2 done e.2, none)
      else if done then t.collDone c (t.reduceOutputs b)
      else (t, none)

/-- A part of a final chunk of u blocks from block `first` on, written at its place in a tensor of `total` blocks
(R291). -/
def State.placePart (s : State) (id : CmdId) (f : FC) (a total first u : Nat) (q : CollPart) : State :=
  let n := u * blockBytes f
  let t := s.writeFor id (a + first * blockBytes f + q.off) (q.bytes.take (n - q.off))
  t.writeFor id (a + total * blockBytes f + first + (q.off - n)) (q.bytes.drop (n - q.off))

/-- A gather step of mode 1: a part of a final chunk that has come is written and passed on unchanged (R291,
R295). -/
def State.spreadStep (s : State) (c : Cmd) (x : Coll) (b : CollReduce) (d p prev next : Nat) : State × Option Status :=
  let k := x.step
  let j := k + 1 - d
  let sh := (s.group b.group).share b.rule b.u ((p + 2 * d - 1 - j) % d)
  match (x.partsOf prev k).find? fun q => decide (q.off ∉ x.passed) with
  | some q =>
    let t := (s.setColl { x with passed := x.passed ++ [q.off] }).placePart c.id (reduceFmt b.fout) b.dst b.u sh.2 sh.1 q
    (if j + 2 < d then t.sendPart c next (k + 1) q.off q.last q.bytes else t, none)
  | none =>
    let whole := if sh.1 = 0 then (x.partsOf prev k).any (·.last)
      else (x.bytesAt prev k 0 (chunkSize (reduceFmt b.fout) sh.1)).isSome
    if !whole then (s, none)
    else
      let t := s.setColl (x.past k)
      if j + 2 < d then (t, none) else t.collDone c (t.reduceOutputs b)

/-- One step of a reduction's work: of a hop, or in mode 1 of a gather step (R289 to R291). -/
def State.reduceStep (s : State) (c : Cmd) (x : Coll) (b : CollReduce) : State × Option Status :=
  let g := s.group b.group
  let d := g.members.length
  let p := s.ringPos g
  let prev := g.members.getD ((p + d - 1) % d) 0
  let next := g.members.getD ((p + 1) % d) 0
  if d ≤ 1 then s.reduceAlone c b
  else if x.step + 1 < d then s.hopStep c x b d p prev next
  else s.spreadStep c x b d p prev next

/-! ### Gathers, permutes and list exchanges -/

/-- The body of COLL_GATHER (R314). -/
structure GatherAll where
  group : Nat
  src : Nat
  dst : Nat
  u : Nat
  n : Nat
  rule : Nat
  deriving DecidableEq, Repr

/-- The body read from a descriptor. -/
def gatherAll (d : Desc) : GatherAll :=
  ⟨addrAt d 224, addrAt d 264, addrAt d 304, fld d 375 344, fld d 391 376 + 1, fld d 393 392⟩

/-- The start of a gather: the own share copied to its place, unless it lies there, and sent on
(R296). -/
def State.gatherStart (s : State) (c : Cmd) (b : GatherAll) : State :=
  let g := s.group b.group
  let p := s.ringPos g
  let sh := g.share b.rule b.u p
  let r := s.readFor c.id b.src (sh.1 * b.n)
  let at_ := b.dst + sh.2 * b.n
  let t := if at_ = b.src then r.1 else r.1.writeFor c.id at_ r.2
  if g.members.length ≤ 1 then t
  else t.sendStep c (g.members.getD ((p + 1) % g.members.length) 0) 0 r.2

/-- One step of a gather: the share received is written and passed on (R296). -/
def State.gatherStep (s : State) (c : Cmd) (x : Coll) (b : GatherAll) : State × Option Status :=
  let g := s.group b.group
  let d := g.members.length
  let p := s.ringPos g
  let outs := [Extent.flat .dev b.dst (b.u * b.n)]
  if d ≤ 1 then s.collDone c outs
  else
    match x.stepData (g.members.getD ((p + d - 1) % d) 0) x.step with
    | none => (s, none)
    | some l =>
      let sh := g.share b.rule b.u ((p + 2 * d - 1 - x.step) % d)
      let t := (s.setColl (x.past x.step)).writeFor c.id (b.dst + sh.2 * b.n) l
      if x.step + 2 < d then (t.sendStep c (g.members.getD ((p + 1) % d) 0) (x.step + 1) l, none)
      else t.collDone c outs

/-- The body of COLL_PERMUTE (R314). -/
structure Permute where
  from_ : Nat
  goal : Nat
  src : Nat
  dst : Nat
  scratch : Nat
  u : Nat
  n : Nat
  ruleSrc : Nat
  ruleDst : Nat
  deriving DecidableEq, Repr

/-- The body read from a descriptor. -/
def permuteBody (d : Desc) : Permute :=
  { from_ := addrAt d 224, goal := addrAt d 264, src := addrAt d 304, dst := addrAt d 344,
    scratch := addrAt d 384, u := fld d 455 424, n := fld d 471 456 + 1, ruleSrc := fld d 473 472,
    ruleDst := fld d 475 474 }

/-- The share of a member in a group; no units for a member that is not in it. -/
def Group.shareOf (g : Group) (rule u m : Nat) : Nat × Nat :=
  if m ∈ g.members then g.share rule u (g.members.idxOf m) else (0, 0)

/-- The units common to two shares: their count and the first. -/
def common (a b : Nat × Nat) : Nat × Nat :=
  let lo := max a.2 b.2
  (min (a.2 + a.1) (b.2 + b.1) - lo, lo)

/-- The units that go from one member to another in a permute. -/
def State.moved (s : State) (b : Permute) (m r : Nat) : Nat × Nat :=
  common ((s.group b.from_).shareOf b.ruleSrc b.u m) ((s.group b.goal).shareOf b.ruleDst b.u r)

/-- The start of a permute: every unit that leaves goes to its new holder (R299). -/
def State.permuteStart (s : State) (c : Cmd) (b : Permute) : State :=
  let me := s.membership.self
  let own := (s.group b.from_).shareOf b.ruleSrc b.u me
  (((s.group b.goal).members).filter fun r => decide (r ≠ me)).foldl (fun (t : State) r =>
    let x := s.moved b me r
    if x.1 = 0 then t
    else
      let q := t.readFor c.id (b.src + (x.2 - own.2) * b.n) (x.1 * b.n)
      q.1.sendStep c r 0 q.2) s

/-- The outputs of a permute. -/
def State.permuteOutputs (s : State) (b : Permute) : List Extent :=
  let sh := (s.group b.goal).shareOf b.ruleDst b.u s.lastSelf
  .flat .dev b.dst (sh.1 * b.n) :: (if b.dst = b.src then [.flat .dev b.scratch (sh.1 * b.n)] else [])

/-- A permute once every unit for this member has come: the new share assembled, in place by way of the
scratch, after this member's own sends are acknowledged (R299). -/
def State.permuteStep (s : State) (c : Cmd) (x : Coll) (b : Permute) : State × Option Status :=
  let me := s.membership.self
  let new := (s.group b.goal).shareOf b.ruleDst b.u me
  let old := (s.group b.from_).shareOf b.ruleSrc b.u me
  let froms := ((s.group b.from_).members).filter fun m => decide (m ≠ me ∧ (s.moved b m me).1 ≠ 0)
  let base := if b.dst = b.src then b.scratch else b.dst
  if froms.any (fun m => (x.stepData m 0).isNone) || (decide (b.dst = b.src) && !s.stepAcked c 0) then (s, none)
  else
    let stay := s.moved b me me
    let r := s.readFor c.id (b.src + (stay.2 - old.2) * b.n) (stay.1 * b.n)
    let t := if stay.1 = 0 then s else r.1.writeFor c.id (base + (stay.2 - new.2) * b.n) r.2
    let t := froms.foldl (fun (t : State) m =>
      t.writeFor c.id (base + ((s.moved b m me).2 - new.2) * b.n) ((x.stepData m 0).getD [])) t
    let t := if b.dst = b.src then
        let q := t.readFor c.id b.scratch (new.1 * b.n)
        q.1.writeFor c.id b.dst q.2
      else t
    t.collDone c (t.permuteOutputs b)

/-- The body of COLL_LIST_EXCHANGE (R314). -/
structure Exchange where
  group : Nat
  list : Nat
  out : Nat
  slot : Nat
  table : Nat
  bid : Nat
  deriving DecidableEq, Repr

/-- The body read from a descriptor. -/
def exchangeBody (d : Desc) : Exchange :=
  ⟨addrAt d 224, addrAt d 264, addrAt d 304, fld d 375 344, fld d 385 376, fld d 393 386⟩

/-- The member that owns a row of a version: by its shard map, the named owner of a replica, this
device for a table that is neither (R151, R301). -/
def State.recordOwner (s : State) (t : TableDesc) (r : Nat) : Nat :=
  if t.kind = 1 then s.rowOwner t r else if t.kind = 2 then t.owner else s.membership.self

/-- What an exchange meets at its start: its batch must have bound the table, its list must be one of
that table and version in the context's memory, and every owner in its group (R301). -/
def State.exchangeChecks (s : State) (c : Nat) (b : Exchange) : Checks × Option Version :=
  match (s.batch c b.bid).bind fun x => s.boundVersion x b.table with
  | none => (Checks.inv true, none)
  | some v =>
    let h := s.listHead b.list
    let g := s.group b.group
    ((Checks.inv (decide (h.table ≠ b.table ∨ h.version ≠ v.num) || h.format.isNone ||
        (s.shardMembers v.desc).any fun m => decide (m ∉ g.members))).and
      (s.stackRegion c b.list h.size 256), some v)

/-- The list for a member: the records of its rows, in their order (R301). -/
def State.listFor (s : State) (b : Exchange) (v : Version) (l : List Byte) (m : Nat) : List Byte :=
  let h := s.listHead b.list
  let mine := (List.range h.entries).filter fun k =>
    decide (s.recordOwner v.desc (s.listEntry b.list h k).row = m)
  ({ h with entries := mine.length }).bytes ++
    (mine.map fun k => (l.drop (64 + k * h.stride)).take h.stride).flatten

/-- The start of an exchange: every other member is sent its list, the own one is written; a list
larger than a slot ends the exchange (R301). -/
def State.exchangeStart (s : State) (c : Cmd) (b : Exchange) : State × Option Status :=
  match s.exchangeChecks c.id.ctx b with
  | (chk, some v) =>
    match chk.first false with
    | some st => (s, some st)
    | none =>
      let g := s.group b.group
      let r := s.readFor c.id b.list (s.listHead b.list).size
      let ls := g.members.map fun m => s.listFor b v r.2 m
      let t := ((List.range ls.length).zip ls).foldl (fun (t : State) q =>
        let m := g.members.getD q.1 0
        if m ≠ s.membership.self then t.sendStep c m 0 q.2
        else if q.2.length ≤ b.slot then t.writeFor c.id (b.out + q.1 * b.slot) q.2
        else t) r.1
      (t, if ls.any fun l => decide (b.slot < l.length) then some .invalid else none)
  | _ => (s, some .invalid)

/-- One step of an exchange: a list that has come is written into its slot; one that is larger is
refused, and the exchange ends (R301). -/
def State.exchangeStep (s : State) (c : Cmd) (x : Coll) (b : Exchange) : State × Option Status :=
  let g := s.group b.group
  let outs := [Extent.flat .dev b.out (g.members.length * b.slot)]
  let open_ := (List.range g.members.length).filter fun k =>
    decide (g.members.getD k 0 ≠ s.membership.self ∧ k ∉ x.passed)
  match open_.find? fun k => (x.stepData (g.members.getD k 0) 0).isSome with
  | some k =>
    let m := g.members.getD k 0
    let l := (x.stepData m 0).getD []
    if b.slot < l.length then
      (s.sendFrame (s.mkFrame 0x34 c.id.ctx m (collTag c.desc) 0
        (toBytes 4 (collTag c.desc) ++ toBytes 1 Status.invalid.code)), some .invalid)
    else
      let t := (s.setColl { x with passed := x.passed ++ [k] }).writeFor c.id (b.out + k * b.slot) l
      if open_.length ≤ 1 then t.collDone c outs else (t, none)
  | none => if open_ = [] then s.collDone c outs else (s, none)

/-! ### Passes -/

/-- The body of COLL_PASS (R314). -/
structure PassBody where
  src : Nat
  buf0 : Nat
  buf1 : Nat
  n : Nat
  pos : Nat
  send : Nat
  recv : Nat
  land : Nat
  free : Nat
  steps : Nat
  forward : Bool
  deriving DecidableEq, Repr

/-- The body read from a descriptor. -/
def passBody (d : Desc) : PassBody :=
  { src := addrAt d 224, buf0 := addrAt d 264, buf1 := addrAt d 304, n := fld d 375 344,
    pos := fld d 415 376, send := fld d 431 416, recv := fld d 447 432, land := fld d 463 448,
    free := fld d 479 464, steps := fld d 491 480, forward := flag d 492 }

/-- The slot of a step (R297). -/
def PassBody.slot (b : PassBody) (k : Nat) : Nat := if k % 2 = 0 then b.buf0 else b.buf1

/-- The step a pass sends next may go: step 0, a step that does not forward, or one whose buffer has
landed (R297). -/
def PassBody.canSend (b : PassBody) (x : Coll) : Bool :=
  decide (b.send ≠ 0xFFFF ∧ x.sent < b.steps) &&
    (!b.forward || decide (x.sent = 0 ∨ x.sent ≤ x.step ∨ b.recv = 0xFFFF))

/-- The position tag a step carries: this member's own for its own data, otherwise the tag of the
landing with the distance raised by 1 (R297, R309). -/
def State.passTag (s : State) (id : CmdId) (b : PassBody) (k : Nat) : State × List Byte :=
  if k = 0 ∨ b.forward = false then (s, toBytes 8 b.pos)
  else
    let r := s.readFor id (b.slot (k - 1) + b.n) 8
    let t := ofBytes r.2
    (r.1, toBytes 8 (t % 2 ^ 40 + (t / 2 ^ 40 + 1) % 2 ^ 24 * 2 ^ 40))

/-- Everything a pass sends is sent and everything it receives has landed. -/
def PassBody.allDone (b : PassBody) (x : Coll) : Bool :=
  decide (b.send = 0xFFFF ∨ b.steps ≤ x.sent) && decide (b.recv = 0xFFFF ∨ b.steps ≤ x.step)

/-- What a pass writes. -/
def PassBody.outputs (b : PassBody) : List Extent :=
  if b.recv = 0xFFFF then [] else [.flat .dev b.buf0 (b.n + 8), .flat .dev b.buf1 (b.n + 8)]

/-- The next send of a pass, or its end (R297). -/
def State.passStep (s : State) (c : Cmd) (x : Coll) (b : PassBody) : State × Option Status :=
  if b.canSend x then
    let a := if x.sent = 0 ∨ b.forward = false then b.src else b.slot (x.sent - 1)
    let r := s.readFor c.id a b.n
    let tag := r.1.passTag c.id b x.sent
    let t := tag.1.setColl { x with sent := x.sent + 1 }
    (t.sendStep c b.send x.sent (r.2 ++ tag.2), none)
  else if b.allDone x then s.collDone c b.outputs
  else (s, none)

/-- The data of a pass's next landing may go into its slot: FREE_OBJ has been raised for it, and the
forwarded send from that slot is acknowledged (R298). -/
def State.mayLand (s : State) (c : Cmd) (x : Coll) (b : PassBody) : Bool :=
  let k := x.step
  decide (k < 2) ||
    (reached32 (s.syncObj b.free).value (k - 1) &&
      (!b.forward || decide (b.send = 0xFFFF) || (decide (k ≤ x.sent) && s.stepAcked c (k - 1))))

/-- The landing of a pass's next step with its tag, then LAND_OBJ's signal (R297, R298). -/
def State.landStep (s : State) (c : Cmd) (x : Coll) (b : PassBody) (l : List Byte) : State :=
  let t := (s.setColl (x.past x.step)).writeFor c.id (b.slot x.step) (l.take (b.n + 8))
  t.signalObj b.land 1 false

/-! ### The rows -/

/-- A collective row's step on the released collective it names, once it has begun; where what it runs on is retired
it is UNIT_RETIRED, where memory loses its group record DATA_SUSPECT (R13, R309, R431). -/
def State.runColl (s : State) (id : CmdId) (p : Desc → Bool)
    (f : State → Cmd → Coll → State × Option Status) : State :=
  match s.runnable id p, s.collOf id with
  | some c, some x =>
    if !x.begun then s
    else if s.collGone c.desc then s.finish id .unitRetired
    else if s.groupLost c.desc then s.finish id .dataSuspect
    else
      match f s c x with
      | (t, some st) => t.finish id st
      | (t, none) => t
  | _, _ => s

/-- The mode bit of COLL_REDUCE. -/
def reduceMode (all : Bool) (d : Desc) : Bool := isOp 0xC0 d && decide (flag d 496 = all)

/-- COLL_REDUCE_SCATTER: each position writes its own chunk of the sum (R289 to R291). -/
def execCollReduceScatter (id : CmdId) (s : State) : Host.Outcome State Fault Refusal :=
  .next (s.runColl id (reduceMode false) fun s c x => s.reduceStep c x (collReduceBody c.desc))

/-- COLL_ALL_REDUCE: the reduction, then the gather of the final chunks (R291). -/
def execCollAllReduce (id : CmdId) (s : State) : Host.Outcome State Fault Refusal :=
  .next (s.runColl id (reduceMode true) fun s c x => s.reduceStep c x (collReduceBody c.desc))

/-- COLL_GATHER: the units of every position onto every member (R296). -/
def execCollGather (id : CmdId) (s : State) : Host.Outcome State Fault Refusal :=
  .next (s.runColl id (isOp 0xC1) fun s c x => s.gatherStep c x (gatherAll c.desc))

/-- COLL_PASS: a buffer sent each step, and the end once every landing has come (R297). -/
def execCollPass (id : CmdId) (s : State) : Host.Outcome State Fault Refusal :=
  .next (s.runColl id (isOp 0xC2) fun s c x => s.passStep c x (passBody c.desc))

/-- COLL_PASS_LANDING: a step's data lands in its slot once FREE_OBJ and forwarding allow, and LAND_OBJ
is signalled (R297, R298). -/
def execCollPassLanding (id : CmdId) (step : Nat) (s : State) : Host.Outcome State Fault Refusal :=
  .next (s.runColl id (isOp 0xC2) fun s c x =>
    let b := passBody c.desc
    if x.step = step ∧ step < b.steps ∧ s.mayLand c x b then
      match x.stepData b.recv step with
      | some l => (s.landStep c x b l, none)
      | none => (s, none)
    else (s, none))

/-- COLL_PERMUTE: units moved from one layout to another (R299). -/
def execCollPermute (id : CmdId) (s : State) : Host.Outcome State Fault Refusal :=
  .next (s.runColl id (isOp 0xC3) fun s c x => s.permuteStep c x (permuteBody c.desc))

/-- COLL_LIST_EXCHANGE: a merged list's records to the owners of their rows (R301). -/
def execCollListExchange (id : CmdId) (s : State) : Host.Outcome State Fault Refusal :=
  .next (s.runColl id (isOp 0xC4) fun s c x => s.exchangeStep c x (exchangeBody c.desc))

/-- What a collective does first (R289, R296, R299, R301). -/
def State.collStart (s : State) (c : Cmd) : State × Option Status :=
  match opcode c.desc with
  | 0xC0 =>
    let b := collReduceBody c.desc
    let g := s.group b.group
    let d := g.members.length
    let p := s.ringPos g
    if d ≤ 1 then (s, none)
    else
      let sh := g.share b.rule b.u ((p + d - 1) % d)
      let r := (s.noteSquare c b).tensorPart c.id (reduceFmt b.fin) b.src b.u sh.2 sh.1
      (r.1.sendStep c (g.members.getD ((p + 1) % d) 0) 0 r.2, none)
  | 0xC1 => (s.gatherStart c (gatherAll c.desc), none)
  | 0xC3 => (s.permuteStart c (permuteBody c.desc), none)
  | 0xC4 => s.exchangeStart c (exchangeBody c.desc)
  | _ => (s, none)

/-- COLLECTIVE_MATCH: a released collective begins: its first data go out under its CHECK, and each
member compares the CHECK of the frames it receives with its own (R287). -/
def execCollectiveMatch (id : CmdId) (s : State) : Host.Outcome State Fault Refusal :=
  match s.runnable id isCollective, s.collOf id with
  | some c, some x =>
    if x.begun then .next s
    else
      match (s.setColl { x with begun := true }).collStart c with
      | (t, some st) => .next (t.finish id st)
      | (t, none) => .next t
  | _, _ => .next s

/-! ### Generation sequences -/

/-- A sequence slot (R302). -/
def State.seqSlot (s : State) (k : Nat) : SeqSlot := Tab.get SeqSlot.unused s.seqs k

/-- A sequence slot replaced. -/
def State.setSeq (s : State) (k : Nat) (x : SeqSlot) : State :=
  { s with seqs := Tab.put SeqSlot.unused s.seqs k x }

/-- The sequence slot of a GEN_SEQ, its OP, rows, core address and target (R314). -/
def seqOf (d : Desc) : Nat := fld d 248 236
/-- The OP of GEN_SEQ. -/
def seqOp (n : Nat) (d : Desc) : Bool := isOp 0xC5 d && decide (fld d 250 249 = n)
/-- The rows of an APPEND or READ. -/
def seqRows (d : Desc) : Nat := fld d 235 223
/-- The core-local address of an APPEND or READ. -/
def seqCore (d : Desc) : Nat := fld d 222 199
/-- The first position of a READ. -/
def seqFrom (d : Desc) : Nat := fld d 337 298

/-- A finished command has done its work: its status is OK or RETRIED_OK. -/
def Cmd.done (x : Cmd) : Bool := decide (x.phase = .finished .ok ∨ x.phase = .finished .retriedOk)

/-- An earlier-dispatched command on the same slot has not completed its work; an APPEND's is complete with its record,
for an abort until then takes its rows back (R303, R326, log entry 131). -/
def State.seqBusy (s : State) (c : Cmd) : Bool :=
  s.cmds.any fun (x : Cmd) => isOp 0xC5 x.desc && decide (seqOf x.desc = seqOf c.desc ∧ 0 < x.rank ∧ x.rank < c.rank) &&
    (decide (x.phase = Phase.released) || (seqOp 1 x.desc && x.done))

/-- An APPEND aborted while its record is held: POSITION is unchanged by it (R303, R326, log entry 131). -/
def State.seqUndone (s : State) (c : Cmd) : State :=
  if seqOp 1 c.desc && c.done then
    let x := s.seqSlot (seqOf c.desc)
    s.setSeq (seqOf c.desc) { x with pos := x.pos - seqRows c.desc }
  else s

/-- Rows a 64 KiB page holds (R302). -/
def SeqSlot.perPage (x : SeqSlot) : Nat := 65536 / x.row

/-- The page that holds a position. -/
def State.seqPage (s : State) (x : SeqSlot) (p : Nat) : Nat := s.devNum (x.pageList + 8 * (p / x.perPage)) 8

/-- The address of a position (R302). -/
def State.seqAddr (s : State) (x : SeqSlot) (p : Nat) : Nat := s.seqPage x p + p % x.perPage * x.row

/-- The rows of positions as extents. -/
def State.seqExtents (s : State) (x : SeqSlot) (first n : Nat) : List Extent :=
  (List.range n).map fun k => .flat .dev (s.seqAddr x (first + k)) x.row

/-- What an APPEND or READ meets at its slot: its rows, the core's stores, and the pages of its rows
(R239, R302, R303, R311). -/
def State.seqChecks (s : State) (c : Nat) (x : SeqSlot) (first n limit core : Nat) : Checks :=
  (Checks.inv (decide (limit < first + n) || !inCore core (n * x.row))).and
    (Checks.all ((List.range n).map fun k =>
      let page := s.seqPage x (first + k)
      ⟨decide (page % 65536 ≠ 0) || !s.inStack page 65536, !s.ctxMem c (s.seqAddr x (first + k)) x.row,
        false, false⟩))

/-- The entries of the page list that n positions from one on need (R302). -/
def SeqSlot.entries (x : SeqSlot) (first n : Nat) : Extent :=
  .flat .dev (x.pageList + 8 * (first / x.perPage)) (8 * ((first + n - 1) / x.perPage + 1 - first / x.perPage))

/-- A GEN_SEQ row's work in dispatch order on its slot: a slot that is not open gives INVALID, one of
another context ACCESS_DENIED (R303). -/
def State.runSeq (s : State) (id : CmdId) (op : Nat) (f : State → Cmd → SeqSlot → State × Status) : State :=
  s.workOn id (seqOp op) (fun _ _ => [])
    fun s c =>
      let x := s.seqSlot (seqOf c.desc)
      if s.seqBusy c then (s, none)
      else if !x.opened && decide (op ≠ 0) then (s, some .invalid)
      else if x.opened && decide (x.ctx ≠ id.ctx) then (s, some .accessDenied)
      else
        let r := f s c x
        (r.1, some r.2)

/-- GEN_SEQ OPEN: POSITION 0, LIMIT, row length and page list latched (R303). -/
def execGenSeqOpen (id : CmdId) (s : State) : Host.Outcome State Fault Refusal :=
  .next (s.runSeq id 0 fun s c x =>
    if x.opened then (s, .busy)
    else
      let d := c.desc
      (s.setSeq (seqOf d) ⟨true, id.ctx, 0, fld d 297 258, 32 * (fld d 257 251 + 1), fld d 385 338⟩, .ok))

/-- GEN_SEQ APPEND: ROWS rows copied to the positions from POSITION, which then grows by ROWS (R303). -/
def execGenSeqAppend (id : CmdId) (s : State) : Host.Outcome State Fault Refusal :=
  .next (s.runSeq id 1 fun s c x =>
    let d := c.desc
    let n := seqRows d
    let k := coreOf (fld d 198 192)
    if x.pos + n ≤ x.limit ∧ s.regionsBad [x.entries x.pos n] = true then (s, .dataSuspect)
    else
    match (s.seqChecks id.ctx x x.pos n x.limit (seqCore d)).first false with
    | some st => (s, st)
    | none =>
      let r := s.withPoison [] (s.seqExtents x x.pos n) fun s =>
        ((List.range n).foldl (fun (t : State) i =>
          t.devWrite (s.seqAddr x (x.pos + i)) (s.get (.core k) (seqCore d + i * x.row) x.row)) s, .ok)
      (if r.2 = .ok then r.1.setSeq (seqOf d) { x with pos := x.pos + n } else r.1, r.2))

/-- GEN_SEQ READ: ROWS rows from FROM copied to the core (R303). -/
def execGenSeqRead (id : CmdId) (s : State) : Host.Outcome State Fault Refusal :=
  .next (s.runSeq id 2 fun s c x =>
    let d := c.desc
    let n := seqRows d
    let k := coreOf (fld d 198 192)
    let out := Extent.flat (.core k) (seqCore d) (n * x.row)
    if seqFrom d + n ≤ x.pos ∧ s.regionsBad [x.entries (seqFrom d) n] = true then (s.scrambleAll [out], .dataSuspect)
    else
    match (s.seqChecks id.ctx x (seqFrom d) n x.pos (seqCore d)).first false with
    | some st => (s, st)
    | none =>
      s.withPoison (s.seqExtents x (seqFrom d) n) [out] fun s =>
        ((List.range n).foldl (fun (t : State) i =>
          t.set (.core k) (seqCore d + i * x.row) (s.devRead (s.seqAddr x (seqFrom d + i)) x.row)) s, .ok))

/-- GEN_SEQ CLOSE: the slot is free (R303). -/
def execGenSeqClose (id : CmdId) (s : State) : Host.Outcome State Fault Refusal :=
  .next (s.runSeq id 3 fun s c _ => (s.setSeq (seqOf c.desc) SeqSlot.unused, .ok))

/-! ### Admission and outputs -/

/-- A collective or sequence command in progress (R312). -/
def State.collsBusy (s : State) : Bool :=
  decide (256 ≤ (s.cmds.filter fun (x : Cmd) => decide (0xC0 ≤ opcode x.desc ∧ opcode x.desc ≤ 0xC5) &&
    (decide (x.phase = Phase.admitted) || decide (x.phase = Phase.released))).length)

/-- A collective of the same context and tag is in progress (R287). -/
def State.tagBusy (s : State) (id : CmdId) (d : Desc) : Bool :=
  s.cmds.any fun (x : Cmd) => isCollective x.desc && decide (x.id ≠ id ∧ x.id.ctx = id.ctx ∧ collTag x.desc = collTag d) &&
    (decide (x.phase = Phase.admitted) || decide (x.phase = Phase.released))

/-- The checks of COLL_REDUCE's body; what needs the group record is left out where it cannot be read (R8, R12, R284,
R285, R292, R314). -/
def State.collReduceChecks (s : State) (c : Nat) (d : Desc) : Checks :=
  let b := collReduceBody d
  let g := s.group b.group
  let fmts := fun (n : Nat) => decide (n = 0x0 ∨ n = 0x2 ∨ n = 0xC)
  let u := if b.all then b.u else (g.share b.rule b.u (s.ringPos g)).1
  Checks.all [
    Checks.inv (!reservedZero d [(511, 509)] || decide (b.u = 0 ∨ b.rule = 3) || !fmts b.fin || !fmts b.fout ||
      (decide (b.fin ≠ 0xC) && decide (b.fout = 0xC ∨ b.resEn = true)) || (f32 b.scale).special ||
      (!b.noiseEn && decide (b.noise ≠ 0)) || (!b.resEn && decide (b.res ≠ 0))),
    s.groupChecks c b.group true,
    s.stackRegion c b.src (chunkSize (reduceFmt b.fin) b.u) 256,
    if b.resEn then s.stackRegion c b.res (64 * b.u) 256 else Checks.pass,
    if b.noiseEn then s.stackRegion c b.noise 32 256 else Checks.pass,
    if s.groupShut c b.group then Checks.pass
    else (Checks.inv (g.ruleBad b.rule b.u)).and (s.stackRegion c b.dst (chunkSize (reduceFmt b.fout) u) 256)]

/-- The checks of COLL_GATHER's body (R8, R12, R314). -/
def State.gatherAllChecks (s : State) (c : Nat) (d : Desc) : Checks :=
  let b := gatherAll d
  let g := s.group b.group
  Checks.all [Checks.inv (!reservedZero d [(511, 394)] || decide (b.u = 0 ∨ b.rule = 3)),
    s.groupChecks c b.group true,
    s.stackRegion c b.dst (b.u * b.n) 256,
    if s.groupShut c b.group then Checks.pass
    else (Checks.inv (g.ruleBad b.rule b.u)).and
      (s.stackRegion c b.src ((g.share b.rule b.u (s.ringPos g)).1 * b.n) 256)]

/-- The checks of COLL_PASS's body (R314). -/
def State.passChecks (s : State) (c : Nat) (d : Desc) : Checks :=
  let b := passBody d
  Checks.all [Checks.inv (!reservedZero d [(511, 493)] || decide (b.n = 0 ∨ b.steps = 0) ||
      reservedMember b.send || reservedMember b.recv),
    if b.send = 0xFFFF then Checks.pass else s.stackRegion c b.src b.n 256,
    if b.recv = 0xFFFF then Checks.pass
    else (s.stackRegion c b.buf0 (b.n + 8) 256).and (s.stackRegion c b.buf1 (b.n + 8) 256)]

/-- The checks of COLL_PERMUTE's body (R8, R12, R299, R314). -/
def State.permuteChecks (s : State) (c : Nat) (d : Desc) : Checks :=
  let b := permuteBody d
  let me := s.membership.self
  let f := s.group b.from_
  let t := s.group b.goal
  let new := (t.shareOf b.ruleDst b.u me).1 * b.n
  let shut := fun a => s.groupShut c a
  Checks.all [Checks.inv (!reservedZero d [(511, 476)] || decide (b.u = 0 ∨ b.ruleSrc = 3 ∨ b.ruleDst = 3) ||
      decide (b.dst ≠ b.src ∧ b.scratch ≠ 0)),
    s.groupChecks c b.from_ false, s.groupChecks c b.goal false,
    if shut b.from_ then Checks.pass
    else (Checks.inv (f.ruleBad b.ruleSrc b.u)).and
      (if me ∈ f.members then s.stackRegion c b.src ((f.shareOf b.ruleSrc b.u me).1 * b.n) 256 else Checks.pass),
    if shut b.goal then Checks.pass
    else (Checks.inv (t.ruleBad b.ruleDst b.u)).and
      (if me ∈ t.members then
        (s.stackRegion c b.dst new 256).and
          (if b.dst = b.src then s.stackRegion c b.scratch new 256 else Checks.pass)
      else Checks.pass),
    Checks.inv (!shut b.from_ && !shut b.goal && decide (me ∉ f.members ∧ me ∉ t.members))]

/-- The checks of COLL_LIST_EXCHANGE's body; the list is checked at its full size where its head can be read (R8, R12,
R314, log entry 95). -/
def State.exchangeBodyChecks (s : State) (c : Nat) (d : Desc) : Checks :=
  let b := exchangeBody d
  let head := s.stackRegion c b.list 64 256
  let h := s.listHead b.list
  Checks.all [Checks.inv (!reservedZero d [(511, 394)] || decide (b.slot % 256 ≠ 0)),
    s.groupChecks c b.group true, head,
    if head.invalid || s.devReadBad b.list 64 || decide (h.table ≠ b.table) then Checks.pass
    else s.stackRegion c b.list h.size 256,
    if s.groupShut c b.group then Checks.pass
    else s.stackRegion c b.out ((s.group b.group).members.length * b.slot) 256]

/-- The entries of a page list of n pages: each page 64 KiB, 64 KiB aligned, in the context's memory; a list that
memory has lost is met when a row needs it (R302, R309, R311, R314). -/
def State.pageChecks (s : State) (c a n : Nat) : Checks :=
  let list := s.stackRegion c a (8 * n) 8
  if list.invalid || s.devReadBad a (8 * n) then list
  else Checks.all (list :: (List.range n).map fun k => s.stackRegion c (s.devNum (a + 8 * k) 8) 65536 65536)

/-- The checks of GEN_SEQ's body (R302, R314): fields an OP does not use are 0. -/
def State.seqBodyChecks (s : State) (c : Nat) (d : Desc) : Checks :=
  let op := fld d 250 249
  let opens := decide (op = 0)
  let rows := decide (op = 1 ∨ op = 2)
  let core := fld d 198 192
  let limit := fld d 297 258
  let row := 32 * (fld d 257 251 + 1)
  let pre := !reservedZero d [(511, 386)] || decide (6144 ≤ seqOf d) ||
    (!opens && decide (fld d 385 338 ≠ 0 ∨ limit ≠ 0 ∨ fld d 257 251 ≠ 0)) ||
    (decide (op ≠ 2) && decide (seqFrom d ≠ 0)) ||
    (!rows && decide (seqRows d ≠ 0 ∨ seqCore d ≠ 0 ∨ core ≠ 0)) ||
    (rows && (decide (seqRows d = 0 ∨ 4096 < seqRows d) || !coreOk core)) || (opens && decide (limit = 0))
  (⟨pre, rows && !s.hasCore c (coreOf core), false, false⟩ : Checks).and
    (if opens then s.pageChecks c (fld d 385 338) ((limit + 65536 / row - 1) / (65536 / row)) else Checks.pass)

/-- The checks of a collective or sequence command's body (R287, R312, R314). -/
def State.collectiveChecks (s : State) (id : CmdId) (d : Desc) : Checks :=
  let body := match opcode d with
    | 0xC0 => s.collReduceChecks id.ctx d
    | 0xC1 => s.gatherAllChecks id.ctx d
    | 0xC2 => s.passChecks id.ctx d
    | 0xC3 => s.permuteChecks id.ctx d
    | 0xC4 => s.exchangeBodyChecks id.ctx d
    | 0xC5 => s.seqBodyChecks id.ctx d
    | _ => Checks.inv true
  body.and ⟨isCollective d && s.tagBusy id d, false, false, s.collsBusy⟩

/-- The rows of a sequence a READ takes, and the entries of the page list that it or an APPEND looks up (R302,
R303). -/
def State.seqReads (s : State) (c : Nat) (d : Desc) : List Extent :=
  let x := s.seqSlot (seqOf d)
  let first := if seqOp 2 d then seqFrom d else x.pos
  if !x.opened || decide (x.ctx ≠ c) || !(seqOp 1 d || seqOp 2 d) then []
  else
    x.entries first (seqRows d) ::
      if seqOp 2 d && decide (first + seqRows d ≤ x.pos) then s.seqExtents x first (seqRows d) else []

/-- What a stopped collective or sequence command leaves undefined: of a sequence its slot, open for the context,
tells (R303, R306, R308). -/
def State.collectiveOutputs (s : State) (c : Nat) (d : Desc) : List Extent :=
  match opcode d with
  | 0xC0 => s.reduceOutputs (collReduceBody d)
  | 0xC1 => [.flat .dev (gatherAll d).dst ((gatherAll d).u * (gatherAll d).n)]
  | 0xC2 => (passBody d).outputs
  | 0xC3 => s.permuteOutputs (permuteBody d)
  | 0xC4 =>
    let b := exchangeBody d
    [.flat .dev b.out ((s.group b.group).members.length * b.slot)]
  | 0xC5 =>
    let x := s.seqSlot (seqOf d)
    if !x.opened || decide (x.ctx ≠ c) then []
    else if seqOp 1 d then (if x.pos + seqRows d ≤ x.limit then s.seqExtents x x.pos (seqRows d) else [])
    else if seqOp 2 d then [.flat (.core (coreOf (fld d 198 192))) (seqCore d) (seqRows d * x.row)]
    else []
  | _ => []

/-! ### Frames of collectives -/

/-- A COLLECTIVE frame received for its released collective: a CANCEL ends it, with INVALID where the
CHECK differs and otherwise with ABORTED, at its next safe point or at once where only its record is still to be
written; data of another CHECK is answered by a CANCEL; data waits for its step. None: the frame stays in staging
(R287, R288, R308). -/
def State.takeColl (s : State) (f : Frame) : Option State :=
  match s.coll f.ctx f.tag with
  | none => none
  | some x =>
    match x.cmd.bind s.findCmd with
    | none => none
    | some c =>
      let h := ofBytes (f.body.take 32)
      let same := decide (bits h 207 176 = s.collCheck c.desc ∧ bits h 111 104 = opcode c.desc)
      let step := bits h 175 160
      if h.testBit 96 then
        if same then
          let t := if x.cancelled then s else (s.setColl { x with cancelled := true }).tally f.ctx 0x7140 26 1
          some (if c.done then
              (t.scrambleAll (t.collectiveOutputs f.ctx c.desc)).updCmd c.id fun y => { y with phase := .finished .aborted }
            else t.updCmd c.id fun y => { y with abortReq := true })
        else if c.phase = .released then
          some ((s.setColl { x with cancelled := true }).finish c.id .invalid)
        else some s
      else if c.phase ≠ .released then none
      else if same then
        let q : CollPart := ⟨f.src, step, bits h 159 112, h.testBit 97, f.port, f.body.drop 32⟩
        if step < x.step ∨ (x.partsOf f.src step).any (fun r => decide (r.off = q.off)) then none
        else some (s.setColl { x with parts := x.parts ++ [q] })
      else some (((s.setColl { x with cancelled := true }).sendCancel c.desc f.ctx f.src).finish c.id .invalid)

end Sys2Proof.Machine
end

