-- ==== Sys2Proof/Machine/Context.lean ====
section
/-! DEFINITION. Contexts and residency: entry, eviction, quantum, leaving and the firebreak (chapter
Commands, Contexts and Synchronization, R339 to R343, R485). -/

namespace Sys2Proof.Machine

/-! ### Who waits, who may enter -/

/-- A context's core grant and engine grant (R339, R348). -/
def State.grant (s : State) (c : Nat) : Nat × Nat := (s.objv (0x6000 + c) 4, s.objv (0x6000 + c) 5)

/-- Two contexts' grants share a core or an engine. -/
def State.sharesGrant (s : State) (a b : Nat) : Bool :=
  decide ((s.grant a).1 &&& (s.grant b).1 ≠ 0) || decide ((s.grant a).2 &&& (s.grant b).2 ≠ 0)

/-- A context has a command that has not completed. -/
def State.hasWork (s : State) (c : Nat) : Bool := s.cmds.any fun (x : Cmd) => decide (x.id.ctx = c)

/-- A defined context is runnable: it has an admitted command that has not completed (R340). -/
def State.isRunnable (s : State) (c : Nat) : Bool :=
  s.isDefined c && s.cmds.any fun (x : Cmd) => decide (x.id.ctx = c) && x.admitted

/-- A runnable context that is not resident waits (R340). -/
def State.isWaiting (s : State) (c : Nat) : Bool := s.isRunnable c && !s.resident c

/-- Since when a context waits. -/
def State.waitsSince (s : State) (c : Nat) : Nat := ((s.ctx c).wait).getD s.now

/-- Context a has waited longer than context b; ties go to the lower ID (R340). -/
def State.waitsLonger (s : State) (a b : Nat) : Bool :=
  decide (s.waitsSince a < s.waitsSince b) || (decide (s.waitsSince a = s.waitsSince b) && decide (a < b))

/-- The waiting contexts before one. -/
def State.earlier (s : State) (c : Nat) : List Nat :=
  (List.range 64).filter fun w => s.isWaiting w && s.waitsLonger w c

/-- The resident contexts. -/
def State.residents (s : State) : List Nat := (List.range 64).filter s.resident

/-- The free slots of the eight (R339). -/
def State.freeSlots (s : State) : List Nat :=
  (List.range 8).filter fun k => !(s.residents.any fun c => decide ((s.ctx c).slot = some k))

/-- A slot is free and no resident context's grant conflicts with it (R340). -/
def State.canEnter (s : State) (c : Nat) : Bool :=
  decide (s.freeSlots ≠ []) && s.residents.all fun r => !s.sharesGrant r c

/-- A waiting context may enter ahead of the earlier waiters: it takes nothing they need (R340). -/
def State.mayEnter (s : State) (c : Nat) : Bool :=
  s.canEnter c && (s.earlier c).all (fun w => !s.sharesGrant w c) &&
    decide ((s.earlier c).length < s.freeSlots.length)

/-! ### Images -/

/-- Bytes of one core's save image (R485). -/
def imageBytes : Nat := 7864320

/-- The cores of a context's grant in ascending order. -/
def State.grantCores (s : State) (c : Nat) : List Nat := (List.range 96).filter (s.hasCore c)

/-- The engines of a context's grant. -/
def State.grantEngines (s : State) (c : Nat) : List Nat := (List.range 16).filter (s.hasEngine c)

/-- A save area meets R485: stack memory wholly within the context's memory. -/
def State.saveOk (s : State) (c a : Nat) : Bool :=
  let n := imageBytes * (s.grantCores c).length
  s.inStack a n && s.ctxMem c a n

/-- What a save notes of itself: the area and the grant it was made for; 0 stands for a firebreak that zeroed
because the area no longer met R485 (R485). -/
def State.saveMark (s : State) (c : Nat) : Nat :=
  s.objv (0x6000 + c) 9 + 2 ^ 64 * ((s.grant c).1 + 2 ^ 96 * (s.grant c).2)

/-- A region of stack memory replaced by the bytes of a store, the rest of it zeros. -/
def State.bulkWrite (s : State) (a n : Nat) (src : Tab Byte) : State :=
  let secs := (sectorsOf a n)
  { s with
    mem := Tab.overlay (0 : Byte) (Tab.clearRange s.mem a n) a src,
    pool := { s.pool with
      poison := Tab.clearRange s.pool.poison (a / 32) (n / 32),
      tags := secs.foldl (fun p k => Tab.put none p k (s.writeTag (32 * k))) s.pool.tags } }

/-- Core k's stores written to its image at an address, the feeder/drain part in the order the
device keeps them (R485). -/
def State.saveCore (s : State) (k a : Nat) : State :=
  let h := (Tab.get Stand.fresh s.stands k).half
  let t := s.bulkWrite a 0x480000 (Tab.slice s.core (coreBase k) 0x480000)
  let t := t.bulkWrite (a + 0x480000) (2 ^ 20) (Tab.slice s.acc (accBase k h) (2 ^ 20))
  let t := t.bulkWrite (a + 0x580000) (2 ^ 20) (Tab.slice s.acc (accBase k (1 - h)) (2 ^ 20))
  t.bulkWrite (a + 0x680000) (2 ^ 20) (Tab.slice s.feeder (k * 2 ^ 20) (2 ^ 20))

/-- n bytes of stack memory from an address, as a store counted from 0. -/
def State.stackSlice (s : State) (a n : Nat) : Tab Byte :=
  (List.range n).foldl (fun m i => Tab.put (0 : Byte) m i (s.stackByte (a + i))) []

/-- Core k's stores read back from its image; the first accumulator part becomes the active set
(R485). -/
def State.restoreCore (s : State) (k a : Nat) : State :=
  let h := (Tab.get Stand.fresh s.stands k).half
  let load := fun (m : Mem) (lo n off : Nat) =>
    Tab.overlay (0 : Byte) (Tab.clearRange m lo n) lo (s.stackSlice (a + off) n)
  { s with
    core := load s.core (coreBase k) 0x480000 0,
    acc := load (load s.acc (accBase k h) (2 ^ 20) 0x480000) (accBase k (1 - h)) (2 ^ 20) 0x580000,
    feeder := load s.feeder (k * 2 ^ 20) (2 ^ 20) 0x680000 }

/-- Core k's stores zeroed (R342, R451). -/
def State.zeroCore (s : State) (k : Nat) : State :=
  { s with
    core := Tab.clearRange s.core (coreBase k) (2 ^ 24),
    acc := Tab.clearRange s.acc (accBase k 0) (2 ^ 21),
    feeder := Tab.clearRange s.feeder (k * 2 ^ 20) (2 ^ 20) }

/-- Core k's stand at a firebreak: both weight registers zeroed, the shadow set released (R86,
R342). -/
def State.emptyStand (s : State) (k : Nat) : State :=
  let x := Tab.get Stand.fresh s.stands k
  { s with stands := Tab.put Stand.fresh s.stands k { Stand.fresh with half := x.half } }

/-- The firebreak: every core of the grant empties its stand and saves or zeroes its stores; those of
a confidential context are zeroed after the save too (R342, R370, R485). -/
def State.firebreak (s : State) (c : Nat) : State :=
  let a := s.objv (0x6000 + c) 9
  let cores := s.grantCores c
  let save := decide (a ≠ 0) && s.saveOk c a
  let t := if save then
      ((List.range cores.length).zip cores).foldl (fun t p => t.saveCore p.2 (a + imageBytes * p.1)) s
    else s
  let t := if save && !s.confidential c then t else cores.foldl (fun t k => t.zeroCore k) t
  let t := cores.foldl (fun t k => t.emptyStand k) t
  let t := t.bump (0x6000 + c) 12 1
  t.setCtx c { t.ctx c with
    saved := if save then some (s.saveMark c) else if a ≠ 0 then some 0 else none }

/-- The saved contents restored on re-entry, unless the grant or the area has changed since the save; after a
firebreak that zeroed in place of a save the stores start zeroed (R485). -/
def State.restore (s : State) (c : Nat) : State :=
  let a := s.objv (0x6000 + c) 9
  let t := s.setCtx c { s.ctx c with saved := none }
  if (s.ctx c).saved = some (s.saveMark c) then
    let cores := s.grantCores c
    ((List.range cores.length).zip cores).foldl (fun t p => t.restoreCore p.2 (a + imageBytes * p.1)) t
  else if (s.ctx c).saved = some 0 then (s.grantCores c).foldl State.zeroCore t
  else t

/-! ### The rows -/

/-- CONTEXT_RESIDENT: the longest waiter that may enter takes the lowest free slot, its saved stores
restored before its first release; the deadlines that came while it held none are over (R340, R343, R485). -/
def execContextResident (ctx : Nat) (s : State) : Host.Outcome State Fault Refusal :=
  match s.freeSlots with
  | [] => .next s
  | k :: _ =>
    if s.isWaiting ctx && s.mayEnter ctx && !((s.earlier ctx).any s.mayEnter) then
      let t := s.setCtx ctx { s.ctx ctx with
        slot := some k, since := s.now, wait := none, quantum := false, leaving := false,
        drained := false, yieldAt := (s.ctx ctx).yieldAt.filter (· ∉ s.yieldsDue (s.ctx ctx)) }
      .next (t.restore ctx)
    else .next s

/-- A resident context that runs has held its slot for its quantum; a QUANTUM_US of 0 never ends
(R340). -/
def State.quantumOver (s : State) (c : Nat) : Bool :=
  let q := s.objv (0x6000 + c) 8
  (s.ctx c).quantum && decide (q ≠ 0 ∧ (s.ctx c).since + 1000 * q ≤ s.now)

/-- A resident context may be evicted now: not runnable, or its quantum over (R340). -/
def State.evictable (s : State) (c : Nat) : Bool := !s.isRunnable c || s.quantumOver c

/-- The longest waiter that cannot become resident. -/
def State.stuckWaiter (s : State) : Option Nat :=
  (List.range 64).find? fun c => s.isWaiting c && !s.canEnter c &&
    (s.earlier c).all s.canEnter

/-- Context a goes before context b when one more slot must be freed: not runnable first, then the one
resident longest, ties to the lower ID (R340). -/
def State.evictedBefore (s : State) (a b : Nat) : Bool :=
  if s.isRunnable a = s.isRunnable b then
    decide ((s.ctx a).since < (s.ctx b).since) ||
      (decide ((s.ctx a).since = (s.ctx b).since) && decide (a < b))
  else !s.isRunnable a

/-- The contexts that the longest stuck waiter's needs evict now (R340). -/
def State.evictions (s : State) : List Nat :=
  match s.stuckWaiter with
  | none => []
  | some w =>
    let shares := s.residents.filter fun c => s.sharesGrant c w
    if shares ≠ [] ∨ s.freeSlots ≠ [] ∨ s.residents.any (fun c => (s.ctx c).leaving) then
      shares.filter s.evictable
    else
      let can := s.residents.filter s.evictable
      can.filter fun c => can.all fun d => decide (d = c) || s.evictedBefore c d

/-- CONTEXT_EVICT: a resident context begins to leave its slot for the longest waiter (R340). -/
def execContextEvict (ctx : Nat) (s : State) : Host.Outcome State Fault Refusal :=
  if ctx ∈ s.evictions then .next (s.beginLeave ctx) else .next s

/-- QUANTUM_EXPIRY: a resident context has held its slot for QUANTUM_US (R340). -/
def execQuantumExpiry (ctx : Nat) (s : State) : Host.Outcome State Fault Refusal :=
  let q := s.objv (0x6000 + ctx) 8
  if s.resident ctx && decide (q ≠ 0) && decide ((s.ctx ctx).since + 1000 * q ≤ s.now) then
    .next (s.setCtx ctx { s.ctx ctx with quantum := true })
  else .next s

/-- A unit of a context's grant is under test: a firebreak waits for the verdict (R427). -/
def State.grantTested (s : State) (c : Nat) : Bool :=
  (s.grantCores c).any (fun k =>
    s.underTest (.stand k) || s.underTest (.vector k) || s.underTest (.mover k) ||
      s.recorder.tests.any fun t => (UnitId.stand k).covers t.unit) ||
  (s.grantEngines c).any fun e => s.underTest (.embedding e)

/-- A released command of a context has not completed: it works on, or its record is held (R325, R326, R341). -/
def State.stillRuns (s : State) (c : Nat) : Bool :=
  s.cmds.any fun (x : Cmd) => decide (x.id.ctx = c ∧ 0 < x.rank)

/-- Both key slots of a context replaced by one fresh key in slot 0; a sweep of the old ones ends (R368,
R451). -/
def State.freshKeys (s : State) (c : Nat) : State :=
  { s with
    draws := s.draws + 1
    pool := { s.pool with
      keys := Tab.put KeySlots.zeroed s.pool.keys c ⟨0, some s.draws, none⟩
      sweeps := Tab.put Sweep.idle s.pool.sweeps c Sweep.idle } }

/-- A context stops being confidential: its keys are replaced and its own counters zeroed (R369,
R373). -/
def State.endConfidence (s : State) (c : Nat) : State :=
  let t := s.freshKeys c
  { t with
    tdis := Tab.put Tdi.absent t.tdis c { t.tdi c with wasRun := false, rekey := false }
    trust := { t.trust with ownCounters := Tab.clearRange t.trust.ownCounters (c * 2 ^ 24) (2 ^ 24) } }

/-- CONTEXT_LEAVE: once no released command of the context runs and no unit of its grant is under
test, it crosses the firebreak and its slot is free; it waits again if it is runnable, from the yield
where it yielded (R341, R343, R427). -/
def execContextLeave (ctx : Nat) (s : State) : Host.Outcome State Fault Refusal :=
  if s.resident ctx && (s.ctx ctx).leaving && !s.stillRuns ctx && !s.grantTested ctx then
    let x := s.ctx ctx
    let t := s.firebreak ctx
    let from_ := if s.yieldsDue x = [] then s.now else x.leaveAt
    let t := t.setCtx ctx { t.ctx ctx with
      slot := none, leaving := false, drained := false, quantum := false,
      yieldAt := x.yieldAt.filter (· ∉ s.yieldsDue x),
      wait := if s.isRunnable ctx then some from_ else none }
    let t := if s.confidential ctx then { t with trust := { t.trust with confLeft := some s.now } } else t
    .next (if (s.tdi ctx).rekey then t.endConfidence ctx else t)
  else .next s

/-- The released commands of a leaving context that have not completed are to stop at their next safe
points (R341). -/
def State.drainNow (s : State) (c : Nat) : State :=
  let l := (s.cmds.filter fun (x : Cmd) => decide (x.id.ctx = c ∧ 0 < x.rank)).map (·.id)
  (s.abortTargets l).setCtx c { s.ctx c with drained := true }

/-- A context leaves its slot with DRAIN_US taken as 0 (R369, R456, R459). -/
def State.leaveNow (s : State) (c : Nat) : State :=
  if s.resident c then (s.beginLeave c).drainNow c else s

/-- DRAIN_US_EXPIRY: the released commands of a leaving context that have not completed are to stop at
their next safe points (R341). -/
def execDrainUsExpiry (ctx : Nat) (s : State) : Host.Outcome State Fault Refusal :=
  if (s.ctx ctx).leaving && decide ((s.ctx ctx).leaveAt + 1000 * s.objv 0x6101 1 ≤ s.now) then
    .next (s.drainNow ctx)
  else .next s

/-- PREEMPTION_DEADLINE: a context that yields begins to leave once its deadline is reached, or where
the angle is not known to be the job's (R343). -/
def execPreemptionDeadline (ctx : Nat) (s : State) : Host.Outcome State Fault Refusal :=
  if (s.yieldsDue (s.ctx ctx)).any fun a => !s.pace.mode.running || s.mayAct (a, 10) then .next (s.beginLeave ctx)
  else .next s

end Sys2Proof.Machine
end

