-- ==== Sys2Proof/Machine/Copy.lean ====
section
/-! DEFINITION. The copy-range commands (chapter Host Coupling and Trust, R355 to R371). -/

namespace Sys2Proof.Machine

/-! ### The host end -/

/-- A region of the host peer window lies in one host link's part (R355, R362). -/
def State.inOneLink (s : State) (a n : Nat) : Bool :=
  inHost a n && decide (s.linkOf a = s.linkOf (a + n - 1))

/-- The checks of rows in device memory: the presented range or one host link, and for stack memory
the context's memory (R239, R362). -/
def State.devRows (s : State) (c a rows pitch n : Nat) : Checks :=
  let span := spanBytes rows pitch n
  if hostBase ≤ a then Checks.inv (!s.inOneLink a span)
  else ⟨!s.inStack a span, !((List.range rows).all fun i => s.ctxMem c (a + i * pitch) n), false, false⟩

/-! ### Bodies -/

/-- One end of a copy. -/
structure CopyEnd where
  core : Bool
  addr : Nat
  pitch : Nat
  deriving DecidableEq, Repr

/-- A COPY or FILL body: the agent, its target, the shared flag, rows, bytes a row, source where
there is one, and destination (R361). -/
structure CopyBody where
  agent : Nat
  target : Nat
  shared : Bool
  rows : Nat
  len : Nat
  src : Option CopyEnd
  dst : CopyEnd
  pattern : Nat
  deriving DecidableEq, Repr

/-- The body of COPY. -/
def copyBody (d : Desc) : CopyBody :=
  { agent := fld d 416 415, target := fld d 414 408, shared := flag d 419,
    rows := fld d 343 328 + 1, len := fld d 327 288,
    src := some ⟨flag d 417, fld d 239 192, fld d 375 344⟩,
    dst := ⟨flag d 418, fld d 287 240, fld d 407 376⟩, pattern := 0 }

/-- The body of FILL. -/
def fillBody (d : Desc) : CopyBody :=
  { agent := fld d 400 399, target := fld d 398 392, shared := flag d 402,
    rows := fld d 295 280 + 1, len := fld d 279 240, src := none,
    dst := ⟨flag d 401, fld d 239 192, fld d 327 296⟩, pattern := fld d 391 328 }

/-- Where an end lies: the target core's stores or device memory. -/
def CopyBody.place (b : CopyBody) (e : CopyEnd) : Place := if e.core then .core (coreOf b.target) else .dev

/-- The extent of an end. -/
def CopyBody.extent (b : CopyBody) (e : CopyEnd) : Extent :=
  ⟨b.place e, e.addr, b.rows, e.pitch, b.len⟩

/-- An end lies in the host peer window. -/
def CopyEnd.host (e : CopyEnd) : Bool := !e.core && decide (hostBase ≤ e.addr)

/-- An end that its agent cannot serve (R357). -/
def CopyBody.agentBad (b : CopyBody) (e : CopyEnd) : Bool :=
  (e.core && decide (b.agent ≠ 2)) || (e.host && decide (b.agent ≠ hostDie e.addr))

/-- The checks of one end (R357, R362). -/
def State.copyEndChecks (s : State) (c : Nat) (b : CopyBody) (e : CopyEnd) : Checks :=
  (Checks.inv (b.agentBad e)).and
    (if e.core then Checks.inv (!inCore e.addr (spanBytes b.rows e.pitch b.len))
     else s.devRows c e.addr b.rows e.pitch b.len)

/-- The ends of a copy. -/
def CopyBody.ends (b : CopyBody) : List CopyEnd := b.dst :: b.src.toList

/-- The checks of a COPY or FILL body (R357, R361, R362). -/
def State.copyChecks (s : State) (c : Nat) (b : CopyBody) : Checks :=
  Checks.all (
    ⟨decide (b.agent = 3 ∨ b.len = 0 ∨ (b.agent ≠ 2 ∧ b.target ≠ 0)) || !coreOk b.target ||
        (b.shared && !s.confidential c),
      decide (b.agent = 2) && !s.hasCore c (coreOf b.target), false, false⟩ ::
    b.ends.map (s.copyEndChecks c b))

/-- The units a copy runs on: the mover of its target, or the engine of its host die; the other
engine once that one is retired (R362). -/
def State.copyUnits (s : State) (b : CopyBody) : List UnitId :=
  if b.agent = 2 then [.mover (coreOf b.target)]
  else if s.retired (.copyEngine b.agent) then [.copyEngine (1 - b.agent)]
  else [.copyEngine b.agent]

/-- The host links a copy needs. -/
def State.copyLinks (s : State) (b : CopyBody) : List Nat :=
  (b.ends.filter CopyEnd.host).map fun e => s.linkOf e.addr

/-- The bytes of row i of a copy: the source row, or the pattern repeated (R361). -/
def State.copyRow (s : State) (b : CopyBody) (i : Nat) : List Byte :=
  match b.src with
  | some e => s.get (b.place e) (e.addr + i * e.pitch) b.len
  | none => (List.range b.len).map fun k => BitVec.ofNat 8 (b.pattern / 256 ^ (k % 8))

/-- The host requests of an end of a copy, row by row (R355, R361, R374). -/
def State.askEnd (s : State) (c : Nat) (b : CopyBody) (e : CopyEnd) (write : Bool) : State :=
  if e.host then
    (List.range b.rows).foldl (fun (t : State) i => t.hostAsk c (e.addr + i * e.pitch) b.len write b.shared) s
  else s

/-- The host requests of a copy: its reads, then its writes (R355, R361). -/
def State.askHost (s : State) (c : Nat) (b : CopyBody) : State :=
  ((b.src.toList).foldl (fun (t : State) e => t.askEnd c b e false) s).askEnd c b b.dst true

/-- The rows of a copy moved: every source row is read, then the rows are written in ascending order.
Where source and destination share bytes the result is not stated: those rows are free values (log
entry 24). -/
def State.moveRows (s : State) (c : Nat) (b : CopyBody) : State × Status :=
  let dst := b.extent b.dst
  let srcs := (b.src.map b.extent).toList
  let (t, st) := s.withPoison srcs [dst] fun s =>
    if srcs.any dst.meets then (s.scrambleAll [dst], .ok)
    else (s.setRows (b.place b.dst) b.dst.addr b.dst.pitch ((List.range b.rows).map (s.copyRow b)), .ok)
  (t.askHost c b, st)

/-- The host requests of a context fail on a link: it is down, or an IDE stream that carries them has failed, the
link's own or that of the function the context is bound to (R360, R366). -/
def State.requestsFail (s : State) (c l : Nat) : Bool :=
  let x := s.link l
  let b := s.boundTo c
  !x.up || decide (0 ∈ x.failed) || (decide (b.1 = l) && decide (2 + b.2 ∈ x.failed))

/-- The work of a COPY or FILL: where its host requests fail, one fails again when retried, and the copy
is DATA_SUSPECT (R14, R360). -/
def State.copyWork (s : State) (id : CmdId) (b : CopyBody) : State × Status :=
  match (s.copyLinks b).find? fun l => s.requestsFail id.ctx l with
  | some l =>
    let t := (s.tally id.ctx 0x7600 (13 + l) 2).tally id.ctx 0x7800 3 1
    ((t.updCmd id fun x => { x with retries := x.retries + 1 }).scrambleAll [b.extent b.dst], .dataSuspect)
  | none => s.moveRows id.ctx b

/-- A copy-range row: it waits while a link it needs may carry no request and none of its requests fails (R360,
R366). -/
def State.runCopy (s : State) (id : CmdId) (op : Nat) (body : Desc → CopyBody) : State :=
  s.runOn id
    (fun d => isOp op d && (s.copyLinks (body d)).all fun l => s.linkSecure l || s.requestsFail id.ctx l)
    (fun s c => s.copyUnits (body c.desc)) (fun s c => s.copyWork id (body c.desc))

/-! ### The rows -/

/-- COPY: ROWS rows of LENGTH bytes from SRC to DST (R361). -/
def execCopy (id : CmdId) (s : State) : Host.Outcome State Fault Refusal :=
  .next (s.runCopy id 0x20 copyBody)

/-- FILL: rows filled with the 8-byte pattern (R361). -/
def execFill (id : CmdId) (s : State) : Host.Outcome State Fault Refusal :=
  .next (s.runCopy id 0x21 fillBody)

/-- The pages of a BIAS_SET may be flushed from host caches: they are set to host bias, or no link of their slice is
kept from carrying requests (R363, R366). -/
def State.mayFlush (s : State) (d : Desc) : Bool :=
  !flag d 264 || (s.sliceOf (fld d 239 192) 4096).all fun k => !(s.link (2 * k)).up || s.linkSecure (2 * k)

/-- BIAS_SET: every named page takes the bias; pages set to device bias are flushed from host caches
first (R363, R366). -/
def execBiasSet (id : CmdId) (s : State) : Host.Outcome State Fault Refusal :=
  .next (s.run id (fun d => isOp 0x22 d && s.mayFlush d) fun s c =>
    let first := fld c.desc 239 192 / 4096
    let n := fld c.desc 263 240 + 1
    let b := flag c.desc 264
    ({ s with trust := { s.trust with
        bias := (List.range n).foldl (fun t k => Tab.put false t (first + k) b) s.trust.bias } }, .ok))

/-- A context's encrypted partitions as page ranges: the first page and the one past the last. -/
def State.encPages (s : State) (c : Nat) : List (Nat × Nat) :=
  ((List.range 16).filter fun p => s.partOn p && decide (s.objv (0x4100 + p) 4 = c)).map fun p =>
    let b := s.objv (0x4100 + p) 1
    (b * 262144, (b + s.objv (0x4100 + p) 2) * 262144)

/-- A rotation takes effect: the other slot is current, and the sweep of the retiring slot begins at
page 0 (R253, R371). -/
def State.rotated (s : State) (c : Nat) (obj : Option Nat) : State :=
  let k := s.keySlots c
  { s with pool := { s.pool with
      keys := Tab.put KeySlots.zeroed s.pool.keys c { k with current := 1 - k.current },
      sweeps := Tab.put Sweep.idle s.pool.sweeps c ⟨true, k.current, 0, obj⟩ } }

/-- A fresh key drawn into the slot that is not current (R371). -/
def State.loadKey (s : State) (c : Nat) : State :=
  let k := s.keySlots c
  let n := s.draws
  let x := if k.current = 0 then { k with key1 := some n } else { k with key0 := some n }
  { s with draws := n + 1, pool := { s.pool with keys := Tab.put KeySlots.zeroed s.pool.keys c x } }

/-- A context's sweep is still running. -/
def State.sweeping (s : State) (c : Nat) : Bool := (Tab.get Sweep.idle s.pool.sweeps c).active

/-- A rotation of a context is not over: its sweep still runs, or a KEY_ROTATE has loaded its key and its
record, which brings the rotation, is still to be written (R371). -/
def State.rotating (s : State) (c : Nat) : Bool :=
  s.sweeping c || s.cmds.any fun x =>
    decide (x.id.ctx = c) && isOp 0x23 x.desc && decide (x.phase = .finished .ok ∨ x.phase = .finished .retriedOk)

/-- KEY_ROTATE: a fresh key goes into the slot that is not current; the slots change when the record
is written. While the last rotation is not over, KEY_BUSY (R371). -/
def execKeyRotate (id : CmdId) (s : State) : Host.Outcome State Fault Refusal :=
  .next (s.run id (isOp 0x23) fun s _ =>
    if s.rotating id.ctx then (s, .keyBusy) else (s.loadKey id.ctx, .ok))

/-! ### Admission and outputs -/

/-- The checks of a copy-range command's body (R361, R362, R364, R371). -/
def State.copyRangeChecks (s : State) (c : Nat) (d : Desc) : Checks :=
  match opcode d with
  | 0x20 => (Checks.inv (!reservedZero d [(511, 420)])).and (s.copyChecks c (copyBody d))
  | 0x21 => (Checks.inv (!reservedZero d [(511, 403)])).and (s.copyChecks c (fillBody d))
  | 0x22 =>
    let a := fld d 239 192
    let n := (fld d 263 240 + 1) * 4096
    ⟨!reservedZero d [(511, 265)] || decide (a % 4096 ≠ 0) || !s.inStack a n ||
        (s.sliceOf a n).isNone,
      decide (s.objv 0x2302 5 ≠ c) || !s.ctxMem c a n, false, false⟩
  | 0x23 =>
    let o := fld d 207 192
    ⟨!reservedZero d [(511, 209)] || (!flag d 208 && decide (o ≠ 0)) || decide (s.encPages c = []),
      flag d 208 && decide (s.owner o ≠ c), s.rotating c, false⟩
  | _ => Checks.inv true

/-- What an aborted copy leaves undefined (R362). -/
def copyOutputs (d : Desc) : List Extent :=
  match opcode d with
  | 0x20 => [(copyBody d).extent (copyBody d).dst]
  | 0x21 => [(fillBody d).extent (fillBody d).dst]
  | _ => []

end Sys2Proof.Machine
end

