-- ==== Sys2Proof/Machine/HostLink.lean ====
section
/-! DEFINITION. Host links, functions, link encryption and the host's view of the window (chapter Host
Coupling and Trust, R349 to R366). -/

namespace Sys2Proof.Machine

/-- A host link replaced. -/
def State.setLink (s : State) (l : Nat) (x : HostLink) : State :=
  { s with links := Tab.put HostLink.down s.links l x }

/-- A function of a host link. -/
def State.func (s : State) (l f : Nat) : Func := Tab.get Func.fresh s.funcs (l * 16 + f)

/-- A function replaced. -/
def State.setFunc (s : State) (l f : Nat) (x : Func) : State :=
  { s with funcs := Tab.put Func.fresh s.funcs (l * 16 + f) x }

/-- A host link exists: links 1 and 3 only while their port is split (R349). -/
def State.linkExists (s : State) (l : Nat) : Bool := decide (l < 4) && (decide (l % 2 = 0) || s.splitChosen (l / 2))

/-- A host link carries requests: up, its host die in service, and secure where IDE is required (R366,
R431). -/
def State.linkServes (s : State) (l : Nat) : Bool :=
  (s.link l).up && !s.retired (.die (16 + l / 2)) && s.linkSecure l

/-- A function of a link: 0 to 8 (R353). -/
def funcOk (l f : Nat) : Bool := decide (l < 4 ∧ f ≤ 8)

/-- A host's access to a function's mailbox or MSI-X table is accepted: to that of an interface in RUN only where it
arrives on the function's selective stream with the T bit (R368). -/
def State.tdiTakes (s : State) (l f : Nat) (trusted : Bool) : Bool :=
  (trusted && decide (f ∈ (s.link l).selSecure)) ||
    !((List.range 64).any fun c => decide ((s.tdi c).state = .run) && decide (s.boundTo c = (l, f)))

/-- An interrupt of a function: its message is sent, or its pending bit set while its vector is masked (R352,
R359, log entry 124). -/
def State.interrupt (s : State) (l f v : Nat) : State :=
  let x := s.func l f
  if (Tab.get 0 x.msix (4 * v + 3)).testBit 0 then s.setFunc l f { x with waiting := Tab.put false x.waiting v true }
  else { s with out := s.out ++ [.msix l f v] }

/-- The sessions and authorizations of channels that fit are gone (R412, R414). -/
def State.closeSessions (s : State) (p : Channel → Bool) : State :=
  { s with server := { s.server with
      sessions := s.server.sessions.filter fun x => !p x.chan
      auths := s.server.auths.filter fun x => !p x.chan } }

/-- A channel is the mailbox of a function. -/
def isMailbox (l f : Nat) : Channel → Bool
  | .mbx a b _ => decide (a = l ∧ b = f)
  | .can _ _ => false

/-! ### TDISP interfaces to ERROR -/

/-- A context's TDISP interface set. -/
def State.setTdi (s : State) (c : Nat) (x : Tdi) : State := { s with tdis := Tab.put Tdi.absent s.tdis c x }

/-- A context's TDISP interface enters ERROR: recorded, the context leaves its slot, its keys are
replaced then, and it is no longer confidential (R369). -/
def State.tdiError (s : State) (c : Nat) : State :=
  let x := s.tdi c
  if x.state = .locked ∨ x.state = .run then
    let t := s.setTdi c { x with state := .error, wasRun := decide (x.state = .run), rekey := true }
    let t := t.recordEvent ⟨0x5004, .die (16 + x.link / 2), 16 + x.link / 2, 4, 0xFF, c, 0⟩
    let t := { t with trust := { t.trust with tsp := t.trust.tsp.filter (· ≠ c) } }
    if t.resident c then t.leaveNow c else t.endConfidence c
  else s

/-- The link a host access came by. -/
def HostAccess.link : HostAccess → Nat
  | .doorbell l _ _ _ _ _ => l
  | .window l _ _ _ _ => l

/-- Every TDISP interface that fits enters ERROR. -/
def State.tdisError (s : State) (p : Nat → Tdi → Bool) : State :=
  (List.range 64).foldl (fun (t : State) c => if p c (t.tdi c) then t.tdiError c else t) s

/-- A deadwood entry in the grant of a context whose interface is locked or running sends it to ERROR
(R369). -/
def State.grantHolds (s : State) (c : Nat) (u : UnitId) : Bool :=
  ((s.grantCores c).any fun k =>
    (u.covers (.stand k) || u.covers (.vector k) || u.covers (.mover k) || (UnitId.stand k).covers u)) ||
  (s.grantEngines c).any fun e => u.covers (.embedding e)

/-! ### Links going up and down -/

/-- The functions of a link reset: configuration, MSI-X and mailboxes (R456). -/
def State.resetFuncs (s : State) (l : Nat) : State :=
  (List.range 9).foldl (fun (t : State) f => t.setFunc l f Func.fresh) s

/-- A host link loses its connection: its functions reset, its IDE streams are insecure, the TDISP
interfaces on it go to ERROR, the sessions of its mailboxes close, and its waiting accesses are lost (R360, R412,
R456). -/
def State.dropLink (s : State) (l : Nat) : State :=
  if (s.link l).up then
    let t := { s with hostWait := s.hostWait.filter fun x => decide (x.link ≠ l) }
    let t := ((t.setLink l HostLink.down).resetFuncs l).closeSessions fun ch =>
      match ch with
      | .mbx a _ _ => decide (a = l)
      | .can _ _ => false
    let t := t.recordEvent ⟨0x5002, .die (16 + l / 2), 16 + l / 2, 4, 0xFF, 0xFF, 0⟩
    (t.tdisError fun _ x => decide (x.link = l)).startTests
  else s

/-- The lanes a host link is configured for (R349). -/
def State.linkWidth (s : State) (l : Nat) : Nat := if s.splitChosen (l / 2) then 8 else 16

/-- The lanes of a link that is to train are not those of the port's other link as it trained (R349). -/
def State.lanesFree (s : State) (l : Nat) : Bool :=
  if l % 2 = 1 then !(s.link (l - 1)).up || (s.link (l - 1)).split
  else s.splitChosen (l / 2) || !(s.link (l + 1)).up

/-- The rates a host link trains at, in GT/s; 2 stands for 2.5 (R350). -/
def linkRates : List Nat := [64, 32, 16, 8, 5, 2]

/-- Lane k of a host link. -/
def hostLane (l k : Nat) : UnitId := ⟨0x0D, 16 + l / 2, l % 2 * 8 + k, 0, 0⟩

/-- A width that a link may train at: one of R350, without a retired lane (R350, R426). -/
def State.widthFits (s : State) (l w : Nat) : Bool :=
  decide ((w = 1 ∨ w = 2 ∨ w = 4 ∨ w = 8 ∨ w = 16) ∧ w ≤ s.linkWidth l) &&
    (List.range w).all fun k => !s.retired (hostLane l k)

/-- A loopback of a lane of a link runs: its training goes on after the verdict (R426). -/
def State.looping (s : State) (l : Nat) : Bool :=
  s.recorder.tests.any fun t => t.running && decide (t.unit.kind = 0x0D ∧ t.unit.loc = 16 + l / 2 ∧ s.laneLink t.unit = l)

/-- HOST_LINK_TRAINED: a link is up at its rate and width, with the protocols of R350; one narrower than
configured is recorded. Narrower than its lanes allow it has a lane fault of the host die, whose loopback runs at the
next retraining (R350, R426, log entry 25). -/
def execHostLinkTrained (link rate width : Nat) (s : State) : Host.Outcome State Fault Refusal :=
  let full := s.linkWidth link
  let die := 16 + link / 2
  if s.linkExists link && s.pins.resetN && !s.retired (.die die) && !(s.link link).up && s.lanesFree link &&
      decide (rate ∈ linkRates) && s.widthFits link width && !s.looping link then
    let cxl := if link % 2 = 0 ∧ width = full ∧ 32 ≤ rate then 7 else 1
    let t := s.setLink link { HostLink.down with
      rate := rate
      width := width
      cxl := cxl
      up := true
      split := s.splitChosen (link / 2) }
    let lane := hostLane link width
    let t := if width < full then t.recordEvent ⟨0x5001, lane, die, 4, 0xFF, 0xFF, 0⟩ else t
    .next (if s.widthFits link (2 * width) then t.askTest ⟨lane, none, 0, false, 0x5001, false⟩ else t)
  else .next s

/-- HOST_LINK_DOWN: the link is down until it retrains (R360, R456). -/
def execHostLinkDown (link : Nat) (s : State) : Host.Outcome State Fault Refusal := .next (s.dropLink link)

/-- PERST: both links of a host die retrain (R456). -/
def execPerst (die : Nat) (s : State) : Host.Outcome State Fault Refusal :=
  if die < 2 then .next ((s.dropLink (2 * die)).dropLink (2 * die + 1)) else .next s

/-- HOT_RESET: one link retrains (R456). -/
def execHotReset (link : Nat) (s : State) : Host.Outcome State Fault Refusal := .next (s.dropLink link)

/-- The MSI-X table and the mailbox of a function reset (R456). -/
def Func.mailboxReset (x : Func) : Func :=
  { x with msix := [], waiting := [], header := 0, data := [], lastSeq := 0, asked := none, resp := [] }

/-- FLR_FUNCTION_0: its configuration, MSI-X and mailbox reset, and the sessions of its mailbox close
(R456). -/
def execFlrFunction0 (link : Nat) (s : State) : Host.Outcome State Fault Refusal :=
  if link < 4 then
    let x := (s.func link 0).mailboxReset
    .next ((s.setFunc link 0 { x with config := [], errors := 0 }).closeSessions (isMailbox link 0))
  else .next s

/-- FLR_CONTEXT_FUNCTION: the contexts bound to it leave their slots, its TDISP interfaces go to ERROR, its
MSI-X and mailbox reset (R456). -/
def execFlrContextFunction (link fn : Nat) (s : State) : Host.Outcome State Fault Refusal :=
  if link < 4 ∧ 1 ≤ fn ∧ fn ≤ 8 then
    let t := s.setFunc link fn (s.func link fn).mailboxReset
    let t := t.tdisError fun _ x => decide (x.link = link ∧ x.fn = fn)
    .next ((List.range 64).foldl (fun (t : State) c =>
      if t.boundTo c = (link, fn) then t.leaveNow c else t) t)
  else .next s

/-- A failed host request leaves its error in the advanced error reporting of the function whose requester ID it
bears: of a completion timeout, an Unsupported Request, a Completer Abort and poisoned data, one by a free value (R352,
R355, R360, log entry 124). -/
def State.noteFailure (s : State) (c l : Nat) : State :=
  let f := (s.boundTo c).2
  let x := s.func l f
  let bit := [14, 20, 15, 12].getD (s.freeVal 0 % 4) 14
  (s.setFunc l f { x with errors := x.errors ||| 2 ^ bit }).usedFree 1

/-- HOST_REQUEST_FAILURE: a failed request of a copy is retried once; failing again, the copy completes
with DATA_SUSPECT and the bytes it has written are undefined (R352, R360, R373). -/
def execHostRequestFailure (id : CmdId) (again : Bool) (s : State) : Host.Outcome State Fault Refusal :=
  match s.runnable id fun d => isOp 0x20 d || isOp 0x21 d with
  | none => .next s
  | some c =>
    let b := if opcode c.desc = 0x20 then copyBody c.desc else fillBody c.desc
    let links := (b.ends.filter CopyEnd.host).map fun e => s.linkOf e.addr
    match links with
    | [] => .next s
    | l :: _ =>
      let t := (s.tally id.ctx 0x7600 (13 + l) 1).noteFailure id.ctx l
      if again then
        if c.retries = 0 then .next s
        else .next ((t.scrambleAll [b.extent b.dst]).finish id .dataSuspect)
      else .next ((t.updCmd id fun x => { x with retries := x.retries + 1 }).tally id.ctx 0x7800 3 1)

/-! ### The window -/

/-- An access of a host to a window slice may be served: CXL.mem on its link, and the region in the slice of its host
die (R350, R363, R366). -/
def State.windowOpen (s : State) (link addr n : Nat) : Bool :=
  s.linkServes link && decide (link % 2 = 0 ∧ (s.link link).cxl = 7 ∧ 0 < n) &&
    decide (s.sliceOf addr n = some (link / 2))

/-- The pages of a region in device bias flip to host bias, counted (R363, R374). -/
def State.flipPages (s : State) (c link addr n : Nat) : State :=
  let pages := (List.range ((addr + n - 1) / 4096 + 1 - addr / 4096)).map (· + addr / 4096)
  let flips := pages.filter fun p => Tab.get false s.trust.bias p
  let t := { s with trust := { s.trust with
      bias := flips.foldl (fun b p => Tab.put false b p false) s.trust.bias } }
  t.tally c 0x7600 (9 + link) flips.length

/-- A host access to a window slice: it waits while its host die is reloaded or its memory does not serve it;
device-bias pages flip to host bias first; a poisoned sector, or the slice of a confidential context over anything but
its secure stream, gives poison. The regulators do not hold it up (R243, R363, R364, R366, R368, R422, R483). -/
def State.windowAccess (s : State) (link addr : Nat) (write : Option (List Byte)) (len : Nat) (trusted : Bool) : State :=
  let c := s.objv 0x2302 5
  let n := (write.map (·.length)).getD len
  if !s.windowOpen link addr n then s
  else if s.reloadingDie (16 + link / 2) || s.grainWaits addr n then
    { s with hostWait := s.hostWait ++ [.window link addr write len trusted] }
  else if s.confidential c && !(trusted && (s.link link).cacheSecure) then
    { s with out := s.out ++ [.hostData link true []] }
  else
    let t := s.flipPages c link addr n
    match write with
    | some l => t.devWrite addr l
    | none =>
      let bad := t.devReadBad addr n
      { t with out := t.out ++ [.hostData link bad (if bad then [] else t.devRead addr n)] }

/-- HOST_CXL_MEM_ACCESS (R363, R364, R368). -/
def execHostCxlMemAccess (link addr : Nat) (write : Option (List Byte)) (len : Nat) (trusted : Bool)
    (s : State) : Host.Outcome State Fault Refusal := .next (s.windowAccess link addr write len trusted)

/-! ### Doorbells -/

/-- The life-cycle state accepts commands (R457). -/
def State.takesWork (s : State) : Bool := s.pins.ready && decide (s.server.life = 1 ∨ s.server.life = 2 ∨ s.server.life = 3)

/-- A write to a doorbell page is accepted: on the function the context is bound to, for a confidential
context over its stream (R354, R368, R449, R457). -/
def State.doorbellOk (s : State) (link fn ctx : Nat) (secure : Bool) : Bool :=
  s.takesWork && decide (ctx < 64 ∧ s.boundTo ctx = (link, fn)) && (!s.confidential ctx || secure)

/-- A doorbell: a producer index rings a queue; one lower than the index held is ignored, one on another
function is discarded and counted; while the link's host die is reloaded it waits (R317, R354, R422). -/
def State.doorbell (s : State) (link fn ctx queue value : Nat) (secure : Bool) : State :=
  let x := s.queue ctx queue
  if !s.linkServes link || decide (16 ≤ queue) then s
  else if s.reloadingDie (16 + link / 2) then
    { s with hostWait := s.hostWait ++ [.doorbell link fn ctx queue value secure] }
  else if !s.doorbellOk link fn ctx secure then s.bump 0x7600 (17 + link) 1
  else if x.enabled && decide (x.dbKind = 0) && reached32 (value % 2 ^ 32) x.producer then
    s.setQueue ctx queue { x with producer := value % 2 ^ 32 }
  else s

/-- The host accesses that wait tried again in their order (R422, R483). -/
def State.serveHost (s : State) : State :=
  s.hostWait.foldl (fun (t : State) x =>
    match x with
    | .doorbell l f c q v secure => t.doorbell l f c q v secure
    | .window l a w n trusted => t.windowAccess l a w n trusted) { s with hostWait := [] }

/-! ### Registers of functions -/

/-- The dword of BAR0 at which the MSI-X table of a function begins; its pending bits follow the 2,048 vectors (R352,
R353, log entry 124). -/
def msixBase (f : Nat) : Nat := if f = 0 then 0x80000 else 0x20000

/-- A dword of a mailbox: the request as it was last written, and the response (R403, log entry 124). -/
def Func.mailWord (x : Func) (k : Nat) : Nat :=
  if k < 8 then bits x.header (32 * k + 31) (32 * k)
  else if k < 0x2000 then ofBytes ((x.data.drop (4 * k - 32)).take 4)
  else ofBytes ((x.resp.drop (4 * k - 0x8000)).take 4)

/-- A dword of the pending bits of a function. -/
def Func.pendingWord (x : Func) (k : Nat) : Nat :=
  ((List.range 32).map fun i => if Tab.get false x.waiting (32 * k + i) then 2 ^ i else 0).sum

/-- What a dword of a function's BAR0 reads (R353, log entry 124). -/
def State.barRead (s : State) (l f k : Nat) : Nat :=
  let x := s.func l f
  let m := k - msixBase f
  if msixBase f ≤ k ∧ m < 0x2000 then Tab.get 0 x.msix m
  else if msixBase f ≤ k ∧ m < 0x3000 then x.pendingWord (m - 0x2000)
  else if 0x10000 ≤ k ∧ k < 0x14000 then x.mailWord (k - 0x10000)
  else if 0x20000 ≤ k ∧ k < 0x23000 then 0
  else Config.configSpace l f (k + 1024) (Tab.get none x.config (k + 1024)) x.errors

/-- A dword written to a function's BAR0: a vector that is unmasked while its pending bit is set sends its message;
the doorbells and the mailbox have rows of their own (R352, R353, log entry 124). -/
def State.barWrite (s : State) (l f k v : Nat) : State :=
  let x := s.func l f
  let m := k - msixBase f
  if msixBase f ≤ k ∧ m < 0x2000 then
    let t := s.setFunc l f { x with msix := Tab.put 0 x.msix m (v % 2 ^ 32) }
    if m % 4 = 3 ∧ v % 2 = 0 ∧ Tab.get false x.waiting (m / 4) = true then
      (t.setFunc l f { t.func l f with waiting := Tab.put false x.waiting (m / 4) false }).interrupt l f (m / 4)
    else t
  else if f = 0 ∧ 0x40000 ≤ k ∧ k < 0x44000 then
    s.setFunc l f { x with config := Tab.put none x.config (k + 1024) (some v) }
  else s

/-- A dword of BAR0 that only an interface's own stream reaches while it runs: mailbox and MSI-X (R368). -/
def guardedWord (f k : Nat) : Bool :=
  (decide (msixBase f ≤ k) && decide (k < msixBase f + 0x3000)) || (decide (0x10000 ≤ k) && decide (k < 0x14000))

/-- A configuration register written: it holds the value, and the errors it clears are gone (R352, log entries 42 and
124). -/
def State.configWrite (s : State) (l f reg v : Nat) : State :=
  let x := s.func l f
  s.setFunc l f { x with
    config := Tab.put none x.config reg (some v)
    errors := x.errors - (x.errors &&& Config.configClears l f reg v) }

/-- An answer to a request for a register. -/
def State.sendCfg (s : State) (l f : Nat) (retry : Bool) (v : Nat) : State :=
  { s with out := s.out ++ [.cfg l f retry v] }

/-- HOST_CONFIGURATION_REQUEST: a register of a function's configuration space, below 1,024, answered with retry
status until READY and reading as its standard has it for the value last written; above, a dword of its BAR0 (R352,
R353, R366, R368, R449, log entries 42 and 124). -/
def execHostConfigurationRequest (link fn reg : Nat) (word : HostWord) (s : State) :
    Host.Outcome State Fault Refusal :=
  let k := reg - 1024
  if !(s.link link).up || !funcOk link fn || !s.linkSecure link then .next s
  else if reg < 1024 then
    if !s.pins.ready then .next (s.sendCfg link fn true 0)
    else
      match word.write with
      | some v => .next ((s.configWrite link fn reg v).sendCfg link fn false 0)
      | none =>
        let x := s.func link fn
        .next (s.sendCfg link fn false (Config.configSpace link fn reg (Tab.get none x.config reg) x.errors))
  else if guardedWord fn k && !s.tdiTakes link fn word.trusted then .next s
  else
    match word.write with
    | some v => .next (s.barWrite link fn k v)
    | none => .next (s.sendCfg link fn false (s.barRead link fn k))

/-! ### Link encryption -/

/-- A function's SPDM connection holds a secured session: state 5 of those that the SPDM rows go through
(R367, log entry 58). -/
def State.secured (s : State) (l f : Nat) : Bool := decide ((s.func l f).spdm = 5)

/-- A stream exists on a link: 0 the link stream, 1 CXL.cache/CXL.mem on links 0 and 2, 2 + f the selective
stream of function f (R365). -/
def streamOk (l stream : Nat) : Bool :=
  decide (l < 4 ∧ stream < 11) && (decide (stream ≠ 1) || decide (l % 2 = 0))

/-- IDE_KM may act on a stream from a function: function 0, or the function that owns the selective
stream, inside its secured session (R365). -/
def State.mayKey (s : State) (l f stream : Nat) : Bool :=
  (s.link l).up && streamOk l stream && s.secured l f && (decide (f = 0) || decide (stream = 2 + f))

/-- IDE_KM: the keys of a key set of a stream are loaded (R365). -/
def execIdeKm (link fn stream set : Nat) (s : State) : Host.Outcome State Fault Refusal :=
  if s.mayKey link fn stream && decide (set < 2) then
    let x := s.link link
    .next (s.setLink link { x with loaded := addOnce x.loaded (stream, set) })
  else .next s

/-- A stream secure or insecure. -/
def HostLink.setSecure (x : HostLink) (stream : Nat) (b : Bool) : HostLink :=
  match stream with
  | 0 => { x with secure := b }
  | 1 => { x with cacheSecure := b }
  | k =>
    let rest := x.selSecure.filter (· ≠ k - 2)
    { x with selSecure := if b then rest ++ [k - 2] else rest }

/-- K_SET_GO: the stream changes to a key set that has been loaded, and is secure (R365). -/
def execKSetGo (link fn stream set : Nat) (s : State) : Host.Outcome State Fault Refusal :=
  let x := s.link link
  if s.mayKey link fn stream && decide ((stream, set) ∈ x.loaded) then
    .next (s.setLink link { x.setSecure stream true with
      keySet := Tab.put 0 x.keySet stream set
      failed := x.failed.filter (· ≠ stream) })
  else .next s

/-- The host links that carry a slice of a context's window (R363, R364). -/
def State.windowLinks (s : State) (c : Nat) : List Nat :=
  if s.objv 0x2302 5 = c then ((List.range 2).filter fun k => decide ((s.slice k).2 ≠ 0)).map (2 * ·) else []

/-- IDE_INTEGRITY_FAILURE: the stream is insecure, the event recorded and counted, and every TDISP interface
that uses the stream enters ERROR; host requests on it fail until it is secure again (R366, R369). -/
def execIdeIntegrityFailure (link stream : Nat) (s : State) : Host.Outcome State Fault Refusal :=
  if (s.link link).up && streamOk link stream then
    let x := s.link link
    let y := { x.setSecure stream false with
      loaded := x.loaded.filter fun p => p.1 ≠ stream
      failed := addOnce x.failed stream }
    let t := (s.setLink link y).bump 0x7600 (21 + link) 1
    let t := t.recordEvent ⟨0x5003, .die (16 + link / 2), 16 + link / 2, 4, 0xFF, 0xFF, 0⟩
    .next (t.tdisError fun c d => decide (d.link = link ∧ stream = 2 + d.fn) ||
      (decide (stream = 1) && decide (link ∈ t.windowLinks c)))
  else .next s

/-- CXL_TSP_LOCK: the HDM decoder and the slice configuration of a locked context's window (R368). -/
def execCxlTspLock (link ctx : Nat) (s : State) : Host.Outcome State Fault Refusal :=
  if link % 2 = 0 && s.linkServes link && (s.link link).cacheSecure && decide (s.objv 0x2302 5 = ctx) &&
      decide ((s.tdi ctx).state = .locked) then
    .next { s with trust := { s.trust with tsp := addOnce s.trust.tsp ctx } }
  else .next s

end Sys2Proof.Machine
end

