-- ==== Sys2Proof/Machine/Real.lean ====
section
/-! DEFINITION. The real functions that the spec bounds by an accuracy, in fixed point far beyond it, and the
results an accuracy allows (R124, R202). -/

namespace Sys2Proof.Machine

/-! ### Fixed point -/

/-- The bits below the point. -/
def prec : Nat := 512

/-- 1. -/
def fixOne : Int := 2 ^ prec

/-- The natural logarithm of 2. -/
def fixLn2 : Int :=
  0xB17217F7D1CF79ABC9E3B39803F2F6AF40F343267298B62D8A0D175B8BAAFA2BE7B876206DEBAC98559552FB4AFA1B10ED2EAE35C138214427573B291169B825

/-- π. -/
def fixPi : Int :=
  0x3243F6A8885A308D313198A2E03707344A4093822299F31D0082EFA98EC4E6C89452821E638D01377BE5466CF34E90C6CC0AC29B7C97C50DD3F84D5B5B5470918

/-- The reciprocal of the square root of 2π. -/
def fixGauss : Int :=
  0x662114CF50D942343F2CF1402EAE38BFD3829F30512706D8C0471B4802639D2E9DF8AC55447D3DB723F5D3ABB374E88DEB14277970BE1513278E993445F08D00

/-- A finite value in fixed point, those of a magnitude above 2000 taken as 2000. -/
def fixOf : FVal → Int
  | .fin s m e =>
    let x : Int := if (m.log2 : Int) + e ≥ 11 then 2000 * fixOne
      else if 0 ≤ e + prec then (m <<< (e + prec).toNat : Nat) else (m >>> (-(e + prec)).toNat : Nat)
    let x := min x (2000 * fixOne)
    if s then -x else x
  | .inf s => if s then -2000 * fixOne else 2000 * fixOne
  | .nan => 0

/-- A product. -/
def fixMul (a b : Int) : Int := a * b / fixOne

/-- A number in fixed point as a value, times 2^k. -/
def ofFix (x k : Int) : FVal := .fin (decide (x < 0)) x.natAbs (k - prec)

/-- The sum of n terms of a series, each made from the one before and its place. -/
def series (next : Nat → Int → Int) (n : Nat) (first : Int) : Int :=
  ((List.range n).foldl (fun (a : Int × Int) i => (a.1 + a.2, next i a.2)) (0, first)).1

/-- e^x: its mantissa in fixed point, and its exponent. -/
def expParts (x : Int) : Int × Int :=
  let k := (2 * x + fixLn2) / (2 * fixLn2)
  let r := x - k * fixLn2
  (series (fun i t => fixMul t r / ((i : Int) + 1)) 96 fixOne, k)

/-- e^x. -/
def expReal (x : Int) : FVal := ofFix (expParts x).1 (expParts x).2

/-- The natural logarithm of m × 2^e. -/
def lnFix (m : Nat) (e : Int) : Int :=
  let y : Int := ((m <<< prec) >>> m.log2 : Nat)
  let z := (y - fixOne) * fixOne / (y + fixOne)
  let sq := fixMul z z
  let odd := ((List.range 175).foldl
    (fun (a : Int × Int) (i : Nat) => (a.1 + a.2 / (2 * (i : Int) + 1), fixMul a.2 sq)) (0, z)).1
  2 * odd + ((m.log2 : Int) + e) * fixLn2

/-- The natural logarithm of a value above 0. -/
def lnOf : FVal → Int
  | .fin _ m e => lnFix m e
  | _ => 0

/-- cos x, for x from 0 to π. -/
def cosFix (x : Int) : Int :=
  let sq := fixMul x x
  series (fun i t => -(fixMul t sq) / ((2 * (i : Int) + 1) * (2 * i + 2))) 80 fixOne

/-- The standard normal distribution function below and above its middle: its distance from 1/2, for a
magnitude of at most 16. -/
def gaussHalf (x : Int) : Int :=
  let sq := fixMul x x
  let s := series (fun i t => fixMul t sq / (2 * (i : Int) + 3)) 720 x
  let e := expParts (-sq / 2)
  let d := fixMul e.1 fixGauss * s / fixOne
  if 0 ≤ e.2 then d * 2 ^ e.2.toNat else d / 2 ^ (-e.2).toNat

/-- A result of fixed point that lies within 2^-400 of itself of a number of 64 bits is that number: it is exact, as
powers of two and whole powers are. -/
def FVal.snap : FVal → FVal
  | .fin s m e =>
    let unit := 2 ^ (m.log2 - 63)
    let low := m % unit
    if low ≤ m / 2 ^ 400 then .fin s (m - low) e
    else if unit - low ≤ m / 2 ^ 400 then .fin s (m - low + unit) e
    else .fin s m e
  | v => v

/-! ### The functions of R124 and R202 -/

/-- Just below 1, where a function comes closer to 1 than any step of its results: what it gives for a larger
argument lies between the same results. -/
def almostOne : FVal := .fin false (2 ^ 200 - 1) (-200)

/-- tanh of a value that is not 0: near 0 below the value by a third of its cube. -/
def tanhReal (v : FVal) : FVal :=
  match v with
  | .fin s m e =>
    if (m.log2 : Int) + e < -40 then
      let c : Nat := m ^ 3 * 2 ^ 800 / 3
      .fin s (m * 2 ^ 800 - c >>> (-(2 * e)).toNat) (e - 800)
    else if 64 * fixOne ≤ fixOf v.abs then .fin s (2 ^ 200 - 1) (-200)
    else
      let p := expParts (2 * fixOf v.abs)
      let y := p.1 * 2 ^ p.2.toNat
      ofFix ((if s then -1 else 1) * ((y - fixOne) * fixOne / (y + fixOne))) 0
  | v => v

/-- 1 / (1 + e^−x). -/
def sigmoidReal (v : FVal) : FVal :=
  if v.sign then (expReal (fixOf v)).div ((FVal.ofNat 1).add (expReal (fixOf v)))
  else if 150 * fixOne ≤ fixOf v then almostOne
  else (FVal.ofNat 1).div ((FVal.ofNat 1).add (expReal (-(fixOf v))))

/-- The standard normal distribution function. -/
def normalReal (v : FVal) : FVal :=
  let x := fixOf v
  if 16 * fixOne ≤ x then almostOne
  else if x ≤ -16 * fixOne then .fin false 1 (-600)
  else ofFix (fixOne / 2 + (if x < 0 then -(gaussHalf (-x)) else gaussHalf x)) 0

/-- 1 / √v of a value above 0: the last bit stands for what is left over. -/
def rsqrtReal : FVal → FVal
  | .fin _ m e =>
    let m := if e % 2 = 0 then m else 2 * m
    let x := 2 ^ 400 / m
    let r := isqrt 201 x 0
    .fin false (2 * r + if r * r * m = 2 ^ 400 then 0 else 1) (-201 - e / 2)
  | v => v

/-- The exact function of a code of R123, closer than any boundary that its accuracy draws, on a value that is not
special. -/
def realFn (f : Nat) (v : FVal) : FVal :=
  match f with
  | 0x0B => rsqrtReal v
  | 0x0C => (FVal.ofNat 1).div v
  | 0x0D => expReal (fixOf v)
  | 0x0E => expReal (fixMul (fixOf v) fixLn2)
  | 0x0F => ofFix (lnOf v) 0
  | 0x10 => ofFix (lnOf v * fixOne / fixLn2) 0
  | 0x11 => tanhReal v
  | 0x12 => sigmoidReal v
  | 0x13 => v.mul (normalReal v)
  | _ => v.mul (sigmoidReal v)

/-- The accuracy of a function in units in the last place (R124). -/
def ulpsOf (f : Nat) : Nat := if f ≤ 0x0C then 1 else if f ≤ 0x10 then 2 else 4

/-- cos(π × x), for x from 0 to 1. -/
def cosPiReal (x : FVal) : FVal :=
  if x.eq (.fin false 1 (-1)) then .zero else ofFix (cosFix (fixMul (fixOf x) fixPi)) 0

/-- A number in fixed point times a finite value. -/
def fixTimes (x : Int) : FVal → Int
  | .fin s m e =>
    let y := x * signedMant s m
    if 0 ≤ e then y * 2 ^ e.toNat else y / 2 ^ (-e).toNat
  | _ => 0

/-- A power of a finite value other than 0: the magnitude's power, negative where an odd whole power of a negative
value is. Powers beyond every binary64 value either way stand for those further out. -/
def powReal (a b : FVal) (odd : Bool) : FVal :=
  match expReal (max (-4000 * fixOne) (min (4000 * fixOne) (fixTimes (lnOf a) b))) with
  | .fin _ m e => .fin (a.sign && odd) m e
  | v => v

/-! ### The results an accuracy allows -/

/-- The magnitude code of an infinity. -/
def Fmt.infCode (f : Fmt) : Nat := (2 ^ f.eb - 1) * 2 ^ f.mb

/-- The greatest code whose magnitude is at most m × 2^e, or the least whose magnitude is at least it; none
above infinity. -/
def Fmt.edgeCode (f : Fmt) (up : Bool) (m : Nat) (e : Int) : Nat :=
  if m = 0 then 0
  else
    let q := max f.emin ((m.log2 : Int) + e - f.mb)
    let k := if q ≤ e then m <<< (e - q).toNat else m >>> (q - e).toNat
    let left := decide (e < q) && decide (m % 2 ^ (q - e).toNat ≠ 0)
    min f.infCode ((q - f.emin).toNat * 2 ^ f.mb + k + b2n (up && left))

/-- The codes of a format in the order of their values: the least at or above x × 2^e, or the greatest at or
below it. -/
def Fmt.edge (f : Fmt) (up : Bool) (x e : Int) : Int :=
  if 0 ≤ x then (f.edgeCode up x.natAbs e : Nat) else -(f.edgeCode (!up) x.natAbs e : Nat)

/-- The place of a code in the order of values. -/
def Fmt.place (f : Fmt) (c : Nat) : Int :=
  if c.testBit (f.eb + f.mb) then -((c % 2 ^ (f.eb + f.mb) : Nat) : Int) else (c % 2 ^ (f.eb + f.mb) : Nat)

/-- The codes within n units in the last place of a value that is not special: the least and the greatest (R124,
log entry 20). -/
def Fmt.spanOf (f : Fmt) (n : Nat) : FVal → Int × Int
  | .fin s m e =>
    let q := max f.emin ((m.log2 : Int) + e - f.mb)
    let g := min e q
    let x := scaleTo s m e g
    let w : Int := if m = 0 then 0 else n * 2 ^ (q - g).toNat
    (f.edge true (x - w) g, f.edge false (x + w) g)
  | v => let k := f.place (f.encode v); (k, k)

/-- The codes within n units in the last place of a value as the functions here give it. -/
def Fmt.span (f : Fmt) (n : Nat) (v : FVal) : Int × Int := f.spanOf n v.snap

/-- A code taken where it lies within n units in the last place of a value, else the least that does. -/
def Fmt.within (f : Fmt) (n : Nat) (v : FVal) (c : Nat) : Nat :=
  let r := f.span n v
  if r.1 ≤ f.place c ∧ f.place c ≤ r.2 then c
  else if r.1 < 0 then 2 ^ (f.eb + f.mb) + r.1.natAbs else r.1.natAbs

end Sys2Proof.Machine
end

