-- ==== Sys2Proof/Machine/Taproot.lean ====
section
/-! DEFINITION. The taproot engines (chapter Taproot Engines and Parameter State, R185 to R227): regions,
updates, schedules, verification and snapshots. -/

namespace Sys2Proof.Machine

/-! ### Region records and headers -/

/-- A region record (R186). -/
structure Tap where
  tableId : Nat
  nesterov : Bool
  sr : Bool
  biasCorr : Bool
  decoupled : Bool
  isTable : Bool
  sched : Nat
  workFmt : Nat
  mode : Nat
  layer : Nat
  hdr : Nat
  lrMult : Nat
  lambda : Nat
  eps : Nat
  beta2 : Nat
  beta1 : Nat
  tag : Nat
  params : Nat
  work : Nat
  base : Nat
  deriving DecidableEq, Repr

/-- The record read from its 64 bytes (R186). -/
def tapOf (x : Nat) : Tap :=
  { tableId := bits x 409 400, nesterov := x.testBit 399, sr := x.testBit 398,
    biasCorr := x.testBit 397, decoupled := x.testBit 396, isTable := x.testBit 395,
    sched := bits x 394 392, workFmt := bits x 391 388, mode := bits x 387 384,
    layer := bits x 383 376, hdr := bits x 375 328, lrMult := bits x 327 296,
    lambda := bits x 295 264, eps := bits x 263 232, beta2 := bits x 231 200,
    beta1 := bits x 199 168, tag := bits x 167 136, params := bits x 135 96, work := bits x 95 48,
    base := bits x 47 0 }

/-- Field hi:lo of a number replaced. -/
def setBits (x hi lo v : Nat) : Nat :=
  x - bits x hi lo * 2 ^ lo + v % 2 ^ (hi + 1 - lo) * 2 ^ lo

/-- The region header at an address, as a number (R191). -/
def State.tapHeader (s : State) (a : Nat) : Nat := s.devNum a 64

/-- The region header written whole. -/
def State.setHeader (s : State) (a x : Nat) : State := s.devWrite a (toBytes 64 x)

/-- The header's flags and fields (R191). -/
def hdrEpoch (x : Nat) : Nat := bits x 31 0
def hdrPending (x : Nat) : Bool := x.testBit 256
def hdrPhase1 (x : Nat) : Bool := x.testBit 257
def hdrLost (x : Nat) : Bool := x.testBit 258
def hdrSnap (x : Nat) : Bool := x.testBit 259
def hdrParity (x : Nat) : Bool := x.testBit 260
def hdrPrint (x : Nat) : Nat := bits x 191 128

/-- Parameters of a grain, by mode (R188). -/
def perGrain (mode : Nat) : Nat :=
  match mode with
  | 0x1 => 48
  | 0x2 => 62
  | 0x3 => 31
  | _ => 21

/-- The byte of the master field in a grain, by mode (R188). -/
def masterAt (mode : Nat) : Nat :=
  match mode with
  | 0x1 => 60
  | 0x2 => 4
  | 0x3 => 124
  | _ => 168

/-- Whether FP32 encodings lie in [0, 1). -/
def inUnit (c : Nat) : Bool := !(f32 c).isNan && !((f32 c).lt .zero) && (f32 c).lt (.ofNat 1)

/-- A field of a region record breaks R186, R188, R195 or R197. -/
def tapBad (x : Nat) : Bool :=
  let r := tapOf x
  let e := f32 r.eps
  decide (bits x 511 410 ≠ 0 ∨ 4 < r.mode) || !inUnit r.beta1 || !inUnit r.beta2 ||
    (if r.mode = 3 then !e.isZero else e.special || e.le .zero) ||
    ((decide (r.mode = 2) || decide (r.mode = 3)) && !(f32 r.beta2).isZero) ||
    (decide (r.mode = 2) && (!(f32 r.beta1).isZero || !r.isTable || r.decoupled)) ||
    (r.nesterov && decide (r.mode ≠ 3)) || (r.biasCorr && decide (r.mode = 2 ∨ r.mode = 3)) ||
    (decide (r.mode = 4) && (r.isTable || decide (2 ^ 23 < r.params))) ||
    (if r.isTable then decide (r.params ≠ 0 ∨ r.workFmt ≠ 0)
     else decide (r.params = 0 ∨ r.tableId ≠ 0 ∨ 4 < r.workFmt))

/-! ### Geometry -/

/-- A region with the record of its table and where its working copy lies. -/
structure Geo where
  r : Tap
  t : TableDesc
  base : Nat
  pitch : Nat
  deriving DecidableEq, Repr

/-- The geometry of a region whose working copy lies in a version of its table (R186, R215). -/
def State.geo (s : State) (r : Tap) (v : Option TableDesc) : Geo :=
  let t := if r.isTable then tableDesc (s.devNum r.work 64) else tableDesc 0
  match v with
  | some v => ⟨r, t, v.base, v.pitch⟩
  | none => ⟨r, t, if r.isTable then t.base else r.work, t.pitch⟩

/-- Elements of a row; 1 for a dense region. -/
def Geo.e (g : Geo) : Nat := if g.r.isTable then g.t.elems else 1

/-- The working-copy format (R186). -/
def Geo.fmt (g : Geo) : FC := if g.r.isTable then g.t.fmt else (FC.ofCode g.r.workFmt).getD .fp32

/-- Bytes of a working-copy element. -/
def Geo.size (g : Geo) : Nat := g.fmt.bits / 8

/-- Parameters of the region (R186). -/
def Geo.n (g : Geo) : Nat := if g.r.isTable then g.t.localRows * g.t.elems else g.r.params

/-- Parameters a grain. -/
def Geo.p (g : Geo) : Nat := perGrain g.r.mode

/-- Each local slot starts a new grain (R187). -/
def Geo.byRow (g : Geo) : Bool := g.r.isTable && decide (g.r.mode = 1 ∨ g.r.mode = 2)

/-- Grains of a row where each slot starts a new one. -/
def Geo.rowGrains (g : Geo) : Nat := (g.e + g.p - 1) / g.p

/-- The grain and the position of a parameter (R187). -/
def Geo.place (g : Geo) (n : Nat) : Nat × Nat :=
  if g.byRow then (n / g.e * g.rowGrains + n % g.e / g.p, n % g.e % g.p) else (n / g.p, n % g.p)

/-- Grains of the region (R187). -/
def Geo.grains (g : Geo) : Nat :=
  if g.byRow then g.t.localRows * g.rowGrains else (g.n + g.p - 1) / g.p

/-- The parameters of a grain in ascending order (R187). -/
def Geo.paramsOf (g : Geo) (q : Nat) : List Nat :=
  if g.byRow then
    let k := q % g.rowGrains * g.p
    (List.range (min g.p (g.e - k))).map fun i => q / g.rowGrains * g.e + k + i
  else (List.range (min g.p (g.n - q * g.p))).map (· + q * g.p)

/-- The address of a parameter's working copy (R186). -/
def Geo.workAt (g : Geo) (n : Nat) : Nat :=
  if g.r.isTable then g.base + n / g.e * g.pitch + n % g.e * g.size else g.base + n * g.size

/-- The address of a grain (R187). -/
def Geo.grainAt (g : Geo) (q : Nat) : Nat := g.r.base + 256 * q

/-- A list of parameters by grain (R189). -/
def Geo.cover (g : Geo) (l : List Nat) : Tab (List Nat) :=
  l.foldl (fun t n => Tab.modify [] t (g.place n).1 (· ++ [n])) []

/-- Every parameter of the region. -/
def Geo.all (g : Geo) : List Nat := List.range g.n

/-- The parameters of local slots. -/
def Geo.ofSlots (g : Geo) (l : List Nat) : List Nat :=
  (l.map fun k => (List.range g.e).map (· + k * g.e)).flatten

/-- The stored working-copy encoding of a parameter. -/
def State.workCode (s : State) (g : Geo) (n : Nat) : Nat := s.devNum (g.workAt n) g.size

/-- The fingerprint of epoch t over parameters as they are stored (R216). -/
def State.printOf (s : State) (g : Geo) (t : Nat) (l : List Nat) : Nat :=
  fpSum g.r.tag t (l.map fun n => (n, s.workCode g n))

/-- The commit word of a grain (R189). -/
def State.commitWord (s : State) (g : Geo) (q : Nat) : Nat := s.devNum (g.grainAt q + 252) 4

/-- A grain is committed for an epoch (R189). -/
def State.isCommitted (s : State) (g : Geo) (t q : Nat) : Bool :=
  decide (bits (s.commitWord g q) 29 0 = t % 2 ^ 30)

/-- The engine that serves a stack: its own, or its partner's once that is retired (R210). -/
def State.servedBy (s : State) (n : Nat) : Option Nat :=
  if !s.retired (.taproot n) then some n
  else if !s.retired (.taproot (n ^^^ 1)) then some (n ^^^ 1)
  else none

/-- The engine of a grain (R187, R210, R236). -/
def State.grainEngine (s : State) (g : Geo) (q : Nat) : Option Nat := s.servedBy (s.stackOf (g.grainAt q))

/-- The engines grains need; none where both engines of a pair are retired (R210). -/
def State.enginesFor (s : State) (g : Geo) (qs : List Nat) : Option (List Nat) :=
  (qs.map (s.grainEngine g)).foldr (fun o l => do return addOnce (← l) (← o)) (some [])

/-! ### The arithmetic of an update -/

/-- What one update computes with (R192). -/
structure UpdEnv where
  g : Geo
  t : Nat
  eta : FVal
  gscale : FVal
  a1 : FVal
  a2 : FVal
  bc1 : FVal
  bc2 : FVal
  deriving DecidableEq, Repr

/-- Binary exponentiation on the bits of t from the n-th down (R192). -/
def powBits (b : FVal) : Nat → Nat → FVal → FVal
  | 0, _, p => p
  | n + 1, t, p =>
    let q := rnd32 (p.mul p)
    powBits b n t (if t.testBit n then rnd32 (q.mul b) else q)

/-- pow(b, t) of R192. -/
def powFp (b : FVal) (t : Nat) : FVal := powBits b (if t = 0 then 0 else t.log2 + 1) t (.ofNat 1)

/-- The values an update computes once (R192). -/
def updEnv (g : Geo) (t : Nat) (eta gscale : FVal) : UpdEnv :=
  let one : FVal := .ofNat 1
  let b1 := f32 g.r.beta1
  let b2 := f32 g.r.beta2
  { g := g, t := t, eta := eta, gscale := gscale, a1 := rnd32 (one.sub b1), a2 := rnd32 (one.sub b2),
    bc1 := if g.r.biasCorr then rnd32 (one.sub (powFp b1 t)) else one,
    bc2 := if g.r.biasCorr then rnd32 (one.sub (powFp b2 t)) else one }

/-- One updated parameter: old master, scaled gradient before decay, the update u, and the FP32 fields
written to the moments (byte and code). -/
structure PStep where
  n : Nat
  pos : Nat
  w : FVal
  g : FVal
  u : FVal
  fields : List (Nat × Nat)
  deriving DecidableEq, Repr

/-- The bytes of a list replaced from a place. -/
def putAt (l : List Byte) (off : Nat) (b : List Byte) : List Byte :=
  l.take off ++ b ++ l.drop (off + b.length)

/-- The FP32 value in a grain at a byte. -/
def grainF (l : List Byte) (off : Nat) : FVal := f32 (ofBytes ((l.drop off).take 4))

/-- A grain with FP32 fields written. -/
def putFields (l : List Byte) (fs : List (Nat × Nat)) : List Byte :=
  fs.foldl (fun l f => putAt l f.1 (toBytes 4 f.2)) l

/-- The master of a position. -/
def masterOf (mode : Nat) (l : List Byte) (pos : Nat) : FVal := grainF l (masterAt mode + 4 * pos)

/-- The gradient with weight decay (R192). -/
def UpdEnv.decay (v : UpdEnv) (w g : FVal) : FVal :=
  if !v.g.r.decoupled && !(f32 v.g.r.lambda).isZero then fma32 (f32 v.g.r.lambda) w g else g

/-- The update with decoupled weight decay (R193 to R196). -/
def UpdEnv.decouple (v : UpdEnv) (w u : FVal) : FVal :=
  if v.g.r.decoupled then fma32 (f32 v.g.r.lambda) w u else u

/-- The Adam update from new moments (R193). -/
def UpdEnv.adam (v : UpdEnv) (m s : FVal) : FVal :=
  rnd32 ((rnd32 (m.div v.bc1)).div (rnd32 ((rnd32 (rnd32 (s.div v.bc2)).sqrt).add (f32 v.g.r.eps))))

/-- The new first moment: fma(BETA1, m, rne32(A1 × g)). -/
def UpdEnv.newM (v : UpdEnv) (m g : FVal) : FVal := fma32 (f32 v.g.r.beta1) m (rnd32 (v.a1.mul g))

/-- The new second moment from a squared gradient (R193, R194). -/
def UpdEnv.newV (v : UpdEnv) (s g2 : FVal) : FVal := fma32 (f32 v.g.r.beta2) s (rnd32 (v.a2.mul g2))

/-- The step of one parameter in modes 0x0, 0x3 and 0x4; `reread` takes the new moments as stored
(R193, R196, R197). -/
def UpdEnv.single (v : UpdEnv) (reread : Bool) (l : List Byte) (n pos : Nat) (g0 : FVal) : PStep :=
  let w := masterOf v.g.r.mode l pos
  let g := v.decay w g0
  if v.g.r.mode = 3 then
    let m := if reread then grainF l (4 * pos) else fma32 (f32 v.g.r.beta1) (grainF l (4 * pos)) g
    let u := if v.g.r.nesterov then fma32 (f32 v.g.r.beta1) m g else m
    ⟨n, pos, w, g0, v.decouple w u, [(4 * pos, toF32 m)]⟩
  else
    let m := if reread then grainF l (4 * pos) else v.newM (grainF l (4 * pos)) g
    let q := if reread then grainF l (84 + 4 * pos)
      else v.newV (grainF l (84 + 4 * pos)) (rnd32 (g.mul g))
    ⟨n, pos, w, g0, v.decouple w (v.adam m q), [(4 * pos, toF32 m), (84 + 4 * pos, toF32 q)]⟩

/-- A grain after an update's moments: its bytes, the parameters updated, those not updated, the units
skipped, and the conversions of first moments made (R199, R200). -/
structure GrainStep where
  l : List Byte
  steps : List PStep
  skipped : List Nat
  units : Nat
  mcodes : List Conv
  deriving DecidableEq, Repr

/-- Modes 0x0, 0x3 and 0x4 on one grain. -/
def UpdEnv.plain (v : UpdEnv) (reread : Bool) (l : List Byte) (ps : List (Nat × Nat × FVal)) : GrainStep :=
  let ok := ps.filter fun p => !p.2.2.special
  let steps := ok.map fun p => v.single reread l p.1 p.2.1 p.2.2
  let bad := (ps.filter fun p => p.2.2.special).map (·.1)
  ⟨putFields l (steps.map (·.fields)).flatten, steps, bad, bad.length, []⟩

/-- The decoded first moment of a position in mode 0x1 (R194). -/
def sketchM (l : List Byte) (pos : Nat) : FVal :=
  FC.g8.decode ((l.getD pos 0).toNat) ((l.getD 48 0).toNat) 0

/-- The salt of R199. -/
def UpdEnv.salt (v : UpdEnv) : Nat := (v.g.r.tag + v.t * 0x9E3779B1) % 2 ^ 32

/-- One group of 24 of mode 0x1: its steps and its new moments, or nothing where it is skipped (R194,
R200). -/
def UpdEnv.group (v : UpdEnv) (l : List Byte) (h : Nat) (ps : List (Nat × Nat × FVal)) :
    List PStep × List (Nat × FVal) × List (Nat × Nat) :=
  let gs := ps.map fun p => v.decay (masterOf 1 l p.2.1) p.2.2
  let sum := gs.foldl (fun s g => rnd32 (s.add (rnd32 (g.mul g)))) FVal.zero
  let q := v.newV (grainF l (52 + 4 * h)) (rnd32 (sum.div (.ofNat ps.length)))
  let ms := (ps.zip gs).map fun x => (x.1.2.1, v.newM (sketchM l x.1.2.1) x.2)
  let steps := (ps.zip ms).map fun x =>
    let w := masterOf 1 l x.1.2.1
    ⟨x.1.1, x.1.2.1, w, x.1.2.2, v.decouple w (v.adam x.2.2 q), []⟩
  (steps, ms, [(52 + 4 * h, toF32 q)])

/-- Mode 0x1 on one grain: two groups, then the first moments encoded again under a new exponent (R194,
R199, R200). -/
def UpdEnv.sketch (v : UpdEnv) (l : List Byte) (ps : List (Nat × Nat × FVal)) : GrainStep :=
  let grp := fun (h : Nat) => ps.filter fun (p : Nat × Nat × FVal) => decide (p.2.1 / 24 = h)
  let live := [0, 1].filter fun h => decide (grp h ≠ []) && (grp h).all fun p => !p.2.2.special
  let dead := [0, 1].filter fun h => (grp h).any fun p => p.2.2.special
  let rs := live.map fun h => v.group l h (grp h)
  let ms := (rs.map (·.2.1)).flatten
  let newM := fun (pos : Nat) => match ms.find? fun m => decide (m.1 = pos) with
    | some m => m.2
    | none => sketchM l pos
  let blk := FC.g8.convertBlock (ps.map fun p =>
    (Rnd.sr (srDraw v.salt (p.1 % 2 ^ 32) (p.1 / 2 ^ 32 + 256)), newM p.2.1))
  let l1 := putFields l (rs.map (·.2.2)).flatten
  let l2 := putAt l1 48 (toBytes 1 blk.scale)
  let l3 := ((ps.map (·.2.1)).zip blk.elems).foldl (fun l x => putAt l x.1 (toBytes 1 x.2.code)) l2
  ⟨l3, (rs.map (·.1)).flatten, (dead.map fun h => (grp h).map (·.1)).flatten, dead.length, blk.elems⟩

/-- Mode 0x2 on one grain: `row` holds the decayed gradients of the whole row, none where it is skipped
(R195, R200). -/
def UpdEnv.adagrad (v : UpdEnv) (l : List Byte) (row : Option (List FVal)) (ps : List (Nat × Nat × FVal)) :
    GrainStep :=
  match row with
  | none => ⟨l, [], ps.map (·.1), b2n (ps.any fun p => decide (p.1 % v.g.e = 0)), []⟩
  | some gs =>
    let sum := gs.foldl (fun s g => rnd32 (s.add (rnd32 (g.mul g)))) FVal.zero
    let a := rnd32 ((grainF l 0).add (rnd32 (sum.div (.ofNat v.g.e))))
    let d := rnd32 ((rnd32 a.sqrt).add (f32 v.g.r.eps))
    let steps := ps.map fun p =>
      let g := gs.getD (p.1 % v.g.e) .zero
      ⟨p.1, p.2.1, masterOf 2 l p.2.1, p.2.2, rnd32 (g.div d), []⟩
    ⟨putFields l [(0, toF32 a)], steps, [], 0, []⟩

/-! ### Updating grains -/

/-- The scaled gradient of a parameter before decay (R192). -/
def UpdEnv.scaled (v : UpdEnv) (grad : Nat → FVal) (n : Nat) : FVal := rnd32 ((grad n).mul v.gscale)

/-- The bytes of a grain. -/
def State.grain (s : State) (g : Geo) (q : Nat) : List Byte := s.devRead (g.grainAt q) 256

/-- The decayed gradients of a whole row, none where R200 skips it (R195, R200). -/
def State.rowGrads (s : State) (v : UpdEnv) (grad : Nat → FVal) (slot : Nat) : Option (List FVal) :=
  let ns := (List.range v.g.e).map (· + slot * v.g.e)
  let gs := ns.map (v.scaled grad)
  if gs.any FVal.special then none
  else some ((ns.zip gs).map fun x =>
    let q := (v.g.place x.1).1
    v.decay (masterOf 2 (s.grain v.g q) (v.g.place x.1).2) x.2)

/-- The moments step of a grain on bytes l (R193 to R197). -/
def State.grainStep (s : State) (v : UpdEnv) (grad : Nat → FVal) (reread : Bool) (l : List Byte)
    (ns : List Nat) : GrainStep :=
  let ps := ns.map fun n => (n, (v.g.place n).2, v.scaled grad n)
  match v.g.r.mode with
  | 0x1 => v.sketch l ps
  | 0x2 => v.adagrad l (s.rowGrads v grad ((ns.head?.getD 0) / v.g.e)) ps
  | _ => v.plain reread l ps

/-- What an update sums as it goes: fingerprint, the three sums of squares, counts, conversions, and the new
working-copy values by parameter (R190, R198, R199, R216, R221). -/
structure Totals where
  print : Nat
  w2 : FVal
  u2 : FVal
  g2 : FVal
  elems : Nat
  skipped : Nat
  units : Nat
  convs : List Conv
  mcodes : List Conv
  codes : List (Nat × Nat)
  deriving DecidableEq, Repr

/-- Nothing summed yet. -/
def Totals.start : Totals := ⟨0, .zero, .zero, .zero, 0, 0, 0, [], [], []⟩

/-- A square added exactly; one that is not finite is left out (R198). -/
def addFinSquare (t x : FVal) : FVal := if x.special then t else t.add (x.mul x)

/-- The new master: w' (R193 to R197). -/
def UpdEnv.newW (v : UpdEnv) (ratio : FVal) (p : PStep) : FVal :=
  let e := if v.g.r.mode = 4 then rnd32 (v.eta.mul ratio) else v.eta
  rnd32 (p.w.sub (rnd32 (e.mul p.u)))

/-- The rounding of a parameter's working copy (R199). -/
def UpdEnv.rounding (v : UpdEnv) (n : Nat) : Rnd :=
  if v.g.r.sr then .sr (srDraw v.salt (n % 2 ^ 32) (n / 2 ^ 32)) else .rne

/-- Elements written one by one: whether a partial write to a poisoned sector was discarded (R190, R244). -/
def State.putEach (s : State) (size : Nat) (l : List (Nat × Nat)) : State × Bool :=
  l.foldl (fun (a : State × Bool) x => (a.1.devWrite x.1 (toBytes size x.2), a.2 || a.1.devWriteBad x.1 size)) (s, false)

/-- Elements written by sectors, given by address in ascending order: a sector with every element new is one
whole write (R190, R244). -/
def State.putElems (s : State) (size : Nat) (l : List (Nat × Nat)) : State × Bool :=
  let sectors : Tab (List (Nat × Nat)) := l.foldl (fun t x => Tab.modify [] t (x.1 / 32) (· ++ [x])) []
  sectors.foldl (fun (a : State × Bool) x =>
    if x.2.length * size = 32 ∧ x.2.head?.map (·.1) = some (32 * x.1) then
      (a.1.devWrite (32 * x.1) (x.2.map fun y => toBytes size y.2).flatten, a.2)
    else
      let r := a.1.putEach size x.2
      (r.1, a.2 || r.2)) (s, false)

/-- New working-copy values written: merged into their sectors for a dense region, assembled by rows for a
table region (R190). -/
def State.putCodes (s : State) (g : Geo) (l : List (Nat × Nat)) : State × Bool :=
  let at_ := l.map fun x => (g.workAt x.1, x.2)
  if g.r.isTable then s.putElems g.size at_ else s.putEach g.size at_

/-- The region record a taproot command names. -/
def State.tapRec (s : State) (d : Desc) : Tap := tapOf (s.devNum (fld d 239 192) 64)

/-- A version describes the same local rows as the record a region names (R215). -/
def State.sameRows (s : State) (r : Tap) (a : TableDesc) : Bool :=
  let b := tableDesc (s.devNum r.work 64)
  decide (a.rows = b.rows ∧ a.rowBytes = b.rowBytes ∧ a.fmt = b.fmt ∧ a.kind = b.kind ∧
    a.contig = b.contig ∧ a.shards = b.shards ∧ a.index = b.index)

/-- The version a command on a table region works in, as its record stood: the one current at its release,
where it describes the same local rows (R215). -/
def State.tapVersion (s : State) (c : Cmd) (r : Tap) : Option TableDesc :=
  (c.latch.version.map tableDesc).filter (s.sameRows r)

/-- The geometry a taproot command works in (R215, R222). -/
def State.snapGeo (s : State) (c : Cmd) : Geo :=
  let r := s.tapRec c.desc
  s.geo r (if r.isTable then s.tapVersion c r else none)

/-- The destination of a region's running snapshot: its descriptor (R222). -/
def State.snapCmd (s : State) (hdr : Nat) : Option Cmd :=
  s.cmds.find? fun (x : Cmd) => isOp 0xA4 x.desc && decide (x.phase = Phase.released) &&
    decide ((tapOf (s.devNum (fld x.desc 239 192) 64)).hdr = hdr)

/-- Where a snapshot puts the grain image and the working copy (R222). -/
def snapGrains (d : Desc) : Nat := fld d 287 240 + 64
def snapWork (d : Desc) (g : Geo) : Nat :=
  fld d 287 240 + if fld d 289 288 = 1 then 64 + 256 * g.grains else 0

/-- Grains captured by a running snapshot: their old content and working copy written to the destination, their
parity set; whether a partial write was discarded (R222, R244). -/
def State.capture (s : State) (g : Geo) (d : Desc) (parity : Bool) (qs : List Nat) : State × Bool :=
  let t := if fld d 289 288 = 1 then
      qs.foldl (fun (t : State) q => t.devWrite (snapGrains d + 256 * q) (s.grain g q)) s else s
  let r := t.putElems g.size
    ((qs.map g.paramsOf).flatten.map fun n => (snapWork d g + n * g.size, s.workCode g n))
  (qs.foldl (fun (t : State) q =>
    t.devWrite (g.grainAt q + 252) (toBytes 4 (setBits (s.commitWord g q) 31 31 (b2n parity)))) r.1, r.2)

/-- A grain a running snapshot has not captured (R222). -/
def State.uncaptured (s : State) (g : Geo) (h q : Nat) : Bool :=
  hdrSnap h && decide ((s.commitWord g q).testBit 31 ≠ hdrParity h)

/-- A grain not yet captured is captured before it is written, with its working copy in the version the snapshot
took at its release; a write it loses makes the snapshot DATA_SUSPECT (R215, R222, R244). -/
def State.captureFirst (s : State) (g : Geo) (q : Nat) : State :=
  let h := s.tapHeader g.r.hdr
  match s.snapCmd g.r.hdr with
  | some c =>
    if s.uncaptured g h q then
      let r := s.capture (s.snapGeo c) c.desc (hdrParity h) [q]
      if r.2 then r.1.updCmd c.id fun x => { x with suspect := true } else r.1
    else s
  | none => s

/-- The new master of one parameter written into the grain, its working copy and its sums noted (R199, R206,
R216). -/
def UpdEnv.commitParam (v : UpdEnv) (ratio : FVal) (a : List Byte × Totals) (p : PStep) : List Byte × Totals :=
  let w := v.newW ratio p
  let x := v.g.fmt.convert (v.rounding p.n) w
  let t := a.2
  (putAt a.1 (masterAt v.g.r.mode + 4 * p.pos) (toBytes 4 (toF32 w)),
    { t with
      print := t.print + fpTerm v.g.r.tag v.t p.n x.code, w2 := addFinSquare t.w2 w,
      u2 := addFinSquare t.u2 (w.sub p.w), g2 := addFinSquare t.g2 p.g, elems := t.elems + 1,
      convs := t.convs ++ [x], codes := t.codes ++ [(p.n, x.code)] })

/-- A grain's masters and commit word written from its moments step; the parameters updated are counted for the stack
that holds the grain, those R200 has skipped are not (R189, R200, R206, R227, log entry 111). -/
def State.commitGrain (s : State) (v : UpdEnv) (ratio : FVal) (c q : Nat) (x : GrainStep) (t : Totals) :
    State × Totals :=
  let t := x.skipped.foldl (fun (t : Totals) n =>
    { t with print := t.print + fpTerm v.g.r.tag v.t n (s.workCode v.g n), skipped := t.skipped + 1 })
    { t with
      units := t.units + x.units
      mcodes := t.mcodes ++ x.mcodes }
  let (l, t1) := x.steps.foldl (v.commitParam ratio) (x.l, t)
  let word := ofBytes ((l.drop 252).take 4)
  let l := if v.g.r.mode = 3 then putAt l 248 (toBytes 4 0) else l
  let l := putAt l 252 (toBytes 4 (word / 2 ^ 31 % 2 * 2 ^ 31 + v.t % 2 ^ 30))
  ((s.devWrite (v.g.grainAt q) l).tally c 0x7130 (1 + s.stackOf (v.g.grainAt q)) x.steps.length, t1)

/-- A grain updated whole: captured first where a snapshot runs, its moments, then its masters. -/
def State.updateGrain (s : State) (v : UpdEnv) (grad : Nat → FVal) (ratio : FVal) (c q : Nat) (ns : List Nat)
    (t : Totals) : State × Totals :=
  let u := s.captureFirst v.g q
  u.commitGrain v ratio c q (u.grainStep v grad false (u.grain v.g q) ns) t

/-- Grains updated in order. The rows of mode 0x2 take their gradients from the state before. -/
def State.updateGrains (s : State) (v : UpdEnv) (grad : Nat → FVal) (ratio : FVal) (c : Nat)
    (l : Tab (List Nat)) : State × Totals :=
  let rows := s
  l.foldl (fun (a : State × Totals) x =>
    if v.g.r.mode = 2 then
      let u := a.1.captureFirst v.g x.1
      u.commitGrain v ratio c x.1 (rows.grainStep v grad false (u.grain v.g x.1) x.2) a.2
    else a.1.updateGrain v grad ratio c x.1 x.2 a.2) (s, Totals.start)

/-- The key an undo record of a region is encrypted under: that of its context's current slot, where the context is
confidential (R370). -/
def State.undoTag (s : State) (hdr : Nat) : Option KeyTag :=
  ((s.regions.find? fun x => decide (x.header = hdr)).filter fun x => s.confidential x.ctx).map fun x =>
    let k := s.keySlots x.ctx
    ⟨x.ctx, k.current, (k.key k.current).getD 0⟩

/-- The undo record of a grain (R206, R370). -/
def State.undoOf (s : State) (g : Geo) (t q : Nat) : Undo :=
  ⟨g.r.hdr, g.grainAt q, t, s.devRead (g.grainAt q) (masterAt g.r.mode), false, s.undoTag g.r.hdr⟩

/-- The moments an undo record gives back: under another key than the slot holds now they are not those saved
(R252, R370). -/
def State.undoBytes (s : State) (y : Undo) : List Byte :=
  match y.tag with
  | none => y.saved
  | some t =>
    let now : KeyTag := ⟨t.ctx, t.slot, ((s.keySlots t.ctx).key t.slot).getD 0⟩
    if now = t then y.saved
    else ((List.range y.saved.length).zip y.saved).map fun b =>
      Config.undecrypted (tagIds (some now)) (tagIds y.tag) (y.addr + b.1) b.2

/-- Phase 1 of mode 0x4 on grains: undo records and new moments (R197, R206). -/
def State.phase1 (s : State) (v : UpdEnv) (grad : Nat → FVal) (l : Tab (List Nat)) : State :=
  l.foldl (fun (u : State) x =>
    let u := u.captureFirst v.g x.1
    let y := u.grainStep v grad false (u.grain v.g x.1) x.2
    { u.devWrite (v.g.grainAt x.1) (y.l.take 168) with
      undo := u.undo ++ [u.undoOf v.g v.t x.1] }) s

/-- The trust ratio of mode 0x4 over the covered grains (R197, R198). -/
def State.trustRatio (s : State) (v : UpdEnv) (grad : Nat → FVal) (l : Tab (List Nat)) : FVal :=
  let steps := (l.map fun x => (s.grainStep v grad false (s.grain v.g x.1) x.2).steps).flatten
  let ws := steps.foldl (fun t p => addFinSquare t p.w) FVal.zero
  let us := steps.foldl (fun t p => addFinSquare t p.u) FVal.zero
  let wn := rnd32 (rnd32 ws).sqrt
  let un := rnd32 (rnd32 us).sqrt
  if FVal.zero.lt wn && FVal.zero.lt un then rnd32 (wn.div un) else .ofNat 1

/-- Phase 2 of mode 0x4 on grains: masters from the new moments, commit words; undo records released
(R197, R206). -/
def State.phase2 (s : State) (v : UpdEnv) (grad : Nat → FVal) (ratio : FVal) (c : Nat) (l : Tab (List Nat)) :
    State × Totals :=
  l.foldl (fun (a : State × Totals) x =>
    let u := a.1.captureFirst v.g x.1
    let r := u.commitGrain v ratio c x.1 (u.grainStep v grad true (u.grain v.g x.1) x.2) a.2
    ({ r.1 with undo := r.1.undo.filter fun (y : Undo) => !decide (y.header = v.g.r.hdr ∧ y.addr = v.g.grainAt x.1) },
      r.2)) (s, Totals.start)

/-- The moments of uncommitted grains written back from their undo records (R209, R212). -/
def State.rollBack (s : State) (g : Geo) (t : Nat) : State :=
  let mine := fun (y : Undo) => decide (y.header = g.r.hdr)
  let u := s.undo.foldl (fun (u : State) y =>
    if mine y && decide (y.epoch = t) && !u.isCommitted g t ((y.addr - g.r.base) / 256) then
      u.devWrite y.addr (s.undoBytes y)
    else u) s
  { u with undo := u.undo.filter fun y => !mine y }

/-- A RESUME needs an undo record that memory has lost (R212, R219). -/
def State.undoBad (s : State) (g : Geo) (t : Nat) : Bool :=
  s.undo.any fun y => y.bad && decide (y.header = g.r.hdr ∧ y.epoch = t) &&
    !s.isCommitted g t ((y.addr - g.r.base) / 256)

/-! ### Gradients -/

/-- Row `slot` of a merged list as gradients, by local slot (R214): the rows local to the table, the
entries skipped. -/
def State.tapRows (s : State) (g : Geo) (a : Nat) : Tab (List FVal) × Nat :=
  let h := s.listHead a
  let es := (List.range h.entries).map fun k => (k, (s.listEntry a h k).row)
  let ok := fun (r : Nat) => decide (r < g.t.rows) && g.t.isLocal r
  let here := es.filter fun e => ok e.2
  (here.foldl (fun t e => Tab.put [] t (g.t.slotOf e.2) (s.listRow a h e.1)) [],
    es.length - here.length)

/-- The gradient element of a dense region (R226). -/
def State.denseGrad (s : State) (d : Desc) (n : Nat) : FVal :=
  let f := (FC.ofCode (fld d 451 448)).getD .fp32
  let b := f.bits / 8
  f.decode (s.devNum (fld d 287 240 + n * b) b) (if f = .g8 then s.devNum (fld d 335 288 + n / 32) 1 else 0) 0

/-- The gradients of an update as a function of the parameter. -/
def State.tapGrad (s : State) (g : Geo) (d : Desc) (rows : Tab (List FVal)) (n : Nat) : FVal :=
  if g.r.isTable then (Tab.get [] rows (n / g.e)).getD (n % g.e) .zero else s.denseGrad d n

/-- The checks of a merged list that a table region is to use (R214, R226). -/
def State.tapListChecks (s : State) (c : Nat) (g : Geo) (a : Nat) : Checks :=
  let h := s.listHead a
  let bad := h.format.isNone || decide (h.table ≠ g.r.tableId ∨ h.elems ≠ g.e) ||
    (decide (h.format = some .g8) && decide (g.e % 32 ≠ 0))
  if bad then Checks.inv true else s.stackRegion c a h.size 1

/-! ### Opening a region -/

/-- A region by its header. -/
def State.region? (s : State) (hdr : Nat) : Option Region := s.regions.find? fun r => decide (r.header = hdr)

/-- A region's state is lost: the flag set, counted and recorded (R219). -/
def State.loseRegion (s : State) (c : Cmd) (hdr : Nat) : State :=
  let t := s.setHeader hdr (setBits (s.tapHeader hdr) 258 258 1)
  (t.tally c.id.ctx 0x7131 3 1).recordEvent (cmdEvent c 0x2004 .none_ t.mgmtLoc 3 Status.dataSuspect.code)

/-- What a command finds of a region: refused (not initialised, another context's, no fit version, its header's
flags), a header that cannot be read, a region lost before, or its geometry and header (R215, R219, R223, R225). -/
inductive Opened where
  | no (st : Status)
  | lost (g : Geo)
  | gone (g : Geo)
  | yes (g : Geo) (h : Nat)
  deriving DecidableEq, Repr

/-- A region opened for a command (R186, R215, R219, R223, R225). -/
def State.openTap (s : State) (c : Cmd) (busy : Nat → Option Status) : Opened :=
  let r := s.tapRec c.desc
  let g := s.snapGeo c
  match s.region? r.hdr with
  | none => .no .invalid
  | some x =>
    if x.ctx ≠ c.id.ctx then .no .accessDenied
    else if r.isTable && (s.tapVersion c r).isNone then .no .invalid
    else if s.devReadBad r.hdr 64 then .lost g
    else
      let h := s.tapHeader r.hdr
      if hdrLost h then .gone g
      else
        match busy h with
        | some st => .no st
        | none => .yes g h

/-- What a command on a lost region completes with: UNIT_RETIRED where no engine serves a grain it needs, which comes
first (R13, R210, R219). -/
def State.lostStatus (s : State) (g : Geo) (qs : List Nat) : Status :=
  if (s.enginesFor g qs).isNone then .unitRetired else .dataSuspect

/-- A taproot command released before another and still at work. -/
def Cmd.tapBefore (c x : Cmd) : Bool :=
  decide (x.phase = Phase.released ∧ 0 < x.rank ∧ x.rank < c.rank) &&
    decide (0xA0 ≤ opcode x.desc ∧ opcode x.desc ≤ 0xA4)

/-- 256 taproot commands are in progress (R213). -/
def State.tapFull (s : State) (c : Cmd) : Bool := decide (256 ≤ (s.cmds.filter c.tapBefore).length)

/-- An update of a region whose work is over and whose record is still to be written. -/
def State.doneOf (s : State) (hdr : Nat) : Option TapDone := s.tapDone.find? fun x => decide (x.header = hdr)

/-- An earlier taproot command on the same region is not complete, or a replica fetch is served from it, or
256 commands are in progress (R213). -/
def State.tapWaits (s : State) (c : Cmd) : Bool :=
  let hdr := fun (d : Desc) => (s.tapRec d).hdr
  s.cmds.any (fun x => c.tapBefore x && (isOp 0xA0 x.desc || isOp 0xA1 x.desc || isOp 0xA3 x.desc) &&
      decide (hdr x.desc = hdr c.desc)) || (s.doneOf (hdr c.desc)).isSome ||
    s.fetches.any (fun f => decide (f.header = hdr c.desc)) || s.tapFull c

/-- A taproot row's work in region order (R213). -/
def State.runTap (s : State) (id : CmdId) (p : Desc → Bool) (f : State → Cmd → State × Option Status) : State :=
  match s.runnable id p with
  | none => s
  | some c =>
    if s.tapWaits c then s
    else
      match f s c with
      | (t, some st) => t.finish id st
      | (t, none) => t

/-- Grains work on engines: none in service for a grain ends it with UNIT_RETIRED, one under test makes
it wait (R210, R224). -/
def State.onEngines (s : State) (g : Geo) (qs : List Nat) (f : State → State × Option Status) :
    State × Option Status :=
  match s.enginesFor g qs with
  | none => (s, some .unitRetired)
  | some l => if l.any fun e => s.blocked (.taproot e) then (s, none) else f s

/-! ### The journal -/

/-- Pseudo-channels of a stack in service: a retired one is until its migration completes, unless it cannot be
read (R247, R251). -/
def State.stackPcs (s : State) (n : Nat) : Nat :=
  ((List.range 64).filter fun i => !s.retired (.pc (64 * n + i)) ||
    s.pool.migrations.any fun m => decide (m.pc = 64 * n + i ∧ m.from_ ≠ .unreadable)).length

/-- The capacity of a stack's journal area (R207, R230). -/
def State.journalSize (s : State) (n : Nat) : Nat := if 57 ≤ s.stackPcs n then 2 ^ 23 else 147456 * s.stackPcs n

/-- Bytes of an undo record: the moments field, the grain address and the target epoch (R201, R206). -/
def undoSize (mode : Nat) : Nat := masterAt mode + 8

/-- Bytes of a stack's journal that other regions' undo records hold. -/
def State.journalHeld (s : State) (hdr n : Nat) : Nat :=
  ((s.undo.filter fun y => decide (y.header ≠ hdr ∧ s.stackOf y.addr = n)).map fun y => y.saved.length + 8).sum

/-- The slice of a grain: the stack that holds it, and its block (R187, R206). -/
def State.tapSlice (s : State) (g : Geo) (q : Nat) : Nat × Nat := (s.stackOf (g.grainAt q), g.grainAt q / 65536)

/-- Bytes of a stack's journal that an update of grains needs at once: its largest slice, in mode 0x4 all of
them (R206, R207). -/
def State.journalNeed (s : State) (g : Geo) (qs : List Nat) (n : Nat) : Nat :=
  let mine := (qs.map (s.tapSlice g)).filter fun x => decide (x.1 = n)
  undoSize g.r.mode *
    if g.r.mode = 4 then mine.length else (mine.map fun x => mine.count x).foldl Nat.max 0

/-- A journal has no room for an update's records, which waits for others to be released (R207, R230). -/
def State.journalFull (s : State) (g : Geo) (qs : List Nat) : Bool :=
  (List.range 20).any fun n => decide (s.journalNeed g qs n ≠ 0 ∧
    s.journalSize n < s.journalHeld g.r.hdr n + s.journalNeed g qs n)

/-- The high-water marks of the journals an update uses: at least what its records need beside those held, at
most the capacity; how many slices are open at once no rule states (R227, log entry 2). -/
def State.journalMark (s : State) (c : Nat) (g : Geo) (qs : List Nat) : State :=
  ((List.range 20).foldl (fun (t : State) n =>
    let low := s.journalHeld g.r.hdr n + s.journalNeed g qs n
    if s.journalNeed g qs n = 0 then t
    else t.raiseTo c 0x7130 (41 + n) (low + s.freeVal n % (s.journalSize n + 1 - low))) s).usedFree 20

/-! ### Schedules -/

/-- A value rounded to binary64. -/
def rnd64 (v : FVal) : FVal := Fmt.fp64.round v

/-- A value is an odd whole number. -/
def FVal.isOdd : FVal → Bool
  | .fin _ m e => if 0 ≤ e then decide (e = 0 ∧ m % 2 = 1) else decide (m % 2 ^ (-e).toNat = 0 ∧ m / 2 ^ (-e).toNat % 2 = 1)
  | _ => false

/-- A power of the schedule engine to an exponent of at least 0, within 1 ulp; those of zeros, infinities and NaN
are IEEE 754's (R202, log entry 20). -/
def schedPow (a b : FVal) : FVal :=
  if b.isZero then .ofNat 1
  else if a.isNan then .nan
  else if a.isZero then .fin (a.sign && b.isOdd) 0 0
  else if a.isInf then .inf (a.sign && b.isOdd)
  else Fmt.fp64.decode (Fmt.fp64.within 1 (powReal a b b.isOdd)
    (Config.scheduleFunction 1 [Fmt.fp64.encode a, Fmt.fp64.encode b]).toNat)

/-- The cosine of π × x, within 1 ulp (R202). -/
def schedCos (x : FVal) : FVal :=
  Fmt.fp64.decode (Fmt.fp64.within 1 (cosPiReal x) (Config.scheduleFunction 0 [Fmt.fp64.encode x]).toNat)

/-- A schedule record (R202). -/
structure SchedRec where
  curve : Nat
  period : Nat
  decay : Nat
  warmup : Nat
  gamma : FVal
  min : FVal
  peak : FVal
  init : FVal
  s0 : Nat
  deriving DecidableEq, Repr

/-- The record of a 64-byte number (R202). -/
def schedRec (x : Nat) : SchedRec :=
  { curve := bits x 258 256, period := bits x 255 224, decay := bits x 223 192,
    warmup := bits x 191 160, gamma := f32 (bits x 159 128), min := f32 (bits x 127 96),
    peak := f32 (bits x 95 64), init := f32 (bits x 63 32), s0 := bits x 31 0 }

/-- The curve at stride k after S0 within its period, peak already multiplied (R202). -/
def SchedRec.curveAt (r : SchedRec) (peak : FVal) (k : Nat) : FVal :=
  let add := fun (a b : FVal) => rnd64 (a.add b)
  let sub := fun (a b : FVal) => rnd64 (a.sub b)
  let mul := fun (a b : FVal) => rnd64 (a.mul b)
  let div := fun (a b : FVal) => rnd64 (a.div b)
  if k < r.warmup then add r.init (div (mul (sub peak r.init) (.ofNat k)) (.ofNat r.warmup))
  else
    let x := if r.decay = 0 then .ofNat 1 else div (.ofNat (Nat.min (k - r.warmup) r.decay)) (.ofNat r.decay)
    match r.curve with
    | 1 => add peak (mul (sub r.min peak) x)
    | 2 => add r.min (div (mul (sub peak r.min) (add (.ofNat 1) (schedCos x))) (.ofNat 2))
    | 3 =>
      let w := Nat.max r.warmup 1
      let y := mul peak (rnd64 (div (.ofNat w) (.ofNat (k - r.warmup + w))).sqrt)
      if r.min.lt y then y else r.min
    | 4 =>
      let q := div r.min peak
      if FVal.zero.lt q then mul peak (schedPow q x) else peak
    | _ => peak

/-- The step size of a curve for a stride count, as an FP32 encoding (R202). -/
def SchedRec.eta (r : SchedRec) (stride : Nat) : Nat :=
  let k := (stride + 2 ^ 32 - r.s0) % 2 ^ 32
  if 2 ^ 31 ≤ k then toF32 r.init
  else
    let j := if r.period = 0 then 0 else k / r.period
    let peak := rnd64 (r.peak.mul (schedPow r.gamma (.ofNat j)))
    toF32 (r.curveAt peak (if r.period = 0 then k else k % r.period))

/-- A schedule slot of a context. -/
def State.sched (s : State) (c slot : Nat) : Sched := Tab.get Sched.empty s.scheds (c * 8 + slot)

/-- A schedule slot replaced. -/
def State.setSched (s : State) (c slot : Nat) (x : Sched) : State :=
  { s with scheds := Tab.put Sched.empty s.scheds (c * 8 + slot) x }

/-- The step size a slot has for a stride: the host's value, else the curve's, none without a record
(R203). -/
def Sched.etaFor (x : Sched) (stride : Nat) : Option Nat :=
  match x.host.find? fun h => decide (h.1 = stride) with
  | some h => some h.2
  | none => x.record.head?.map fun r => (schedRec r).eta stride

/-- The step size published for a stride, or the one to publish (R203). -/
def Sched.published (x : Sched) (stride : Nat) : Option Nat :=
  match x.latched with
  | some (k, e) => if k = stride then some e else x.etaFor stride
  | none => x.etaFor stride

/-- A slot with its step size for a stride fixed (R203). -/
def Sched.fixed (x : Sched) (stride : Nat) : Sched :=
  { x with latched := (x.published stride).map fun e => (stride, e) }

/-- STRIDE_STEP_SIZE_PUBLISH: each slot's step size for the current stride is fixed, and host values of
past strides are dropped, after the schedule changes due at that angle (R203, R204). -/
def execStrideStepSizePublish (s : State) : Host.Outcome State Fault Refusal :=
  if s.pace.mode = .unlocked ∨ s.mayAct (strideAngle s.pace.stride, 4) = false then .next s
  else
    let k := s.pace.stride
    let f := fun (x : Sched) => { x.fixed k with host := x.host.filter fun h => !reached32 k h.1 }
    .next { s with scheds := (s.scheds.map fun p => (p.1, f p.2)).filter fun p => p.2 ≠ Sched.empty }

/-- A schedule record, as read when its command was fetched, installed in its slot; a slot that had one keeps the
step size of the current stride (R202, R203). -/
def State.installSched (s : State) (c : Cmd) : State × Status :=
  match c.latch.record with
  | none => (s, .dataSuspect)
  | some x0 =>
    let slot := fld c.desc 306 304
    let x := s.sched c.id.ctx slot
    let atStart := decide (gated c.desc) && decide (notBefore c.desc = strideAngle s.pace.stride)
    let x := if s.pace.mode = .unlocked ∨ atStart = true then x else x.fixed s.pace.stride
    (s.setSched c.id.ctx slot { x with record := [x0] }, .ok)

/-- A TAP_SCHED row's work, while fewer than 256 taproot commands are in progress before it (R213). -/
def State.workNow (s : State) (id : CmdId) (p : Desc → Bool) (f : State → Cmd → State × Status) : State :=
  match s.findCmd id with
  | none => s
  | some c => if s.tapFull c then s else s.run id p f

/-- The OP field of TAP_SCHED. -/
def schedOp (n : Nat) (d : Desc) : Bool := isOp 0xA2 d && decide (fld d 308 307 = n)

/-- What a command reads once, as it is fetched: TAP_SCHED its record, where memory gives it (R202, log entry 112). -/
def State.readOnce (s : State) (d : Desc) : Latch :=
  let a := fld d 239 192
  if schedOp 0 d && !s.devReadBad a 64 then { Latch.empty with record := some (s.devNum a 64) } else Latch.empty

/-- TAP_SCHED_INSTALL: a released record is in force from its release (R202, R205). -/
def execTapSchedInstall (id : CmdId) (s : State) : Host.Outcome State Fault Refusal :=
  .next (s.workNow id (schedOp 0) fun s c => if s.pace.mode.lost then (s, .paceLost) else s.installSched c)

/-- SCHEDULE_INSTALL_TAKES_EFFECT: a gated record takes effect at its not-before angle when its wait and
its queue's order allow (R202, R480). -/
def execScheduleInstallTakesEffect (id : CmdId) (s : State) : Host.Outcome State Fault Refusal :=
  match (s.findCmd id).filter fun c => schedOp 0 c.desc && s.installDue c with
  | none => .next s
  | some c =>
    if !s.mayAct (notBefore c.desc, 3) then .next s
    else if s.objectGone c.desc then .next (s.finish id .unitRetired)
    else if s.waitFault c.desc then .next (s.finish id .aborted)
    else .next ((s.installSched c).1.finish id (s.installSched c).2)

/-- TAP_SCHED_HOST_STEP: a step size for one stride, accepted only before the half of the stride before
it; at most 16 values for future strides (R204, R205). -/
def execTapSchedHostStep (id : CmdId) (s : State) : Host.Outcome State Fault Refusal :=
  .next (s.workNow id (schedOp 1) fun s c =>
    let k := fld c.desc 271 240
    let slot := fld c.desc 306 304
    let x := s.sched id.ctx slot
    let ahead := (mkAngle k 0 - s.angle).toNat
    let others := x.host.filter fun h => decide (h.1 ≠ k)
    if s.pace.mode.lost then (s, .paceLost)
    else if atOrAfter s.angle (mkAngle (k + 2 ^ 32 - 1) 0x8000) then (s.tally id.ctx 0x7131 4 1, .invalid)
    else if 2 ^ 40 < ahead then (s, .invalid)
    else if 16 ≤ (others.filter fun h => !reached32 s.pace.stride h.1).length then (s, .busy)
    else (s.setSched id.ctx slot { x with host := others ++ [(k, fld c.desc 303 272)] }, .ok))

/-! ### At release -/

/-- What a taproot command latches as it is released (R203, R205, R215). -/
def State.tapLatch (s : State) (c : Cmd) : Latch :=
  let r := s.tapRec c.desc
  let v := if r.isTable then (s.currentVersion c.id.ctx r.tableId).map (·.raw) else none
  let k := s.pace.stride
  { c.latch with
    stride := k
    step := if s.pace.mode.running then
      some (((s.sched c.id.ctx r.sched).published k).getD (s.freeVal 0 % 2 ^ 32)) else none
    version := v
    lost := s.pace.mode.lost }

/-- A region's header with what the completion of an update brings (R191, R197, R216). -/
def TapDone.header_ (x : TapDone) (h : Nat) : Nat :=
  let h := setBits (setBits (setBits h 31 0 x.epoch) 191 128 x.print) 223 192 x.skipped
  setBits (setBits (setBits h 256 256 0) 257 257 0) 261 261 0

/-- A snapshot starts as it is released: its epoch and destination noted, the parity inverted, the header's
copy written; an update whose work is over counts as committed (R222). -/
def State.startSnap (s : State) (c : Cmd) : State × Option Status :=
  let busy := fun h => if hdrSnap h || hdrPending h then some Status.busy else none
  match s.openTap c busy with
  | .no st => (s, some st)
  | .lost g => (s.loseRegion c g.r.hdr, some (s.lostStatus g (List.range g.grains)))
  | .gone g => (s, some (s.lostStatus g (List.range g.grains)))
  | .yes g h =>
    match s.enginesFor g (List.range g.grains) with
    | none => (s, some .unitRetired)
    | some _ =>
      let d := fld c.desc 287 240
      let view := fun (h : Nat) => ((s.doneOf g.r.hdr).map fun x => x.header_ h).getD h
      let h := setBits (setBits h 343 312 (hdrEpoch (view h))) 311 264 d
      let h := setBits (setBits h 260 260 (1 - b2n (hdrParity h))) 259 259 1
      let t := s.setHeader g.r.hdr h
      (if fld c.desc 289 288 = 1 then t.devWrite d (toBytes 64 (view h)) else t, none)

/-- What the release of a taproot command does: the latch, and the start of a snapshot (R203, R215,
R222). -/
def State.tapRelease (s : State) (id : CmdId) : State :=
  match (s.findCmd id).filter fun c => decide (0xA0 ≤ opcode c.desc ∧ opcode c.desc ≤ 0xBF ∧
      opcode c.desc ≠ 0xA2) with
  | none => s
  | some c =>
    let l := s.tapLatch c
    let t := (s.updCmd id fun x => { x with latch := l }).usedFree 1
    if isOp 0xA4 c.desc then
      match t.startSnap { c with latch := l } with
      | (u, some st) => u.finish id st
      | (u, none) => u
    else t

/-! ### TAP_REGION_INIT -/

/-- A region noted as prepared (R185, R223). -/
def State.noteRegion (s : State) (c hdr record : Nat) (r : Tap) : State :=
  { s with
    regions := s.regions.filter (fun (x : Region) => decide (x.header ≠ hdr)) ++
      [⟨c, hdr, record, if r.isTable then some r.tableId else none⟩],
    undo := s.undo.filter fun (y : Undo) => decide (y.header ≠ hdr) }

/-- The header after TAP_REGION_INIT: its epoch and fingerprint, every flag clear; the fields no rule
states are free values (R191, R223, log entry 2). -/
def State.freshHeader (s : State) (epoch print : Nat) : Nat :=
  let f := fun k w => s.freeVal k % 2 ^ w
  epoch + f 0 32 * 2 ^ 64 + f 1 32 * 2 ^ 96 + print * 2 ^ 128 + f 2 32 * 2 ^ 192 + f 3 48 * 2 ^ 264 +
    f 4 32 * 2 ^ 312

/-- A grain of a region prepared from its working copy: zeros, masters widened exactly, the commit word
with the epoch and parity 0 (R223). -/
def State.copyGrain (s : State) (g : Geo) (epoch q : Nat) : List Byte :=
  let l := (g.paramsOf q).foldl (fun l n =>
    putAt l (masterAt g.r.mode + 4 * (g.place n).2) (toBytes 4 (toF32 (g.fmt.decode (s.workCode g n) 0 0))))
    (List.replicate 256 (0 : Byte))
  putAt l 252 (toBytes 4 (epoch % 2 ^ 30))

/-- The working copy of a region as extents. -/
def Geo.workExtents (g : Geo) : List Extent :=
  if g.r.isTable then [⟨.dev, g.base, g.t.localRows, g.pitch, g.t.rowBytes⟩]
  else [.flat .dev g.base (g.n * g.size)]

/-- The state of a region as an extent. -/
def Geo.state (g : Geo) : Extent := .flat .dev g.r.base (256 * g.grains)

/-- What keeps TAP_REGION_INIT off a region: another context's header, or for a table region no fit
version (R215, R223). -/
def State.initGeo (s : State) (c : Cmd) : Except Status Geo :=
  let r := s.tapRec c.desc
  if (s.region? r.hdr).any fun x => decide (x.ctx ≠ c.id.ctx) then .error .accessDenied
  else if r.isTable && (s.tapVersion c r).isNone then .error .invalid
  else .ok (s.geo r (if r.isTable then s.tapVersion c r else none))

/-- A region about to be written anew: a snapshot of it released before has what it has not captured captured first
(R222). -/
def State.captureAll (s : State) (g : Geo) : State := (List.range g.grains).foldl (fun t q => t.captureFirst g q) s

/-- A region prepared from its working copy (R223). -/
def State.initCopy (s : State) (c : Cmd) (g : Geo) : State × Status :=
  let epoch := fld c.desc 319 288
  s.withPoison g.workExtents [g.state] fun s =>
    let t := (List.range g.grains).foldl (fun (t : State) q =>
      t.devWrite (g.grainAt q) (s.copyGrain g epoch q)) s
    let t := (t.setHeader g.r.hdr (t.freshHeader epoch (t.printOf g epoch g.all))).usedFree 5
    (t.noteRegion c.id.ctx g.r.hdr (fld c.desc 239 192) g.r, .ok)

/-- The image of a region: its header, its grains, its working copy (R222). -/
def imageExtent (g : Geo) (a : Nat) : Extent := .flat .dev a (64 + 256 * g.grains + g.n * g.size)

/-- The working copy of a region loaded whole from packed elements of `img`: in one piece, or row by row (R190,
R223). -/
def State.loadWork (s img : State) (g : Geo) (src : Nat) : State :=
  if g.r.isTable then
    (List.range g.t.localRows).foldl (fun (t : State) k =>
      t.devWrite (g.workAt (k * g.e)) (img.devRead (src + k * g.e * g.size) (g.e * g.size))) s
  else s.devWrite g.base (img.devRead src (g.n * g.size))

/-- A region prepared from an image: grains with parity 0, working copy, epoch and fingerprint of the
image's header (R223, log entry 33). -/
def State.initImage (s : State) (c : Cmd) (g : Geo) : State × Status :=
  let a := fld c.desc 287 240
  s.withPoison [imageExtent g a] (g.state :: g.workExtents) fun s =>
    let t := (List.range g.grains).foldl (fun (t : State) q =>
      let l := s.devRead (a + 64 + 256 * q) 256
      let w := ofBytes ((l.drop 252).take 4) % 2 ^ 31
      t.devWrite (g.grainAt q) (putAt l 252 (toBytes 4 w))) s
    let t := t.loadWork s g (a + 64 + 256 * g.grains)
    let h := s.devNum a 64
    let t := (t.setHeader g.r.hdr (t.freshHeader (hdrEpoch h) (hdrPrint h))).usedFree 5
    (t.noteRegion c.id.ctx g.r.hdr (fld c.desc 239 192) g.r, .ok)

/-- A TAP_REGION_INIT row (R187, R210, R222, R223). -/
def State.runInit (s : State) (id : CmdId) (kind : Nat) (f : State → Cmd → Geo → State × Status) : State :=
  s.runTap id (fun d => isOp 0xA0 d && decide (fld d 321 320 = kind)) fun s c =>
    match s.initGeo c with
    | .error st => (s, some st)
    | .ok g => s.onEngines g (List.range g.grains) fun s =>
      let r := f (s.captureAll g) c g
      (r.1, some r.2)

/-- TAP_REGION_INIT from the working copy (R223). -/
def execTapInitCopy (id : CmdId) (s : State) : Host.Outcome State Fault Refusal :=
  .next (s.runInit id 0 State.initCopy)

/-- TAP_REGION_INIT from an image (R223). -/
def execTapInitImage (id : CmdId) (s : State) : Host.Outcome State Fault Refusal :=
  .next (s.runInit id 1 State.initImage)

/-! ### TAP_UPDATE -/

/-- An update ready to run: its geometry, header, step size, gradient rows, covered grains and entries
skipped. -/
structure UpdJob where
  g : Geo
  h : Nat
  eta : Nat
  rows : Tab (List FVal)
  cover : Tab (List Nat)
  skipped : Nat
  deriving DecidableEq, Repr

/-- The step size of an update; none while it has to wait for the pace (R203, R205). -/
def State.updEta (s : State) (c : Cmd) (r : Tap) (h : Nat) : Except Status (Option Nat) :=
  let own := fld c.desc 415 384
  if flag c.desc 452 then .ok (some (bits h 95 64))
  else if !(f32 own).isZero then .ok (some own)
  else
    let mult := fun e => toF32 ((f32 e).mul (f32 r.lrMult))
    match c.latch.step with
    | some e => .ok (some (mult e))
    | none =>
      if c.latch.lost || s.pace.mode.lost then .error .paceLost
      else if s.pace.mode = .unlocked then .ok none
      else .ok (some (mult (((s.sched c.id.ctx r.sched).published s.pace.stride).getD (s.freeVal 0 % 2 ^ 32))))

/-- The gradient rows of an update by local slot, with the entries skipped; none where its list cannot be read; no
rows for a dense region (R214, R244). -/
def State.updRows (s : State) (c : Cmd) (g : Geo) : Option (Tab (List FVal) × Nat) :=
  let a := fld c.desc 287 240
  if !g.r.isTable then some ([], 0)
  else if s.devReadBad a (s.listHead a).size then none
  else some (s.tapRows g a)

/-- The parameters of an update with those rows, by grain (R189, R214). -/
def Geo.updCover (g : Geo) (rows : Tab (List FVal)) : Tab (List Nat) :=
  g.cover (if g.r.isTable then g.ofSlots (rows.map (·.1)) else g.all)

/-- The grains an update covers as far as they can be told (R187, R214). -/
def State.updGrains (s : State) (c : Cmd) (g : Geo) : List Nat :=
  ((s.updRows c g).map fun x => (g.updCover x.1).map (·.1)).getD []

/-- A dense gradient cannot be read (R244). -/
def State.gradBad (s : State) (c : Cmd) (g : Geo) : Bool :=
  let f := fld c.desc 451 448
  let b := ((FC.ofCode f).getD .fp32).bits / 8
  !g.r.isTable && (s.devReadBad (fld c.desc 287 240) (g.n * b) ||
    (decide (f = 0xC) && s.devReadBad (fld c.desc 335 288) ((g.n + 31) / 32)))

/-- What an update meets before it may write, in the order of R13: a status, a wait, or the job (R13, R203, R205,
R210, R211, R214, R219). -/
def State.updJob (s : State) (c : Cmd) : Except Status (Option UpdJob) :=
  let resume := flag c.desc 452
  let busy := fun h => if hdrPending h = resume then none else some Status.invalid
  match s.openTap c busy with
  | .no st => .error st
  | .lost g | .gone g => .error (s.lostStatus g (s.updGrains c g))
  | .yes g h =>
    match (if g.r.isTable then s.tapListChecks c.id.ctx g (fld c.desc 287 240) else Checks.pass).first false with
    | some st => .error st
    | none =>
      if (s.enginesFor g (s.updGrains c g)).isNone then .error .unitRetired
      else
        match s.updEta c g.r h with
        | .error st => .error st
        | .ok none => .ok none
        | .ok (some eta) =>
          match s.updRows c g with
          | none => .error .dataSuspect
          | some x =>
            if s.gradBad c g then .error .dataSuspect
            else .ok (some ⟨g, h, eta, x.1, g.updCover x.1, x.2⟩)

/-- The environment of a job. -/
def UpdJob.env (j : UpdJob) (c : Cmd) : UpdEnv :=
  updEnv j.g ((hdrEpoch j.h + 1) % 2 ^ 32) (f32 j.eta) (f32 (fld c.desc 447 416))

/-- The norm record an update is to write, none where NORM_ADDR is 0 (R198, R221). -/
def normOf (d : Desc) (r : Tap) (t : Nat) (x : Totals) : Option NormRecord :=
  if fld d 383 336 = 0 then none
  else some ⟨fld d 383 336 + 32 * r.layer, flag d 453, t % 2 ^ 32, toF32 x.w2, toF32 x.g2, toF32 x.u2, x.elems,
    x.skipped⟩

/-- A norm record written: over the stored one, or added to it (R221). -/
def State.writeNorm (s : State) (x : NormRecord) : State :=
  let old := s.devNum x.addr 32
  let sum := fun (lo v : Nat) => if x.acc then toF32 ((f32 (bits old (lo + 31) lo)).add (f32 v)) else v
  let cnt := fun (lo n : Nat) => min 0xFFFFFFFF (n + if x.acc then bits old (lo + 31) lo else 0)
  s.devWrite x.addr (toBytes 32 (x.epoch + sum 32 x.w2 * 2 ^ 32 + sum 64 x.g2 * 2 ^ 64 + sum 96 x.u2 * 2 ^ 96 +
    cnt 128 x.elems * 2 ^ 128 + cnt 160 x.skipped * 2 ^ 160))

/-- A norm record meets poison (R244). -/
def State.normBad (s : State) (x : NormRecord) : Bool := (x.acc && s.devReadBad x.addr 32) || s.devWriteBad x.addr 32

/-- What an update has counted: units skipped, and its conversions against its tensor group: those of the
working copy under their format, those of first moments under E4M3 (R115, R199, R200, log entry 94). -/
def State.countTotals (s : State) (c : Cmd) (g : Geo) (x : Totals) : State :=
  ((s.tally c.id.ctx 0x7131 5 x.units).health c.id.ctx (fld c.desc 461 454) g.fmt.code x.convs).health c.id.ctx
    (fld c.desc 461 454) 0x3 x.mcodes

/-- The step size latched before any grain is written, and the ratio of mode 0x4 with the flag of phase 1
(R197, R203). -/
def State.latchEta (s : State) (j : UpdJob) (ratio : Option Nat) : State :=
  let h := setBits (s.tapHeader j.g.r.hdr) 95 64 j.eta
  s.setHeader j.g.r.hdr (match ratio with
    | some r => setBits (setBits h 257 257 1) 127 96 r
    | none => setBits h 257 257 0)

/-- The work of an update over: working copy, counts, undo records released; what its completion brings is
noted until its record is written (R190, R206, R216, R221, R325). -/
def State.commitUpdate (s : State) (c : Cmd) (j : UpdJob) (x : Totals) : State × Status :=
  let v := j.env c
  let r := s.putCodes j.g x.codes
  let t := r.1.countTotals c j.g x
  let norm := normOf c.desc j.g.r v.t x
  let done : TapDone := ⟨c.id, j.g.r.hdr, v.t, x.print % 2 ^ 64, min 0xFFFFFFFF j.skipped, norm⟩
  ({ t with
      undo := t.undo.filter fun (y : Undo) => decide (y.header ≠ j.g.r.hdr)
      tapDone := t.tapDone ++ [done] }, if r.2 || norm.any t.normBad then .dataSuspect else .ok)

/-- An update complete: its region's epoch raised, its fingerprint stored, its norm record written (R191, R216,
R221, R325). -/
def State.tapComplete (s : State) (id : CmdId) : State :=
  let mine := s.tapDone.filter fun x => decide (x.cmd = id)
  let t := { s with tapDone := s.tapDone.filter fun x => decide (x.cmd ≠ id) }
  mine.foldl (fun (t : State) x =>
    let t := t.setHeader x.header (x.header_ (t.tapHeader x.header))
    match x.norm with
    | some y => t.writeNorm y
    | none => t) t

/-- An update aborted while its record is held: its grains are committed for the next epoch, PENDING is set, and
EPOCH, the fingerprint and the norm record stay (R211, R326). -/
def State.tapUndone (s : State) (id : CmdId) : State :=
  let mine := s.tapDone.filter fun x => decide (x.cmd = id)
  let t := { s with tapDone := s.tapDone.filter fun x => decide (x.cmd ≠ id) }
  mine.foldl (fun (t : State) x => t.setHeader x.header (setBits (t.tapHeader x.header) 256 256 1)) t

/-- The grains an update works on, and what was committed before (R212). -/
def State.tapWork (s : State) (c : Cmd) (j : UpdJob) (ratio : Option FVal) (todo : Tab (List Nat)) :
    State × Totals :=
  let v := j.env c
  let grad := s.tapGrad j.g c.desc j.rows
  let s := (s.journalMark c.id.ctx j.g (todo.map (·.1))).latchEta j (ratio.map toF32)
  match ratio with
  | some r => (s.phase1 v grad todo).phase2 v grad r c.id.ctx todo
  | none => s.updateGrains v grad (.ofNat 1) c.id.ctx todo

/-- The work of an update from its start (R192 to R200, R206). -/
def State.runUpdate (s : State) (c : Cmd) (j : UpdJob) : State × Status :=
  let ratio := if j.g.r.mode = 4 then some (s.trustRatio (j.env c) (s.tapGrad j.g c.desc j.rows) j.cover) else none
  let r := s.tapWork c j ratio j.cover
  r.1.commitUpdate c j r.2

/-- The work of a RESUME: moments of uncommitted grains restored, then those grains updated; the
fingerprint also covers the grains committed before (R212). -/
def State.runResume (s : State) (c : Cmd) (j : UpdJob) : State × Status :=
  let v := j.env c
  let s := s.rollBack j.g v.t
  let todo := j.cover.filter fun x => !s.isCommitted j.g v.t x.1
  let done := j.cover.filter fun x => s.isCommitted j.g v.t x.1
  let pre := s.printOf j.g v.t (done.map (·.2)).flatten
  let ratio :=
    if j.g.r.mode ≠ 4 then none
    else if hdrPhase1 j.h then some (f32 (bits j.h 127 96))
    else some (s.trustRatio v (s.tapGrad j.g c.desc j.rows) j.cover)
  let r := s.tapWork c j ratio todo
  r.1.commitUpdate c j { r.2 with print := r.2.print + pre }

/-- A covered grain cannot be read (R219). -/
def State.grainsBad (s : State) (g : Geo) (cover : Tab (List Nat)) : Bool :=
  cover.any fun x => s.devReadBad (g.grainAt x.1) 256

/-- A grain of a job, or an undo record that its RESUME needs, cannot be read (R212, R219). -/
def State.jobBad (s : State) (c : Cmd) (j : UpdJob) : Bool :=
  s.grainsBad j.g j.cover || (flag c.desc 452 && s.undoBad j.g (j.env c).t)

/-- The region of an update is lost if its header cannot be read (R219). -/
def State.loseUnread (s : State) (c : Cmd) : State :=
  match s.openTap c fun _ => none with
  | .lost g => s.loseRegion c g.r.hdr
  | _ => s

/-- An update row. -/
def State.runUpd (s : State) (id : CmdId) (resume : Bool) (work : State → Cmd → UpdJob → State × Status) :
    State :=
  s.runTap id (fun d => isOp 0xA1 d && decide (flag d 452 = resume)) fun s c =>
    match s.updJob c with
    | .error st => (s.loseUnread c, some st)
    | .ok none => (s, none)
    | .ok (some j) => s.onEngines j.g (j.cover.map (·.1)) fun s =>
      if s.jobBad c j then (s.loseRegion c j.g.r.hdr, some .dataSuspect)
      else if s.journalFull j.g (j.cover.map (·.1)) then (s, none)
      else ((work s c j).1, some (work s c j).2)

/-- TAP_UPDATE: one epoch's update of a region (R192 to R201). -/
def execTapUpdate (id : CmdId) (s : State) : Host.Outcome State Fault Refusal :=
  .next (s.runUpd id false State.runUpdate)

/-- TAP_UPDATE with RESUME: the pending epoch completed (R212). -/
def execTapUpdateResume (id : CmdId) (s : State) : Host.Outcome State Fault Refusal :=
  .next (s.runUpd id true State.runResume)

/-- What ties a grain to others in an abort: its slice, and the rows it holds parts of, which are written whole
(R190, R211). -/
def State.abortKeys (s : State) (g : Geo) (x : Nat × List Nat) : List (Nat × Nat × Nat) :=
  (0, s.tapSlice g x.1) :: if g.r.isTable then (x.2.map fun n => (1, n / g.e, 0)).eraseDups else []

/-- Grains in groups that share a slice or a row. -/
def State.abortGroups (s : State) (g : Geo) (l : Tab (List Nat)) : List (List (Nat × Nat × Nat) × List Nat) :=
  l.foldl (fun acc x =>
    let k := s.abortKeys g x
    let hit := acc.filter fun y => y.1.any fun z => decide (z ∈ k)
    let rest := acc.filter fun y => !(y.1.any fun z => decide (z ∈ k))
    rest ++ [(k ++ (hit.map (·.1)).flatten, (hit.map (·.2)).flatten ++ [x.1])]) []

/-- The grains an aborted update has committed: whole slices, and whole rows of a table; which ones is open
(R190, R211, log entry 32). -/
def State.abortSplit (s : State) (g : Geo) (l : Tab (List Nat)) : Tab (List Nat) :=
  let groups := s.abortGroups g l
  let took := (((List.range groups.length).zip groups).filter fun x => decide (s.freeVal (2 + x.1) % 2 = 1)).map
    fun x => x.2.2
  l.filter fun x => decide (x.1 ∈ took.flatten)

/-- An update has not begun: it waits for its engines' test, or for room in a journal (R207, R224). -/
def State.updWaits (s : State) (c : Cmd) (j : UpdJob) : Bool :=
  let qs := j.cover.map (·.1)
  decide (c.errors = 0) && ((s.enginesFor j.g qs).any (fun l => l.any fun e => s.blocked (.taproot e)) ||
    s.journalFull j.g qs)

/-- An update stopped at its block-slice boundaries: some grains committed, PENDING set, its step size
latched, EPOCH unchanged; in mode 0x4 it stops in either phase. One that has not begun changes nothing, and one that
meets a grain or a header that cannot be read loses its region (R211, R219). -/
def State.stopUpdate (s : State) (c : Cmd) : State :=
  match s.updJob c with
  | .error _ => s.loseUnread c
  | .ok none => s
  | .ok (some j) =>
    if s.updWaits c j then s
    else if s.jobBad c j then s.loseRegion c j.g.r.hdr
    else
      let v := j.env c
      let resume := flag c.desc 452
      let grad := s.tapGrad j.g c.desc j.rows
      let s0 := if resume then s.rollBack j.g v.t else s
      let todo := j.cover.filter fun x => !(resume && s0.isCommitted j.g v.t x.1)
      let part := s0.abortSplit j.g todo
      let s0 := s0.journalMark c.id.ctx j.g ((if j.g.r.mode = 4 then todo else part).map (·.1))
      let before := resume && hdrPhase1 j.h
      let second := before || decide (s.freeVal 0 % 2 = 1)
      let ratio := if before then f32 (bits j.h 127 96) else s0.trustRatio v grad j.cover
      let r : State × Totals :=
        if j.g.r.mode ≠ 4 then (s0.latchEta j none).updateGrains v grad (.ofNat 1) c.id.ctx part
        else if second then
          ((s0.latchEta j (some (toF32 ratio))).phase1 v grad todo).phase2 v grad ratio c.id.ctx part
        else ((s0.latchEta j none).phase1 v grad part, Totals.start)
      let t := (r.1.putCodes j.g r.2.codes).1.countTotals c j.g r.2
      (t.setHeader j.g.r.hdr (setBits (t.tapHeader j.g.r.hdr) 256 256 1)).usedFree (2 + j.g.grains)

/-- The status an update that is to stop meets at that point before ABORTED, in the order of R13 (R13, R205, R210,
R219). -/
def State.updStop (s : State) (c : Cmd) : Option Status :=
  if s.tapWaits c then none
  else
    match s.updJob c with
    | .error st => if st = .unitRetired ∨ st = .paceLost ∨ st = .dataSuspect then some st else none
    | .ok none => none
    | .ok (some j) => if !s.updWaits c j && s.jobBad c j then some .dataSuspect else none

/-! ### TAP_VERIFY -/

/-- The parameters a verification covers: those of a list's rows, or the whole region (R218). -/
def State.verifyParams (s : State) (g : Geo) (a : Nat) : List Nat :=
  if g.r.isTable then g.ofSlots ((s.tapRows g a).1.map (·.1)) else g.all

/-- The grains a verification covers, as far as its list can be read (R187, R218). -/
def State.verifyGrains (s : State) (c : Cmd) (g : Geo) : List Nat :=
  let a := fld c.desc 287 240
  if g.r.isTable && s.devReadBad a (s.listHead a).size then []
  else (g.cover (s.verifyParams g a)).map (·.1)

/-- Tests of an owner verification are running. -/
def State.verifyTests (s : State) : Bool := s.recorder.tests.any fun t => decide (t.cause = 4)

/-- The twenty taproot engines in service sent to their tests (R218). -/
def State.askVerifyTests (s : State) : State :=
  let l := (List.range 20).filter fun n => !s.retired (.taproot n)
  { s with recorder := { s.recorder with
      tests := l.foldl (fun a n => addTest a ⟨.taproot n, none, 4, false, 0x2001, false⟩) s.recorder.tests } }

/-- A verification with a recomputed fingerprint that differs ends after its tests: the owner's copy stays
the reference and its fingerprint is replaced, or the region is lost (R218). -/
def State.verifyEndHere (s : State) (g : Geo) (print : Nat) : State :=
  s.setHeader g.r.hdr (setBits (setBits (s.tapHeader g.r.hdr) 191 128 print) 261 261 1)

/-- TAP_VERIFY: the fingerprint recomputed and compared; where it differs every engine is tested first
(R218). -/
def execTapVerify (id : CmdId) (s : State) : Host.Outcome State Fault Refusal :=
  .next (s.runTap id (isOp 0xA3) fun s c =>
    let a := fld c.desc 287 240
    match s.openTap c fun h => if hdrPending h then some .busy else none with
    | .no st => (s, some st)
    | .lost g => (s.loseRegion c g.r.hdr, some (s.lostStatus g (s.verifyGrains c g)))
    | .gone g => (s, some (s.lostStatus g (s.verifyGrains c g)))
    | .yes g h =>
      let chk := if g.r.isTable then s.tapListChecks id.ctx g a else Checks.pass
      match chk.first false with
      | some st => (s, some st)
      | none =>
        if g.r.isTable && s.devReadBad a (s.listHead a).size then (s, some .dataSuspect)
        else
          let ps := s.verifyParams g a
          let print := s.printOf g (hdrEpoch h) ps
          if c.verifying then
            if s.verifyTests then (s, none)
            else if c.failed then (s.loseRegion c g.r.hdr, some .dataSuspect)
            else (s.verifyEndHere g print, some .ok)
          else s.onEngines g ((g.cover ps).map (·.1)) fun s =>
            if ps.any fun n => s.devReadBad (g.workAt n) g.size then (s, some .dataSuspect)
            else if print = hdrPrint h then (s, some .ok)
            else
              let t := (s.tally id.ctx 0x7131 2 1).recordEvent (cmdEvent c 0x2003 .none_ s.mgmtLoc 0 0xFF)
              (t.askVerifyTests.updCmd id fun x => { x with verifying := true }, none))

/-! ### TAP_SNAPSHOT -/

/-- The destination of a snapshot (R222). -/
def snapExtent (g : Geo) (d : Desc) : Extent :=
  if fld d 289 288 = 1 then imageExtent g (fld d 287 240) else .flat .dev (fld d 287 240) (g.n * g.size)

/-- The region of a running snapshot is lost, or data it reads is (R219). -/
def State.snapLost (s : State) (g : Geo) : Bool :=
  s.devReadBad g.r.hdr 64 || s.grainsBad g (g.cover g.all)

/-- TAP_SNAPSHOT: every grain not yet captured is captured, and the snapshot ends (R213, R219, R222). -/
def execTapSnapshot (id : CmdId) (s : State) : Host.Outcome State Fault Refusal :=
  .next (match s.runnable id (isOp 0xA4) with
    | none => s
    | some c =>
      let g := s.snapGeo c
      let h := s.tapHeader g.r.hdr
      match s.enginesFor g (List.range g.grains) with
      | none => s.finish id .unitRetired
      | some l =>
        if s.tapFull c || l.any fun e => s.blocked (.taproot e) then s
        else if s.snapLost g then (s.loseRegion c g.r.hdr).finish id .dataSuspect
        else if hdrLost h then s.finish id .dataSuspect
        else
          let bad := s.regionsBad g.workExtents
          let r := s.capture g c.desc (hdrParity h) ((List.range g.grains).filter (s.uncaptured g h))
          let t := r.1.setHeader g.r.hdr (setBits (r.1.tapHeader g.r.hdr) 259 259 0)
          t.finish id (if bad || r.2 then .dataSuspect else .ok))

/-- A snapshot stopped: its destination undefined, the region as it was (R222). -/
def State.stopSnap (s : State) (c : Cmd) : State :=
  let g := s.snapGeo c
  let h := s.tapHeader g.r.hdr
  if !hdrSnap h then s
  else
    let back := 1 - b2n (hdrParity h)
    let t := (List.range g.grains).foldl (fun (t : State) q =>
      t.devWrite (g.grainAt q + 252) (toBytes 4 (setBits (t.commitWord g q) 31 31 back))) s
    t.setHeader g.r.hdr (setBits (setBits h 260 260 back) 259 259 0)

/-- A released TAP_REGION_INIT, TAP_VERIFY or TAP_SCHED has not begun: it waits behind others, or for an engine under
test or calibration (R213, R224, R328). -/
def State.tapIdle (s : State) (c : Cmd) : Bool :=
  let g := s.snapGeo c
  let busy := fun qs => (s.enginesFor g qs).any fun l => l.any fun e => s.blocked (.taproot e)
  match opcode c.desc with
  | 0xA0 => s.tapWaits c || busy (List.range g.grains)
  | 0xA2 => s.tapFull c
  | 0xA3 => !c.verifying && (s.tapWaits c || busy (s.verifyGrains c g))
  | _ => false

/-- A snapshot that is to stop meets an engine pair retired, or a region that cannot be read (R13, R210, R219). -/
def State.snapStop (s : State) (c : Cmd) : Option Status :=
  let g := s.snapGeo c
  if (s.enginesFor g (List.range g.grains)).isNone then some .unitRetired
  else if hdrLost (s.tapHeader g.r.hdr) || s.snapLost g then some .dataSuspect
  else none

/-- The status a taproot command that is to stop meets there before ABORTED (R13). -/
def State.tapStop (s : State) (c : Cmd) : Option Status :=
  if isOp 0xA1 c.desc then s.updStop c else if isOp 0xA4 c.desc then s.snapStop c else none

/-- A released taproot command stopped by an abort or a firebreak: an update at its slice boundaries, one that
waits with nothing done; a snapshot leaves its region as it was (R211, R222, R328). -/
def State.stopTap (s : State) (c : Cmd) : State :=
  if isOp 0xA1 c.desc then (if s.tapWaits c then s else s.stopUpdate c)
  else if isOp 0xA4 c.desc then
    let g := s.snapGeo c
    let t := s.stopSnap c
    if s.snapLost g && !hdrLost (s.tapHeader g.r.hdr) then t.loseRegion c g.r.hdr else t
  else s

/-- What a taproot command writes that is undefined where it ends short: a region being prepared, a snapshot's
destination; an update's grains stay as R211 says (R10, R211, R222, R326). -/
def State.taprootOutputs (s : State) (c : Cmd) : List Extent :=
  let g := s.snapGeo c
  match opcode c.desc with
  | 0xA0 => [g.state, .flat .dev g.r.hdr 64] ++ if fld c.desc 321 320 = 1 then g.workExtents else []
  | 0xA4 => [snapExtent g c.desc]
  | _ => []

/-! ### Admission -/

/-- A region in a context's memory that holds the record to be read there (R226, R239). -/
def State.mayRead (s : State) (c a : Nat) : Bool :=
  let x := s.stackRegion c a 64 64
  !x.invalid && !x.denied

/-- The record a region's storage is described by may be read and describes it: for a dense region its own fields, for
a table region the descriptor record at WORK_BASE (R186, R226). -/
def State.geoKnown (s : State) (c a : Nat) : Bool :=
  let x := s.devNum a 64
  let r := tapOf x
  s.mayRead c a && !tapBad x && (!r.isTable || (s.mayRead c r.work && !recordBad (s.devNum r.work 64)))

/-- The local rows of a version as an extent (R151, R152). -/
def TableDesc.localExtent (t : TableDesc) : Extent := ⟨.dev, t.base, t.localRows, t.pitch, t.rowBytes⟩

/-- The checks of the local rows of a table's current version, none without one (R231, R232, R239). -/
def State.versionChecks (s : State) (c table : Nat) : Checks :=
  match s.currentVersion c table with
  | none => Checks.pass
  | some v =>
    let e := v.desc.localExtent
    s.stackRows c e.addr e.rows e.pitch e.n

/-- The checks of a region record and of the storage it names; where the record may not be read nothing it says is
looked at (R12, R186, R225, R226, R231, R232, R239). -/
def State.regionChecks (s : State) (c a : Nat) : Checks :=
  let pre := s.stackRegion c a 64 64
  if !s.mayRead c a then pre
  else
    let x := s.devNum a 64
    let r := tapOf x
    let g := s.geo r none
    Checks.all [pre, Checks.inv (tapBad x), s.stackRegion c r.hdr 64 64,
      if r.isTable then s.stackRegion c r.work 64 64 else Checks.pass,
      Checks.inv (r.isTable && s.mayRead c r.work && recordBad (s.devNum r.work 64)),
      s.stackRegion c r.base (if s.geoKnown c a then 256 * g.grains else 256) 65536,
      if r.isTable then s.versionChecks c r.tableId else s.stackRegion c r.work (g.n * g.size) 1]

/-- The checks of a TAP_SCHED body (R204, R226). -/
def State.schedChecks (s : State) (c : Nat) (d : Desc) : Checks :=
  let op := fld d 308 307
  let a := fld d 239 192
  let pre := (Checks.inv (!reservedZero d [(511, 309)] || decide (1 < op) || (f32 (fld d 303 272)).special ||
    (decide (op = 0) && decide (fld d 303 272 ≠ 0 ∨ fld d 271 240 ≠ 0)) || (decide (op = 1) && decide (a ≠ 0)))).and
    (if op = 0 then s.stackRegion c a 64 64 else Checks.pass)
  if op ≠ 0 || !s.mayRead c a || s.devReadBad a 64 then pre
  else
    let x := s.devNum a 64
    let big := fun n => decide (2 ^ 31 ≤ n)
    pre.and (Checks.inv (decide (bits x 511 259 ≠ 0 ∨ 4 < bits x 258 256) || big (bits x 31 0) || big (bits x 191 160) ||
      big (bits x 223 192) || big (bits x 255 224)))

/-- A merged list a region's command names: its head, and where that heads a list of the region's table its full
size (R171, R226, log entry 95). -/
def State.tapListRegion (s : State) (c : Nat) (g : Geo) (known : Bool) (a : Nat) : Checks :=
  let head := s.stackRegion c a 64 64
  if !known || !s.mayRead c a || (s.tapListChecks c g a).invalid then head
  else head.and (s.tapListChecks c g a)

/-- A field of a taproot command's own body is malformed, whatever its region is (R8, R226). -/
def tapBodyBad (d : Desc) : Bool :=
  match opcode d with
  | 0xA0 =>
    let k := fld d 321 320
    !reservedZero d [(511, 322)] || decide (1 < k) || (decide (k = 0) && decide (fld d 287 240 ≠ 0)) ||
      (decide (k = 1) && decide (fld d 319 288 ≠ 0))
  | 0xA1 =>
    let f := fld d 451 448
    !reservedZero d [(511, 462)] || (f32 (fld d 447 416)).special || (f32 (fld d 415 384)).special ||
      (decide (f ≠ 0xC) && decide (fld d 335 288 ≠ 0)) || !listFormat f
  | 0xA3 => !reservedZero d [(511, 288)]
  | _ => !reservedZero d [(511, 290)] || decide (1 < fld d 289 288) || decide (fld d 287 240 % 64 ≠ 0)

/-- The checks of TAP_UPDATE's inputs, over their whole extent where the region's geometry is known (R225,
R226). -/
def State.updChecks (s : State) (c : Nat) (d : Desc) (g : Geo) (known : Bool) : Checks :=
  let f := fld d 451 448
  let b := ((FC.ofCode f).getD .fp32).bits / 8
  Checks.all [Checks.inv (g.r.isTable && decide (f ≠ 0)),
    if g.r.isTable then s.tapListRegion c g known (fld d 287 240)
      else s.stackRegion c (fld d 287 240) (g.n * b) 1,
    if !g.r.isTable && decide (f = 0xC) then s.stackRegion c (fld d 335 288) ((g.n + 31) / 32) 1 else Checks.pass,
    if fld d 383 336 = 0 then Checks.pass else s.stackRegion c (fld d 383 336 + 32 * g.r.layer) 32 1]

/-- The checks of a taproot command's body; what its region's record names is looked at wherever the record may be
read, so that a denied header or table record hides no INVALID (R12, R225, R226). -/
def State.taprootChecks (s : State) (c : Nat) (d : Desc) : Checks :=
  if isOp 0xA2 d then s.schedChecks c d
  else if !decide (opcode d = 0xA0 ∨ opcode d = 0xA1 ∨ opcode d = 0xA3 ∨ opcode d = 0xA4) then Checks.inv true
  else
    let rec_ := fld d 239 192
    let pre := (Checks.inv (tapBodyBad d)).and (s.regionChecks c rec_)
    let known := s.geoKnown c rec_
    let g := if known || !(s.tapRec d).isTable then s.geo (s.tapRec d) none else ⟨s.tapRec d, tableDesc 0, 0, 0⟩
    let n := fun (k : Nat) => if known then k else 64
    if !s.mayRead c rec_ then pre
    else
      pre.and (match opcode d with
        | 0xA0 => if fld d 321 320 = 1 then s.stackRegion c (fld d 287 240) (n (imageExtent g 0).n) 1 else Checks.pass
        | 0xA1 => s.updChecks c d g known
        | 0xA3 =>
          let a := fld d 287 240
          if g.r.isTable then s.tapListRegion c g known a else Checks.inv (decide (a ≠ 0))
        | _ => s.devRegion c (fld d 287 240) (n (if fld d 289 288 = 1 then (imageExtent g 0).n else g.n * g.size)) 64)

/-! ### Serving replicas -/

/-- The shard region of a table in a context (R185). -/
def State.shardRegion (s : State) (c table : Nat) : Option Region :=
  s.regions.find? fun r => decide (r.ctx = c ∧ r.table = some table)

/-- The geometry a replica fetch is served from: the shard region in its table's current version
(R173, R215). -/
def State.fetchGeo (s : State) (x : Region) : Option Geo :=
  let r := tapOf (s.devNum x.record 64)
  ((x.table.bind (s.currentVersion x.ctx)).map fun v => s.geo r (some v.desc)).filter fun g =>
    (x.table.bind (s.currentVersion x.ctx)).any fun v => s.sameRows g.r v.desc

/-- The parameters that fingerprint parts of an answer carry: SHARD_TAG, epoch, stored fingerprint (R217,
log entry 23). -/
def fetchHead (tag epoch print : Nat) : List Byte := toBytes 4 tag ++ toBytes 4 epoch ++ toBytes 8 print

/-- The marks of the fetches an owner serves, without that of one fetch of a member, told by its first request's tag. -/
def State.otherFetches (s : State) (member header first : Nat) : List FetchServe :=
  s.fetches.filter fun q => !decide (q.member = member ∧ q.header = header ∧ q.first = first ∧ q.verify = false)

/-- The rows of a fetch sent from the owner's current version; the region is held until the fetch is over
(R173, R231, R232, R239). -/
def State.serveFetch (s : State) (f : Frame) (x : Region) (g : Geo) (epoch key : Nat) (first : Bool)
    (rows : List Nat) : State :=
  let h := s.tapHeader x.header
  let kept := s.otherFetches f.src x.header key
  let addr := fun r => g.base + g.t.slotOf r * g.pitch
  let reach := s.reachChecks x.ctx (rows.map fun r => .flat .dev (addr r) g.t.rowBytes)
  if hdrPending h || (s.doneOf x.header).isSome then s.sendRefused f .busy
  else if hdrEpoch h ≠ epoch ∨ (first = false ∧ kept = s.fetches) then s.sendRefused f .busy
  else if rows.any fun r => !(decide (r < g.t.rows) && g.t.isLocal r) then s.sendRefused f .invalid
  else if (reach.first false).isSome then s.sendRefused f ((reach.first false).getD .invalid)
  else if rows.any fun r => s.devReadBad (addr r) g.t.rowBytes then s.sendRefused f .dataSuspect
  else
    let body := fetchHead g.r.tag epoch (hdrPrint h) ++
      (rows.map fun r => s.devRead (addr r) g.t.rowBytes).flatten
    let mark : FetchServe := ⟨f.src, x.ctx, x.header, epoch, f.tag, false, [], false, key⟩
    let t := { s with fetches := kept ++ [mark] }
    t.sendFrame (t.mkFrame 0x32 f.ctx f.src f.tag 0 body)

/-- A verification a replica asks for, over the rows its frames have named: once the last has come it is
answered at once where the fingerprint stands, after the engines' tests where it does not (R217, R218). -/
def State.serveVerify (s : State) (f : Frame) (x : Region) (g : Geo) (key : Nat) (last : Bool) (rows : List Nat) :
    State :=
  let h := s.tapHeader x.header
  let kept := s.otherFetches f.src x.header key
  let old := ((s.fetches.find? fun q => decide (q ∉ kept)).map (·.rows)).getD []
  let rows := old ++ rows
  let mark : FetchServe := ⟨f.src, x.ctx, x.header, hdrEpoch h, f.tag, false, if last then [] else rows, false,
    key⟩
  let t := { s with fetches := kept ++ [mark] }
  let ps := g.ofSlots (rows.filter (fun r => decide (r < g.t.rows) && g.t.isLocal r) |>.map g.t.slotOf)
  if !last || decide (t.printOf g (hdrEpoch h) ps = hdrPrint h) then
    t.sendFrame (t.mkFrame 0x32 f.ctx f.src f.tag 0 (fetchHead g.r.tag (hdrEpoch h) (hdrPrint h)))
  else
    let t := (t.tally x.ctx 0x7131 2 1).recordEvent (t.info 0x2003 0 0)
    { t.askVerifyTests with
      fetches := t.fetches ++ [⟨f.src, x.ctx, x.header, hdrEpoch h, f.tag, true, rows, false, key⟩] }

/-- A region's state is lost while a member is served: the flag set, counted and recorded (R219). -/
def State.loseServed (s : State) (x : Region) : State :=
  let u := (s.setHeader x.header (setBits (s.tapHeader x.header) 258 258 1)).tally x.ctx 0x7131 3 1
  u.recordEvent (u.info 0x2004 3 0)

/-- The verifications that replicas wait for, ended once the engines' tests are over: the fingerprint
replaced and sent, or the region lost (R217, R218). -/
def State.endVerifies (s : State) : State :=
  if s.verifyTests then s
  else
    let l := s.fetches.filter (·.verify)
    let t := { s with fetches := s.fetches.filter fun q => !q.verify }
    l.foldl (fun (t : State) q =>
      match (t.region? q.header).bind fun x => (t.fetchGeo x).map fun g => (x, g) with
      | none => t
      | some (x, g) =>
        let reply := fun (u : State) kind body => u.sendFrame (u.mkFrame kind q.ctx q.member q.tag 0 body)
        if q.failed then
          reply (t.loseServed x) 0x34 (toBytes 4 q.tag ++ toBytes 1 Status.dataSuspect.code)
        else
          let ps := g.ofSlots ((q.rows.filter fun r => decide (r < g.t.rows) && g.t.isLocal r).map g.t.slotOf)
          let print := t.printOf g q.epoch ps
          reply (t.verifyEndHere g print) 0x32 (fetchHead g.r.tag q.epoch print)) t

/-- The rows a FETCH_REQUEST names (log entry 23). -/
def fetchNames (f : Frame) : List Nat :=
  (List.range ((f.body.length - 12) / 8)).map fun k => ofBytes ((f.body.drop (12 + 8 * k)).take 8)

/-- The accesses that serving a FETCH_REQUEST makes: its region's header, and its rows by narrow accesses (R190,
R237). -/
def State.fetchAccess (s : State) (f : Frame) : List Access :=
  let b := ofBytes (f.body.take 12)
  match (s.shardRegion f.ctx (bits b 15 0)).filter fun _ => !b.testBit 17 with
  | none => []
  | some x => toAccesses false 0 [.flat .dev x.header 64] ++
    toAccesses false 1 (match s.fetchGeo x with
      | some g => (fetchNames f).map fun r => .flat .dev (g.base + g.t.slotOf r * g.pitch) g.t.rowBytes
      | none => [])

/-- FETCH_REQUEST served: from the shard region, while its committed epoch is the one asked for; a header that cannot
be read loses the region (R173, R211, R217, R219). -/
def State.onFetch (s : State) (f : Frame) : State :=
  let b := ofBytes (f.body.take 12)
  let fl := bits b 31 16
  let key := bits b 95 64
  let rows := fetchNames f
  match s.shardRegion f.ctx (bits b 15 0) with
  | none => s.sendRefused f .invalid
  | some x =>
    if fl.testBit 1 then { s with fetches := s.otherFetches f.src x.header key }
    else
    match s.fetchGeo x with
    | none => s.sendRefused f .invalid
    | some g =>
      if s.devReadBad x.header 64 then (s.loseServed x).sendRefused f .dataSuspect
      else if hdrLost (s.tapHeader x.header) then s.sendRefused f .dataSuspect
      else if fl.testBit 2 then s.serveVerify f x g key (fl.testBit 3) rows
      else s.serveFetch f x g (bits b 63 32) key (fl.testBit 0) rows

end Sys2Proof.Machine
end

