-- ==== Sys2Proof/Machine/Vector.lean ====
section
/-! DEFINITION. The vector commands (chapter The Vector Engine). -/

namespace Sys2Proof.Machine

/-! ### Functions -/

/-- A value's FP32 result of a function whose accuracy R124 bounds, on an input that is not special: an open
choice among the results the bound allows, a function of the input alone (R122, R124, log entry 20). -/
def oneUlp (f : Nat) (v : FVal) : FVal :=
  f32 (Fmt.fp32.within (ulpsOf f) (realFn f v) (Config.transcendental f (BitVec.ofNat 32 (toF32 v))).toNat)

/-- The larger of two values; NaN if either is, +0 of the two zeros (R125). -/
def fmax (a b : FVal) : FVal :=
  if a.isNan || b.isNan then .nan
  else if a.lt b then b else if b.lt a then a
  else if a.isZero then .fin (a.sign && b.sign) 0 0 else a

/-- The smaller of two values; NaN if either is, −0 of the two zeros (R125). -/
def fmin (a b : FVal) : FVal :=
  if a.isNan || b.isNan then .nan
  else if a.lt b then a else if b.lt a then b
  else if a.isZero then .fin (a.sign || b.sign) 0 0 else a

/-- 1.0 or +0. -/
def truth (b : Bool) : FVal := if b then .ofNat 1 else .zero

/-- The square root's reciprocal on special inputs, none elsewhere (R125). -/
def rsqrtSpecial : FVal → Option FVal
  | .nan => some .nan
  | .inf s => some (if s then .nan else .zero)
  | .fin s m _ => if m = 0 then some (.inf s) else if s then some .nan else none

/-- The reciprocal on special inputs (R125). -/
def recipSpecial : FVal → Option FVal
  | .nan => some .nan
  | .inf s => some (.fin s 0 0)
  | .fin s m _ => if m = 0 then some (.inf s) else none

/-- An exponential on special inputs: `top` is the least FP32 input whose exact result lies above the
FP32 range (R125). -/
def expSpecial (top : Nat) : FVal → Option FVal
  | .nan => some .nan
  | .inf s => some (if s then .zero else .inf false)
  | .fin s m e =>
    if m = 0 then some (.ofNat 1)
    else if (f32 top).le (.fin s m e) then some (.inf false) else none

/-- A logarithm on special inputs (R125). -/
def logSpecial : FVal → Option FVal
  | .nan => some .nan
  | .inf s => some (if s then .nan else .inf false)
  | .fin s m e =>
    if m = 0 then some (.inf true) else if s then some .nan
    else if (FVal.fin s m e).eq (.ofNat 1) then some .zero else none

/-- TANH, SIGMOID, GELU and SILU on special inputs: the results at −∞ and +∞, and at a zero
(R125). -/
def limitSpecial (lo hi : FVal) (zero : Bool → FVal) : FVal → Option FVal
  | .nan => some .nan
  | .inf s => some (if s then lo else hi)
  | .fin s m _ => if m = 0 then some (zero s) else none

/-- A zero of a sign. -/
def zeroOf (s : Bool) : FVal := .fin s 0 0

/-- A function's special result, or one within its bound (R124, R125). -/
def orOpaque (f : Nat) (special : FVal → Option FVal) (v : FVal) : FVal :=
  (special v).getD (oneUlp f v)

/-- e^x (R124, R125). -/
def fexp : FVal → FVal := orOpaque 0x0D (expSpecial 0x42B17218)

/-- The element functions of R123 on values already widened to FP32; none for a reserved code. -/
def elemFn (f : Nat) (a b c : FVal) : Option FVal :=
  match f with
  | 0x00 => some a
  | 0x01 => some (rnd32 (a.add b))
  | 0x02 => some (rnd32 (a.sub b))
  | 0x03 => some (rnd32 (a.mul b))
  | 0x04 => some (rnd32 (a.div b))
  | 0x05 => some (fma32 a b c)
  | 0x06 => some (fmax a b)
  | 0x07 => some (fmin a b)
  | 0x08 => some a.abs
  | 0x09 => some a.negate
  | 0x0A => some (rnd32 a.sqrt)
  | 0x0B => some (orOpaque 0x0B rsqrtSpecial a)
  | 0x0C => some (orOpaque 0x0C recipSpecial a)
  | 0x0D => some (fexp a)
  | 0x0E => some (orOpaque 0x0E (expSpecial 0x43000000) a)
  | 0x0F => some (orOpaque 0x0F logSpecial a)
  | 0x10 => some (orOpaque 0x10 logSpecial a)
  | 0x11 => some (orOpaque 0x11 (limitSpecial (.fin true 1 0) (.ofNat 1) zeroOf) a)
  | 0x12 => some (orOpaque 0x12 (limitSpecial .zero (.ofNat 1) fun _ => .fin false 1 (-1)) a)
  | 0x13 => some (orOpaque 0x13 (limitSpecial (zeroOf true) (.inf false) zeroOf) a)
  | 0x14 => some (orOpaque 0x14 (limitSpecial (zeroOf true) (.inf false) zeroOf) a)
  | 0x15 => some (truth (b.lt a))
  | 0x16 => some (truth (a.eq b))
  | 0x17 => some (if a.isZero then c else b)
  | 0x18 => some (fmin (fmax a b) c)
  | _ => none

/-- The functions that use operand B (R123). -/
def usesB (f : Nat) : Bool :=
  decide (1 ≤ f ∧ f ≤ 7) || decide (f = 0x15 ∨ f = 0x16 ∨ f = 0x17 ∨ f = 0x18)

/-- The functions that use operand C (R123). -/
def usesC (f : Nat) : Bool := decide (f = 5 ∨ f = 0x17 ∨ f = 0x18)

/-! ### Tiles, operands and masks -/

/-- The fields every vector command has (R143 to R146). -/
structure VecHead where
  core : Nat
  rows : Nat
  cols : Nat
  seed : Nat
  tgroup : Nat
  fd : FC
  dst : Nat
  pitchD : Nat
  deriving DecidableEq, Repr

/-- The common fields of a descriptor; none for a reserved destination format. -/
def vecHead (d : Desc) : Option VecHead := do
  let fd ← FC.ofCode (fld d 431 428)
  return ⟨standCore d, fld d 219 207, fld d 233 220, fld d 511 480, fld d 479 472, fd, fld d 407 384,
    fld d 427 408⟩

/-- A source operand (R120). -/
structure Operand where
  addr : Nat
  pitch : Nat
  f : FC
  cs : Bool
  deriving DecidableEq, Repr

/-- A source operand's four fields, the lowest bit of its address given (R143). -/
def operandAt (d : Desc) (lo : Nat) : Option Operand := do
  let f ← FC.ofCode (fld d (lo + 47) (lo + 44))
  return ⟨fld d (lo + 23) lo, fld d (lo + 43) (lo + 24), f, flag d (lo + 48)⟩

/-- Operand A where its column stride is not a field: always a full tile (R144 to R146). -/
def fullA (d : Desc) : Option Operand := (operandAt d 237).map fun o => { o with cs := true }

/-- Bytes of one row of an operand. -/
def Operand.rowBytes (o : Operand) (cols : Nat) : Nat :=
  Machine.rowBytes o.f.bits (if o.cs then cols else 1)

/-- The bytes from an operand's first to its last (R121). -/
def Operand.span (o : Operand) (rows cols : Nat) : Nat := spanBytes rows o.pitch (o.rowBytes cols)

/-- The code of element (r, c) of an operand (R120). -/
def State.opCode (s : State) (k : Nat) (o : Operand) (r c : Nat) : Nat :=
  s.elem (.core k) (o.addr + r * o.pitch) o.f.bits (if o.cs then c else 0)

/-- The value of element (r, c) of an operand without scales. -/
def State.opVal (s : State) (k : Nat) (o : Operand) (r c : Nat) : FVal := o.f.element (s.opCode k o r c)

/-- The mask of a command (R126). -/
structure Mask where
  kind : Nat
  addr : Nat
  pitch : Nat
  deriving DecidableEq, Repr

/-- The mask fields of a descriptor. -/
def maskOf (d : Desc) : Mask := ⟨fld d 235 234, fld d 456 433, fld d 471 457⟩

/-- Element (r, c) is unmasked (R126). -/
def State.valid (s : State) (k : Nat) (m : Mask) (r c : Nat) : Bool :=
  match m.kind with
  | 1 => (s.num (.core k) (m.addr + r * m.pitch + c / 8) 1).testBit (c % 8)
  | 2 => decide ((c : Int) ≤ (r : Int) + toSigned 24 m.addr)
  | _ => true

/-- The rounding of a vector conversion (R122). -/
def VecHead.rnd (h : VecHead) (r c : Nat) : Rnd := drainRnd h.seed r c

/-- One row of the destination: converted codes at the elements written, the old codes elsewhere; the
spare half of a last byte is free once the element beside it is written (R120, R127). -/
def State.vecRow (s : State) (h : VecHead) (r : Nat) (row : List (Option Conv)) : List Byte :=
  let w := h.fd.bits
  let a := h.dst + r * h.pitchD
  let old := fun (n : Nat) => s.elem (.core h.core) a w n
  let codes := (List.range row.length).map fun n =>
    match row.getD n none with
    | some q => q.code
    | none => old n
  let spare := if (row.getLastD none).isSome then s.freeVal 0 else old row.length
  packCodes w (if w * row.length % 8 = 4 then codes ++ [spare] else codes)

/-- The counters of a vector engine: elements written, and cycles lost by free amounts (R148, log
entry 3). -/
def State.countElems (s : State) (c core n : Nat) : State :=
  let i := 0x7110 + core / 12
  let u := core % 12
  (((s.tally c i (1 + u) n).tally c i (13 + u) (s.freeVal 1)).tally c i (25 + u) (s.freeVal 2)).usedFree 3

/-- The rows of a tile written: conversions written and counted, elements counted (R115, R148). -/
def State.writeTile (s : State) (c : Nat) (h : VecHead) (rows : List (List (Option Conv))) : State :=
  let t := s.setRows (.core h.core) h.dst h.pitchD
    ((List.range rows.length).map fun r => s.vecRow h r (rows.getD r []))
  let qs := (rows.flatten).filterMap id
  (t.countElems c h.core qs.length).health c h.tgroup h.fd.code qs


/-! ### VEC_ELEM -/

/-- The operands of VEC_ELEM: A, and B and C where FUNC uses them; C may be the immediate (R143). -/
structure ElemBody where
  h : VecHead
  func : Nat
  a : Operand
  b : Option Operand
  c : Option Operand
  imm : Nat
  mask : Mask
  zeros : Bool
  deriving DecidableEq, Repr

/-- The body of VEC_ELEM; none for a reserved format code it uses. -/
def elemBody (d : Desc) : Option ElemBody := do
  let h ← vecHead d
  let f := fld d 206 199
  let a ← operandAt d 237
  let b ← if usesB f then (operandAt d 286).map some else some none
  let c ← if usesC f && !flag d 432 then (operandAt d 335).map some else some none
  return ⟨h, f, a, b, c, fld d 366 335, maskOf d, flag d 236⟩

/-- The value of an operand that may be absent. -/
def State.optVal (s : State) (k : Nat) (o : Option Operand) (r c : Nat) (d : FVal) : FVal :=
  match o with
  | some o => s.opVal k o r c
  | none => d

/-- The result of VEC_ELEM at (r, c): none where the element stays unwritten (R123, R127). -/
def State.elemAt (s : State) (b : ElemBody) (r c : Nat) : Option Conv :=
  let k := b.h.core
  if s.valid k b.mask r c then
    let v := (elemFn b.func (s.opVal k b.a r c) (s.optVal k b.b r c .zero)
      (s.optVal k b.c r c (f32 b.imm))).getD .nan
    some (b.h.fd.convert (b.h.rnd r c) v)
  else if b.zeros then some (b.h.fd.convert .rne .zero) else none

/-! ### Reductions -/

/-- A lane sum in the fixed order of R129: 128 lanes, then a tree. -/
def laneSum (f : FVal → FVal → FVal) (xs : List (Nat × FVal)) : FVal :=
  let lanes := (List.range 128).map fun l =>
    (xs.filter fun p => decide (p.1 % 128 = l)).foldl (fun s p => f s p.2) .zero
  let tree := [64, 32, 16, 8, 4, 2, 1].foldl (fun (l : List FVal) w =>
    (List.range w).map fun i => rnd32 ((l.getD i .zero).add (l.getD (i + w) .zero))) lanes
  tree.getD 0 .zero

/-- The running sum of SUM and of SUMSQ (R128). -/
def addTerm (s x : FVal) : FVal := rnd32 (s.add x)
/-- The running sum of squares, each term fused. -/
def addSquare (s x : FVal) : FVal := fma32 x x s

/-- The index of the first largest value, or of the first NaN (R128). -/
def argmax : List (Nat × FVal) → Option (Nat × FVal)
  | [] => none
  | p :: t => t.foldl (fun (best : Option (Nat × FVal)) q =>
      match best with
      | some b => if b.2.isNan then some b else if q.2.isNan || b.2.lt q.2 then some q else some b
      | none => some q) (some p)

/-- A reduction of the unmasked elements, each with its index along the axis (R128, R129). -/
def reduceFn (f : Nat) (axisRows : Bool) (xs : List (Nat × FVal)) : FVal :=
  let step := if f = 1 then addSquare else addTerm
  match f with
  | 0x02 => xs.foldl (fun m p => fmax m p.2) (.inf true)
  | 0x03 => xs.foldl (fun m p => fmin m p.2) (.inf false)
  | 0x04 => xs.foldl (fun m p => fmax m p.2.abs) .zero
  | _ => if axisRows then xs.foldl (fun s p => step s p.2) .zero else laneSum step xs

/-- A result combined with the value at its destination (R129). -/
def combineFn (f : Nat) (old new : FVal) : FVal :=
  match f with
  | 0x02 | 0x04 => fmax old new
  | 0x03 => fmin old new
  | _ => rnd32 (old.add new)

/-- The body of VEC_REDUCE (R144). -/
structure ReduceBody where
  h : VecHead
  func : Nat
  a : Operand
  mask : Mask
  axisRows : Bool
  combine : Bool
  deriving DecidableEq, Repr

/-- The body read from a descriptor. -/
def reduceBody (d : Desc) : Option ReduceBody := do
  let h ← vecHead d
  let a ← fullA d
  return ⟨h, fld d 206 199, a, maskOf d, flag d 285, flag d 286⟩

/-- How many results a reduction writes (R128). -/
def ReduceBody.results (b : ReduceBody) : Nat := if b.axisRows then b.h.cols else b.h.rows

/-- The unmasked elements of line n of a reduction. -/
def State.reduceLine (s : State) (b : ReduceBody) (n : Nat) : List (Nat × FVal) :=
  let at_ := fun (i : Nat) => if b.axisRows then (i, n) else (n, i)
  ((List.range (if b.axisRows then b.h.rows else b.h.cols)).filter fun i =>
      s.valid b.h.core b.mask (at_ i).1 (at_ i).2).map fun i =>
    (i, s.opVal b.h.core b.a (at_ i).1 (at_ i).2)

/-- Result n of a reduction that is not ARGMAX, converted (R129). -/
def State.reduceAt (s : State) (b : ReduceBody) (n : Nat) : Conv :=
  let v := reduceFn b.func b.axisRows (s.reduceLine b n)
  let old := b.h.fd.element (s.elem (.core b.h.core) b.h.dst b.h.fd.bits n)
  let v := if b.combine then combineFn b.func old v else v
  b.h.fd.convert (if b.axisRows then b.h.rnd 0 n else b.h.rnd n 0) v

/-- A reduction's work. -/
def State.reduce (s : State) (c : Nat) (b : ReduceBody) : State :=
  let k := b.h.core
  if b.func = 5 then
    let idx := (List.range b.results).map fun n =>
      toBytes 4 (((argmax (s.reduceLine b n)).map (·.1)).getD 0xFFFFFFFF)
    (s.set (.core k) b.h.dst idx.flatten).countElems c k b.results
  else
    let qs := (List.range b.results).map (s.reduceAt b)
    ((s.set (.core k) b.h.dst (packCodes b.h.fd.bits (qs.map (·.code)))).countElems c k
      qs.length).health c b.h.tgroup b.h.fd.code qs

/-! ### The row soft maximum -/

/-- The body of VEC_SOFTMAX (R145). -/
structure SoftBody where
  h : VecHead
  a : Operand
  mask : Mask
  scale : Nat
  stats : Option Nat
  flags : Option Nat
  deriving DecidableEq, Repr

/-- The body read from a descriptor. -/
def softBody (d : Desc) : Option SoftBody := do
  let h ← vecHead d
  let a ← fullA d
  return ⟨h, a, maskOf d, fld d 334 303, if flag d 383 then some (fld d 382 359) else none,
    if flag d 432 then some (fld d 358 335) else none⟩

/-- A row of the soft maximum: output values by column, m, s and the flag byte (R130 to R132). -/
structure SoftRow where
  out : Nat → FVal
  m : FVal
  sum : FVal
  flag : Nat

/-- A row computed from the unmasked columns and their scaled scores, by the first case that holds
(R130, R131). -/
def softRow (xs : List (Nat × FVal)) : SoftRow :=
  if xs.any fun p => p.2.isNan then ⟨fun _ => .nan, .nan, .nan, 2⟩
  else if xs.all fun p => decide (p.2 = .inf true) then ⟨fun _ => .zero, .inf true, .zero, 1⟩
  else if xs.any fun p => decide (p.2 = .inf false) then
    let k := (xs.filter fun p => decide (p.2 = .inf false)).length
    let v := rnd32 (FVal.div (.ofNat 1) (.ofNat k))
    ⟨fun c => if xs.any fun p => decide (p.1 = c ∧ p.2 = .inf false) then v else .zero, .inf false,
      .ofNat k, 4⟩
  else
    let m := xs.foldl (fun m p => fmax m p.2) (.inf true)
    let es := xs.map fun p => (p.1, fexp (rnd32 (p.2.sub m)))
    let sum := laneSum addTerm es
    ⟨fun c => match es.find? fun p => decide (p.1 = c) with
        | some p => rnd32 (p.2.div sum)
        | none => .zero, m, sum, 0⟩

/-- The unmasked columns of row r with their scaled scores (R130). -/
def State.softScores (s : State) (b : SoftBody) (r : Nat) : List (Nat × FVal) :=
  ((List.range b.h.cols).filter fun c => s.valid b.h.core b.mask r c).map fun c =>
    (c, rnd32 ((s.opVal b.h.core b.a r c).mul (f32 b.scale)))

/-- The soft maximum's work: outputs, statistics and flags (R130 to R132). A masked element is
written and not counted (R127). DESIGN CHOICE (log entry 121): where STATS or FLAG overlap a source, the destination or
each other the spec is silent; sources are read first, then destination, statistics and flags are written. -/
def State.softmax (s : State) (c : Nat) (b : SoftBody) : State :=
  let k := b.h.core
  let rows := (List.range b.h.rows).map fun r => softRow (s.softScores b r)
  let conv := fun (r n : Nat) => b.h.fd.convert (b.h.rnd r n)
    (((rows[r]?).map fun (x : SoftRow) => x.out n).getD .zero)
  let outs := (List.range b.h.rows).map fun r => (List.range b.h.cols).map fun n => some (conv r n)
  let t := s.setRows (.core k) b.h.dst b.h.pitchD
    ((List.range b.h.rows).map fun r => s.vecRow b.h r (outs.getD r []))
  let t := match b.stats with
    | some a => t.set (.core k) a
        ((rows.map fun (x : SoftRow) => toBytes 4 (toF32 x.m) ++ toBytes 4 (toF32 x.sum)).flatten)
    | none => t
  let t := match b.flags with
    | some a => t.set (.core k) a (rows.map fun (x : SoftRow) => BitVec.ofNat 8 x.flag)
    | none => t
  let counted := ((List.range b.h.rows).map fun r =>
    ((List.range b.h.cols).filter fun n => s.valid k b.mask r n).map (conv r)).flatten
  (t.countElems c k (b.h.rows * b.h.cols)).health c b.h.tgroup b.h.fd.code counted

/-! ### Conversion -/

/-- The body of VEC_CONVERT (R146). -/
structure ConvertBody where
  h : VecHead
  a : Operand
  inRows : Bool
  outRows : Bool
  scaleA : Nat
  scaleD : Nat
  res : Option Nat
  deriving DecidableEq, Repr

/-- The body read from a descriptor. -/
def convertBody (d : Desc) : Option ConvertBody := do
  let h ← vecHead d
  let a ← fullA d
  return ⟨h, a, flag d 459, flag d 457, fld d 358 335, fld d 383 360,
    if flag d 458 then some (fld d 456 433) else none⟩

/-- Bytes of a codebook in front of a scale plane (R98, R133). -/
def bookSize (f : FC) : Nat :=
  match f with
  | .cb8 => 512
  | .cb4 => 32
  | _ => 0

/-- The place of element (r, c) in a scale plane (R133). -/
def planeAt (rowsAxis : Bool) (cols r c : Nat) : Nat :=
  if rowsAxis then r / 32 * cols + c else r * (cols / 32) + c / 32

/-- The value of element (r, c) before its encoding (R133). -/
def State.convertVal (s : State) (b : ConvertBody) (r c : Nat) : FVal :=
  let k := b.h.core
  let code := s.opCode k b.a r c
  let sc := if b.a.f.scaled then
      s.coreByte k (b.scaleA + bookSize b.a.f + planeAt b.inRows b.h.cols r c) else 0
  let entry := if b.a.f.book then s.num (.core k) (b.scaleA + 2 * code) 2 else 0
  let v := rnd32 (b.a.f.decode code sc entry)
  match b.res with
  | some a => rnd32 (v.add (Fmt.bf16.decode (s.num (.core k) (a + 2 * (r * b.h.cols + c)) 2)))
  | none => v

/-- A conversion's work: elements, scale plane and residual (R133). DESIGN CHOICE (log entry 121): where they overlap
a source or each other the spec is silent; sources are read first, then the three are written in that order. -/
def State.convert (s : State) (c : Nat) (b : ConvertBody) : State :=
  let k := b.h.core
  let m := b.h.rows
  let w := b.h.cols
  let vs := (List.range m).map fun r => (List.range w).map (s.convertVal b r)
  let qs := drainConvs b.h.fd b.outRows b.h.seed m w vs
  let q := fun (i j : Nat) => (qs.getD i []).getD j (0, ⟨0, false, false, false⟩)
  let t := s.writeTile c b.h (qs.map fun r => r.map fun p => some p.2)
  let plane := if b.outRows then (List.range (m / 32 * w)).map fun n => (q (n / w * 32) (n % w)).1
    else (List.range (m * (w / 32))).map fun n => (q (n / (w / 32)) (n % (w / 32) * 32)).1
  let t := if b.h.fd.scaled then t.set (.core k) b.scaleD (plane.map fun x => BitVec.ofNat 8 x) else t
  match b.res with
  | some a => t.set (.core k) a (((List.range (m * w)).map fun n =>
      toBytes 2 (residualOf b.h.fd (at2 vs (n / w) (n % w)) (q (n / w) (n % w)).1
        (q (n / w) (n % w)).2)).flatten)
  | none => t

/-! ### Admission and outputs -/

/-- The formats VEC_ELEM, VEC_REDUCE and VEC_SOFTMAX read and write: codes 0x0 to 0x4 and 0xB
(R123). -/
def plainFormat (f : FC) : Bool := decide (f.code ≤ 4) || decide (f = .fp4)

/-- The destination's bytes from first to last. -/
def VecHead.span (h : VecHead) : Nat := spanBytes h.rows h.pitchD (rowBytes h.fd.bits h.cols)

/-- The destination coincides exactly with a source (R121). -/
def VecHead.coincides (h : VecHead) (o : Operand) : Bool :=
  decide (o.addr = h.dst ∧ o.pitch = h.pitchD ∧ o.f = h.fd) && o.cs

/-- The checks of the common fields (R121, R147). -/
def State.vecCommon (s : State) (c : Nat) (d : Desc) (rows cols : Nat) : Checks :=
  ⟨!coreOk (fld d 198 192) || decide (rows = 0 ∨ 4096 < rows ∨ cols = 0 ∨ 8192 < cols),
    !s.hasCore c (standCore d), false, false⟩

/-- A destination tile breaks R121 or leaves its store: its own shape, and its overlap with other byte
ranges. -/
def VecHead.dstBad (h : VecHead) (others : List (Nat × Nat)) : Bool :=
  !inCore h.dst h.span || (decide (1 < h.rows) && decide (h.pitchD < rowBytes h.fd.bits h.cols)) ||
    others.any fun r => overlap h.dst h.span r.1 r.2

/-- The byte range of a mask, none for kinds without one (R126). -/
def Mask.range (m : Mask) (rows cols : Nat) : List (Nat × Nat) :=
  if m.kind = 1 then [(m.addr, spanBytes rows m.pitch ((cols + 7) / 8))] else []

/-- The checks of a mask (R126, R147). -/
def Mask.bad (m : Mask) (rows cols : Nat) : Bool :=
  decide (m.kind = 3) || (decide (m.kind = 0) && decide (m.addr ≠ 0 ∨ m.pitch ≠ 0)) ||
    (decide (m.kind = 2) && decide (m.pitch ≠ 0)) ||
    (m.range rows cols).any fun r => !inCore r.1 r.2

/-- A source operand leaves its store (R147). -/
def Operand.bad (o : Operand) (rows cols : Nat) : Bool := !inCore o.addr (o.span rows cols)

/-- The byte range of a source. -/
def Operand.range (o : Operand) (rows cols : Nat) : Nat × Nat := (o.addr, o.span rows cols)

/-- The checks of VEC_ELEM's body (R143, R147). -/
def State.elemChecks (s : State) (c : Nat) (d : Desc) : Checks :=
  let f := fld d 206 199
  let pre := (s.vecCommon c d (fld d 219 207) (fld d 233 220)).and (Checks.inv (
    decide (0x18 < f) || (!usesB f && decide (fld d 334 286 ≠ 0)) ||
    (!usesC f && decide (fld d 383 335 ≠ 0 ∨ fld d 432 432 ≠ 0)) ||
    (usesC f && flag d 432 && decide (fld d 383 367 ≠ 0)) ||
    (decide (fld d 235 234 = 0) && flag d 236)))
  match elemBody d with
  | none => pre.and (Checks.inv true)
  | some b =>
    let ops := b.a :: (b.b.toList ++ b.c.toList)
    let others := (ops.filter fun o => !b.h.coincides o).map fun o => o.range b.h.rows b.h.cols
    pre.and (Checks.inv (
      !plainFormat b.h.fd || ops.any (fun o => !plainFormat o.f || o.bad b.h.rows b.h.cols) ||
      b.mask.bad b.h.rows b.h.cols || b.h.dstBad (others ++ b.mask.range b.h.rows b.h.cols)))

/-- The checks of VEC_REDUCE's body (R128, R129, R144, R147). -/
def State.reduceChecks (s : State) (c : Nat) (d : Desc) : Checks :=
  let f := fld d 206 199
  let pre := (s.vecCommon c d (fld d 219 207) (fld d 233 220)).and (Checks.inv (
    decide (5 < f) || !reservedZero d [(432, 432), (427, 408), (383, 287), (236, 236)]))
  match reduceBody d with
  | none => pre.and (Checks.inv true)
  | some b =>
    let n := rowBytes b.h.fd.bits b.results
    let others := b.a.range b.h.rows b.h.cols :: b.mask.range b.h.rows b.h.cols
    pre.and (Checks.inv (
      decide (2 < b.h.fd.code) || (decide (f = 5) && (decide (b.h.fd ≠ .fp32) || b.combine)) ||
      !plainFormat b.a.f || b.a.bad b.h.rows b.h.cols || b.mask.bad b.h.rows b.h.cols ||
      !inCore b.h.dst n || others.any fun r => overlap b.h.dst n r.1 r.2))

/-- The checks of VEC_SOFTMAX's body, an unaligned STATS_ADDR among them (R145, R147, log entry 87). -/
def State.softChecks (s : State) (c : Nat) (d : Desc) : Checks :=
  let pre := (s.vecCommon c d (fld d 219 207) (fld d 233 220)).and (Checks.inv (
    !reservedZero d [(302, 285), (236, 236), (206, 199)] ||
    (!flag d 383 && decide (fld d 382 359 ≠ 0)) || (!flag d 432 && decide (fld d 358 335 ≠ 0))))
  match softBody d with
  | none => pre.and (Checks.inv true)
  | some b =>
    let others := b.a.range b.h.rows b.h.cols :: b.mask.range b.h.rows b.h.cols
    pre.and (Checks.inv (
      !plainFormat b.h.fd || !plainFormat b.a.f || b.a.bad b.h.rows b.h.cols ||
      b.mask.bad b.h.rows b.h.cols || b.h.dstBad others ||
      b.stats.any (fun a => !inCore a (8 * b.h.rows) || decide (a % 8 ≠ 0)) ||
      b.flags.any fun a => !inCore a b.h.rows))

/-- The checks of VEC_CONVERT's body (R121, R133, R146, R147). -/
def State.convertChecks (s : State) (c : Nat) (d : Desc) : Checks :=
  let pre := (s.vecCommon c d (fld d 219 207) (fld d 233 220)).and (Checks.inv (
    !reservedZero d [(471, 460), (432, 432), (359, 359), (334, 285), (236, 234), (206, 199)] ||
    (!flag d 458 && decide (fld d 456 433 ≠ 0))))
  match convertBody d with
  | none => pre.and (Checks.inv true)
  | some b =>
    let m := b.h.rows
    let w := b.h.cols
    let blocks := fun (rowsAxis : Bool) => decide ((if rowsAxis then m else w) % 32 ≠ 0)
    let planeA := (b.scaleA, bookSize b.a.f + m * w / 32)
    let planeD := (b.scaleD, m * w / 32)
    let res := (b.res.map fun a => (a, 2 * m * w)).toList
    let others := (if b.h.coincides b.a then [] else [b.a.range m w]) ++
      (if b.a.f.scaled then [planeA] else []) ++ (if b.h.fd.scaled then [planeD] else []) ++ res
    pre.and (Checks.inv (
      b.h.fd.book || b.a.bad m w || b.h.dstBad others ||
      ((decide (b.a.f.bits = 6) || decide (b.h.fd.bits = 6)) && decide (w % 4 ≠ 0)) ||
      (if b.a.f.scaled then blocks b.inRows || !inCore planeA.1 planeA.2
        else b.inRows || decide (b.scaleA ≠ 0)) ||
      (if b.h.fd.scaled then blocks b.outRows || !inCore planeD.1 planeD.2
        else b.outRows || decide (b.scaleD ≠ 0)) ||
      res.any fun r => !inCore r.1 r.2))

/-- The checks of a vector command's body. -/
def State.vectorChecks (s : State) (c : Nat) (d : Desc) : Checks :=
  match opcode d with
  | 0x60 => s.elemChecks c d
  | 0x61 => s.reduceChecks c d
  | 0x62 => s.softChecks c d
  | 0x63 => s.convertChecks c d
  | _ => Checks.inv true

/-- The destination tile of a vector command. -/
def VecHead.extent (h : VecHead) : Extent :=
  ⟨.core h.core, h.dst, h.rows, h.pitchD, rowBytes h.fd.bits h.cols⟩

/-- What a stopped vector command leaves undefined (R137). -/
def vectorOutputs (d : Desc) : List Extent :=
  match opcode d with
  | 0x60 => ((elemBody d).map fun b => b.h.extent).toList
  | 0x61 => ((reduceBody d).map fun b =>
      .flat (.core b.h.core) b.h.dst (rowBytes b.h.fd.bits b.results)).toList
  | 0x62 => ((softBody d).map fun b => b.h.extent ::
      ((b.stats.map fun a => Extent.flat (.core b.h.core) a (8 * b.h.rows)).toList ++
      (b.flags.map fun a => Extent.flat (.core b.h.core) a b.h.rows).toList)).getD []
  | 0x63 => ((convertBody d).map fun b => b.h.extent ::
      ((if b.h.fd.scaled then
          [Extent.flat (.core b.h.core) b.scaleD (b.h.rows * b.h.cols / 32)] else []) ++
      (b.res.map fun a =>
        Extent.flat (.core b.h.core) a (2 * b.h.rows * b.h.cols)).toList)).getD []
  | _ => []

/-! ### What a vector command reads -/

/-- The bytes of an operand's unmasked elements: address and length of each (R120, R127). -/
def Operand.bytes (o : Operand) (rows cols : Nat) (valid : Nat → Nat → Bool) : List (Nat × Nat) :=
  ((List.range rows).map fun r => ((List.range cols).filter (valid r)).map fun c =>
    let b := if o.cs then c * o.f.bits else 0
    (o.addr + r * o.pitch + b / 8, (b % 8 + o.f.bits + 7) / 8)).flatten

/-- The bytes a conversion reads: its elements, its codebook and scale plane, its residual (R133). -/
def ConvertBody.bytes (b : ConvertBody) : List (Nat × Nat) :=
  b.a.bytes b.h.rows b.h.cols (fun _ _ => true) ++
    (if b.a.f.scaled then [(b.scaleA, bookSize b.a.f + b.h.rows * b.h.cols / 32)] else []) ++
    (b.res.map fun a => (a, 2 * b.h.rows * b.h.cols)).toList

/-- The bytes a vector command's results depend on: those of unmasked elements, its mask, what it combines
with (R127, R129, R133). -/
def State.vectorBytes (s : State) (d : Desc) : List (Nat × Nat) :=
  match opcode d with
  | 0x60 => ((elemBody d).map fun b =>
      ((b.a :: (b.b.toList ++ b.c.toList)).map fun o =>
        o.bytes b.h.rows b.h.cols (s.valid b.h.core b.mask)).flatten ++
      b.mask.range b.h.rows b.h.cols).getD []
  | 0x61 => ((reduceBody d).map fun b =>
      b.a.bytes b.h.rows b.h.cols (s.valid b.h.core b.mask) ++ b.mask.range b.h.rows b.h.cols ++
        (if b.combine then [(b.h.dst, rowBytes b.h.fd.bits b.results)] else [])).getD []
  | 0x62 => ((softBody d).map fun b =>
      b.a.bytes b.h.rows b.h.cols (s.valid b.h.core b.mask) ++ b.mask.range b.h.rows b.h.cols).getD []
  | 0x63 => ((convertBody d).map ConvertBody.bytes).getD []
  | _ => []

/-- What a vector command reads, as extents of its core's stores (R119, R127). -/
def State.vectorReads (s : State) (d : Desc) : List Extent :=
  (s.vectorBytes d).map fun r => .flat (.core (standCore d)) r.1 r.2

/-! ### Ending part-way -/

/-- What a vector command writes at most: its elements or results, and those of them that are conversions to count.
A masked element that stays unwritten is none, one of a soft maximum is written and not counted, and the results of
ARGMAX are no conversions (R115, R127, R128, R148). -/
def State.vectorMost (s : State) (d : Desc) : Nat × Nat :=
  let valid := fun (h : VecHead) (m : Mask) =>
    ((List.range h.rows).map fun r => ((List.range h.cols).filter (s.valid h.core m r)).length).sum
  match opcode d with
  | 0x60 => ((elemBody d).map fun b =>
      let n := if b.zeros then b.h.rows * b.h.cols else valid b.h b.mask
      (n, n)).getD (0, 0)
  | 0x61 => ((reduceBody d).map fun b => (b.results, if b.func = 5 then 0 else b.results)).getD (0, 0)
  | 0x62 => ((softBody d).map fun b => (b.h.rows * b.h.cols, valid b.h b.mask)).getD (0, 0)
  | _ => (fld d 219 207 * fld d 233 220, fld d 219 207 * fld d 233 220)

/-- A vector command that ends part-way: the elements it had written and the conversions among them are counted, by
free amounts (R116, R127, R148, log entry 89). -/
def State.vectorPart (s : State) (c : Cmd) : State :=
  let most := s.vectorMost c.desc
  let n := s.freeVal 0 % (most.1 + 1)
  let t := (s.usedFree 1).countElems c.id.ctx (standCore c.desc) n
  let health := fun (u : State) => u.healthOf c.id.ctx (fld c.desc 479 472) (fld c.desc 431 428)
  if most.1 = most.2 then health t n else t.healthPart c.id.ctx (fld c.desc 479 472) (fld c.desc 431 428) (min n most.2)

/-! ### The rows -/

/-- A vector row's work on the released command it names, on its core's engine; a stand command that met it
leaves its results undefined (R118, R119, R136). -/
def State.runVec (s : State) (id : CmdId) (op : Nat) (f : State → Cmd → State × Status) : State :=
  s.runOn id (isOp op) (fun _ c => [.vector (standCore c.desc)]) fun s c =>
    let r := f s c
    (r.1.spoil c (vectorOutputs c.desc), r.2)

/-- VEC_ELEM: an element-wise function over the unmasked elements of a tile (R123). -/
def execVecElem (id : CmdId) (s : State) : Host.Outcome State Fault Refusal :=
  .next (s.runVec id 0x60 fun s c =>
    match elemBody c.desc with
    | none => (s, .invalid)
    | some b => (s.writeTile c.id.ctx b.h ((List.range b.h.rows).map fun r =>
        (List.range b.h.cols).map (s.elemAt b r)), .ok))

/-- VEC_REDUCE: the unmasked elements of a tile reduced along one axis (R128). -/
def execVecReduce (id : CmdId) (s : State) : Host.Outcome State Fault Refusal :=
  .next (s.runVec id 0x61 fun s c =>
    match reduceBody c.desc with
    | none => (s, .invalid)
    | some b => (s.reduce c.id.ctx b, .ok))

/-- VEC_SOFTMAX: the row soft maximum with its degenerate rows, statistics and flags (R130). -/
def execVecSoftmax (id : CmdId) (s : State) : Host.Outcome State Fault Refusal :=
  .next (s.runVec id 0x62 fun s c =>
    match softBody c.desc with
    | none => (s, .invalid)
    | some b => (s.softmax c.id.ctx b, .ok))

/-- VEC_CONVERT: a tile decoded and converted or quantized, with optional residual feedback
(R133). -/
def execVecConvert (id : CmdId) (s : State) : Host.Outcome State Fault Refusal :=
  .next (s.runVec id 0x63 fun s c =>
    match convertBody c.desc with
    | none => (s, .invalid)
    | some b => (s.convert c.id.ctx b, .ok))

end Sys2Proof.Machine
end

