-- ==== Sys2Proof/Machine/Uses.lean ====
section
/-! DEFINITION. What a command reads and writes, over every opcode range: what an abort or a retirement leaves
undefined, the memory it needs (chapter The Stacked Memory, R231, R241, R243, R483), and its meeting with others
(R99, R119). -/

namespace Sys2Proof.Machine

/-! ### Writes -/

/-- What a command writes: undefined where it stops short of its work (R10, R326, R327). -/
def State.outputs (s : State) (c : Cmd) : List Extent :=
  match opcode c.desc / 32 with
  | 0 => s.sampleOutputs c.id.ctx c.desc
  | 1 => copyOutputs c.desc
  | 2 => s.standOutputs c
  | 3 => vectorOutputs c.desc
  | 4 => s.embeddingOutputs c.id.ctx c.desc
  | 5 => s.taprootOutputs c
  | 6 => s.collectiveOutputs c.id.ctx c.desc
  | _ => []

/-! ### Reads -/

/-- The list of an embedding command or a table region, whole. -/
def State.listExtent (s : State) (a : Nat) : Extent := .flat .dev a (s.listHead a).size

/-- What an embedding command reads: its records and lists, and its workspace (R151, R158, R160, R169, R172). -/
def State.embeddingReads (s : State) (c : Nat) (d : Desc) : List Extent :=
  match opcode d with
  | 0x80 => if flag d 250 then [] else [.flat .dev (fld d 239 192) 64]
  | 0x81 =>
    let b := admitBody d
    [.flat .dev b.indexAddr (8 * b.n), .flat .dev b.offsetAddr (4 * (b.bags + 1)),
      .flat .dev b.weightAddr (if b.weights then 4 * b.n else 0), .flat .dev b.bind (2 * b.bindCount)]
  | 0x85 => .flat .dev (fld d 239 192) (8 * (s.combineLists d).length) :: (s.combineLists d).map s.listExtent
  | 0x86 => [s.listExtent (fld d 239 192)]
  | 0x84 =>
    match mergeBody d, s.passOf c d with
    | some m, some (v, p) => State.mergeReads m p v.desc.elems
    | _, _ => []
  | _ => ((s.passOf c d).map fun x => x.2.extent).toList

/-- The rows an embedding command moves by narrow accesses: those it gathers or stages, and those of a replica it
writes (R237). -/
def State.embeddingRows (s : State) (c : Nat) (d : Desc) : List Extent :=
  if isOp 0x86 d then s.fetchOutputs c d
  else
    match s.passOf c d with
    | none => []
    | some (v, p) =>
      match opcode d with
      | 0x82 => (prefetchRange d).map (s.rowExtent p v true)
      | 0x83 => ((gatherBody d).map fun g => (s.gatherNeeds g p).map (s.rowExtent p v g.live)).getD []
      | _ => []

/-- The local slots of the rows that a table update or verification touches: those its list names (R189, R214). -/
def State.tapSlots (s : State) (c : Cmd) (g : Geo) : List Nat :=
  let a := fld c.desc 287 240
  let h := s.listHead a
  (((List.range h.entries).map fun k => (s.listEntry a h k).row).filter fun r =>
    decide (r < g.t.rows) && g.t.isLocal r).map g.t.slotOf

/-- The working copy that a taproot command touches: of a table whose rows a list names, those rows (R189, R218). -/
def State.touchedWork (s : State) (c : Cmd) (g : Geo) : List Extent :=
  if g.r.isTable && (isOp 0xA1 c.desc || isOp 0xA3 c.desc) then
    (s.tapSlots c g).map fun k => .flat .dev (g.base + k * g.pitch) g.t.rowBytes
  else g.workExtents

/-- What a taproot command reads by way of its stack's external path: records, header, gradient, image (R186,
R201, R214, R223, R226). -/
def State.taprootReads (s : State) (c : Cmd) : List Extent :=
  let d := c.desc
  let g := s.snapGeo c
  let a := fld d 287 240
  let b := ((FC.ofCode (fld d 451 448)).getD .fp32).bits / 8
  if isOp 0xA2 d then (if fld d 308 307 = 0 then [.flat .dev (fld d 239 192) 64] else [])
  else
    [.flat .dev (fld d 239 192) 64, .flat .dev g.r.hdr 64] ++ (if g.r.isTable then [.flat .dev g.r.work 64] else []) ++
      match opcode d with
      | 0xA0 => if fld d 321 320 = 1 then [imageExtent g a] else g.workExtents
      | 0xA1 => if g.r.isTable then [s.listExtent a]
        else [.flat .dev a (g.n * b), .flat .dev (fld d 335 288) (if fld d 451 448 = 0xC then (g.n + 31) / 32 else 0)]
      | 0xA3 => if g.r.isTable then s.listExtent a :: s.touchedWork c g else g.workExtents
      | 0xA4 => g.workExtents
      | _ => []

/-- The working copy an update merges by narrow accesses (R190, R237). -/
def State.taprootRows (s : State) (c : Cmd) : List Extent := if isOp 0xA1 c.desc then s.touchedWork c (s.snapGeo c) else []

/-- The grains of a taproot command, on the base dies' internal path (R187, R201). -/
def State.taprootGrains (s : State) (c : Cmd) : List Extent :=
  let g := s.snapGeo c
  if isOp 0xA1 c.desc && g.r.isTable then
    (g.cover (g.ofSlots (s.tapSlots c g))).map fun q => .flat .dev (g.grainAt q.1) 256
  else if isOp 0xA0 c.desc || isOp 0xA1 c.desc || isOp 0xA4 c.desc then [g.state]
  else []

/-- What a collective or a sequence command reads (R284, R289, R296, R297, R299, R301, R303). -/
def State.collectiveReads (s : State) (c : Nat) (d : Desc) : List Extent :=
  let rec_ := fun (a : Nat) => Extent.flat .dev a (s.groupSize a)
  match opcode d with
  | 0xC0 =>
    let b := collReduceBody d
    [rec_ b.group, .flat .dev b.src (chunkSize (reduceFmt b.fin) b.u)] ++
      if b.resEn then [.flat .dev b.res (64 * b.u)] else []
  | 0xC1 =>
    let b := gatherAll d
    [rec_ b.group, .flat .dev b.src (((s.group b.group).share b.rule b.u (s.ringPos (s.group b.group))).1 * b.n)]
  | 0xC2 =>
    let b := passBody d
    if b.send = 0xFFFF then [] else .flat .dev b.src b.n :: (if b.forward then b.outputs else [])
  | 0xC3 =>
    let b := permuteBody d
    [rec_ b.from_, rec_ b.goal,
      .flat .dev b.src (((s.group b.from_).shareOf b.ruleSrc b.u s.membership.self).1 * b.n)]
  | 0xC4 => [rec_ (exchangeBody d).group, s.listExtent (exchangeBody d).list]
  | 0xC5 => s.seqReads c d
  | _ => []

/-- What a command reads in device memory and in its core's stores, but for rows and grains. -/
def State.reads (s : State) (c : Cmd) : List Extent :=
  match opcode c.desc / 32 with
  | 0 => if sampleOp 0 c.desc then [.flat .dev (fld c.desc 239 192) (8 * fld c.desc 260 245)] else []
  | 1 => if isOp 0x20 c.desc then ((copyBody c.desc).src.map (copyBody c.desc).extent).toList else []
  | 2 => s.standReads c.desc
  | 3 => s.vectorReads c.desc
  | 4 => s.embeddingReads c.id.ctx c.desc
  | 5 => s.taprootReads c
  | 6 => s.collectiveReads c.id.ctx c.desc
  | _ => []

/-! ### Ending part-way -/

/-- The units a released command runs on, those of its opcode. -/
def State.unitsFor (s : State) (c : Cmd) : List UnitId :=
  match opcode c.desc with
  | 0x20 => s.copyUnits (copyBody c.desc)
  | 0x21 => s.copyUnits (fillBody c.desc)
  | 0x40 | 0x41 | 0x42 | 0x43 => [.stand (standCore c.desc)]
  | 0x60 | 0x61 | 0x62 | 0x63 => [.vector (standCore c.desc)]
  | 0x81 | 0x82 | 0x83 | 0x84 | 0x85 | 0x86 => embUnits s c
  | 0xC0 => if s.noAdders then (List.range 8).map UnitId.adders else []
  | _ => []

/-- A released command may have begun its work: it has met an error in it, or its units and its memory serve it, it
is its turn, and at a stand no flip and for a drain no tile is waited for (R68, R69, R319, log entry 89). -/
def State.mayHaveBegun (s : State) (c : Cmd) : Bool :=
  let k := standCore c.desc
  decide (0 < c.errors) || (decide (s.unitsAre (s.unitsFor c) = .free) && s.takesUnit c && s.memoryServes c &&
    (match opcode c.desc with
      | 0x40 | 0x41 => (s.flipWaits k).isNone
      | 0x42 => (s.stand k).flipped
      | _ => true))

/-- What a stand, vector or embedding command that ends part-way has done before it: the rows, elements and
conversions it has counted, by free amounts; nothing where it cannot have begun (R60, R79, R116, R148, log entry
89). -/
def State.partWork (s : State) (c : Cmd) : State :=
  let d := c.desc
  let ctx := c.id.ctx
  if !s.mayHaveBegun c || c.half.isSome then s
  else match opcode d with
  | 0x40 | 0x41 => ((matBody d).map (s.partMat c)).getD s
  | 0x42 => ((drainBody d).map (s.drainPart c)).getD s
  | 0x60 | 0x61 | 0x62 | 0x63 => s.vectorPart c
  | 0x83 =>
    match gatherBody d, s.passOf ctx d with
    | some g, some (v, p) => s.healthPart ctx g.tgroup g.out.code (s.gatherRows g p * v.desc.elems)
    | _, _ => s
  | 0x84 =>
    match mergeBody d, s.passOf ctx d with
    | some m, some (v, p) => s.healthPart ctx m.tgroup m.out.code (s.uniqueCount p * v.desc.elems)
    | _, _ => s
  | 0x85 => s.healthPart ctx (fld d 327 320) (fld d 331 328)
      (((s.combineLists d).map fun a => (s.listHead a).entries * (s.listHead a).elems).sum)
  | _ => s

/-! ### Accesses of the stacked memory -/

/-- The accesses of stack memory a command makes: wide ones, the narrow ones of rows and working-copy merges, and
the internal ones of grains (R237, R241). -/
def State.accesses (s : State) (c : Cmd) : List Access :=
  let emb := decide (opcode c.desc / 32 = 4)
  let tap := decide (opcode c.desc / 32 = 5)
  toAccesses false 0 (s.reads c) ++ toAccesses true 0 (s.outputs c) ++
    (if emb then toAccesses (isOp 0x86 c.desc) 1 (s.embeddingRows c.id.ctx c.desc) else []) ++
    (if tap then toAccesses true 1 (s.taprootRows c) ++ toAccesses true 2 (s.taprootGrains c) else [])

/-- Whether an access lies in presented memory of a context (R229, R239). -/
def State.accessHere (s : State) (c : Nat) (x : Access) : Bool :=
  s.inStack x.addr (spanBytes x.rows x.pitch x.n) && (List.range x.rows).all fun i => s.ctxMem c (x.addr + i * x.pitch) x.n

/-- A released command's memory is noted and its accesses charged (R241, R483). -/
def State.noteAccesses (s : State) (c : Cmd) : State :=
  let l := s.accesses c
  let owed := s.charges l
  let t := s.updCmd c.id fun x => { x with
    mem := l
    owed := owed }
  owed.foldl (fun (t : State) k => t.payBucket k.1) t

/-! ### Commands that meet -/

/-- Any extent of one list touches one of another. -/
def extentsMeet (a b : List Extent) : Bool := a.any fun x => b.any x.meets

/-- A vector command writes for a stand command of its core, or the other way. -/
def vectorForStand (w c : Cmd) : Bool :=
  decide (standCore w.desc = standCore c.desc ∧ opcode w.desc / 32 = 3 ∧ opcode c.desc / 32 = 2)

/-- A command's writes make another's results undefined, both being in flight: they touch scales a matrix
instruction reads as it streams, or of a vector command and a stand command of one core, one writes what the other
reads (R99, R119). -/
def State.spoils (s : State) (w c : Cmd) : Bool :=
  let stream := if isOp 0x42 c.desc then s.standReads c.desc else matExtents s.streamReads c.desc
  extentsMeet (s.outputs w) (matExtents MatBody.rowScales c.desc) ||
    (vectorForStand w c && extentsMeet (s.outputs w) stream) ||
    (isOp 0x42 w.desc && decide (standCore w.desc = standCore c.desc ∧ opcode c.desc / 32 = 3) &&
      extentsMeet (s.outputs w) (s.vectorReads c.desc))

/-- A command's writes touch what a matrix instruction in flight reads in a fill, if it fills: its scales and its
codebook, or of a vector command any of its stationary operand (R60, R99, R119). -/
def State.spoilsFill (s : State) (w c : Cmd) : Bool :=
  extentsMeet (s.outputs w)
    (matExtents (if vectorForStand w c then MatBody.fillReads else MatBody.fillScales) c.desc)

/-- One of two commands makes the other's results undefined, whose work is not over: of a vector and a stand
command both results are, the vector command's by a fill unless the stand holds the tile then (R99, R119). -/
def State.spoilt (s : State) (c x : Cmd) : Bool :=
  s.spoils x c || (s.spoils c x && decide (opcode c.desc / 32 = 3 ∨ opcode x.desc / 32 = 3)) ||
    (vectorForStand c x && extentsMeet (s.outputs c) (s.standReads x.desc))

/-- A command joins those in flight: it and each of them that it meets are marked; what only a fill reads is marked
apart, since whether there is a fill shows when the instruction runs (R60, R99, R119, log entry 83). -/
def State.meetOthers (s : State) (c : Cmd) : State :=
  let flying := s.cmds.filter fun (x : Cmd) => decide (x.phase = Phase.released ∧ x.id ≠ c.id)
  let mark := fun (t : State) (x : Cmd) => t.updCmd x.id fun y => { y with
    spoilt := y.spoilt || (if x.id = c.id then flying.any (s.spoilt c) else s.spoilt x c)
    fillSpoilt := y.fillSpoilt || (if x.id = c.id then flying.any fun w => s.spoilsFill w c else s.spoilsFill c x) }
  (c :: flying).foldl mark s

end Sys2Proof.Machine
end

