-- ==== Sys2Proof/Machine/Admission.lean ====
section
/-! DEFINITION. The admission checks of a descriptor, over every opcode range (chapter Commands, Contexts and
Synchronization, R318 to R322). -/

namespace Sys2Proof.Machine

/-- The checks of a descriptor's header (R8, R31, R32, R273, R320, R321). -/
def State.headerChecks (s : State) (id : CmdId) (d : Desc) : Checks :=
  let member := fld d 191 176
  let obj := fld d 143 128
  let sig := flag d 19
  ⟨!reservedZero d [(31, 22), (15, 14)] || (!gated d && decide (notBefore d ≠ 0)) ||
      (!flag d 18 && !reservedZero d [(127, 80)]) ||
      (!sig && (decide (member ≠ 0xFFFF) || flag d 20 || !reservedZero d [(175, 128)])) ||
      (sig && reservedMember member) ||
      (gated d && decide (s.pace.mode ≠ .unlocked) && !nearAngle (notBefore d) s.angle),
    decide (fld d 13 8 ≠ id.ctx) || (flag d 18 && decide (s.owner (waitObj d) ≠ id.ctx)) ||
      (sig && decide (member = 0xFFFF) && decide (s.owner obj ≠ id.ctx)) ||
      (sig && decide (member ≠ 0xFFFF) && decide (member ∉ s.membership.members)), false, false⟩

/-- The checks of a descriptor's body, by its opcode range (R322). -/
def State.bodyChecks (s : State) (id : CmdId) (d : Desc) : Checks :=
  match opcode d / 32 with
  | 0 => s.controlChecks id d
  | 1 => s.copyRangeChecks id.ctx d
  | 2 => s.standChecks id.ctx d
  | 3 => s.vectorChecks id.ctx d
  | 4 => s.embeddingChecks id.ctx d
  | 5 => s.taprootChecks id.ctx d
  | 6 => s.collectiveChecks id d
  | _ => Checks.inv true

/-- What admission answers for a descriptor: the first failing check in the order of R12, none where it is
admitted (R12, R47, R48). -/
def State.admits (s : State) (id : CmdId) (d : Desc) : Option Status :=
  ((s.headerChecks id d).and (s.bodyChecks id d)).first (gated d && s.pace.mode.lost)

end Sys2Proof.Machine
end

