-- ==== Sys2Proof/Machine/Fault.lean ====
section
/-! DEFINITION. Errors, targeted self-tests, retirement, calibrations and the management dies (chapters The
Stacked Memory, R231 to R251, and Faults, Repair and the Event Recorder, R424 to R435). -/

namespace Sys2Proof

/-- Grove fabric edges: row, column, link-die and host-die edges, and those of the management dies, which are no
routers. The location of an edge between two routers is taken to be the lower code and its far router the
higher: R429 names no order (R19, R20, R429, log entry 103). -/
def Machine.fabricEdges : List UnitId :=
  let pairs : List (Nat × Nat) :=
    [(0, 1), (1, 2), (2, 3), (0, 3), (4, 5), (5, 6), (6, 7), (4, 7), (0, 4), (1, 5), (2, 6), (3, 7),
      (0, 8), (1, 9), (2, 10), (3, 11), (4, 12), (5, 13), (6, 14), (7, 15),
      (0, 16), (4, 16), (3, 17), (7, 17), (18, 16), (19, 17)]
  pairs.map fun p => ⟨0x0E, p.1, p.2, 0, 0⟩

/-- A unit identifier names a unit of the part (R429). -/
def UnitId.real (u : UnitId) : Bool :=
  let one := decide (u.i2 = 0 ∧ u.row = 0)
  match u.kind with
  | 0x01 => decide (u.loc < 8 ∧ u.i1 < 12 ∧ u.i2 < 16 ∧ u.row = 0)
  | 0x02 | 0x03 | 0x0C => one && decide (u.loc < 8 ∧ u.i1 < 12)
  | 0x04 => one && decide (u.loc < 8 ∧ u.i1 < 2)
  | 0x05 => one && decide (20 ≤ u.loc ∧ u.loc < 40 ∧ u.i1 = 0)
  | 0x06 => one && decide (20 ≤ u.loc ∧ u.loc < 40 ∧ u.i1 < 64)
  | 0x07 => decide (20 ≤ u.loc ∧ u.loc < 40 ∧ u.i1 < 64 ∧ u.i2 = 0 ∧ u.row < 2 ^ 24)
  | 0x08 => decide (u.i1 < 24 ∧ u.loc = 8 + u.i1 / 3 ∧ u.i2 < 8 ∧ u.row = 0)
  | 0x09 => one && decide (u.i1 < 24 ∧ u.loc = 8 + u.i1 / 3)
  | 0x0A => one && decide (8 ≤ u.loc ∧ u.loc < 16 ∧ u.i1 = 0)
  | 0x0B => one && decide (16 ≤ u.loc ∧ u.loc < 18 ∧ u.i1 = 0)
  | 0x0D => one && decide (16 ≤ u.loc ∧ u.loc < 18 ∧ u.i1 < 16)
  | 0x0E => decide (u ∈ Machine.fabricEdges)
  | 0x0F => one && decide ((u.loc < 18 ∨ 20 ≤ u.loc ∧ u.loc < 40) ∧ u.i1 = 0)
  | 0x10 => one && decide (18 ≤ u.loc ∧ u.loc < 20 ∧ u.i1 = 0)
  | _ => false

/-- The event code of an error of a unit (R426). -/
def UnitId.event (u : UnitId) : Nat :=
  match u.kind with
  | 0x01 | 0x02 => 0x1001
  | 0x03 => 0x1002
  | 0x04 => 0x1003
  | 0x05 => 0x2001
  | 0x06 => 0x3003
  | 0x07 => 0x3002
  | 0x08 => 0x4001
  | 0x09 => 0x4003
  | 0x0A => 0x1004
  | 0x0B | 0x0C => 0x1005
  | 0x0D => 0x5001
  | 0x0E => 0x1006
  | 0x0F => if u.loc < 20 then 0x1007 else 0x3004
  | _ => 0x8002

/-- The logic units whose transients are counted (R425). -/
def UnitId.logic (u : UnitId) : Bool :=
  decide (u.kind = 1 ∨ u.kind = 2 ∨ u.kind = 3 ∨ u.kind = 4 ∨ u.kind = 5 ∨ u.kind = 0x0A ∨ u.kind = 0x0B ∨
    u.kind = 0x0C)

/-- The stacks a unit contains whole (R251, R431). -/
def UnitId.stacksOf (u : UnitId) : List Nat :=
  if u.kind ≠ 0x0F then []
  else if 20 ≤ u.loc then [u.loc - 20]
  else (List.range 20).filter fun n => decide (stackDie n = u.loc)

/-- A unit's command goes on with another unit in its place, or with memory repaired (R210, R243, R309,
R362, R483). -/
def UnitId.replaced (u : UnitId) : Bool :=
  decide (u.kind = 5 ∨ u.kind = 6 ∨ u.kind = 7 ∨ u.kind = 0x0A ∨ u.kind = 0x0B ∨ u.kind = 0x0F)

end Sys2Proof

namespace Sys2Proof.Machine

/-! ### Units and events -/

/-- An error event that a unit's checks raise (R426); lanes and ports have rows of their own. -/
def errorFits (event : Nat) (u : UnitId) : Bool :=
  u.real && decide (u.kind ≠ 0x08 ∧ u.kind ≠ 0x09 ∧ u.kind ≠ 0x0D) &&
    (decide (event = u.event) || decide (event = 0x3001 ∧ u.kind = 0x07))

/-- Sectors of accesses that lie in a pseudo-channel. -/
def State.sectorsIn (s : State) (l : List Access) (p : Nat) : List Nat :=
  (l.map fun x => ((List.range x.rows).map fun i => sectorsOf (x.addr + i * x.pitch) x.n).flatten).flatten.filter
    fun k => decide (s.pcOf (32 * k) = p)

/-- A command's memory lies in part in a pseudo-channel, its channel or its stack. -/
def State.usesPc (s : State) (c : Cmd) (p : Nat) : Bool := decide (s.sectorsIn c.mem p ≠ [])

/-- A command can be the one that met an error: it runs on the unit, or uses its memory (R426). -/
def State.errorMeets (s : State) (u : UnitId) (event : Nat) (c : Cmd) : Bool :=
  let d := c.desc
  let core := u.loc * 12 + u.i1
  let p := (u.loc - 20) * 64 + u.i1
  match event with
  | 0x1001 => decide (opcode d / 32 = 2 ∧ standCore d = core)
  | 0x1002 => decide (opcode d / 32 = 3 ∧ standCore d = core)
  | 0x1003 => decide (s.unitSought d = some (600 + u.loc * 2 + u.i1))
  | 0x1004 => isCollective d
  | 0x1005 => decide (s.unitSought d = some (if u.kind = 0x0C then 900 + core else 800 + (u.loc - 16)))
  | 0x2001 => decide (opcode d / 32 = 5)
  | 0x3002 => s.usesPc c p
  | 0x3003 => s.usesPc c (p / 2 * 2) || s.usesPc c (p / 2 * 2 + 1)
  | 0x3004 => (List.range 64).any fun i => s.usesPc c ((u.loc - 20) * 64 + i)
  | _ => false

/-- A 64-byte line of a core's own stores: below 0x12000 of the core-local address map, above it of the two
halves of the accumulator store (R58, R67). -/
def lineExtent (core line : Nat) : Extent :=
  if line < 0x12000 then .flat (.core core) (64 * line) 64
  else .flat (.acc core ((line - 0x12000) / 0x4000)) (64 * ((line - 0x12000) % 0x4000)) 64

/-- A command uses a line of its core's stores: it reads bytes of it, of elements that are not masked where it
is a vector command (R81, R127, R135). -/
def State.usesLine (s : State) (c : Cmd) (line : Nat) : Bool :=
  extentsMeet [lineExtent (standCore c.desc) line]
    (if opcode c.desc / 32 = 2 then s.standReads c.desc else s.vectorReads c.desc)

/-- An event of a unit without a command. -/
def unitEvent (event : Nat) (u : UnitId) (outcome : Nat) : EventIn := ⟨event, u, u.loc, outcome, 0xFF, 0xFF, 0⟩

/-! ### Tests -/

/-- The tests and calibrations of a retired unit are dropped; the commands that waited on those tests go on
to find it retired (R427). -/
def State.dropTests (s : State) (u : UnitId) : State :=
  { s with
    recorder := { s.recorder with
      tests := s.recorder.tests.filter fun t => !u.covers t.unit
      calibs := s.recorder.calibs.filter fun c => !u.covers c.unit }
    cmds := s.cmds.map fun (c : Cmd) =>
      if c.testing.any u.covers then { c with testing := none } else c }.startTests

/-! ### The presented top -/

/-- Every partition that reaches above the presented top is truncated, each recorded (R232). -/
def State.truncate (s : State) : State :=
  (List.range 16).foldl (fun (t : State) p =>
    let base := t.objv (0x4100 + p) 1
    let size := t.objv (0x4100 + p) 2
    let top := t.top / gib
    if size ≠ 0 ∧ top < base + size then
      let n := top - base
      let u := t.setObj (0x4100 + p) 2 n
      let u := if n = 0 then u.setObj (0x4100 + p) 7 0 else u
      u.recordEvent (u.info 0x300A 4 (p + n * 256 + (if n = 0 then 2 ^ 24 else 0)))
    else t) s

/-- The commands in flight that the loss of memory has put outside it: their checks passed and now fail, or
memory they use was theirs and is no longer (R231, R232). -/
def State.cutOff (s t : State) : List Cmd :=
  t.cmds.filter fun (c : Cmd) =>
    (match c.phase with
      | .finished _ => false
      | _ => true) &&
    ((decide ((s.bodyChecks c.id c.desc).first false = none) &&
        decide ((t.bodyChecks c.id c.desc).first false ≠ none)) ||
      (c.mem ++ s.accesses c).any fun x => s.accessHere c.id.ctx x && !t.accessHere c.id.ctx x)

/-- A retirement that lowers the presented top: the range above the new top is lost, recorded, the
partitions are truncated, and the commands in flight that use what is gone complete with DATA_SUSPECT.
`s` is the state before the retirement (R231, R232). -/
def State.loseTop (s t : State) : State :=
  let lo := t.top
  let n := s.top - lo
  if n = 0 then t
  else
    let u := { t with
      mem := Tab.clearRange t.mem lo n
      pool := { t.pool with
        poison := Tab.clearRange t.pool.poison (lo / 32) (n / 32)
        tags := Tab.clearRange t.pool.tags (lo / 32) (n / 32)
        reloc := Tab.clearRange t.pool.reloc (lo / 256) (n / 256) } }
    let u := (u.recordEvent (u.info 0x3006 3 0)).truncate
    (s.cutOff u).foldl (fun (u : State) c =>
      let u := if c.phase = Phase.released then u.partWork c else u
    (u.updCmd c.id fun x => { x with suspect := true }).finish c.id .dataSuspect) u

/-! ### Lost stacks -/

/-- A prepared region has a grain in one of the stacks. -/
def State.regionIn (s : State) (lostStacks : List Nat) (x : Region) : Bool :=
  let g := s.geo (tapOf (s.devNum x.record 64)) none
  (List.range g.grains).any fun q => decide (s.stackOf (g.grainAt q) ∈ lostStacks)

/-- The stacks of a failed die are lostStacks: regions with a grain there are unrecoverable, and an update in
flight on one completes with DATA_SUSPECT; their undo records are of no more use. `s` is the state before the
retirement (R210, R251). -/
def State.loseStacks (s t : State) (lostStacks : List Nat) : State :=
  if lostStacks = [] then t
  else
    let lost := s.regions.filter (s.regionIn lostStacks)
    let t := lost.foldl (fun (t : State) x =>
      let u := t.setHeader x.header (setBits (t.tapHeader x.header) 258 258 1)
      (u.tally x.ctx 0x7131 3 1).recordEvent (u.info 0x2004 3 0)) t
    let t := { t with undo := t.undo.filter fun y => !lost.any fun x => decide (x.header = y.header) }
    (t.cmds.filter fun (c : Cmd) => decide (c.phase = Phase.released) && isOp 0xA1 c.desc &&
      lost.any fun x => decide (x.header = (s.tapRec c.desc).hdr)).foldl
      (fun (t : State) c => t.finish c.id .dataSuspect) t

/-! ### Retirement -/

/-- The pseudo-channels newly retired between two states, to be migrated in ascending order; those of a
unit that cannot be read are marked so (R247, R249, R251, R483). -/
def State.migrate (s t : State) (u : UnitId) (src : MigSource) : State :=
  let fresh := (List.range 1280).filter fun p => t.retired (.pc p) && !s.retired (.pc p)
  let mine := fun p => u.covers (.pc p)
  { t with pool := { t.pool with
      migrations := (t.pool.migrations.map fun m =>
          if src = .unreadable ∧ mine m.pc = true then { m with from_ := .unreadable } else m) ++
        fresh.map fun p => ⟨p, 0, if mine p then src else .readable, 0⟩ } }

/-- What else the retirement of a port or a die takes with it: a port its traffic, a link die its ports and what is in
their staging, a host die its links (R271, R431). -/
def State.dieGone (s : State) (u : UnitId) : State :=
  if u.kind = 0x09 then s.moveTraffic u.i1
  else if u.kind ≠ 0x0F then s
  else if 8 ≤ u.loc ∧ u.loc < 16 then
    (List.range 3).foldl (fun (t : State) i => t.loseStaging (3 * (u.loc - 8) + i)) s
  else if u.loc = 16 ∨ u.loc = 17 then
    (s.dropLink (2 * (u.loc - 16))).dropLink (2 * (u.loc - 16) + 1)
  else s

/-- A unit retired: recorded, listed, its memory migrated, what depended on it stopped (R231, R247, R369,
R428, R431). -/
def State.retireUnit (s : State) (u : UnitId) (e : EventIn) (src : MigSource) : State :=
  if s.retired u then s
  else
    let t := s.retire u e
    let t := s.migrate t u src
    let t := s.loseTop t
    let t := s.loseStacks t u.stacksOf
    let t := (t.dieGone u).dropTests u
    t.tdisError fun c _ => s.grantHolds c u

/-- A column group retired; with the fifth the stand is (R77). -/
def State.retireGroup (s : State) (u : UnitId) (e : EventIn) : State :=
  let t := s.retireUnit u e .readable
  let k := u.loc * 12 + u.i1
  if 5 ≤ t.retiredGroups k then t.retireUnit (.stand k) { e with unit := .stand k } .readable else t

/-- A row that failed its test goes to one of the eight spare rows of its pseudo-channel; with none left the
pseudo-channel is retired (R245). -/
def State.repairRow (s : State) (u : UnitId) (e : EventIn) : State :=
  let p := (u.loc - 20) * 64 + u.i1
  let used := (s.recorder.dead.filter fun d =>
    decide (d.unit.kind = 0x07 ∧ d.unit.loc = u.loc ∧ d.unit.i1 = u.i1)).length
  if used < 8 then s.retireUnit u e .readable
  else s.retireUnit (.pc p) { e with unit := .pc p } .readable

/-- An edge retired: a link die loses its only edge with it (R431). -/
def State.retireEdge (s : State) (u : UnitId) (e : EventIn) : State :=
  let t := s.retireUnit u e .readable
  let gone := [u.loc, u.i1].filter fun l => decide (8 ≤ l ∧ l < 16)
  gone.foldl (fun (t : State) l => t.retireUnit (.die l) { e with unit := .die l } .readable) t

/-- The active management die has failed or is to be replaced, by a cause: the standby is to take over. Of two causes
the failure counts (R432). -/
def State.callTakeover (s : State) (cause : Nat) : State :=
  let m := s.mgmt
  { s with mgmt := { m with takeover := true, cause := if m.takeover then min m.cause cause else cause } }

/-- A management die retired: the active one's standby is to take over; without one the device stops (R21, R432). -/
def State.retireMgmt (s : State) (u : UnitId) (e : EventIn) : State :=
  let t := s.retireUnit u e .readable
  if u.loc ≠ t.mgmtLoc then { t with mgmt := { t.mgmt with standby := false } }
  else if t.mgmt.standby then t.callTakeover 1
  else { t with mgmt := { t.mgmt with stopped := true } }

/-- The migrations of a channel whose interface test failed read at the wide-margin point from now on (R483). -/
def State.toInterface (s : State) (p : Nat) : State :=
  { s with pool := { s.pool with migrations := s.pool.migrations.map fun m =>
      if (m.pc = p ∨ m.pc = p + 1) ∧ m.from_ = .readable then { m with from_ := .interface } else m } }

/-- The unit of a failed test retired, by its kind (R77, R245, R250, R251, R271, R431). -/
def State.failUnit (s : State) (u : UnitId) (e : EventIn) : State :=
  match u.kind with
  | 0x01 => s.retireGroup u e
  | 0x06 =>
    if e.event = 0x3003 then
      let p := (u.loc - 20) * 64 + u.i1 / 2 * 2
      ((s.retireUnit (.pc p) { e with unit := .pc p } .interface).retireUnit (.pc (p + 1))
        { e with unit := .pc (p + 1) } .interface).toInterface p
    else s.retireUnit u e .readable
  | 0x07 => s.repairRow u e
  | 0x08 => s.retireLane u.i1 u.i2
  | 0x0E => s.retireEdge u e
  | 0x0F => s.retireUnit u e .unreadable
  | 0x10 => s.retireMgmt u e
  | _ => s.retireUnit u e .readable

/-- The command that waited for a test resumes as one retried (R14, R424). -/
def State.resume (s : State) (id : CmdId) : State :=
  (s.updCmd id fun c => { c with testing := none, retries := c.retries + 1 }).tally id.ctx 0x7800 3 1

/-- The rows or groups a command's work has at most: the moving rows of a matrix instruction, the groups of a
vector command (R80, R134, R148). -/
def workUnits (d : Desc) : Nat :=
  let rows := fld d 219 207
  let cols := fld d 233 220
  match opcode d with
  | 0x40 | 0x41 => fld d 236 224
  | 0x63 => if flag d 457 || flag d 459 then ((rows + 31) / 32) * ((cols + 7) / 8) else rows * ((cols + 255) / 256)
  | 0x60 | 0x61 | 0x62 => rows * ((cols + 255) / 256)
  | _ => 1

/-- The count of work done again at a unit, by free amounts up to the command's own where it counts rows or
groups: of a stand, rows are injected again for matrix instructions alone; of a taproot engine that serves its partner's
stack too, at one of the two by a free value (R79, R80, R148, R184, R210, R227, R315, log entry 3). -/
def State.countRedone (s : State) (c : Cmd) (u : UnitId) : State :=
  let some_ := 1 + s.freeVal 0 % max 1 (workUnits c.desc)
  match u.kind with
  | 0x01 | 0x02 => if !(isOp 0x40 c.desc || isOp 0x41 c.desc) then s else (s.tally c.id.ctx (0x7100 + u.loc) (49 + u.i1) some_).usedFree 1
  | 0x03 => (s.tally c.id.ctx (0x7110 + u.loc) (37 + u.i1) some_).usedFree 1
  | 0x04 => s.tally c.id.ctx (0x7120 + u.loc) (12 * u.i1 + 12) 1
  | 0x05 =>
    let n := u.loc - 20
    let k := if s.retired (.taproot (n ^^^ 1)) ∧ s.freeVal 0 % 2 = 1 then n ^^^ 1 else n
    if isOp 0xA1 c.desc then (s.tally c.id.ctx 0x7130 (k + 21) 1).usedFree 1 else s
  | 0x0A => s.tally c.id.ctx 0x7140 (9 + (u.loc - 8)) 1
  | _ => s

/-- A test failed, or a fourth error stands for one: the unit is retired, and its command resumes or
completes with UNIT_RETIRED; the slice of a taproot engine is updated again by its partner (R81, R135, R179, R210, R227,
R243, R309, R362, R424). -/
def State.failTest (s : State) (u : UnitId) (cmd : Option Cmd) (event : Nat) : State :=
  match cmd with
  | none => s.failUnit u (unitEvent event u 2)
  | some c =>
    if u.replaced then
      let s := if u.kind = 5 then s.countRedone c u else s
      (s.failUnit u (cmdEvent c event u u.loc 2 Status.retriedOk.code)).resume c.id
    else
      let t := (s.partWork c).failUnit u (cmdEvent c event u u.loc 2 Status.unitRetired.code)
      (t.updCmd c.id fun x => { x with testing := none }).finish c.id .unitRetired

/-! ### Passing -/

/-- A transient error of a logic unit counted; the 16th within 86,400 s retires the unit once its operation
has completed (R425). -/
def State.noteTransient (s : State) (u : UnitId) (cmd : Option CmdId) : State :=
  if u.logic then
    let old := match s.recorder.transients.find? fun x => decide (x.1 = u) with
      | some x => x.2.filter fun t => decide (s.cal.ns < t + 86400000000000)
      | none => []
    let l := old ++ [s.cal.ns]
    let rest := s.recorder.transients.filter fun x => decide (x.1 ≠ u)
    let t := { s with recorder := { s.recorder with transients := rest ++ [(u, l)] } }
    if l.length < 16 then t
    else
      match cmd with
      | some id => { t with recorder := { t.recorder with worn := t.recorder.worn ++ [(u, id)] } }
      | none => t.failUnit u (unitEvent u.event u 2)
  else s

/-- The units worn out by a command are retired when it completes (R425). -/
def State.wearOut (s : State) (id : CmdId) : State :=
  let l := s.recorder.worn.filter fun x => decide (x.2 = id)
  let t := { s with recorder := { s.recorder with worn := s.recorder.worn.filter fun x => decide (x.2 ≠ id) } }
  l.foldl (fun (t : State) x => t.failUnit x.1 (unitEvent x.1.event x.1 2)) t

/-- An error's test passed: it was transient; the command resumes and the event is recorded (R424, R425,
R427, log entry 25). -/
def State.passError (s : State) (t : Test) (cmd : Option Cmd) : State :=
  let u := t.unit
  match cmd with
  | none =>
    (s.recordEvent (unitEvent t.event u 1)).noteTransient u none
  | some c =>
    let r := { c with retries := c.retries + 1 }
    let again := fun (a : State) => if t.cause = 5 then a else a.countRedone c u
    let e := if c.suspect then cmdEvent r t.event u u.loc 3 Status.dataSuspect.code
      else cmdEvent r t.event u u.loc 1 Status.retriedOk.code
    (again ((s.resume c.id).recordEvent e)).noteTransient u (some c.id)

/-! ### Errors -/

/-- The address of a slot of a pseudo-channel's hashed area, where it is presented: the map of R233
read backwards. -/
def State.slotAddr (s : State) (p sl : Nat) : Option Nat :=
  let lam := 20 * (p % 64) + p / 64
  let h := ((List.range 11).map fun b =>
    parityOf 22 (sl &&& s.pool.hashKeys.getD b 0) * 2 ^ b).sum
  let t := 256 * ((lam / 256 + 5 - h / 256 % 5) % 5) + ((lam % 256) ^^^ (h % 256))
  let a := 256 * (1280 * sl + t)
  if a < s.top ∧ s.pcOf a = p then some a else none

/-- Hashed grain slots of a pseudo-channel (R232). -/
def slotsPerPc : Nat := 3144896

/-- A sector poisoned (R243, R244). -/
def State.poisonAt (s : State) (sector : Nat) : State :=
  { s with pool := { s.pool with poison := Tab.put false s.pool.poison sector true } }

/-- The presented sector that sector i of a pseudo-channel holds, if any: of the grain whose home it is, or of one
of the grains moved to it, by a free value, since no rule says which spare grain holds which (R236, log entry
27). -/
def State.sectorAt (s : State) (p i free : Nat) : Option Nat :=
  if 8 * slotsPerPc ≤ i then none
  else
    match s.slotAddr p (i / 8) with
    | some a => some (a / 32 + i % 8)
    | none =>
      let l := s.pool.reloc.filter fun x => decide (x.2 = some p)
      (l[free % (l.length + 1)]?).map fun x => 8 * x.1 + i % 8

/-- An undo record that memory has lost (R219). -/
def State.loseUndo (s : State) (i : Nat) : State :=
  { s with undo := ((List.range s.undo.length).zip s.undo).map fun y => if y.1 = i then { y.2 with bad := true } else y.2 }

/-- The undo records in a stack's journal area, by their places (R201, R206). -/
def State.undoIn (s : State) (n : Nat) : List Nat :=
  (List.range s.undo.length).filter fun i => (s.undo[i]?).any fun y => decide (s.stackOf y.addr = n)

/-- An uncorrectable sector of a pseudo-channel read again: whether that succeeds, and which sector it is, the spec
does not give: free values; for a command it is one of those it uses there, and without one or for a taproot command it
may lie in an undo record (R219, R243, log entry 27). -/
def State.reread (s : State) (u : UnitId) (c : Option Cmd) : State × Bool :=
  let p := (u.loc - 20) * 64 + u.i1
  let bad := decide (s.freeVal 0 % 2 = 1)
  let l := (c.map fun x => s.sectorsIn x.mem p).getD []
  let k := if l = [] then s.sectorAt p (s.freeVal 1 % (8 * slotsPerPc)) (s.freeVal 2) else l[s.freeVal 1 % l.length]?
  let us := if c.all fun x => decide (opcode x.desc / 32 = 5) then s.undoIn (u.loc - 20) else []
  let t :=
    if !bad then s
    else
      match us[s.freeVal 3 % (us.length + 1)]? with
      | some i => s.loseUndo i
      | none => (k.map s.poisonAt).getD s
  (t.usedFree 4, bad)

/-- The sectors that a memory error counts (R257). -/
def State.countMemory (s : State) (event : Nat) (u : UnitId) : State :=
  if event = 0x3001 then s.bump 0x7400 (1 + (u.loc - 20)) 1
  else if event = 0x3002 then s.bump 0x7400 (21 + (u.loc - 20)) 1
  else s

/-- A line of a core's stores read again: whether that succeeds the spec does not give, a free value (R81,
R135, log entry 84). -/
def State.rereadLine (s : State) : State × Bool := (s.usedFree 1, decide (s.freeVal 0 % 2 = 1))

/-- An error of a unit without a command to retry: its test is asked for (R424). -/
def State.unitError (s : State) (u : UnitId) (event : Nat) : State :=
  let s := s.countMemory event u
  let r := if event = 0x3002 then s.reread u none else (s, false)
  let t := if r.2 then r.1.recordEvent (unitEvent event u 3) else r.1
  t.askTest ⟨u, none, 0, false, event, false⟩

/-- An error met by a command: what memory or a core's store gave up is read again, and the command waits for
the unit's test, but a fourth error in it counts as the failed test (R81, R135, R424, R427). -/
def State.cmdError (s : State) (u : UnitId) (c : Cmd) (event : Nat) (line : Bool) : State :=
  let s := s.countMemory event u
  let r := if event = 0x3002 then s.reread u (some c) else if line then s.rereadLine else (s, false)
  let t := r.1.updCmd c.id fun x => { x with errors := x.errors + 1, suspect := x.suspect || r.2 }
  if 3 ≤ c.errors then t.failTest u (some { c with errors := c.errors + 1 }) event
  else (t.updCmd c.id fun x => { x with testing := some u }).askTest
    ⟨u, some c.id, if line then 5 else 0, false, event, false⟩

/-- An error of a row, or of the interface, of a pseudo-channel that is retired and still serves, until its migration is
over (R243, R247). -/
def State.servesYet (s : State) (u : UnitId) (event : Nat) : Bool :=
  (decide (u.kind = 0x07) || decide (event = 0x3003)) && s.pool.migrations.any fun m =>
    decide (m.pc = (u.loc - 20) * 64 + u.i1 ∧ m.from_ = .readable)

/-- An error in a row of a retired pseudo-channel that still serves: corrected or read again as elsewhere, with no
test of what is retired already; the command is retried, or its data is suspect (R243, R247). -/
def State.lateError (s : State) (u : UnitId) (c : Option Cmd) (event : Nat) : State :=
  let s := s.countMemory event u
  if event ≠ 0x3002 then s.recordEvent (unitEvent event u 1)
  else
    let r := s.reread u c
    match c with
    | none => r.1.recordEvent (unitEvent event u (if r.2 then 3 else 1))
    | some c =>
      let x := { c with retries := c.retries + 1 }
      let t := r.1.updCmd c.id fun y => { y with
        retries := y.retries + 1
        errors := y.errors + 1
        suspect := y.suspect || r.2 }
      (t.tally c.id.ctx 0x7800 3 1).recordEvent (if r.2 then cmdEvent x event u u.loc 3 Status.dataSuspect.code
        else cmdEvent x event u u.loc 1 Status.retriedOk.code)

/-- An error of a management die: the active one is replaced, the standby is tested (R426, R432). -/
def State.mgmtError (s : State) (u : UnitId) : State :=
  if u.loc = s.mgmtLoc then s.callTakeover 1
  else
    ({ s with mgmt := { s.mgmt with standby := false } }).askTest ⟨u, none, 3, false, 0x8002, false⟩

/-- ERROR_DETECTED: an error of a unit, met by a command or not; it triggers the unit's targeted test
(R424, R426). With a line it is an uncorrectable error of the stores of a stand's or a vector engine's core: one
the command's results do not depend on is the unit's alone (R81, R127, R135). A failed MRAM write check has no
test: the next persistent write is retried, and whether a rewrite succeeds is a free value (R410, R426, log
entry 44). -/
def execErrorDetected (unit : UnitId) (cmd : Option CmdId) (e : ErrorSeen) (s : State) :
    Host.Outcome State Fault Refusal :=
  let event := e.event
  let line := e.line
  if !s.pins.resetN then .next s
  else if event = 0x8001 then
    .next ({ s with server := { s.server with mramFault := some (decide (s.freeVal 0 % 2 = 0)) } }.usedFree 1)
  else if !errorFits event unit || (s.retired unit && !s.servesYet unit event) || (line.isSome && !decide (unit.kind = 2 ∨ unit.kind = 3)) then
    .next s
  else if unit.kind = 0x10 then .next (s.mgmtError unit)
  else
    match if event = 0x3001 then none else cmd with
    | none => .next (if s.retired unit && decide (event ≠ 0x3003) then s.lateError unit none event else s.unitError unit event)
    | some id =>
      match s.findCmd id with
      | none => .next s
      | some c =>
        if c.phase = Phase.released ∧ c.testing = none ∧ s.errorMeets unit event c = true then
          if s.retired unit && decide (event ≠ 0x3003) then .next (s.lateError unit (some c) event)
          else if line.all (s.usesLine c) then .next (s.cmdError unit c event line.isSome)
          else .next (s.unitError unit event)
        else .next s

/-- A test that no error asked for failed: its unit is retired, a pseudo-channel alone (R254, R433). -/
def State.failAsked (s : State) (u : UnitId) (event : Nat) : State :=
  if u.kind = 0x06 then s.retireUnit u (unitEvent event u 2) .readable else s.failTest u none event

/-- The verdict of one test applied, by what asked for it; a lane that passed is readmitted (R218, R269, R424, R426,
R432, R433). -/
def State.applyVerdict (s : State) (t : Test) (pass : Bool) : State :=
  let u := t.unit
  let cmd := (t.cmd.bind s.findCmd).filter fun c => decide (c.phase = Phase.released) && (decide (c.testing = some u) || s.retired u)
  let s := if pass && decide (u.kind = 0x08) then s.widen u.i1 u.i2 else s
  match t.cause, pass with
  | 1, true => s.setObj 0x9000 4 3
  | 1, false => (s.setObj 0x9000 4 4).failAsked u t.event
  | 3, true => ({ s with mgmt := { s.mgmt with standby := true } }).recordEvent (unitEvent t.event u 1)
  | 4, false =>
    ({ s with
      cmds := s.cmds.map fun (c : Cmd) => if c.verifying then { c with failed := true } else c
      fetches := s.fetches.map fun (q : FetchServe) =>
        if q.verify then { q with failed := true } else q }).failTest u none t.event
  | 0, true | 5, true => s.passError t cmd
  | 0, false | 5, false =>
    if t.cmd.isSome ∧ cmd = none then s.failTest u none t.event else s.failTest u cmd t.event
  | _, true => s
  | _, false => s.failAsked u t.event

/-! ### Calibrations -/

/-- The kind of unit of a calibration class (R434). -/
def calKind (cls : Nat) : Nat :=
  match cls with
  | 0 => 0x02
  | 1 => 0x04
  | 2 => 0x05
  | 3 => 0x06
  | 4 => 0x08
  | 5 => 0x0E
  | _ => 0

/-- The temperature of a die as last read, in 0.1 °C counted from -400 °C. -/
def State.dieTemp (s : State) (loc : Nat) : Nat := ((Tab.get Heat.fresh s.power.heat loc).temp + 4000).toNat

/-- A unit's last calibration: its time and the die's temperature then (R434). -/
def State.lastCalOf (s : State) (u : UnitId) : Option (Nat × Nat) :=
  (s.recorder.lastCal.find? fun x => decide (x.1 = u)).map (·.2)

/-- A unit's calibration is due: its interval has passed since the last, or since reset, or its die's
temperature has moved by the step since the last (R434). -/
def State.calDue (s : State) (cls : Nat) (u : UnitId) : Bool :=
  let every := s.objv 0x9010 (cls + 1) * 1000000000
  let step := s.objv 0x9010 9
  match s.lastCalOf u with
  | none => decide (s.recorder.calFrom + every ≤ s.now)
  | some (t, temp) =>
    let now := s.dieTemp u.loc
    decide (t + every ≤ s.now) || decide (10 * step ≤ (now - temp) + (temp - now))

/-- The unit that is calibrated for one named: of the memory class its channel, which its even pseudo-channel stands for
(R255, R434). -/
def calUnit (cls : Nat) (u : UnitId) : UnitId := if cls = 3 then { u with i1 := u.i1 / 2 * 2 } else u

/-- CALIBRATION_DUE: a unit of a class falls due (R434). -/
def execCalibrationDue (cls : Nat) (unit : UnitId) (s : State) : Host.Outcome State Fault Refusal :=
  let unit := calUnit cls unit
  let gone := s.retired unit && (decide (cls ≠ 3) || s.retired { unit with i1 := unit.i1 + 1 })
  if s.pins.ready && unit.real && decide (unit.kind = calKind cls) && !gone && s.calDue cls unit &&
      !(s.recorder.calibs.any fun c => decide (c.unit = unit)) then
    let c : Calib := ⟨cls, unit, s.now, false⟩
    .next { s with recorder := { s.recorder with calibs := s.recorder.calibs ++ [c] } }
  else .next s

/-- CALIBRATION_START: a due calibration takes its unit out; a lane by narrowing its port (R271, R435). -/
def execCalibrationStart (cls : Nat) (unit : UnitId) (s : State) : Host.Outcome State Fault Refusal :=
  let unit := calUnit cls unit
  match s.recorder.calibs.find? fun c => decide (c.unit = unit ∧ c.cls = cls) with
  | none => .next s
  | some c =>
    if c.running || s.underTest unit || !s.quietNow cls c.due then .next s
    else
      let run := fun (x : Calib) => if x = c then { x with running := true } else x
      let t := { s with recorder := { s.recorder with calibs := s.recorder.calibs.map run } }
      if cls = 4 ∧ t.portUp unit.i1 = true then
        .next (t.narrow unit.i1 unit.i2 false)
      else .next t

/-- CALIBRATION_COMPLETE: the unit returns to service; a lane's port widens again. A failure is an error of
the unit (R424, R435). -/
def execCalibrationComplete (cls : Nat) (unit : UnitId) (pass : Bool) (s : State) :
    Host.Outcome State Fault Refusal :=
  let unit := calUnit cls unit
  match s.recorder.calibs.find? fun c => decide (c.unit = unit ∧ c.cls = cls) && c.running with
  | none => .next s
  | some c =>
    let rest := s.recorder.lastCal.filter fun x => decide (x.1 ≠ unit)
    let t := { s with recorder := { s.recorder with
        calibs := s.recorder.calibs.filter fun x => decide (x ≠ c)
        lastCal := rest ++ [(unit, s.now, s.dieTemp unit.loc)] } }
    let t := t.bump 0x7800 4 1
    let t := if cls = 4 then t.widen unit.i1 unit.i2 else t
    let t := if cls = 3 then t.serveHost else t
    if pass then .next t else .next (t.askTest ⟨unit, none, 0, false, unit.event, false⟩)

/-! ### The management dies -/

/-- MANAGEMENT_HEARTBEAT: the active die tells the standby that it lives (R432). -/
def execManagementHeartbeat (s : State) : Host.Outcome State Fault Refusal :=
  if s.mgmt.stopped then .next s else .next { s with mgmt := { s.mgmt with lastBeat := s.now } }

end Sys2Proof.Machine
end

