-- ==== Sys2Proof/Machine/Queue.lean ====
section
/-! DEFINITION. The path of a command from doorbell to completion record, and the queue records (chapter
Commands, Contexts and Synchronization, R316 to R327). -/

namespace Sys2Proof.Machine

/-! ### Queue records -/

/-- A region of a queue lies in the context's stack memory or in the host peer window (R316). -/
def State.queueRegion (s : State) (c a n : Nat) : Bool := inHost a n || (s.inStack a n && s.ctxMem c a n)

/-- The rings and the CQ head of a queue meet R316. -/
def State.ringsOk (s : State) (c : Nat) (x : Queue) : Bool :=
  s.queueRegion c x.ringBase (64 * x.ringSize) && s.queueRegion c x.compBase (16 * x.compSize) &&
    s.queueRegion c x.cqHead 4

/-- Bytes are served now: stack memory whose grains are not shut and whose regulators let them through, or a host link
that carries requests (R241, R360, R366, R483). -/
def State.reaches (s : State) (a n : Nat) (write : Bool) : Bool :=
  if a < hostBase then s.serves (oneAccess a n write) else s.linkServes (s.linkOf a)

/-- Bytes of a queue's own traffic pass: their tokens are taken, or the host is asked (R241, R355, R374). -/
def State.passBytes (s : State) (c a n : Nat) (write : Bool) : State :=
  (s.payFor (oneAccess a n write)).hostAsk c a n write false

/-- A queue record as it stands in memory, restarted (R316). -/
def queueOf (x : Nat) : Queue :=
  { enabled := x.testBit 0, irqVector := bits x 223 208, dbObj := bits x 207 192, cqHead := bits x 191 144,
    compBase := bits x 143 96, ringBase := bits x 95 48, compLog2 := bits x 11 8, ringLog2 := bits x 7 4,
    priority := bits x 3 2, dbKind := bits x 1 1, next := 0, producer := 0, slot := 0, phase := 1 }

/-- A queue record is refused: a reserved field or code, fewer records than descriptors, a vector beyond the
table, a misaligned ring, or a region outside its memory, whether the queue is in use or not (R8, R316, R359). -/
def State.recordBad (s : State) (c x : Nat) : Bool :=
  let q := queueOf x
  decide (bits x 511 224 ≠ 0 ∨ bits x 47 12 ≠ 0 ∨ 12 < q.compLog2 ∨ 12 < q.ringLog2 ∨
    q.compLog2 < q.ringLog2 ∨ 2048 ≤ q.irqVector ∨ (q.dbKind = 0 ∧ q.dbObj ≠ 0) ∨ q.ringBase % 64 ≠ 0 ∨
    q.compBase % 64 ≠ 0 ∨ q.cqHead % 4 ≠ 0) || !s.ringsOk c q

/-- A queue holds a command that is not complete (R316). -/
def State.queueHolds (s : State) (c q : Nat) : Bool :=
  s.cmds.any fun (x : Cmd) => decide (x.id.ctx = c ∧ x.id.queue = q)

/-- One queue's record read again from the table: refused with BUSY while it holds a command, with
DATA_SUSPECT where it cannot be read, with INVALID and disabled where it is malformed; otherwise the queue
restarts (R316). -/
def State.reloadQueue (s : State) (c q : Nat) : State × Checks × Bool :=
  let a := s.objv (0x6000 + c) 6 + 64 * q
  if s.queueHolds c q then (s, ⟨false, false, false, true⟩, false)
  else if !s.reaches a 64 false || s.devReadBad a 64 then (s, Checks.pass, true)
  else
    let x := s.devNum a 64
    let s := s.passBytes c a 64 false
    if s.recordBad c x then (s.setQueue c q Queue.off, Checks.inv true, false)
    else
      let y := queueOf x
      (s.setQueue c q (y.ring (s.syncObj y.dbObj).value), Checks.pass, false)

/-- The queues of a mask reloaded; the status reports the first refusal in the order of R12 (R316). -/
def State.reloadQueues (s : State) (c mask : Nat) : State × Status :=
  let l := (List.range 16).filter mask.testBit
  let r := l.foldl (fun (a : State × Checks × Bool) q =>
    let b := a.1.reloadQueue c q
    (b.1, a.2.1.and b.2.1, a.2.2 || b.2.2)) (s, Checks.pass, false)
  (r.1, (r.2.1.first false).getD (if r.2.2 then .dataSuspect else .ok))

/-! ### Doorbell and admission -/

/-- DOORBELL_WRITE (R317, R354). -/
def execDoorbellWrite (link fn ctx queue value : Nat) (secure : Bool) (s : State) :
    Host.Outcome State Fault Refusal := .next (s.doorbell link fn ctx queue value secure)

/-- Commands of a queue admitted and not released. -/
def State.ahead (s : State) (c q : Nat) : Nat :=
  (s.cmds.filter fun (x : Cmd) => decide (x.id.ctx = c ∧ x.id.queue = q ∧ x.phase = Phase.admitted)).length

/-- A queue may fetch its next descriptor: in use, written, at most 64 ahead, its rings where they must be
(R316 to R318). -/
def State.mayFetch (s : State) (c q : Nat) : Bool :=
  let x := s.queue c q
  let p := x.producer
  s.takesWork && !s.mgmt.stopped && decide (c < 64 ∧ q < 16) && x.enabled && decide (p ≠ x.next) &&
    reached32 p x.next && decide (s.ahead c q < 64) && s.ringsOk c x &&
    s.reaches (x.ringBase + 64 * (x.next % x.ringSize)) 64 false

/-- The command an abort has already named for a sequence number not fetched then (R329, R330). -/
def State.doomed (s : State) (id : CmdId) : Bool :=
  s.abortWaits.any (fun w => decide (id ∈ w.targets)) || s.notices.any fun w => decide (id ∈ w.targets)

/-- A context with work and no slot starts to wait (R340). -/
def State.startWait (s : State) (c : Nat) : State :=
  if s.isWaiting c && (s.ctx c).wait.isNone then s.setCtx c { s.ctx c with wait := some s.now } else s

/-- A fetched command: admitted, or complete at once with the status of its failing check; one whose
descriptor memory did not give up is DATA_SUSPECT; a schedule record is read here (R12, R202, R244, R318, log entries
28 and 112). -/
def State.fetched (s : State) (id : CmdId) (d : Desc) (bad : Bool) : Cmd :=
  let phase :=
    if bad then Phase.finished .dataSuspect
    else
      match s.admits id d with
      | some st => Phase.finished st
      | none => if s.doomed id then Phase.finished .aborted else Phase.admitted
  { id := id, desc := d, phase := phase, retries := 0, abortReq := false, testing := none, failed := false,
    suspect := false, needs := [], errors := 0, tag := s.nextTag, rank := 0, latch := s.readOnce d,
    verifying := false, onTime := false, half := none, spoilt := false, fillSpoilt := false, filled := false, mem := [],
    owed := [], admitted := decide (phase = Phase.admitted) }

/-- DESCRIPTOR_ADMISSION: the next descriptor of a queue is fetched, copied and checked; a collective that an
abort has named before its fetch cancels its peers (R12, R308, R316 to R322). -/
def execDescriptorAdmission (ctx queue : Nat) (s : State) : Host.Outcome State Fault Refusal :=
  if s.mayFetch ctx queue then
    let x := s.queue ctx queue
    let a := x.ringBase + 64 * (x.next % x.ringSize)
    let id : CmdId := ⟨ctx, queue, x.next⟩
    let bad := s.devReadBad a 64
    let d : Desc := BitVec.ofNat 512 (if bad then ofBytes (s.freeBytes 64) else s.devNum a 64)
    let c := s.fetched id d bad
    let t := (s.passBytes ctx a 64 false).setQueue ctx queue { x with next := (x.next + 1) % 2 ^ 32 }
    let t := if bad then t.usedFree 64 else t
    let t := if c.phase = Phase.finished .aborted then t.cancelPeers c else t
    .next ({ t with
      cmds := t.cmds ++ [c]
      nextTag := (t.nextTag + 1) % 2 ^ 32 }.startWait ctx)
  else .next s

/-! ### Release -/

/-- The first command of a queue that is admitted and not released. -/
def State.head (s : State) (c q : Nat) : Option Cmd :=
  (s.cmds.filter fun (x : Cmd) =>
    decide (x.id.ctx = c ∧ x.id.queue = q ∧ x.phase = Phase.admitted)).find? s.orderOk

/-- The release of a gated command comes after every event before it in the order of R42. -/
def State.inTurn (s : State) (c : Cmd) : Bool := !gated c.desc || s.mayAct (notBefore c.desc, 11)

/-- A command's release pauses: it is to run on the Kyoty die that is reloaded (R422, log entry 132). -/
def State.releasePaused (s : State) (d : Desc) : Bool :=
  let core := fun k => s.reloadingDie (k / 12)
  match opcode d with
  | 0x20 => decide (fld d 416 415 = 2) && core (coreOf (fld d 414 408))
  | 0x21 => decide (fld d 400 399 = 2) && core (coreOf (fld d 398 392))
  | 0x40 | 0x41 | 0x42 | 0x43 | 0x60 | 0x61 | 0x62 | 0x63 => core (standCore d)
  | 0x81 | 0x82 | 0x83 | 0x84 | 0x85 | 0x86 => s.reloadingDie (engineOf d / 2)
  | 0xC5 => decide (fld d 250 249 = 1 ∨ fld d 250 249 = 2) && core (coreOf (fld d 198 192))
  | _ => false

/-- A resident context releases commands: it is not leaving, and its yield has not come (R339, R341, R343). -/
def State.releases? (s : State) (c : Nat) : Bool :=
  let x := s.ctx c
  s.resident c && !x.leaving && s.server.transition.isNone && decide (s.yieldsDue x = [])

/-- A stand command's width is not the one its stand presents (R78). -/
def State.widthWrong (s : State) (d : Desc) : Bool :=
  decide (opcode d / 32 = 2) && decide (s.width (standCore d) ≠ standWidth d)

/-- An ABORT released: it notes the producer index of its target's queue (R329). -/
def State.abortRelease (s : State) (id : CmdId) : State :=
  s.updCmd id fun c =>
    if opcode c.desc = 0x01 then
      { c with latch := { c.latch with range := (s.queue id.ctx (fld c.desc 259 256)).producer } }
    else c

/-- What a released command starts with: its rank, the commands it meets, and what its family latches at release; a
stand command of another width ends there and performs no work (R72, R78, R99, R119, R183, R203, R288, R305). -/
def State.released (s : State) (c : Cmd) : State :=
  let t := { s with releases := s.releases + 1 }
  let t := t.updCmd c.id fun x => { x with phase := Phase.released, rank := s.releases + 1 }
  if s.widthWrong c.desc then t.finish c.id .unitRetired
  else if s.passMissing c.id.ctx c.desc then t.finish c.id .invalid
  else
    let t := (t.meetOthers c).noteAccesses { c with rank := s.releases + 1 }
    if isCollective c.desc then t.collRelease c else (t.abortRelease c.id).tapRelease c.id

/-- COMMAND_RELEASE: the command at the head of a queue's release order is released once its gate is open
and its wait satisfied; one whose object has FAULT set is aborted without running, a collective with a CANCEL to
its peers (R308, R318, R323, R333, R422, R431). -/
def execCommandRelease (ctx queue : Nat) (s : State) : Host.Outcome State Fault Refusal :=
  match s.head ctx queue with
  | none => .next s
  | some c =>
    if !s.takesWork || s.mgmt.stopped || !s.releases? ctx then .next s
    else if s.objectGone c.desc then .next (s.finish c.id .unitRetired)
    else if !s.gateOpen c.desc || !s.waitMet c.desc || !s.inTurn c || s.releasePaused c.desc then .next s
    else if s.waitFault c.desc then .next ((s.cancelPeers c).finish c.id .aborted)
    else .next (s.released c)

/-! ### Stopping -/

/-- A command has no safe points: BIAS_SET, KEY_ROTATE, EMB_BATCH_CLOSE, TAP_REGION_INIT, TAP_SCHED, TAP_VERIFY and the
control commands (R180, R224, R328, R362). -/
def noSafePoint (d : Desc) : Bool :=
  decide (opcode d < 0x20 ∨ opcode d = 0x22 ∨ opcode d = 0x23 ∨ opcode d = 0x87 ∨ opcode d = 0xA0 ∨
    opcode d = 0xA2 ∨ opcode d = 0xA3)

/-- What a stopped command leaves behind: its outputs undefined and what it wrote counted, its flip
dropped, its requests ended, its peers cancelled, a replica suspect, an update pending (R82, R116, R180, R211,
R222, R308). -/
def State.stopWork (s : State) (c : Cmd) : State :=
  let t := s.stopTap c
  let t := t.stopColl c
  let t := t.partWork c
  let t := t.scrambleAll (t.outputs c)
  let t := if isOp 0x82 c.desc then t.stagePart c else t
  let t := if isOp 0x86 c.desc then t.endFetch c else t.endAsks c
  let t := if isOp 0x86 c.desc then t.markSuspect c.id.ctx (fld c.desc 281 272) true else t
  if opcode c.desc / 32 = 2 then
    let k := standCore c.desc
    let x := t.stand k
    if x.flipPending = some c.id then t.setStand k { x with flipPending := none } else t
  else t

/-- A queue's completion ring has room for a record (R326). -/
def State.ringRoom (s : State) (x : Queue) : Bool :=
  let head := s.devNum x.cqHead 4
  decide ((x.slot + 2 ^ 32 - head % 2 ^ 32) % 2 ^ 32 < x.compSize)

/-- A finished command's record may be written: its ring and CQ head are where they must be, are served, and
there is room (R316, R326). -/
def State.recordFree (s : State) (c q : Nat) : Bool :=
  let x := s.queue c q
  let slot := x.compBase + 16 * (x.slot % x.compSize)
  s.ringsOk c x && s.reaches x.cqHead 4 false && s.reaches slot 16 true &&
    s.mayTake (oneAccess x.cqHead 4 false ++ oneAccess slot 16 true) && !s.devReadBad x.cqHead 4 && s.ringRoom x

/-- What a command that stops at a safe point completes with: of the conditions that hold there the first in the
order of R13; an unreachable member is none before the next stride boundary (R13, R279, R327). -/
def State.stopStatus (s : State) (c : Cmd) : Status :=
  let tap := s.tapStop c
  if (s.unitsFor c).any s.retired || s.collGone c.desc || decide (tap = some .unitRetired) then .unitRetired
  else if tap = some .paceLost then .paceLost
  else if c.needs.any s.memberGone then .membershipChanged
  else if c.suspect || decide (tap = some .dataSuspect) then .dataSuspect
  else .aborted

/-- A matrix instruction has passed its last safe point: its last row is in and its flip waits for no release
(R82). -/
def State.pastSafe (s : State) (c : Cmd) : Bool := c.half.isSome && (s.stand (standCore c.desc)).released

/-- SAFE_POINT_ABORT: a released command that is to stop reaches a safe point, or a finished one still holds
its record: it completes with ABORTED unless another condition comes first there, its output undefined (R13, R308,
R326 to R328, R427). -/
def execSafePointAbort (id : CmdId) (s : State) : Host.Outcome State Fault Refusal :=
  match s.findCmd id with
  | none => .next s
  | some c =>
    if !c.abortReq then .next s
    else
      let stop := fun (t : State) st => t.updCmd id fun x => { x with phase := Phase.finished st, testing := none }
      match c.phase with
      | .admitted => .next s
      | .released =>
        if c.testing.isNone && !s.tapIdle c && (noSafePoint c.desc || s.pastSafe c) then .next s
        else
          let st := s.stopStatus c
          let t := stop (s.stopWork c) st
          .next (if isCollective c.desc ∧ st = .membershipChanged then t.tally id.ctx 0x7140 25 1 else t)
      | .finished st =>
        if st = .aborted ∨ s.recordFree id.ctx id.queue = true then .next s
        else if c.rank = 0 then .next (stop s .aborted)
        else
          let t := ((s.cancelPeers c).tapUndone id).seqUndone c
          .next (stop (t.scrambleAll (t.outputs c)) .aborted)

/-! ### The record -/

/-- The completion record of a command (R324). -/
def State.recordOf (s : State) (c : Cmd) (st : Status) : List Byte :=
  toBytes 16 (c.id.seq % 2 ^ 32 + (s.queue c.id.ctx c.id.queue).phase * 2 ^ 32 + c.id.queue * 2 ^ 44 +
    opcode c.desc * 2 ^ 48 + st.code * 2 ^ 56 + min 255 c.retries * 2 ^ 64 + s.angle.toNat * 2 ^ 80)

/-- A record written at the next slot of its ring, after CQ_HEAD is read (R324 to R326). -/
def State.putRecord (s : State) (c : Cmd) (st : Status) : State :=
  let x := s.queue c.id.ctx c.id.queue
  let slot := x.compBase + 16 * (x.slot % x.compSize)
  let t := (s.passBytes c.id.ctx x.cqHead 4 false).passBytes c.id.ctx slot 16 true
  let t := t.devWrite slot (s.recordOf c st)
  let n := (x.slot + 1) % 2 ^ 32
  t.setQueue c.id.ctx c.id.queue { x with
    slot := n
    phase := if n % x.compSize = 0 then 1 - x.phase else x.phase }

/-- The signal of a completed command: added to an object of this device, or sent to the member that holds
it; FAULT is set for every status but OK, RETRIED_OK and ALREADY_COMPLETE (R325, R333, R335, log entry
29). -/
def State.signalFor (s : State) (c : Cmd) (st : Status) : State :=
  let d := c.desc
  let member := fld d 191 176
  let obj := fld d 143 128
  let inc := fld d 175 144
  if !flag d 19 then s
  else if member = 0xFFFF then
    if s.owner obj = c.id.ctx ∧ s.syncDead obj = false then s.signalObj obj inc (!st.clean) else s
  else if member ∉ s.membership.members then s.lostSignal c.id.ctx
  else
    let prio := b2n (!flag d 20)
    let f := s.mkFrame 0x01 c.id.ctx member c.tag obj
      (toBytes 4 inc ++ toBytes 1 prio ++ toBytes 1 (b2n (!st.clean)) ++ toBytes 2 0)
    s.sendFrame { f with cls := if flag d 20 then 0 else 1 }

/-- The interrupt of a completed command, on its context's bound function while its link carries requests
(R359, R360, R366). -/
def State.interruptFor (s : State) (c : Cmd) : State :=
  let b := s.boundTo c.id.ctx
  if flag c.desc 16 && s.linkServes b.1 then
    s.interrupt b.1 b.2 (s.queue c.id.ctx c.id.queue).irqVector
  else s

/-- The answer to an ABORT whose targets all have records (R327, R329). -/
def abortAnswer (took : Bool) : Status := if took then .ok else .alreadyComplete

/-- A record leaves the aborts that wait for it: one whose last target it was completes, or is answered
(R327, R329, R330). -/
def State.settleAborts (s : State) (id : CmdId) (st : Status) : State :=
  let hit := decide (st = .aborted)
  let aw := s.abortWaits.map fun (w : AbortWait) =>
    if id ∈ w.targets then { w with targets := w.targets.filter (· ≠ id), took := w.took || hit } else w
  let nw := s.notices.map fun (w : NoticeWait) =>
    if id ∈ w.targets then { w with targets := w.targets.filter (· ≠ id), took := w.took || hit } else w
  let doneA := aw.filter fun (w : AbortWait) => decide (w.remote = none ∧ w.targets = [])
  let doneN := nw.filter fun (w : NoticeWait) => decide (w.targets = [])
  let t := { s with
    abortWaits := aw.filter fun (w : AbortWait) => !decide (w.remote = none ∧ w.targets = [])
    notices := nw.filter fun (w : NoticeWait) => !decide (w.targets = []) }
  let t := doneA.foldl (fun (t : State) w => t.finish w.id (abortAnswer w.took)) t
  doneN.foldl (fun (t : State) w =>
    t.sendFrame (t.mkFrame 0x34 w.ctx w.member w.tag 0
      (toBytes 4 w.tag ++ toBytes 1 (abortAnswer w.took).code))) t

/-- What only the record of a command brings: a pass completed, a key rotated, an update's epoch, the shadow set
released by a LAST drain (R69, R183, R211, R325, R371). -/
def State.recordEffects (s : State) (c : Cmd) (st : Status) : State :=
  let d := c.desc
  let good := decide (st = .ok ∨ st = .retriedOk)
  if isOp 0x81 d && good then s.passRecorded c.id.ctx d
  else if isOp 0x23 d && good then s.rotated c.id.ctx (if flag d 208 then some (fld d 207 192) else none)
  else if isOp 0xA1 d then s.tapComplete c.id
  else if isOp 0x42 d && flag d 211 && (good || decide (st = .dataSuspect ∨ st = .unitRetired)) then
    s.releaseShadow (standCore d)
  else s

/-- A command stopped by a retirement or a membership change has begun its work: a stand, vector or embedding
command that found its unit retired or narrowed, and a collective refused at its release, performed none,
unless it had met an error or waited for other members (R78, R136, R179, R305). -/
def Cmd.begun (c : Cmd) : Bool :=
  decide (opcode c.desc / 32 < 2 ∨ 0 < c.errors ∨ c.needs ≠ [])

/-- The outputs that a status leaves undefined at the record: those of a command stopped by a retirement or
a membership change, or whose data failed after its release (R10). -/
def State.recordOutputs (s : State) (c : Cmd) (st : Status) : State :=
  if 0 < c.rank ∧ (((st = .unitRetired ∨ st = .membershipChanged) ∧ c.begun = true) ∨
      (st = .dataSuspect ∧ c.suspect = true)) then
    s.scrambleAll (s.outputs c ++ (if st = .dataSuspect then [] else s.fetchOutputs c.id.ctx c.desc))
  else s

/-- A context that holds no slot and is no longer runnable waits no more (R340). -/
def State.endWait (s : State) (c : Nat) : State :=
  if s.isWaiting c then s else s.setCtx c { s.ctx c with wait := none }

/-- A completed command leaves the device; its context may have no more to wait for (R325, R340, R348, R425). -/
def State.leave (s : State) (c : Cmd) (st : Status) : State :=
  let t := if isOp 0x86 c.desc then s.endFetch c else s.endAsks c
  let t := (t.endColl c).wearOut c.id
  let t := { t with
    cmds := t.cmds.filter fun (x : Cmd) => decide (x.id ≠ c.id)
    abortWaits := t.abortWaits.filter fun (w : AbortWait) => decide (w.id ≠ c.id) }
  let t := t.bump (0x6000 + c.id.ctx) 11 1
  let t := if st = .aborted then t.bump 0x6102 3 1 else t
  (t.settleAborts c.id st).endWait c.id.ctx

/-- COMPLETION_RECORD_WRITE: a finished command's record is written, its signal applied, its interrupt sent
(R10, R324 to R326, R333, R359). -/
def execCompletionRecordWrite (id : CmdId) (s : State) : Host.Outcome State Fault Refusal :=
  match s.findCmd id with
  | none => .next s
  | some c =>
    match c.phase with
    | .finished st =>
      if s.pins.ready && !s.mgmt.stopped && s.recordFree id.ctx id.queue && !s.framesHeld c then
        let t := ((s.recordOutputs c st).putRecord c st).recordEffects c st
        .next (((t.signalFor c st).interruptFor c).leave c st)
      else .next s
    | _ => .next s

end Sys2Proof.Machine
end

