-- ==== Sys2Proof/Machine/Frames.lean ====
section
/-! DEFINITION. The frames a device receives (chapters Carust Links, R264 to R276, and Commands, Contexts and
Synchronization, R330 to R343). A row names a frame by its place in the inbox. -/

namespace Sys2Proof.Machine

/-- The frame at a place of the inbox, if it is of a kind, with the inbox without it and its credits given back
(R267). -/
def State.takeFrame (s : State) (k kind : Nat) : Option (Frame × State) :=
  match s.inbox[k]? with
  | some f => if f.kind = kind then some (f, { s with inbox := dropAt s.inbox k }.unstage f) else none
  | none => none

/-- What a row does with its frame; without such a frame it changes nothing (log entry 14). -/
def State.onFrame (s : State) (k kind : Nat) (f : State → Frame → State) : State :=
  match s.takeFrame k kind with
  | some (x, t) => f t x
  | none => s

/-- What a row does with a frame that accesses memory: it stays in staging until its accesses are served, and pays for
them (R241, R243, R483, log entry 123). -/
def State.onServed (s : State) (k kind : Nat) (needs : State → Frame → List Access) (f : State → Frame → State) : State :=
  s.onFrame k kind fun t x =>
    let l := needs s x
    if s.serves l then f (t.payFor l) x else s

/-- SIGNAL: an object owned by the frame's context takes the increment, and FAULT with it where the flag is
set, as one step; another is refused (R335). -/
def execSignal (k : Nat) (s : State) : Host.Outcome State Fault Refusal :=
  .next (s.onFrame k 0x01 fun s f =>
    let o := f.addr % 65536
    let x := ofBytes (f.body.take 8)
    if s.owner o ≠ f.ctx then s.sendRefused f .accessDenied
    else if s.syncDead o then s.sendRefused f .unitRetired
    else s.signalObj o (bits x 31 0) (x.testBit 40))

/-- ABORT_NOTICE: decided here and answered once it is known; a context that is not defined here is refused
(R330). -/
def execAbortNotice (k : Nat) (s : State) : Host.Outcome State Fault Refusal :=
  .next (s.onFrame k 0x02 fun s f =>
    let x := ofBytes (f.body.take 8)
    let seq := bits x 31 0
    let q := bits x 39 32
    if !s.isDefined f.ctx then s.sendRefused f .accessDenied
    else if 16 ≤ q then s.sendRefused f .invalid
    else
      match s.abortSet f.ctx q seq (s.queue f.ctx q).producer (x.testBit 40) none with
      | .invalid => s.sendRefused f .invalid
      | .already => s.sendRefused f .alreadyComplete
      | .targets l =>
        let w : NoticeWait := ⟨f.src, f.ctx, q, seq, f.tag, l, false⟩
        { s.abortTargets l with notices := s.notices ++ [w] })

/-- The angle nearest the current one with these low 32 bits (R343). -/
def State.nearestAngle (s : State) (low : Nat) : Angle :=
  let a := s.angle.toNat
  let d := (low + 2 ^ 32 - a % 2 ^ 32) % 2 ^ 32
  if d < 2 ^ 31 then BitVec.ofNat 48 (a + d) else BitVec.ofNat 48 (a + 2 ^ 48 - (2 ^ 32 - d))

/-- PREEMPT_NOTICE: the slot that holds the frame's context yields at the deadline (R343). -/
def execPreemptNotice (k : Nat) (s : State) : Host.Outcome State Fault Refusal :=
  .next (s.onFrame k 0x03 fun s f =>
    s.yieldCtx f.ctx (s.nearestAngle (bits (ofBytes (f.body.take 8)) 63 32)))

/-- ROW_REQUEST: the rows of the versions named are served (R166). -/
def execRowRequest (k : Nat) (s : State) : Host.Outcome State Fault Refusal :=
  .next (s.onServed k 0x10 State.rowsAccess State.serveRows)

/-- ROW_REPLY: the rows asked for arrive (R300). -/
def execRowReply (k : Nat) (s : State) : Host.Outcome State Fault Refusal :=
  .next (s.onFrame k 0x30 fun s f => s.answerAsk f.tag f.src .ok f.body)

/-- HOLD: a reader is added to a version or withdrawn (R156). -/
def execHold (k : Nat) (s : State) : Host.Outcome State Fault Refusal :=
  .next (s.onFrame k 0x11 State.applyHold)

/-- Bytes of memory sent in READ_REPLY frames of at most 1,048,576 bytes, each at its own address (R264, R265). -/
def State.sendRead (f : Frame) : Nat → Nat → Nat → State → State
  | 0, _, _, s => s
  | k + 1, a, n, s =>
    let m := min n frameRoom
    let t := s.sendFrame (s.mkFrame 0x31 f.ctx f.src f.tag a (s.devRead a m))
    if n ≤ m then t else State.sendRead f k (a + m) (n - m) t

/-- READ_REQUEST: bytes of the context's memory from the frame's address, in address order (R264, R265, R276, log
entry 23). -/
def execReadRequest (k : Nat) (s : State) : Host.Outcome State Fault Refusal :=
  .next (s.onServed k 0x12 (fun _ f => oneAccess f.addr (ofBytes f.body) false) fun s f =>
    let n := ofBytes f.body
    if !(s.inStack f.addr n && s.ctxMem f.ctx f.addr n) then s.sendRefused f .accessDenied
    else if s.devReadBad f.addr n then s.sendRefused f .dataSuspect
    else s.sendRead f (n / frameRoom + 1) f.addr n)

/-- READ_REPLY, WRITE: the bytes are written in address order in the context's memory, or refused; no command of
this device asks for bytes (R265, R276). -/
def execReadReply (k : Nat) (s : State) : Host.Outcome State Fault Refusal :=
  .next (s.onServed k 0x31 (fun _ f => oneAccess f.addr f.body.length true) fun s f =>
    let n := f.body.length
    if s.inStack f.addr n && s.ctxMem f.ctx f.addr n then
      let bad := s.devWriteBad f.addr n
      let t := s.devWrite f.addr f.body
      if bad then t.sendRefused f .dataSuspect else t
    else s.sendRefused f .accessDenied)

/-- FETCH_REQUEST: a replica fetch is served from the committed epoch (R173, R217). -/
def execFetchRequest (k : Nat) (s : State) : Host.Outcome State Fault Refusal :=
  .next (s.onServed k 0x13 State.fetchAccess State.onFetch)

/-- FETCH_ROWS: the fingerprint's parameters and rows asked for arrive (R217). -/
def execFetchRows (k : Nat) (s : State) : Host.Outcome State Fault Refusal :=
  .next (s.onFrame k 0x32 fun s f => s.answerAsk f.tag f.src .ok f.body)

/-- COLLECTIVE: a frame joins the step of the collective of its context and tag, cancels it, or stays in
staging until that collective is released (R287, R288, R308). -/
def execCollective (k : Nat) (s : State) : Host.Outcome State Fault Refusal :=
  match s.takeFrame k 0x20 with
  | some (f, t) => .next ((t.takeColl f).getD s)
  | none => .next s

/-- NO_ROUTE: the destination it names is unreachable; where the frame was a signal, that is recorded (R275,
R335, log entry 30). -/
def execNoRoute (k : Nat) (s : State) : Host.Outcome State Fault Refusal :=
  .next (s.onFrame k 0x33 fun s f =>
    let x := ofBytes (f.body.take 6)
    let tag := bits x 31 0
    let t := s.markUnreachable (bits x 47 32)
    if t.asks.any (fun a => decide (a.tag = tag)) || t.abortWaits.any (fun w => decide (w.tag = tag)) ||
        (t.coll f.ctx tag).isSome then t
    else t.lostSignal f.ctx)

/-- The status an operation completes with on a refusal: the one carried where it may, else ACCESS_DENIED (R276). -/
def orDenied (l : List Status) (st : Status) : Status := if st ∈ l then st else .accessDenied

/-- REFUSED: the operation that sent the refused frame completes with the status carried: a request of a
command, an abort of another member's queue, a collective, or a signal of a command complete already
(R183, R276, R313, R315, R330, R335, log entry 30). -/
def execRefusedFrame (k : Nat) (s : State) : Host.Outcome State Fault Refusal :=
  .next (s.onFrame k 0x34 fun s f =>
    let x := ofBytes (f.body.take 5)
    let tag := bits x 31 0
    match Status.ofCode (bits x 39 32) with
    | none => s
    | some st =>
      if s.asks.any fun a => decide (a.tag = tag ∧ a.member = f.src) && a.sent && a.reply.isNone then
        s.answerAsk tag f.src
          (orDenied [.ok, .unitRetired, .busy, .invalid, .membershipChanged, .dataSuspect] st) []
      else
        match s.abortWaits.find? fun w => decide (w.tag = tag ∧ w.remote = some f.src) with
        | some w =>
          let t := { s with abortWaits := s.abortWaits.filter fun (y : AbortWait) => decide (y.id ≠ w.id) }
          if (s.findCmd w.id).any fun c => decide (c.phase = Phase.released) then
            t.finish w.id (orDenied [.ok, .alreadyComplete, .invalid, .membershipChanged] st)
          else t
        | none =>
          match ((s.coll f.ctx tag).bind (·.cmd)).bind s.findCmd with
          | some c =>
            if c.phase ≠ Phase.released ∨ st = .ok then s
            else
              let st := orDenied [.invalid, .membershipChanged, .dataSuspect] st
              let t := s.finish c.id st
              if st = .membershipChanged then t.tally f.ctx 0x7140 25 1 else t
          | none => if st = .ok then s else s.lostSignal f.ctx)

end Sys2Proof.Machine
end

