-- ==== Sys2Proof/Machine/MemRepair.lean ====
section
/-! DEFINITION. Migration, scrub, the re-encryption sweep, regulators and margin scans (chapter The Stacked
Memory, R241 to R256). -/

namespace Sys2Proof.Machine

/-! ### Migration -/

/-- A grain lies under an open block slice: an undo record is kept for it (R206, R248). -/
def State.slicedGrain (s : State) (a : Nat) : Bool := s.undo.any fun y => decide (y.addr = a / 256 * 256)

/-- Relocated grains a pseudo-channel holds. -/
def State.relocatedIn (s : State) (p : Nat) : Nat := (s.pool.reloc.filter fun x => decide (x.2 = some p)).length

/-- Where the next grain goes: the in-service pseudo-channel with the fewest relocated grains, the lowest on
ties (R236, log entry 31). -/
def State.spare (s : State) : Option Nat :=
  minBy s.relocatedIn ((List.range 1280).filter fun p => !s.retired (.pc p))

/-- The eight sectors of a grain poisoned, and counted (R249). -/
def State.poisonGrain (s : State) (a : Nat) : State :=
  let t := { s with pool := { s.pool with
      poison := (List.range 8).foldl (fun t k => Tab.put false t (a / 32 + k) true) s.pool.poison } }
  t.bump 0x4000 6 1

/-- The first migration replaced. -/
def State.setMigration (s : State) (m : Migration) : State :=
  { s with pool := { s.pool with migrations := m :: s.pool.migrations.drop 1 } }

/-- The grain a migration moves next: of the pseudo-channel's own slots in ascending order, then of those it
had taken from others (R247). -/
def State.nextGrain (s : State) (m : Migration) : Option Nat :=
  if m.next < slotsPerPc then s.slotAddr m.pc m.next
  else (s.pool.reloc.find? fun x => decide (x.2 = some m.pc)).map fun x => 256 * x.1

/-- One grain moved: whole where it can be read, poisoned where it cannot; host accesses that wait for it are served
(R248, R249, R483). -/
def State.moveGrain (s : State) (m : Migration) (a goal : Nat) (readable : Bool) : State :=
  let good := readable && decide (m.from_ ≠ .unreadable)
  let t := { s with pool := { s.pool with reloc := Tab.put none s.pool.reloc (a / 256) (some goal) } }
  let t := if good then t else t.poisonGrain a
  (t.setMigration { m with next := m.next + 1, lost := m.lost + b2n (!good) }).serveHost

/-- MIGRATION_GRAIN: the next grain of the pseudo-channel that migrates is copied and switched to a spare,
unless an open slice covers it (R236, R247 to R249, R483). -/
def execMigrationGrain (readable : Bool) (s : State) : Host.Outcome State Fault Refusal :=
  match s.pool.migrations with
  | [] => .next s
  | m :: _ =>
    match s.nextGrain m with
    | none => if m.next < slotsPerPc then .next (s.setMigration { m with next := m.next + 1 }) else .next s
    | some a =>
      if s.slicedGrain a then .next s
      else
        match s.spare with
        | none => .next s
        | some p => .next (s.moveGrain m a p readable)

/-- MIGRATION_COMPLETE: the pseudo-channel holds no grain any more and is out of service (R247, R249). -/
def execMigrationComplete (s : State) : Host.Outcome State Fault Refusal :=
  match s.pool.migrations with
  | [] => .next s
  | m :: rest =>
    if m.next < slotsPerPc ∨ (s.nextGrain m).isSome = true then .next s
    else
      let t := { s with pool := { s.pool with migrations := rest } }
      let t := t.recordEvent (unitEvent 0x3005 (.pc m.pc) 0)
      if m.lost = 0 then .next t
      else .next (t.recordEvent { unitEvent 0x3007 (.pc m.pc) 3 with detail := m.lost })

/-- Grains still to be moved (object 0x4000 subindex 5, R257). -/
def State.grainsLeft (s : State) : Nat :=
  (s.pool.migrations.map fun m =>
    let full := s.top / 256 / 1280
    (full - m.next) + (if m.next ≤ full ∧ (s.slotAddr m.pc full).isSome = true then 1 else 0) +
      s.relocatedIn m.pc).sum

/-! ### Scrub -/

/-- Sectors of a pseudo-channel (R228). -/
def sectorsPerPc : Nat := 25165824

/-- PATROL_SCRUB: the next sector of the in-service pseudo-channels is read: good (0), corrected (1) or
uncorrectable (2), which is read again. The row of the finding, and whether the second read succeeds, are
free values (R243, R246, log entry 27). -/
def execPatrolScrub (finding : Nat) (s : State) : Host.Outcome State Fault Refusal :=
  let total := 1280 * sectorsPerPc
  let p := s.pool.scrub / sectorsPerPc % 1280
  let i := s.pool.scrub % sectorsPerPc
  let go := fun (n : Nat) => { s with pool := { s.pool with scrub := n % total } }
  if !s.pins.ready || s.reloadingDie (20 + p / 64) then .next s
  else if s.retired (.pc p) then .next (go ((p + 1) * sectorsPerPc))
  else
    let t := go (s.pool.scrub + 1)
    let row := UnitId.memRow p (s.freeVal 0 % 2 ^ 24)
    match finding with
    | 1 => .next (((t.usedFree 1).countMemory 0x3001 row).askTest ⟨row, none, 0, false, 0x3001, false⟩)
    | 2 =>
      let t := (t.usedFree 3).countMemory 0x3002 row
      let t := if s.freeVal 1 % 2 = 1 then
          (((s.sectorAt p i (s.freeVal 2)).map t.poisonAt).getD t).recordEvent (unitEvent 0x3002 row 3)
        else t
      .next (t.askTest ⟨row, none, 0, false, 0x3002, false⟩)
    | _ => .next t

/-! ### The sweep -/

/-- The next page of a context's sweep: the first not yet swept of its encrypted partitions, in ascending
address order (R253). -/
def State.sweepNext (s : State) (c : Nat) : Option Nat :=
  let n := (Tab.get Sweep.idle s.pool.sweeps c).next
  minBy (fun p => p) ((s.encPages c).filterMap fun r => if max r.1 n < r.2 then some (max r.1 n) else none)

/-- One sector brought under the new key if its KEYGEN names the retiring slot (R253). -/
def State.sweepSector (s : State) (retiring k : Nat) : State :=
  if ((s.tag k).map (·.slot)).getD 0 = retiring ∧ s.poisoned k = false then
    s.stackWrite (32 * k) ((List.range 32).map fun i => s.stackByte (32 * k + i))
  else s

/-- SWEEP_PAGE: the sectors of a page still under the retiring slot are rewritten under the current one, once no grain
of it waits to be moved (R253, R483). -/
def execSweepPage (ctx : Nat) (s : State) : Host.Outcome State Fault Refusal :=
  let w := Tab.get Sweep.idle s.pool.sweeps ctx
  match s.sweepNext ctx with
  | none => .next s
  | some p =>
    if w.active && !s.grainWaits (4096 * p) 4096 then
      let t := (List.range 128).foldl (fun (t : State) i => t.sweepSector w.retiring (128 * p + i)) s
      .next { t with pool := { t.pool with
          sweeps := Tab.put Sweep.idle t.pool.sweeps ctx { w with next := p + 1 } } }
    else .next s

/-- A key slot zeroed. -/
def KeySlots.zero (k : KeySlots) (slot : Nat) : KeySlots :=
  if slot = 0 then { k with key0 := none } else { k with key1 := none }

/-- SWEEP_COMPLETE: no page is left; the retiring slot is zeroed, the end recorded, and SWEEP_OBJ signalled
by 1 (R253, R371). -/
def execSweepComplete (ctx : Nat) (s : State) : Host.Outcome State Fault Refusal :=
  let w := Tab.get Sweep.idle s.pool.sweeps ctx
  if w.active && (s.sweepNext ctx).isNone then
    let k := (s.keySlots ctx).zero w.retiring
    let t := { s with pool := { s.pool with
        keys := Tab.put KeySlots.zeroed s.pool.keys ctx k
        sweeps := Tab.put Sweep.idle s.pool.sweeps ctx Sweep.idle } }
    let t := t.recordEvent ⟨0x3008, .none_, t.mgmtLoc, 0, 0xFF, ctx, 0⟩
    match w.obj with
    | some o => .next (if t.syncDead o then t else t.signalObj o 1 false)
    | none => .next t
  else .next s

/-- Pages still to sweep (object 0x4210, R257). -/
def State.pagesLeft (s : State) (c : Nat) : Nat :=
  let w := Tab.get Sweep.idle s.pool.sweeps c
  if w.active then ((s.encPages c).map fun r => r.2 - max r.1 w.next).sum else 0

/-! ### Regulators -/

/-- A stack's bucket of a partition at a refill: the rate and burst written are in force from now on; it gains a
twentieth of the rate, up to a twentieth of the burst, and pays the accesses that wait; it holds twentieths of a byte
(R240, R241). -/
def State.refill (s : State) (stack p : Nat) : State :=
  let k := stack * 16 + p
  let rate := s.objv (0x4100 + p) 5
  let burst := s.objv (0x4100 + p) 6
  let n := if rate = 0 then 0 else min burst (Tab.get 0 s.pool.buckets k + rate)
  ({ s with pool := { s.pool with
      rates := Tab.put (0, 0) s.pool.rates k (rate, burst)
      buckets := Tab.put 0 s.pool.buckets k n } }).payBucket k

/-- REGULATOR_REFILL: the buckets of one stack, each of an enabled partition (R241). -/
def execRegulatorRefill (stack : Nat) (s : State) : Host.Outcome State Fault Refusal :=
  .next (if stack < 20 then ((List.range 16).filter s.partOn).foldl (fun t p => t.refill stack p) s else s)

/-! ### Margin scans -/

/-- A scan needs a quiet pseudo-channel: it waits for a window of the memory class where one is configured
(R255, R256). -/
def State.scanMayRun (s : State) : Bool := s.quietNow 3 s.now

/-- MARGIN_SCAN_COMPLETE: a scan that runs, or whose window has come, reports its passing steps; fewer than
12 on a side of a timing scan mark the pseudo-channel marginal (R256, R257). -/
def execMarginScanComplete (below above : Nat) (s : State) : Host.Outcome State Fault Refusal :=
  let st := s.objv 0x4300 6
  let kind := s.pool.scan.2
  let stack := s.pool.scan.1 / 64
  let pc := s.pool.scan.1 % 64
  let most := if kind = 2 then 30 else 32
  if st = 2 ∨ (st = 1 ∧ s.scanMayRun = true) then
    let t := (((s.setObj 0x4300 4 (min below most)).setObj 0x4300 5 (min above most)).setObj 0x4300 6 3).serveHost
    if kind = 2 then .next t
    else
      let mask := t.objv 0x4001 (21 + stack)
      let rest := if mask.testBit pc then mask - 2 ^ pc else mask
      if below < 12 ∨ above < 12 then
        .next ((t.setObj 0x4001 (21 + stack) (rest + 2 ^ pc)).recordEvent
          (unitEvent 0x3009 (.pc (64 * stack + pc)) 0))
      else .next (t.setObj 0x4001 (21 + stack) rest)
  else .next s

end Sys2Proof.Machine
end

