-- ==== Sys2Proof/Machine/Power.lean ====
section
/-! DEFINITION. The power manager: rail telemetry, current limits, operating points, the envelope, the
package cap, slack records, wide-margin mode and heat (chapter Power, Current and Heat). -/

namespace Sys2Proof.Machine

/-! ### Rails -/

/-- The rails in the slots of a telemetry group (R375). -/
def groupRails (g : Nat) : List Nat :=
  if g < 8 then [g]
  else match g with
    | 8 => [8, 9, 10, 11]
    | 9 => [12, 13, 14, 15]
    | 10 => [16, 17, 18, 19]
    | 11 => [20, 21, 22, 23]
    | 12 => [24, 25, 26]
    | _ => []

/-- The nominal voltage of a rail in mV (R375). -/
def nominal (r : Nat) : Nat :=
  match r with
  | 8 | 24 | 25 => 800
  | 11 | 21 | 23 => 900
  | 12 | 16 => 1050
  | 13 | 17 => 700
  | 15 | 19 | 26 => 1800
  | _ => 750

/-- The design current of a rail in mA (R375). -/
def designCurrent (r : Nat) : Nat :=
  if r < 8 then 250000
  else match r with
    | 8 => 272000
    | 9 | 12 | 16 => 120000
    | 10 => 72000
    | 11 => 29000
    | 13 | 17 | 21 | 23 => 80000
    | 14 | 18 => 160000
    | 15 | 19 => 10000
    | 20 | 22 => 128000
    | 24 | 25 => 6000
    | _ => 3000

/-- The AVSBus and the rail on it that a rail is regulated by; none for those of fixed voltage (R375). -/
def avsAddress (r : Nat) : Option (Nat × Nat) :=
  if r < 10 then some (0, r)
  else if r < 12 then some (1, r + 2)
  else if r < 24 then some (1, r - 12)
  else none

/-- The least and the greatest voltage a rail is regulated to, in mV (R375). -/
def regulation (r : Nat) : Nat × Nat :=
  if r < 8 then (550, 850)
  else match r with
    | 8 => (750, 850)
    | 11 | 21 | 23 => (870, 930)
    | 12 | 16 => (1020, 1080)
    | 13 | 17 => (670, 730)
    | 15 | 19 => (1750, 1850)
    | 24 | 25 | 26 => (nominal r, nominal r)
    | _ => (700, 800)

/-- A rail as the power manager holds it. -/
def State.rail (s : State) (r : Nat) : Rail := Tab.get Rail.fresh s.power.rails r

/-- A rail replaced. -/
def State.setRail (s : State) (r : Nat) (x : Rail) : State :=
  { s with power := { s.power with rails := Tab.put Rail.fresh s.power.rails r x } }

/-- A telemetry group. -/
def State.telem (s : State) (g : Nat) : TelemGroup := Tab.get TelemGroup.fresh s.power.groups g

/-- A telemetry group replaced. -/
def State.setTelem (s : State) (g : Nat) (x : TelemGroup) : State :=
  { s with power := { s.power with groups := Tab.put TelemGroup.fresh s.power.groups g x } }

/-- A Kyoty die's operating point and understory. -/
def State.dieOp (s : State) (k : Nat) : DieOp := Tab.get DieOp.fresh s.power.dies k

/-- A Kyoty die's operating point replaced. -/
def State.setDieOp (s : State) (k : Nat) (x : DieOp) : State :=
  { s with power := { s.power with dies := Tab.put DieOp.fresh s.power.dies k x } }

/-- A change made to every Kyoty die. -/
def State.eachDie (s : State) (f : DieOp → DieOp) : State :=
  (List.range 8).foldl (fun (t : State) k => t.setDieOp k (f (t.dieOp k))) s

/-- The voltage last commanded on a rail in mV (R376). -/
def State.commanded (s : State) (r : Nat) : Nat := if r < 8 then (s.dieOp r).mv else nominal r

/-- The samples of a rail in the last ns of a window. -/
def State.window (s : State) (r ns : Nat) : List (Nat × Nat × Nat) :=
  (s.rail r).samples.takeWhile fun x => decide (s.now < x.1 + ns)

/-- The mean of a list of numbers, 0 where there is none. -/
def meanOf (l : List Nat) : Nat := if l = [] then 0 else l.sum / l.length

/-- The mean current of a rail over a window in mA. -/
def State.meanCurrent (s : State) (r ns : Nat) : Nat := meanOf ((s.window r ns).map (·.2.1))

/-- The mean voltage of a rail over a window in mV. -/
def State.meanVoltage (s : State) (r ns : Nat) : Nat := meanOf ((s.window r ns).map (·.2.2)) / 10

/-- The mean package power over a window as a fraction, in units of 0.1 µW: V × I summed over all rails (R393). -/
def State.powerOver (s : State) (ns : Nat) : Nat × Nat :=
  (List.range 27).foldl (fun (a : Nat × Nat) r =>
    let l := (s.window r ns).map fun x => x.2.1 * x.2.2
    if l = [] then a else (a.1 * l.length + l.sum * a.2, a.2 * l.length)) (0, 1)

/-- The mean package power over a window in W. -/
def State.meanPower (s : State) (ns : Nat) : Nat := (s.powerOver ns).1 / (10000000 * (s.powerOver ns).2)

/-- The mean package power of the last millisecond exceeds a number of W (R393). -/
def State.powerAbove (s : State) (w : Nat) : Bool :=
  let p := s.powerOver 1000000
  decide (10000000 * w * p.2 < p.1)

/-- The mean package power of the last millisecond lies below a number of W (R393). -/
def State.powerBelow (s : State) (w : Nat) : Bool :=
  let p := s.powerOver 1000000
  decide (p.1 < 10000000 * w * p.2)

/-! ### The profile and the cap -/

/-- The effective cap in W; the profile's is not applied in wide-margin mode (R388, R392, R394). -/
def State.effectiveCap (s : State) : Nat :=
  let base : Int := if s.follows && !s.power.wide then (((s.power.profEntry s.power.entry).getD 3 2900 : Nat) : Int) else 2900
  let c := base + s.power.capOffset
  (max 1200 (min 2900 c)).toNat

/-- The voltage of an operating point in mV (R385). -/
def opVoltage (op : Nat) : Nat := [750, 725, 700, 675, 650, 610, 580, 560, 750].getD op 750

/-- The stand clock of an operating point in units of 0.1 MHz (R385). -/
def opClock (op : Nat) : Nat := [17500, 16250, 15000, 13750, 12500, 10000, 7500, 4375, 8750].getD op 8750

/-- The limit action that acts on a Kyoty die, in steps (R382). -/
def State.limitAction (s : State) (k : Nat) : Nat := max (s.rail k).action (s.rail 8).action

/-- The point a die runs at when the profile or the fallback asks for one: the lowest of the point asked for, the
ceilings and the hold of a blind group; in wide-margin mode WM, or a ceiling whose clock is lower (R380, R388, R393 to
R395, R397). -/
def State.pointFor (s : State) (k base : Nat) : Nat :=
  let d := s.dieOp k
  let held := min 7 (max (max d.ceilCap d.ceilHeat) (if (s.telem k).blind then 4 else 0))
  if s.power.wide then (if opClock held < opClock 8 then held else 8) else max (min 7 base) held

/-- The point the profile or the fallback asks for (R388). -/
def State.basePoint (s : State) : Nat :=
  if s.follows then (s.power.profEntry s.power.entry).getD 1 0 else s.objv 0x3101 4

/-- The target voltage of a Kyoty die's rail written, within the range it is regulated in (R375, R377). -/
def State.writeVoltage (s : State) (k mv : Nat) : State :=
  match avsAddress k with
  | some a => { s with out := s.out ++ [Output.avsWrite a.1 a.2 (max (regulation k).1 (min (regulation k).2 mv))] }
  | none => s

/-- A die on its way to a point: to a slower clock at once, its voltage after it, not below one raised ahead of a
profile entry still to come; to a faster one first the voltage, at 10 mV/µs and 5 µs more, then the clock (R385,
R386). -/
def DieOp.moved (d : DieOp) (op now : Nat) (ahead : Bool) : DieOp :=
  let keep := if ahead then d.ahead else 0
  let v := opVoltage op
  if opClock d.op < opClock op then
    (if v ≤ d.mv then { d with op := if d.riseAt ≤ now then op else d.op, ahead := keep }
     else { d with mv := v, ahead := keep, riseAt := now + 100 * (v - d.mv) + 5000 })
  else { d with op := op, mv := max v keep, ahead := keep }

/-- Every Kyoty die moved to its point, its voltage written where it changes (R385, R386). -/
def State.applyPoints (s : State) : State :=
  (List.range 8).foldl (fun (t : State) k =>
    let d := t.dieOp k
    let n := d.moved (t.pointFor k t.basePoint) t.now (t.follows && !t.power.wide)
    let t := t.setDieOp k n
    if n.mv = d.mv then t else t.writeVoltage k n.mv) s

/-! ### Wide-margin mode -/

/-- Wide-margin mode entered on a cause: every die at WM, no envelope, no understory (R394). -/
def State.enterWide (s : State) (cause : Nat) : State :=
  let t := { s with power := { s.power with
      wide := true
      wideReq := true
      wideAt := none
      cause := cause } }
  (t.eachDie fun d => { d with envelope := 0, duty := 0, ahead := 0 }).applyPoints

/-- Wide-margin mode left: the dies move to the point of the profile in force (R454). -/
def State.leaveWide (s : State) : State :=
  ({ s with power := { s.power with wide := false, wideAt := none } }).applyPoints

/-! ### Undervoltage -/

/-- The units of Kyoty die k that its logic rail feeds. -/
def kyotyUnits (k : Nat) : List UnitId :=
  let cores := (List.range 12).map (· + 12 * k)
  cores.map UnitId.stand ++ cores.map UnitId.vector ++ cores.map UnitId.mover ++
    [UnitId.embedding (2 * k), UnitId.embedding (2 * k + 1), UnitId.die k]

/-- The units a rail feeds (R375). -/
def railUnits (r : Nat) : List UnitId :=
  let side := if r < 16 then 0 else 10
  let sideStacks := (List.range 10).map (· + side)
  let links := (List.range 4).map fun n => if r < 22 then n else n + 4
  if r < 8 then kyotyUnits r
  else if r = 8 then ((List.range 8).map kyotyUnits).flatten
  else if r = 9 then fabricEdges
  else if r = 10 then [.copyEngine 0, .copyEngine 1, .die 16, .die 17]
  else if r = 11 then
    ((List.range 2).map fun h => (List.range 16).map fun l => (⟨0x0D, 16 + h, l, 0, 0⟩ : UnitId)).flatten
  else if r = 14 ∨ r = 18 then sideStacks.map UnitId.taproot ++ sideStacks.map fun n => UnitId.die (20 + n)
  else if r < 20 then (sideStacks.map fun n => (List.range 64).map fun p => UnitId.pc (64 * n + p)).flatten
  else if r = 20 ∨ r = 22 then links.map UnitId.adders ++ links.map fun n => UnitId.die (8 + n)
  else if r = 21 ∨ r = 23 then
    (links.map fun n => ((List.range 3).map fun p =>
      (List.range 8).map fun l => UnitId.lane (3 * n + p) l).flatten).flatten
  else if r = 24 then [.mgmt 0]
  else if r = 25 then [.mgmt 1]
  else []

/-- An undervoltage of a rail: wide-margin mode at once, the event, the tests of the units in service the
rail feeds; that of the active management die calls for the takeover (R381, R426, R432). -/
def State.undervoltage (s : State) (r : Nat) : State :=
  let t := (s.enterWide 2).recordEvent (s.info 0x7001 4 0)
  if r = 24 ∨ r = 25 then
    (if t.mgmt.active = r - 24 then t.callTakeover 2
     else if t.retired (.mgmt (r - 24)) then t
     else t.askTest ⟨.mgmt (r - 24), none, 2, false, 0x7001, false⟩)
  else ((railUnits r).filter fun u => !t.retired u).foldl
    (fun (t : State) u => t.askTest ⟨u, none, 2, false, 0x7001, false⟩) t

/-- A voltage sample in 0.1 mV held against 92% of the commanded voltage (R381). -/
def State.checkVoltage (s : State) (r v : Nat) : State :=
  let x := s.rail r
  if 10 * v < 92 * s.commanded r then
    let t := s.setRail r { x with underRun := x.underRun + 1, under := x.under || decide (2 ≤ x.underRun) }
    if 2 ≤ x.underRun ∧ x.under = false then t.undervoltage r else t
  else s.setRail r { x with underRun := 0, under := false }

/-! ### Current limits -/

/-- The steps a rail's action may reach: down to 4/16 of the clock, or to 8/16 of the slots (R382). -/
def maxAction (r : Nat) : Nat :=
  if r ≤ 8 then 12 else if r = 9 ∨ 24 ≤ r then 0 else 8

/-- Window w of R382 in ns. -/
def limitWindow (w : Nat) : Nat := if w = 0 then 1000 else if w = 1 then 100000 else 10000000

/-- A limit of a rail in force in 0.1 mA, at 60% in wide-margin mode (R382, R383, R394). -/
def State.limitOf (s : State) (r w : Nat) : Nat :=
  (if s.power.wide then 6 else 10) * s.objv (0x3102 + w) (r + 1)

/-- The samples of a rail's current in a window of R382: their sum and their count. -/
def State.windowSum (s : State) (r w : Nat) : Nat × Nat :=
  let l := (s.window r (limitWindow w)).map (·.2.1)
  (l.sum, l.length)

/-- The mean current of a window exceeds its limit (R382). -/
def State.overLimit (s : State) (r w : Nat) : Bool :=
  let x := s.windowSum r w
  decide (s.limitOf r w * x.2 < 10 * x.1)

/-- The mean current of a window stays below 95% of its limit (R382). -/
def State.belowLimit (s : State) (r w : Nat) : Bool :=
  let x := s.windowSum r w
  decide (x.2 = 0 ∨ 1000 * x.1 < 95 * s.limitOf r w * x.2)

/-- A rail's windows held against its limits: a frame that exceeds one deepens the action by a step, and is
recorded where it begins; every window below 95% releases one (R382). -/
def State.checkLimits (s : State) (r : Nat) : State :=
  let x := s.rail r
  let exceeded := (List.range 3).any fun w => s.overLimit r w
  let clear := (List.range 3).all fun w => s.belowLimit r w
  if exceeded then
    let t := s.setRail r { x with action := min (maxAction r) (x.action + 1), exceeded := true }
    if x.exceeded then t else t.recordEvent (t.info 0x7003 4 0)
  else if clear then s.setRail r { x with action := x.action - 1, exceeded := decide (1 < x.action) }
  else s

/-- A sample of a rail taken in: kept for the longest window. -/
def State.takeSample (s : State) (r ma v : Nat) : State :=
  let x := s.rail r
  let old := x.samples.takeWhile fun y => decide (s.now < y.1 + 10000000)
  s.setRail r { x with samples := (s.now, ma, v) :: old }

/-! ### Telemetry -/

/-- A frame's check: CRC, GROUP and SEQ (R378, R379). -/
def frameCrcOk (frame : BitVec 128) : Bool :=
  decide (crc8 (toBytes 15 (frame.toNat / 256)).reverse = bits frame.toNat 7 0)

/-- The current in mA and the voltage in 0.1 mV of a slot of a frame (R378). -/
def frameSlot (frame : BitVec 128) (k : Nat) : Nat × Nat :=
  (20 * bits frame.toNat (28 * k + 35) (28 * k + 20), 5 * bits frame.toNat (28 * k + 19) (28 * k + 8))

/-- The samples of a valid frame: energy counted, limits and voltages checked (R381, R382, R398). -/
def State.takeSamples (s : State) (g : Nat) (frame : BitVec 128) : State :=
  ((groupRails g).zip (List.range 4)).foldl (fun (t : State) x =>
    let v := frameSlot frame x.2
    let t := { t with power := { t.power with energy := t.power.energy + v.1 * v.2 } }
    ((t.takeSample x.1 v.1 v.2).checkLimits x.1).checkVoltage x.1 v.2) s

/-- The voltages of a valid frame of a group still blind, whose currents come from AVSBus (R380, R381). -/
def State.takeVoltages (s : State) (g : Nat) (frame : BitVec 128) : State :=
  ((groupRails g).zip (List.range 4)).foldl (fun (t : State) x => t.checkVoltage x.1 (frameSlot frame x.2).2) s

/-- A frame discarded and counted (R379). -/
def State.dropTelemetry (s : State) (g seq : Nat) : State :=
  (s.setTelem g { s.telem g with seq := (seq + 1) % 16 + 1, run := 0 }).bump 0x7301 5 1

/-- TELEMETRY_FRAME: a rail telemetry frame is checked, and its samples drive the limits, the undervoltage
check and the cap; a blind group returns after 100 valid frames (R378 to R382). -/
def execTelemetryFrame (group : Nat) (seen : TelemSeen) (s : State) : Host.Outcome State Fault Refusal :=
  let frame := seen.frame
  let x := s.telem group
  let seq := bits frame.toNat 123 120
  if !s.pins.resetN || decide (13 ≤ group) then .next s
  else if !seen.valid || !frameCrcOk frame || decide (bits frame.toNat 127 124 ≠ group) then
    (if x.seq = 0 then .next ((s.setTelem group { x with run := 0 }).bump 0x7301 5 1)
     else .next (s.dropTelemetry group (x.seq - 1)))
  else if x.seq ≠ 0 ∧ seq + 1 ≠ x.seq then .next (s.dropTelemetry group seq)
  else
    let run := min 100 (x.run + 1)
    let blind := x.blind && decide (run < 100)
    let t := s.setTelem group ⟨(seq + 1) % 16 + 1, s.now, blind, run⟩
    if blind then .next (t.takeVoltages group frame) else .next (t.takeSamples group frame)

/-- TELEMETRY_GROUP_BLIND: 8 µs without a valid frame; the group's units are held (R380). -/
def execTelemetryGroupBlind (group : Nat) (s : State) : Host.Outcome State Fault Refusal :=
  let x := s.telem group
  if s.pins.resetN && decide (group < 13) && !x.blind && decide (x.lastValid + 8000 ≤ s.now) then
    let t := s.setTelem group { x with blind := true, run := 0 }
    let t := if group < 8 then t.setDieOp group { t.dieOp group with duty := 0 } else t
    .next (t.applyPoints.recordEvent (t.info 0x7002 4 0))
  else .next s

/-- AVSBus reads of a rail: 0 its current, 1 its temperature, 2 its status (R377). -/
def State.readAvs (s : State) (r : Nat) (l : List Nat) : State :=
  match avsAddress r with
  | some a => { s with out := s.out ++ l.map fun w => Output.avsRead a.1 a.2 w }
  | none => s

/-- BLIND_GROUP_AVSBUS_READ: a blind group's currents are taken from AVSBus every 100 µs, and count as its energy; the
limits go by telemetry frames alone (R377, R380, log entry 104). -/
def execBlindGroupAvsbusRead (group : Nat) (readings : List Nat) (s : State) :
    Host.Outcome State Fault Refusal :=
  if s.pins.resetN && decide (group < 12) && (s.telem group).blind then
    .next (((groupRails group).zip readings).foldl (fun (t : State) x =>
      let v := ((t.rail x.1).samples.map (·.2.2)).headD (10 * t.commanded x.1)
      let u := t.takeSample x.1 x.2 v
      { u with power := { u.power with energy := u.power.energy + 100 * x.2 * v } }.readAvs x.1 [0]) s)
  else .next s

/-- AVS_POLL: once a millisecond the currents of the 24 AVSBus rails are read, and with them their temperatures and
states; a current that disagrees with telemetry by more than 5% of the design current 100 times in a row is recorded
(R377, log entry 133). -/
def execAvsPoll (readings : List Nat) (s : State) : Host.Outcome State Fault Refusal :=
  if s.pins.resetN && decide (s.power.lastAvs + 1000000 ≤ s.now) then
    let t := ((List.range 24).zip readings).foldl (fun (t : State) p =>
      let x := t.rail p.1
      let now := ((x.samples.map (·.2.1)).headD 0)
      let bad := decide (designCurrent p.1 < 20 * ((now - p.2) + (p.2 - now)))
      let run := if bad then x.avsBad + 1 else 0
      let t := t.setRail p.1 { x with avs := p.2, avsBad := run }
      let t := t.readAvs p.1 [0, 1, 2]
      if run = 100 then t.recordEvent (t.info 0x7006 4 0) else t) s
    .next { t with power := { t.power with lastAvs := s.now } }
  else .next s

/-! ### The envelope and the cap -/

/-- One number moved toward another by at most a step. -/
def slewTo (x target step : Nat) : Nat :=
  if x ≤ target then min target (x + step) else max target (x - step)

/-- The cap acts on the dies: their ceiling is lowered, or the mean power stands at the cap (R390, R393,
R397). -/
def State.capActs (s : State) (d : DieOp) : Bool :=
  decide (0 < d.ceilCap) || !s.powerBelow s.effectiveCap

/-- A thermal action acts on a die (R395). -/
def State.heatActs (s : State) (loc : Nat) : Bool :=
  decide (0 < (Tab.get Heat.fresh s.power.heat loc).action) || decide (0 < (s.dieOp loc).ceilHeat)

/-- A matrix instruction may be in a stand's array (R390). -/
def State.arrayBusy (s : State) (k : Nat) : Bool :=
  s.cmds.any fun (c : Cmd) => decide (c.phase = Phase.released) && (isOp 0x40 c.desc || isOp 0x41 c.desc) &&
    decide (standCore c.desc = k) && s.mayHaveBegun c

/-- A stand of a die may run understory: no instruction is in its array, and it is neither retired nor under test
(R390). -/
def State.understoryStand (s : State) (k : Nat) : Bool :=
  (List.range 12).any fun m =>
    !s.retired (.stand (12 * k + m)) && !s.underTest (.stand (12 * k + m)) && !s.arrayBusy (12 * k + m)

/-- The envelope and the understory duty of one die after a microsecond: no duty where a hold of R390 acts or no
stand may run it; below the envelope it rises by 1/16, above 105% it falls by 1/16 (R389, R390, R394, R397). -/
def State.envelopeDie (s : State) (k : Nat) : State :=
  let d := s.dieOp k
  let target := if s.follows && !s.power.wide then
      1000 * (s.power.profEntry s.power.entry).getD 2 0 else 0
  let env := if s.power.wide then 0 else slewTo d.envelope target (s.objv 0x3101 3)
  let ma := ((s.rail k).samples.map (·.2.1)).headD 0
  let held := s.power.wide || s.power.clocksStopped || (s.telem k).blind || decide (0 < s.limitAction k) ||
    s.heatActs k || !s.understoryStand k
  let duty := if held then 0
    else if ma < env then (if s.capActs d then d.duty else min 16 (d.duty + 1))
    else if 105 * env < 100 * ma then d.duty - 1
    else d.duty
  s.setDieOp k { d with envelope := env, duty := duty }

/-- ENVELOPE_TICK: each microsecond the envelopes slew, understory follows them, the dies take the point
that now applies to them, and the microseconds throttled are counted (R388 to R390, R398). -/
def execEnvelopeTick (s : State) : Host.Outcome State Fault Refusal :=
  if !s.pins.resetN then .next s
  else
    let t := ((List.range 8).foldl State.envelopeDie s).applyPoints
    let limit := (List.range 27).any fun r => decide (0 < (t.rail r).action)
    let blind := (List.range 11).any fun g => decide (g ≠ 8) && (t.telem g).blind
    .next ((t.bump 0x7301 1 (b2n limit)).bump 0x7301 4 (b2n blind))

/-- CAP_CHECK: every 10 µs the mean power of the last 1 ms is held against the effective cap: above it
understory is shed, then the ceiling of every die lowered; 100 W below it for 1 ms the ceiling rises one
step (R393). -/
def execCapCheck (s : State) : Host.Outcome State Fault Refusal :=
  if !s.pins.resetN then .next s
  else
    let cap := s.effectiveCap
    let above := s.powerAbove cap
    let low := s.powerBelow (cap - 100)
    let since := if low then some (s.power.lowSince.getD s.now) else none
    let any := (List.range 8).any fun k => decide (0 < (s.dieOp k).duty)
    let acts := fun (t : State) => (List.range 8).any fun k => decide (0 < (t.dieOp k).ceilCap)
    let t := { s with power := { s.power with lowSince := since } }
    let t :=
      if above then
        (if any then t.eachDie fun d => { d with duty := 0 }
         else (t.eachDie fun d => { d with ceilCap := min 7 (d.ceilCap + 1) }).applyPoints)
      else if low ∧ (since.getD s.now) + 1000000 ≤ s.now ∧ acts t = true then
        let u := (t.eachDie fun d => { d with ceilCap := d.ceilCap - 1 }).applyPoints
        { u with power := { u.power with lowSince := some s.now } }
      else t
    .next (t.bump 0x7301 3 (10 * b2n (above || acts t)))

/-! ### Heat -/

/-- The heat state of a die or a stack's arrays, by location code. -/
def State.heatOf (s : State) (loc : Nat) : Heat := Tab.get Heat.fresh s.power.heat loc

/-- A heat state replaced. -/
def State.setHeat (s : State) (loc : Nat) (x : Heat) : State :=
  { s with power := { s.power with heat := Tab.put Heat.fresh s.power.heat loc x } }

/-- The critical temperature of a location in 0.1 °C (R395). -/
def critical (loc : Nat) : Int := if 20 ≤ loc then 1050 else if 18 ≤ loc then 1150 else 1100

/-- The subindex of object 0x3200 whose threshold begins a location's action a, if it has one: 0 is the
first action, 1 a stack's request halving. -/
def heatSub (loc a : Nat) : Nat :=
  if 20 ≤ loc then (if a = 0 then 5 else 4)
  else if a ≠ 0 ∨ 18 ≤ loc then 0
  else if loc < 8 then 1 else if loc < 16 then 2 else 3

/-- One action of a location evaluated: it begins at its threshold, that of the refresh above it, recorded, and
ends below the release temperature, 3 °C under it, 2 °C for the refresh (R395, log entry 104). -/
def State.heatAction (s : State) (loc a : Nat) : State :=
  let x := s.heatOf loc
  let sub := heatSub loc a
  let thr : Int := 10 * (s.objv 0x3200 sub : Nat)
  let rel : Int := thr - (if sub = 5 then 20 else 30)
  if sub = 0 then s
  else if x.action.testBit a then
    (if x.temp < rel then
      (s.setHeat loc { x with action := x.action - 2 ^ a, since := if a = 0 then s.now else x.since })
     else s)
  else if thr + (if sub = 5 then 1 else 0) ≤ x.temp then
    let t := s.setHeat loc { x with action := x.action + 2 ^ a, since := if a = 0 then s.now else x.since }
    t.recordEvent ⟨0x7004, .none_, loc, 4, 0xFF, 0xFF, 0⟩
  else s

/-- A Kyoty die's ceiling: lowered as the action begins and every 100 µs of it, raised one step per ms
after it (R395). -/
def State.heatCeiling (before s : State) (k : Nat) : State :=
  let x := s.heatOf k
  let d := s.dieOp k
  let began := decide ((before.heatOf k).action = 0)
  if x.action.testBit 0 then
    (if began || decide (x.since + 100000 ≤ s.now) then
      (s.setHeat k { x with since := s.now }).setDieOp k { d with ceilHeat := min 7 (d.ceilHeat + 1) }
     else s)
  else if 0 < d.ceilHeat ∧ x.since + 1000000 ≤ s.now then
    (s.setHeat k { x with since := s.now }).setDieOp k { d with ceilHeat := d.ceilHeat - 1 }
  else s

/-- A reading taken in, with the running mean of its second (R373, R395). -/
def State.takeHeat (s : State) (loc : Nat) (temp : Int) : State :=
  let x := s.heatOf loc
  let sec := s.now / 1000000000
  if x.second = sec then
    s.setHeat loc { x with temp := temp, sum := x.sum + temp, count := x.count + 1 }
  else
    s.setHeat loc { x with
      temp := temp
      sum := temp
      count := 1
      second := sec
      mean := if x.count = 0 then temp else x.sum / (x.count : Nat) }

/-- A sensor stands at its critical temperature (R395, R396). -/
def State.tooHot (s : State) : Bool := (List.range 40).any fun loc => decide (critical loc ≤ (s.heatOf loc).temp)

/-- Critical temperatures: THERMTRIP_N asserted and the stand clocks stopped; recorded while the active
management die is below its own (R396). -/
def State.checkCritical (s : State) : State :=
  if s.power.thermtrip || !s.tooHot then s
  else
    let t := { s with power := { s.power with thermtrip := true, clocksStopped := true } }
    let t := t.eachDie fun d => { d with duty := 0 }
    if (t.heatOf t.mgmtLoc).temp < 1150 then t.recordEvent (t.info 0x7005 4 0) else t

/-- THERMAL_CHECK: every 10 µs the hottest sensor of each die and stack, in 0.1 °C and two's complement of
32 bits, is held against its thresholds. While RESET_N is low only the circuit of THERMTRIP_N acts (R395, R396,
R473). -/
def execThermalCheck (readings : List Nat) (s : State) : Host.Outcome State Fault Refusal :=
  let a := ((List.range 40).zip readings).foldl
    (fun (t : State) p => t.takeHeat p.1 (toSigned 32 p.2)) s
  if !s.pins.powered then .next s
  else if !s.pins.resetN then
    .next (if a.tooHot then
      { a with power := { a.power with thermtrip := true, clocksStopped := true } } else a)
  else
    let b := (List.range 40).foldl (fun (t : State) loc => (t.heatAction loc 0).heatAction loc 1) a
    let c := ((List.range 8).foldl (fun (t : State) k => State.heatCeiling s t k) b).applyPoints
    let acts := (List.range 40).any fun loc =>
      decide (0 < (c.heatOf loc).action) || (decide (loc < 8) && decide (0 < (c.dieOp loc).ceilHeat))
    .next ((c.bump 0x7301 2 (10 * b2n acts)).checkCritical)

/-! ### Angle-keyed events -/

/-- The entry that comes next: its point, and the ns until its phase (R386, R388). -/
def State.nextPoint (s : State) : Nat × Nat :=
  let t := s.pace.t64 / 64
  match s.power.profPending, s.power.profile[s.power.entry + 1]? with
  | _, some e => (e.getD 1 0, e.getD 0 0 * s.pace.that / 65536 - t)
  | some (l, eff), none =>
    let e := if eff = (s.pace.stride + 1) % 2 ^ 32 then l.getD 0 [] else s.power.profEntry 0
    (e.getD 1 0, s.pace.that - t)
  | none, none => ((s.power.profEntry 0).getD 1 0, s.pace.that - t)

/-- OP_TRANSITION_START: the voltage of a higher point is raised ahead of the angle at which it is due, by
1 µs for each 10 mV and 5 µs (R386). -/
def execOpTransitionStart (s : State) : Host.Outcome State Fault Refusal :=
  if s.follows && !s.power.wide then
    let n := s.nextPoint
    .next ((List.range 8).foldl (fun (t : State) k =>
      let d := t.dieOp k
      let mv := opVoltage (t.pointFor k n.1)
      let lead := 100 * (mv - d.mv) + 5000
      if d.mv < mv ∧ n.2 ≤ lead then
        (t.setDieOp k { d with mv := mv, ahead := mv, riseAt := t.now + lead }).writeVoltage k mv
      else t) s)
  else .next s

/-- A CAP_OFFSET written in an earlier stride comes into force (R392). -/
def State.takeCapOffset (s : State) : State :=
  match s.power.capWritten with
  | some (v, stride) =>
    if stride ≠ s.pace.stride then
      { s with power := { s.power with capOffset := v, capWritten := none } }
    else s
  | none => s

/-- The entry of the current phase taken in force, and the dies moved to its point (R388). -/
def State.enterEntry (s : State) : State :=
  let t := { s with power := { s.power with entry := entryAt s.power.profile s.pace.phase } }
  (t.eachDie fun d => { d with ahead := 0 }).applyPoints

/-- PHASE_PROFILE_TAKES_EFFECT: at its EFFECTIVE angle the pending profile comes into force; while gated
work cannot run it is discarded and recorded (R32, R388). -/
def execPhaseProfileTakesEffect (s : State) : Host.Outcome State Fault Refusal :=
  match s.power.profPending with
  | none => .next s
  | some (l, eff) =>
    if !atOrAfter s.angle (strideAngle eff) then .next s
    else if s.pace.mode.running then
      if !s.mayAct (strideAngle eff, 5) then .next s
      else
      let t := { s with power := { s.power with profile := l, profEffective := eff, profPending := none } }
      .next (if t.follows then t.enterEntry else t)
    else if s.pace.mode.lost then
      let t := { s with power := { s.power with profPending := none } }
      .next (t.recordEvent (t.info 0x7007 4 0))
    else .next s

/-- PROFILE_ENTRY: at an entry's phase its point, envelope and cap come into force; a CAP_OFFSET takes
effect at the boundary, whether a profile is followed or not (R388, R389, R392). -/
def execProfileEntry (s : State) : Host.Outcome State Fault Refusal :=
  let due := s.power.profPending.any fun p => atOrAfter s.angle (strideAngle p.2)
  if s.pace.mode.running && s.mayAct (s.entryAngle, 6) && !due then
    let t := s.takeCapOffset
    .next (if t.follows then t.enterEntry else t)
  else .next (if s.pace.mode.running then s else s.takeCapOffset)

/-- WIDE_MARGIN_SWITCH: a requested change of mode at the next stride boundary in LOCKED or HOLDOVER, at
once otherwise (R394, R454). -/
def execWideMarginSwitch (s : State) : Host.Outcome State Fault Refusal :=
  match s.power.wideAt with
  | none => .next s
  | some stride =>
    if s.pace.mode.running = true ∧ (stride = s.pace.stride ∨
        s.mayAct (strideAngle s.pace.stride, 7) = false) then .next s
    else if s.power.wideReq = s.power.wide then
      .next { s with power := { s.power with wideAt := none } }
    else if s.power.wideReq then .next (s.enterWide 1)
    else .next s.leaveWide

/-! ### Slack -/

/-- The commands of the measured context held back by an unsatisfied wait on the barrier object, and by nothing else
before it: their gate is open and their queue's order has come to them (R391, log entry 62). -/
def State.barrierWaiters (s : State) : List CmdId :=
  if s.objv 0x3120 4 = 0 then []
  else
    let o := s.objv 0x3120 1
    let c := s.objv 0x3120 3
    (s.cmds.filter fun (x : Cmd) =>
      decide (x.id.ctx = c ∧ x.phase = Phase.admitted) && s.gateOpen x.desc && s.orderOk x && flag x.desc 18 &&
        decide (fld x.desc 95 80 = o) && !reached32 (s.syncObj o).value (fld x.desc 127 96) &&
        !(s.syncObj o).fault).map (·.id)

/-- The waits that stood since the last look are counted up to now; a wait that spans a boundary ends in
the old stride at the boundary and begins in the new one there (R391). -/
def State.passStride (s : State) : State :=
  let b := s.power.barrier
  let a := s.angle
  if b.stride = s.pace.stride then
    let n := if b.active = [] then 0 else (a - b.last).toNat
    { s with power := { s.power with barrier := { b with slack := b.slack + n, last := a } } }
  else
    let start := strideAngle s.pace.stride
    let held := decide (b.active ≠ [])
    let old := { b with
      slack := b.slack + (if held then 65536 - b.last.toNat % 65536 else 0)
      release := if held then start else b.release }
    let fresh : Barrier := ⟨s.pace.stride, b.active.length, if held then s.pace.phase else 0,
      if held then start else 0, 0, b.active, a⟩
    { s with power := { s.power with
        barrier := fresh
        ended := if s.objv 0x3120 4 = 1 then some old else none } }

/-- The waits that begin and end at this look (R391). -/
def State.countWaits (s : State) : State :=
  let b := s.power.barrier
  let l := s.barrierWaiters
  let began := l.filter fun i => decide (i ∉ b.active)
  let gone := b.active.any fun i => decide (i ∉ l)
  { s with power := { s.power with barrier := { b with
      waits := b.waits + began.length
      arrival := if began ≠ [] ∧ b.waits = 0 then s.angle else b.arrival
      release := if gone then s.angle else b.release
      active := l } } }

/-- The start of a 10 ms interval of the reference clock noted with the energy counted by then (R372). -/
def State.markEnergy (s : State) : State :=
  if s.now % 10000000 ≠ 0 then s
  else
    let l := s.power.marks ++ [(s.now / 10000000, s.power.energy)]
    { s with power := { s.power with marks := l.drop (l.length - 2) } }

/-- One nanosecond of the clocks: they advance, and the waits on the barrier object are measured (R39, R44,
R391). -/
def State.powerTick (s : State) : State := (s.clockTick.passStride.countWaits).markEnergy

/-- The bytes of a slack record (R391). -/
def Barrier.bytes (b : Barrier) : List Byte :=
  toBytes 4 b.stride ++ toBytes 4 0 ++ toBytes 6 b.arrival.toNat ++ toBytes 6 b.release.toNat ++
    toBytes 4 b.slack ++ toBytes 4 b.waits ++ toBytes 4 0

/-- SLACK_RECORD_WRITE: the record of the stride that ended is written at the named address; one that no
longer lies in the context's memory is skipped and recorded (R391). -/
def execSlackRecordWrite (s : State) : Host.Outcome State Fault Refusal :=
  match s.power.ended with
  | none => .next s
  | some b =>
    let a := s.objv 0x3120 2
    let t := { s with power := { s.power with ended := none } }
    let l := oneAccess a 32 true
    if t.ctxMem (t.objv 0x3120 3) a 32 && t.inStack a 32 then
      .next (if s.serves l then (t.payFor l).devWrite a b.bytes else s)
    else .next (t.recordEvent (t.info 0x7008 4 0))

end Sys2Proof.Machine
end

