-- ==== Sys2Proof/Machine/Reads.lean ====
section
/-! DEFINITION. What the objects of the dictionary read: stored settings and counters, and the values
derived from the state (the object tables of every chapter). -/

namespace Sys2Proof

/-- The channel a session is bound to: a mailbox, whatever CONTEXT its header names (R412). -/
def Channel.home : Channel → Channel
  | .can b c => .can b c
  | .mbx l f _ => .mbx l f 0

/-- The context of a tenant request, none of the 64 on a bus. -/
def Channel.tenantOf : Channel → Nat
  | .mbx _ _ c => c
  | .can _ _ => 64

/-- The bus a channel is on, bus 0 for a mailbox. -/
def Channel.busOf : Channel → Nat
  | .can b _ => b
  | .mbx _ _ _ => 0

/-- A unit as deadwood entries and event records name it (R429). -/
def UnitId.code (u : UnitId) : Nat := u.row % 2 ^ 24 + u.i2 * 2 ^ 24 + u.i1 * 2 ^ 32 + u.loc * 2 ^ 40

/-- The bytes of a string. -/
def asciiBytes (l : List Nat) : List Byte := l.map (BitVec.ofNat 8)

end Sys2Proof

namespace Sys2Proof.Machine

/-! ### Roles -/

/-- The session open on a channel, its idle time not passed (R412). -/
def State.session (s : State) (ch : Channel) : Option Session :=
  s.server.sessions.find? fun x => decide (x.chan = ch.home) &&
    decide (s.now < x.last + 1000000000 * s.objv 0x6400 5)

/-- The role of a request: 0 observer, 1 tenant, 2 operator, 3 vendor-service; none on a context function
whose CONTEXT is not bound to it (R354, R411). -/
def State.role (s : State) (ch : Channel) : Option Nat :=
  match ch with
  | .mbx l f c =>
    if f ≠ 0 then (if c < 64 ∧ s.boundTo c = (l, f) then some 1 else none)
    else some (((s.session ch).map (·.role)).getD 0)
  | .can _ _ => some (((s.session ch).map (·.role)).getD 0)

/-! ### Derived numbers -/

/-- The bits of a mask. -/
def bitMask (n : Nat) (p : Nat → Bool) : Nat := ((List.range n).map fun k => if p k then 2 ^ k else 0).sum

/-- 1 for a unit in service, 0 for a retired one. -/
def State.inService (s : State) (u : UnitId) : Nat := b2n (!s.retired u)

/-- Deadwood entries of one unit kind at a place. -/
def State.entries (s : State) (p : UnitId → Bool) : Nat := (s.recorder.dead.filter fun d => p d.unit).length

/-- The retired column groups of a stand as a mask (R79). DESIGN CHOICE (log entry 134): the spec does not say what
the mask of a stand retired as a whole reads; it reads all of them. -/
def State.groupMask (s : State) (k : Nat) : Nat :=
  if s.retired (.stand k) then 0xFFFF else bitMask 16 fun g => s.retired (.group k g)

/-- The objects of the compute units (R79, R148, R184, R227, R315). DESIGN CHOICE (log entry 135): the spec does not
say what 0x2131 reads for a stack that neither engine of its pair serves; it reads the stack's own number. -/
def State.readUnits (s : State) (index sub : Nat) : Option Nat :=
  if 0x2100 ≤ index ∧ index < 0x2108 then
    let k := 12 * (index - 0x2100)
    if sub ≤ 12 then some (s.width (k + sub - 1)) else some (s.groupMask (k + sub - 13))
  else if 0x2110 ≤ index ∧ index < 0x2118 then some (s.inService (.vector (12 * (index - 0x2110) + sub - 1)))
  else if 0x2120 ≤ index ∧ index < 0x2128 then some (s.inService (.embedding (2 * (index - 0x2120) + sub - 1)))
  else if index = 0x2130 then some (s.inService (.taproot (sub - 1)))
  else if index = 0x2131 then some ((s.servedBy (sub - 1)).getD (sub - 1))
  else if index = 0x2140 then some (s.inService (.adders (sub - 1)))
  else if index = 0x7140 ∧ sub = 27 then some ((s.seqs.filter fun x => x.2.opened).length)
  else none

/-- The objects of the memory (R257). -/
def State.readMemory (s : State) (index sub : Nat) : Option Nat :=
  match index, sub with
  | 0x4000, 1 => some s.top
  | 0x4000, 2 => some (1280 - s.retiredPcs + s.pool.migrations.length)
  | 0x4000, 3 => some s.retiredPcs
  | 0x4000, 4 => some (21 - s.retiredPcs)
  | 0x4000, 5 => some s.grainsLeft
  | 0x4001, n =>
    if n ≤ 20 then some (bitMask 64 fun m => s.retired (.pc (64 * (n - 1) + m))) else none
  | 0x4210, n => some (s.pagesLeft (n - 1))
  | 0x4300, 6 => some (if s.objv 0x4300 6 = 1 ∧ s.scanMayRun = true then 2 else s.objv 0x4300 6)
  | 0x7400, n =>
    if 41 ≤ n then some (s.entries fun u => decide (u.kind = 0x07 ∧ u.loc = 20 + (n - 41))) else none
  | _, _ => none

/-- The pace unit has an active source (R51). -/
def State.paceActive (s : State) : Bool := decide (s.pace.mode = .locked ∨ s.pace.mode = .countPending)

/-- The objects of the pace unit, the calendar and the links (R51, R282). -/
def State.readPace (s : State) (index sub : Nat) : Option Nat :=
  let carust := s.paceActive && decide (s.pace.source = 2)
  let x := s.port (sub - 1)
  match index, sub with
  | 0x5101, 1 => some s.pace.mode.code
  | 0x5101, 2 => some (if s.paceActive then s.pace.source else 0)
  | 0x5101, 3 => some (if carust then s.pace.port else 0xFF)
  | 0x5101, 4 => some s.pace.that
  | 0x5101, 5 => some s.pace.holdStrides
  | 0x5101, 6 => some s.pace.glitches
  | 0x5101, 7 => some (if carust then s.pace.hop else 0)
  | 0x5102, _ => some s.angle.toNat
  | 0x5120, 2 => some s.cal.ns
  | 0x5200, n =>
    some (if s.retired (.port (n - 1)) then 0
      else 8 - ((List.range 8).filter fun l => s.retired (.lane (n - 1) l)).length)
  | 0x5201, n => some (bitMask 8 fun l => s.retired (.lane (n - 1) l))
  | 0x5203, _ => some ((x.partner.map (·.member)).getD 0xFFFF)
  | 0x5204, _ => some ((x.partner.map (·.serial)).getD 0)
  | 0x5205, _ => some ((x.partner.map (·.port)).getD 0xFF)
  | 0x5206, _ => some x.delay
  | 0x5220, 2 => some s.membership.epoch
  | 0x5220, 3 => some s.membership.self
  | 0x5220, 4 => some s.membership.members.length
  | 0x5220, 5 => some ((s.membership.pending.map (·.effective)).getD 0)
  | 0x5220, 6 => some s.membership.outcome
  | 0x5220, 7 => some s.membership.digest
  | _, _ => none

/-- The TDISP state codes of object 0x6200 (R374). -/
def TdiState.code : TdiState → Nat
  | .none => 0 | .unlocked => 1 | .locked => 2 | .run => 3 | .error => 4

/-- The state of a context (R348). -/
def State.ctxState (s : State) (c : Nat) : Nat :=
  if !s.isDefined c then 0 else if s.resident c then 3 else if s.isRunnable c then 2 else 1

/-- The objects of contexts, synchronization, host and trust (R348, R374). -/
def State.readContexts (s : State) (ch : Channel) (index sub : Nat) : Option Nat :=
  if 0x6000 ≤ index ∧ index < 0x6040 then
    let c := index - 0x6000
    match sub with
    | 1 => some (s.ctxState c)
    | 2 => some ((s.ctx c).slot.getD 0xFF)
    | _ => none
  else if 0x6200 ≤ index ∧ index < 0x6240 then
    let c := index - 0x6200
    match sub with
    | 3 => some (s.tdi c).state.code
    | 4 => some (s.keySlots c).current
    | 5 => some (b2n (s.sweeping c))
    | _ => none
  else match index, sub with
  | 0x6102, 1 => some s.samples.length
  | 0x6110, 1 => some (((s.server.selectors.find? fun x => decide (x.1 = ch.home)).map (·.2)).getD 0)
  | 0x6110, 2 =>
    let o := ((s.server.selectors.find? fun x => decide (x.1 = ch.home)).map (·.2)).getD 0
    some ((s.syncObj o).value + 2 ^ 32 * b2n (s.syncObj o).fault)
  | 0x2301, n =>
    let x := s.link ((n - 1) % 4)
    some (if n ≤ 4 then x.rate else if n ≤ 8 then x.width else x.cxl)
  | 0x6300, n =>
    if 2 ≤ n then
      let x := s.link (n - 2)
      some (b2n x.secure + 2 * b2n x.cacheSecure + 4 * bitMask 9 fun f => decide (f ∈ x.selSecure))
    else none
  | _, _ => none

/-- Power readings are hidden: a confidential context is resident, or left its slot in the last 10 ms
(R373). -/
def State.hidden (s : State) : Bool :=
  (List.range 64).any (fun c => s.resident c && s.confidential c) ||
    s.trust.confLeft.any fun t => decide (s.now < t + 10000000)

/-- The energy counted by the start of the present 10 ms interval, and in the interval before it, in
0.1 pJ (R372). -/
def State.intervalEnergy (s : State) : Nat × Nat :=
  match s.power.marks with
  | [] => (0, 0)
  | [a] => (a.2, 0)
  | a :: b :: _ => (b.2, b.2 - a.2)

/-- The objects of power and heat; a rail's voltage is no power, current or energy reading (R372, R373, R398). -/
def State.readPower (s : State) (tenant : Bool) (index sub : Nat) : Option Nat :=
  match index, sub with
  | 0x3000, 1 => some (b2n s.power.wideReq)
  | 0x3000, 2 => some (b2n s.power.wide)
  | 0x3000, 3 => some s.power.cause
  | 0x3100, 2 => some ((s.power.profPending.map (·.2)).getD 0)
  | 0x3101, 1 => some (ofSigned 32 ((s.power.capWritten.map (·.1)).getD s.power.capOffset))
  | 0x3101, 2 => some s.effectiveCap
  | 0x7300, n =>
    if s.hidden && !decide (28 ≤ n ∧ n ≤ 54) then
      some (if n ≤ 27 then 2 ^ 32 - 1 else if n = 55 then 2 ^ 16 - 1 else 2 ^ 64 - 1)
    else if n ≤ 27 then some (s.meanCurrent (n - 1) 1000000)
    else if n ≤ 54 then some (s.meanVoltage (n - 28) 1000000)
    else if n = 55 then
      (if tenant then some (s.intervalEnergy.2 / 100000000000 / 5 * 5) else some (s.meanPower 10000000))
    else if tenant then some (s.intervalEnergy.1 / 10000000000 / 50 * 50)
    else some (s.power.energy / 10000000000)
  | 0x7310, n =>
    let x := s.heatOf (n - 1)
    some (ofSigned 32 (if s.hidden then 10 * (x.mean / 10) else x.temp))
  | _, _ => none

/-- The operator's test: waiting, running, or as it last ended; one that has joined a test runs with it (R433,
R443). -/
def State.testState (s : State) : Nat :=
  let l := s.recorder.tests
  match lastIdx (fun t => decide (t.cause = 1)) l with
  | some i =>
    let head := ((l.take (i + 1)).filter fun x => decide (x.unit = ((l[i]?).map (·.unit)).getD x.unit) && !x.joined).getLast?
    if head.any (·.running) then 2 else 1
  | none => s.objv 0x9000 4

/-- The objects of the recorder and the tests (R443). -/
def State.readRecorder (s : State) (index sub : Nat) : Option Nat :=
  match index, sub with
  | 0x8000, 1 => some (s.recorder.heartwood.length + s.recorder.clearings.length)
  | 0x8000, 2 => some (64 - s.recorder.clearings.length)
  | 0x8000, 3 => some ((s.recorder.ring.map (·.seq)).headD 0)
  | 0x8000, 4 => some ((s.recorder.ring.map (·.seq)).getLast?.getD 0)
  | 0x8000, 5 => some s.recorder.folded
  | 0x8100, 3 => some s.recorder.dead.length
  | 0x9000, 4 => some s.testState
  | 0x9011, n => some ((s.recorder.calibs.filter fun c => decide (c.cls = n - 1) && !c.running).length)
  | _, _ => none

/-- The firmware store of a die type. -/
def State.fwStore (s : State) (t : Nat) : FwStore := Tab.get FwStore.empty s.server.fw t

/-- The firmware running on the die of a location code. -/
def State.dieFw (s : State) (loc : Nat) : DieFw := Tab.get DieFw.fresh s.server.dies loc

/-- The objects of this chapter's own (R419). -/
def State.readServer (s : State) (ch : Channel) (index sub : Nat) : Option Nat :=
  match index, sub with
  | 0x1001, _ => some s.errorRegister
  | 0x1014, _ => some (0x080 + (Tab.get Bus.fresh s.buses ch.busOf).node)
  | 0x1018, 1 => some 0x0F3A
  | 0x1018, 2 => some 0x0820
  | 0x1018, 3 => some 0x00010000
  | 0x1018, 4 => some s.server.serial
  | 0x1F56, d => some (s.dieFw (d - 1)).version
  | 0x1F57, t => some (s.fwStore t).staging
  | 0x2000, 1 => some s.server.straps
  | 0x2000, 4 => some (Tab.get Bus.fresh s.buses 0).node
  | 0x2000, 5 => some (Tab.get Bus.fresh s.buses 1).node
  | 0x2002, 1 => some s.server.life
  | 0x6400, 4 => some ((s.role ch).getD 0)
  | _, _ => none

/-- The number an object reads: derived, or stored. -/
def State.readNum (s : State) (ch : Channel) (tenant : Bool) (index sub : Nat) : Nat :=
  ((s.readServer ch index sub).orElse fun _ =>
    (s.readUnits index sub).orElse fun _ =>
    (s.readMemory index sub).orElse fun _ =>
    (s.readPace index sub).orElse fun _ =>
    (s.readContexts ch index sub).orElse fun _ =>
    (s.readPower tenant index sub).orElse fun _ =>
    s.readRecorder index sub).getD (s.objv index sub)

/-! ### Records -/

/-- The bits of an event record below its CRC (R438). -/
def Event.bits (e : Event) : Nat :=
  b2n e.heartwood + 2 * b2n e.unverified + 4 * b2n e.calFree + e.event * 2 ^ 16 + e.source * 2 ^ 40 +
    e.outcome * 2 ^ 48 + e.st * 2 ^ 56 + e.ctx * 2 ^ 64 + e.unit.kind * 2 ^ 72 + e.unit.code * 2 ^ 80 +
    e.detail * 2 ^ 128 + e.seq * 2 ^ 256 + e.repeats * 2 ^ 288 + e.lastAngle.toNat * 2 ^ 320 +
    e.angle.toNat * 2 ^ 368 + e.cal * 2 ^ 416

/-- An event record as read: 60 bytes and their CRC-32 (R438). -/
def Event.bytes (e : Event) : List Byte :=
  let l := toBytes 60 e.bits
  l ++ toBytes 4 (crc32 l)

/-- A deadwood entry as read (R429). -/
def Dead.bytes (d : Dead) : List Byte :=
  toBytes 6 d.unit.code ++ toBytes 1 d.unit.kind ++ toBytes 1 0 ++ toBytes 4 d.time ++ toBytes 4 d.seq

/-- The records a read of object 0x8002 returns: from the cursor, oldest first, as many as a read takes; a
SEQ that has left the ring reads from the oldest that remains (R441). -/
def State.cursorRecords (s : State) : List Event :=
  let cur := s.objv 0x8001 1
  let seq := cur % 2 ^ 32
  let store := if cur.testBit 32 then s.recorder.heartwood ++ s.recorder.clearings else s.recorder.ring
  let ahead := store.dropWhile fun e => !reached32 e.seq seq
  ahead.take (s.objv 0x8001 2)

/-- A read of the records advances the cursor past them, and clears the error register's bit 0 where it
returns the newest signalled record (R441, R486). -/
def State.readRecords (s : State) : State × List Byte :=
  let l := s.cursorRecords
  match l.getLast? with
  | none => (s, [])
  | some e =>
    let cur := s.objv 0x8001 1
    let t := s.setObj 0x8001 1 (cur / 2 ^ 32 * 2 ^ 32 + (e.seq + 1) % 2 ^ 32)
    let seen := t.recorder.emcy.any fun q => l.any fun x => decide (x.seq = q)
    (if seen then { t with recorder := { t.recorder with emcy := none } } else t, (l.map Event.bytes).flatten)

/-! ### Byte strings -/

/-- The nonce in force (R413). -/
def State.nonceBytes (s : State) : List Byte := toBytes 32 (Config.draw s.server.nonce)

/-- A stored byte string. -/
def State.domv (s : State) (index sub : Nat) : List Byte := Tab.get [] s.dom (objKey index sub)

/-- The profile record of the profile in force (R387). -/
def profileBytes (l : List (List Nat)) (eff : Nat) : List Byte :=
  toBytes 4 eff ++ toBytes 1 l.length ++ toBytes 3 0 ++
    (l.map fun e => toBytes 2 (e.getD 0 0) ++ toBytes 1 (e.getD 1 0) ++ toBytes 1 0 ++
      toBytes 2 (e.getD 2 0) ++ toBytes 2 (e.getD 3 0)).flatten

/-- The byte string an object reads. -/
def State.readDom (s : State) (index sub : Nat) : List Byte :=
  match index, sub with
  | 0x1008, _ => asciiBytes [0x4E, 0x58, 0x47, 0x38, 0x32, 0x30, 0x2D, 0x41]
  | 0x1009, _ => Config.siliconRevision
  | 0x100A, _ => Config.versionText (s.dieFw s.mgmtLoc).version
  | 0x6400, _ => s.nonceBytes
  | 0x3100, _ => profileBytes s.power.profile s.power.profEffective
  | 0x5210, _ => ((List.range 4096).map fun m => toBytes 4 (Tab.get 0 s.routes m)).flatten
  | 0x5220, _ => (s.membership.members.map (toBytes 2)).flatten
  | 0x8100, _ => (((s.recorder.dead.drop (s.objv 0x8100 1)).take 2046).map Dead.bytes).flatten
  | i, n => if 0x6000 ≤ i ∧ i < 0x6040 then toBytes 12 (s.objv i n) else s.domv i n

/-! ### Reading with a role -/

/-- A counter or gauge that the tenant role reads coarsened (R372). -/
def coarse (index sub : Nat) : Bool :=
  (decide (0x7000 ≤ index ∧ index ≤ 0x7FFF) && decide (index ≠ 0x7300)) ||
    (decide (0x6000 ≤ index ∧ index < 0x6040) && decide (sub = 11 ∨ sub = 12))

/-- A gauge of the device: it counts no event of a command and has no set of a context's own (R373, log entry
105). -/
def gauge (index sub : Nat) : Bool :=
  decide (index = 0x7300 ∨ index = 0x7310) || decide (index = 0x7140 ∧ sub = 27) || decide (index = 0x7400 ∧ 41 ≤ sub)

/-- What the tenant role of context c may read (R51, R282, R348, R372 to R374, R398, R419, log entry 105). -/
def tenantReads (c index sub : Nat) : Bool :=
  (decide (index = 0x5101 ∧ sub = 1) || decide (index = 0x5102) || decide (index = 0x5220 ∧ 2 ≤ sub ∧ sub ≤ 4) ||
    decide (index = 0x6000 + c) || decide (index = 0x6110) || decide (index = 0x6200 + c ∧ sub ≤ 5) ||
    decide (index = 0x6400 ∧ (sub = 1 ∨ sub = 4 ∨ sub = 5)) ||
    decide (0x7100 ≤ index ∧ index < 0x7300) || decide (index = 0x7300 ∧ (sub = 55 ∨ sub = 56)) ||
    decide (index = 0x7301 ∨ index = 0x7310) ||
    decide (index = 0x7400) || decide (index = 0x7500))

/-- The number read through a role: a confidential tenant's own counters, coarsened for a tenant; a counter
past its type's width reads an open value (R372, R373, log entry 3). -/
def State.readAs (s : State) (ch : Channel) (role size index sub : Nat) : Nat :=
  let tenant := decide (role = 1)
  let c := ch.tenantOf
  let v :=
    if tenant && s.confidential c && decide (0x7000 ≤ index) && !gauge index sub then
      Tab.get 0 s.trust.ownCounters (ownKey c index sub)
    else s.readNum ch tenant index sub
  let v := if v < 2 ^ (8 * size) then v else Config.pastWidth v % 2 ^ (8 * size)
  if tenant && coarse index sub then v - v % 4096 else v

end Sys2Proof.Machine
end

