-- ==== Sys2Proof/Machine/Writes.lean ====
section
/-! DEFINITION. The checks a write of an object passes before it takes effect: form, range, the rules of the
object's chapter, role, guard and device state (R407 to R419, R449, R457, and each chapter's objects). -/

namespace Sys2Proof.Machine

/-- The value of a number object from its bytes. -/
def valOf (l : List Byte) : Nat := ofBytes l

/-- A field of a record: n bytes at an offset. -/
def fieldOf (l : List Byte) (off n : Nat) : Nat := ofBytes ((l.drop off).take n)

/-! ### Form -/

/-- The bytes of a record are all zero. -/
def zeroBytes (l : List Byte) (off n : Nat) : Bool := decide (fieldOf l off n = 0)

/-- The length a byte-string object requires (R407, R408). -/
def domLength (index sub n : Nat) (l : List Byte) : Bool :=
  if 0x6000 ≤ index ∧ index < 0x6040 then decide (n = 12)
  else match index, sub with
    | 0x5210, _ => decide (n = 16384)
    | 0x5220, _ => decide (n = 16 + 2 * fieldOf l 10 2)
    | 0x3100, _ => decide (n = 8 + 8 * fieldOf l 4 1)
    | 0x6400, _ => decide (n = 144 ∨ (fieldOf l 0 1 = 3 ∧ 144 ≤ n ∧ n ≤ 4240))
    | 0x6401, _ => decide (n = 97)
    | 0x6402, _ => decide (n = 192)
    | 0x1F50, _ => decide (5 ≤ n ∧ n ≤ 32736)
    | _, _ => decide (n ≤ 32736)

/-- A number lies in the range its object states (R408). -/
def rangeOk (r : ORow) (index sub v : Nat) : Bool :=
  if index = 0x3101 ∧ sub = 1 then
    let i := toSigned 32 v
    decide (-1700 ≤ i ∧ i ≤ 1700)
  else if index = 0x3200 then decide (v ≤ objDefault 0x3200 sub)
  else decide (r.min ≤ v ∧ v ≤ r.max) && rangeExtra index sub v

/-- The objects that may be written in RETIRED (R457). -/
def retiredMayWrite (index sub : Nat) : Bool :=
  decide (index = 0x6400 ∧ (sub = 2 ∨ sub = 3)) || decide (index = 0x8001 ∧ (sub = 1 ∨ sub = 2)) ||
    decide (index = 0x8100 ∧ sub = 1)

/-- Where no object is: the code for the index or for the subindex (R408, R416). -/
def absentCode (index : Nat) : Nat := if indexExists index then 0x06090011 else 0x06020000

/-- The refusal of a write by its form: no object, no write access, length, range, in that order; none where
it passes (R408, R416, R457). -/
def State.formRefusal (s : State) (index sub : Nat) (l : List Byte) : Option Nat :=
  match objectRow index sub with
  | none => some (if sub = 0 ∧ indexExists index = true then 0x06010002 else absentCode index)
  | some r =>
    if r.acc = .const ∨ r.acc = .ro then some 0x06010002
    else if s.server.life = 4 ∧ retiredMayWrite index sub = false then some 0x06010002
    else match r.ty.size with
      | some n =>
        if l.length ≠ n then some 0x06070010
        else if rangeOk r index sub (valOf l) then none else some 0x06090030
      | none => if domLength index sub l.length l then none else some 0x06070010

/-! ### Rules of the chapters -/

/-- A phase profile: its effective stride and its entries (R387). -/
def parseProfile (l : List Byte) : List (List Nat) × Nat :=
  ((List.range (fieldOf l 4 1)).map fun e =>
      [fieldOf l (8 + 8 * e) 2, fieldOf l (10 + 8 * e) 1, fieldOf l (12 + 8 * e) 2, fieldOf l (14 + 8 * e) 2],
    fieldOf l 0 4)

/-- A phase profile is well formed (R387). -/
def profileForm (l : List Byte) : Bool :=
  let p := (parseProfile l).1
  let ph := p.map (·.getD 0 0)
  decide (1 ≤ p.length ∧ p.length ≤ 16) && zeroBytes l 5 3 && decide (ph.headD 1 = 0) &&
    ((ph.zip (ph.drop 1)).all fun x => decide (x.1 < x.2)) &&
    (p.all fun e => decide (e.getD 1 0 ≤ 7 ∧ 1200 ≤ e.getD 3 0 ∧ e.getD 3 0 ≤ 2900)) &&
    ((List.range p.length).all fun e => zeroBytes l (11 + 8 * e) 1)

/-- A stride lies ahead and near enough; not known in UNLOCKED (R32, R277, R387). -/
def State.strideAhead (s : State) (n : Nat) : Bool :=
  decide (s.pace.mode = .unlocked) ||
    (!atOrAfter s.angle (strideAngle n) && nearAngle (strideAngle n) s.angle)

/-- The window configuration holds: every slice in use lies in the window context's memory, the slices do
not overlap, and they sum to at most 64 GiB (R363, R364). -/
def State.windowOk (s : State) : Bool :=
  let c := s.objv 0x2302 5
  let ok := fun k =>
    let x := s.slice k
    decide (x.2 = 0) || (s.inStack x.1 x.2 && s.ctxMem c x.1 x.2)
  let a := s.slice 0
  let b := s.slice 1
  ok 0 && ok 1 && decide (a.2 + b.2 ≤ 64 * gib) &&
    (decide (a.2 = 0 ∨ b.2 = 0) || decide (a.1 + a.2 ≤ b.1 ∨ b.1 + b.2 ≤ a.1))

/-- A partition may be enabled (R240). -/
def State.partitionOk (s : State) (p : Nat) : Bool :=
  let i := 0x4100 + p
  let base := s.objv i 1
  let size := s.objv i 2
  let enc := s.objv i 4
  decide (size ≠ 0) && decide ((base + size) * gib ≤ s.top) && (decide (enc = 0xFF) || decide (enc < 64 ∧ s.objv i 3 = 2 ^ enc)) &&
    (List.range 16).all fun q => decide (q = p) || !s.partOn q ||
      decide (base + size ≤ s.objv (0x4100 + q) 1 ∨ s.objv (0x4100 + q) 1 + s.objv (0x4100 + q) 2 ≤ base)

/-- The unit the operator's test names (R429, R443). -/
def State.testTarget (s : State) : UnitId :=
  let x := s.objv 0x9000 2
  ⟨s.objv 0x9000 1, bits x 47 40, bits x 39 32, bits x 31 24, bits x 23 0⟩

/-- The pseudo-channel a margin scan names (R257). -/
def State.scanTarget (s : State) : Nat := 64 * bits (s.objv 0x4300 1) 13 8 + bits (s.objv 0x4300 1) 5 0

/-- The life-cycle transitions and the role each needs, none where it is not listed (R458). -/
def transitionRole (src dst : Nat) : Option Nat :=
  match src, dst with
  | 1, 2 => some 2
  | 2, 3 => some 2
  | 3, 2 => some 2
  | 2, 1 | 3, 1 => some 3
  | 1, 4 | 2, 4 | 3, 4 => some 2
  | _, _ => none

/-- The type of the die at a location code: 1 management, 2 Kyoty, 3 link, 4 host, 5 base (R419). -/
def dieType (loc : Nat) : Nat :=
  if loc < 8 then 2 else if loc < 16 then 3 else if loc < 18 then 4 else if loc < 20 then 1 else 5

/-- The bytes of an image slot. -/
def FwStore.slot (x : FwStore) (k : Nat) : Mem := if k = 0 then x.slot0 else x.slot1

/-- The slot that the next image is staged into: the one that does not hold the newest verified image
(R421). -/
def FwStore.stage (x : FwStore) : Nat := if x.newest = some 0 then 1 else 0

/-- The version, the security version and the identity of the newest verified image of a type, the shipped
image where none was verified (R420, R421, log entry 11). -/
def State.newestImage (s : State) (t : Nat) : DieFw :=
  let x := s.fwStore t
  match x.newest with
  | none => DieFw.fresh
  | some k =>
    let m := x.slot k
    ⟨m.num 8 4, m.num 12 4, m.num 0 256⟩

/-- A write breaks a rule of its object's chapter: refused with INVALID (R12, R49, R240, R277, R316, R349,
R363, R387, R391, R395, R413, R414, R421, R422, R456, R485). -/
def State.ruleBroken (s : State) (index sub : Nat) (l : List Byte) : Bool :=
  let v := valOf l
  let t := s.setObj index sub v
  if 0x6000 ≤ index ∧ index < 0x6040 then
    let c := index - 0x6000
    if sub = 6 then !(inHost v 1024 || (s.inStack v 1024 && s.ctxMem c v 1024))
    else if sub = 9 then decide (v ≠ 0) && !s.saveOk c v
    else false
  else if 0x6200 ≤ index ∧ index < 0x6240 then
    (if sub = 1 then decide (v % 2 = 1) && !s.splitChosen (v / 2)
     else if sub = 6 then decide (s.encPages (index - 0x6200) = [])
     else false)
  else if 0x4100 ≤ index ∧ index < 0x4110 then decide (sub = 7 ∧ v = 1) && !s.partitionOk (index - 0x4100)
  else match index, sub with
    | 0x2302, _ => !t.windowOk
    | 0x3100, _ => !profileForm l || !s.strideAhead (parseProfile l).2
    | 0x3120, n =>
      (decide (n = 2) || (decide (n = 3 ∨ n = 4) && decide (t.objv 0x3120 4 = 1))) &&
        !(t.inStack (t.objv 0x3120 2) 32 && t.ctxMem (t.objv 0x3120 3) (t.objv 0x3120 2) 32)
    | 0x3200, 5 => decide (s.objv 0x3200 4 < v)
    | 0x4300, 1 => decide (bits v 15 14 ≠ 0 ∨ bits v 7 6 ≠ 0 ∨ 20 ≤ bits v 13 8)
    | 0x5103, _ => s.pace.mode.running && decide (v ≠ (s.pace.stride + 1) % 2 ^ 32)
    | 0x5210, _ => (List.range 4096).any fun m => decide (fieldOf l (4 * m + 3) 1 ≠ 0)
    | 0x5220, _ =>
      match parseMembership l with
      | none => true
      | some p => !s.membershipOk p
    | 0x1F50, _ => decide (262144 < fieldOf l 0 4 + (l.length - 4))
    | 0x1F52, d => decide (s.dieFw (d - 1) = s.newestImage (dieType (d - 1)))
    | 0x2002, _ => (transitionRole s.server.life v).isNone
    | 0x6400, 2 =>
      let role := fieldOf l 0 1
      let slot := fieldOf l 1 1
      !zeroBytes l 40 8 || !(decide (role = 2 ∧ slot ≤ 3) || decide (role = 3 ∧ slot = 0xFF))
    | 0x6401, _ => decide (fieldOf l 0 1 ≠ 4)
    | 0x6402, _ => !zeroBytes l 88 8 || decide (3 < fieldOf l 3 1)
    | 0x9000, 3 => !s.testTarget.real
    | _, _ => false

/-! ### Role and guard -/

/-- A write is guarded (R414). -/
def State.guarded (s : State) (index sub : Nat) : Bool :=
  decide (index = 0x1011 ∧ sub = 1) || decide (index = 0x2002 ∧ sub = 2) || decide (index = 0x8010 ∧ sub = 1) ||
    (decide (index = 0x6401) && decide (s.domv index sub ≠ []))

/-- The role lacks the right to write (R51, R256, R348, R371, R374, R392, R398, R411, R419, R458, R487). -/
def State.roleLacks (s : State) (ch : Channel) (role index sub : Nat) (l : List Byte) : Bool :=
  let tenant := fun (c : Nat) => decide (role = 1 ∧ ch.tenantOf = c)
  let op := decide (2 ≤ role)
  if index = 0x6400 ∧ (sub = 2 ∨ sub = 3) then false
  else if index = 0x6110 then !(op || decide (role = 1))
  else if 0x6200 ≤ index ∧ index < 0x6240 ∧ sub = 6 then !(op || tenant (index - 0x6200))
  else if index = 0x3101 ∧ sub = 1 then !(op || tenant (s.objv 0x3120 3))
  else if index = 0x6401 ∧ s.domv index sub = [] then decide (role ≠ 3)
  else if index = 0x4300 ∧ sub = 3 ∧ s.objv 0x4300 2 = 2 then decide (role ≠ 3)
  else if index = 0x2002 then decide (role < (transitionRole s.server.life (valOf l)).getD 2 ∨ role = 1)
  else !op

/-- The authorization record of a channel matches a guarded write and is at most 10 s old (R414). -/
def State.authorized (s : State) (ch : Channel) (index sub : Nat) (l : List Byte) : Option Auth :=
  s.server.auths.find? fun a =>
    decide (a.chan = ch.home ∧ a.index = index ∧ a.sub = sub) && decide (a.digest = Config.sha384 l) &&
      decide (s.now ≤ a.at_ + 10000000000)

/-! ### Device state -/

/-- The writes served before READY (R449). -/
def earlyWrite (index sub : Nat) : Bool :=
  (match objectRow index sub with
    | some r => decide (r.pers = .persistent)
    | none => false) ||
  decide (index = 0x6400) || decide (index = 0x6402) || decide (0x5100 ≤ index ∧ index ≤ 0x5120) ||
    decide (index = 0x8001) || decide (index = 0x8100 ∧ sub = 1)

/-- The objects a command names: its wait and local signal objects, and those of its body (R157, R297,
R320, R346, R371). -/
def namedObjects (d : Desc) : List Nat :=
  (if flag d 18 then [waitObj d] else []) ++
    (if flag d 19 && decide (fld d 191 176 = 0xFFFF) then [fld d 143 128] else []) ++
    (if isOp 0x02 d then [fld d 207 192] else []) ++
    (if isOp 0x23 d && flag d 208 then [fld d 207 192] else []) ++
    (if isOp 0x80 d then [fld d 271 256] else []) ++
    (if isOp 0xC2 d then [fld d 463 448, fld d 479 464] else [])

/-- A block of objects is named by a command that was admitted and is not complete (R348). -/
def State.blockNamed (s : State) (b : Nat) : Bool :=
  s.cmds.any fun (x : Cmd) => x.admitted && (namedObjects x.desc).any fun o => decide (o / 256 = b)

/-- A context's interface is locked or running (R369). -/
def State.tdiHolds (s : State) (c : Nat) : Bool := decide (c < 64) &&
  decide ((s.tdi c).state = .locked ∨ (s.tdi c).state = .run)

/-- A write would change what a LOCK_INTERFACE checked (R369). -/
def State.lockedBy (s : State) (index sub v : Nat) : Bool :=
  if 0x6000 ≤ index ∧ index < 0x6040 then
    s.tdiHolds (index - 0x6000) && decide (sub = 4 ∨ sub = 5 ∨ sub = 6 ∨ sub = 9)
  else if 0x6200 ≤ index ∧ index < 0x6240 then s.tdiHolds (index - 0x6200) && decide (sub = 1 ∨ sub = 2)
  else if 0x4100 ≤ index ∧ index < 0x4110 ∧ sub ≠ 5 ∧ sub ≠ 6 then
    (List.range 64).any fun c => s.tdiHolds c &&
      ((s.objv index 3).testBit c || (decide (sub = 3) && v.testBit c))
  else if index = 0x2302 then
    s.tdiHolds (s.objv 0x2302 5) || (decide (sub = 5) && s.tdiHolds v)
  else false

/-- A write is refused in the present device state (R240, R256, R316, R348, R349, R369, R422, R432, R442, R449,
R460, R487). -/
def State.stateRefuses (s : State) (index sub : Nat) (l : List Byte) : Bool :=
  let v := valOf l
  (!s.pins.ready && !earlyWrite index sub) || s.lockedBy index sub v ||
    (if 0x6000 ≤ index ∧ index < 0x6040 then
      let c := index - 0x6000
      ((decide (sub = 4 ∨ sub = 5 ∨ sub = 6 ∨ sub = 9)) && s.resident c) ||
        (decide (sub = 6) && s.hasWork c) || (decide (sub = 3 ∧ v = 0) && s.hasWork c)
    else if 0x4100 ≤ index ∧ index < 0x4110 then
      (decide (1 ≤ sub ∧ sub ≤ 4) && s.partOn (index - 0x4100)) ||
        (decide (sub = 7 ∧ v = 0) && s.partOn (index - 0x4100) &&
          (List.range 64).any fun c => (s.objv index 3).testBit c && s.resident c)
    else match index, sub with
      | 0x2300, n => decide (v = 0) && (List.range 64).any fun c =>
          s.isDefined c && decide ((s.boundTo c).1 = 2 * (n - 1) + 1)
      | 0x6100, n => s.blockNamed (n - 1)
      | 0x6103, n => s.blockNamed (n + 127)
      | 0x6401, n => decide (s.domv 0x6401 n = [] ∧ s.server.life ≠ 1)
      | 0x1F52, d =>
        s.server.reload.isSome || (decide (d - 1 = s.mgmtLoc) && !s.mgmt.standby)
      | 0x2002, _ => s.server.transition.isSome
      | 0x4300, 3 => decide (s.objv 0x4300 6 = 1 ∨ s.objv 0x4300 6 = 2) ||
          (decide (s.objv 0x4300 2 = 2) && !(decide (s.server.life = 3) || (s.power.wide && decide (s.power.cause = 0))))
      | 0x8010, _ => decide (64 ≤ s.recorder.clearings.length)
      | 0x9020, _ => !s.mgmt.standby
      | _, _ => false)

/-- A write needs a unit that is retired (R416, R422, R433). -/
def State.unitGone (s : State) (index sub : Nat) : Bool :=
  match index, sub with
  | 0x1F52, d => s.retired (if d - 1 = 18 ∨ d - 1 = 19 then .mgmt (d - 19) else .die (d - 1))
  | 0x9000, 3 => s.retired s.testTarget
  | 0x4300, 3 => if s.objv 0x4300 2 = 2 then s.retired (.die (20 + s.scanTarget / 64)) else s.retired (.pc s.scanTarget)
  | _, _ => false

/-- The refusal of a write: its status and its abort code, the first failing check in the order of R12, then
the state a unit is in (R12, R408, R416). -/
def State.writeRefusal (s : State) (ch : Channel) (role : Option Nat) (index sub : Nat) (l : List Byte) :
    Option (Status × Nat) :=
  match s.formRefusal index sub l with
  | some code => some (.invalid, code)
  | none =>
    if s.ruleBroken index sub l then some (.invalid, 0x06090030)
    else match role with
      | none => some (.accessDenied, 0x06010000)
      | some r =>
        if s.roleLacks ch r index sub l then some (.accessDenied, 0x06010000)
        else if s.guarded index sub && (s.authorized ch index sub l).isNone then
          some (.accessDenied, 0x06010000)
        else if decide (s.pace.mode = .expired) && decide (index = 0x3100 ∨ index = 0x5220) then
          some (.paceLost, 0x08000020)
        else if decide (0x6200 ≤ index ∧ index < 0x6240 ∧ sub = 6) && s.rotating (index - 0x6200) then
          some (.keyBusy, 0x08000021)
        else if s.stateRefuses index sub l then some (.busy, 0x08000022)
        else if s.unitGone index sub then some (.unitRetired, 0x08000000)
        else none

/-- The refusal of a read: no object, no read access, no right (R372, R374, R408, R411, R441). -/
def State.readRefusal (s : State) (ch : Channel) (role : Option Nat) (index sub : Nat) :
    Option (Status × Nat) :=
  match objectRow index sub with
  | none =>
    if sub = 0 ∧ indexExists index = true then
      (if role = none ∨ (role = some 1 ∧ tenantReads ch.tenantOf index sub = false) then
        some (.accessDenied, 0x06010000)
      else none)
    else some (.invalid, absentCode index)
  | some r =>
    if r.acc = .wo then some (.invalid, 0x06010001)
    else match role with
      | none => some (.accessDenied, 0x06010000)
      | some 1 =>
        let o := s.readNum ch true 0x6110 1
        if !tenantReads ch.tenantOf index sub then some (.accessDenied, 0x06010000)
        else if index = 0x6110 ∧ sub = 2 ∧ s.owner o ≠ ch.tenantOf then some (.accessDenied, 0x06010000)
        else none
      | some _ => none

end Sys2Proof.Machine
end

