-- ==== Sys2Proof/Machine/Startup.lean ====
section
/-! DEFINITION. Power, reset, the start-up sequence, the clearing and the life-cycle transitions (chapter
Start-up, Reset and Life Cycle). -/

namespace Sys2Proof.Machine

/-! ### What a reset keeps -/

/-- An object's value is held in MRAM (R409). -/
def isPersistent (key : Nat) : Bool :=
  match objectRow (key / 256) (key % 256) with
  | some r => decide (r.pers = .persistent)
  | none => false

/-- The recorder after a reset: its records and the deadwood list, nothing under test (R428, R436, R447,
R486). -/
def Recorder.kept (r : Recorder) : Recorder :=
  { Recorder.reset with
    ring := r.ring
    heartwood := r.heartwood
    clearings := r.clearings
    next := r.next
    written := r.written
    folded := r.folded
    dead := r.dead }

/-- The calendar after a reset of a type: 0 after power-on, running on otherwise (R446). -/
def Calendar.kept (c : Calendar) (type : Nat) : Calendar :=
  if type = 1 then Calendar.reset else { c with pend := none, rejects := 0 }

/-- The dictionary server after a reset: the firmware store, the life-cycle state, the straps and the serial
number; a restore asked for stays due (R447, R461). -/
def Server.kept (x : Server) : Server :=
  { Server.reset with
    fw := x.fw
    restore := x.restore
    life := x.life
    serial := x.serial
    straps := x.straps }

/-- The device in a reset of a type: MRAM, the identity and the calendar as R446 has it are kept, all else is
at its state after the clearing or its default. THERMTRIP_N stays asserted and the stand clocks stopped
(R396, R446, R447, R474). -/
def State.resetTo (s : State) (type : Nat) : State :=
  { State.reset with
    now := s.now
    cal := s.cal.kept type
    host := s.host
    trust := { Trust.reset with
      cert1 := s.trust.cert1
      cert2 := s.trust.cert2 }
    power := { Power.reset with thermtrip := s.power.thermtrip, clocksStopped := s.power.clocksStopped }
    obj := s.obj.filter fun p => isPersistent p.1
    dom := s.dom.filter fun p => isPersistent p.1
    server := s.server.kept
    recorder := s.recorder.kept
    pins := { s.pins with ready := false, resetType := type }
    out := s.out
    free := s.free
    draws := s.draws
    pending := s.pending }

/-! ### Defaults -/

/-- An operator key slot (R419). -/
def isOperatorKey (key : Nat) : Bool := decide (key / 256 = 0x6401)

/-- The persistent objects returned to default but for those of R458; the operator keys stay where `keys`
says so (R458, R461). -/
def State.toDefaults (s : State) (keys : Bool) : State :=
  { s with
    obj := s.obj.filter fun p => !isPersistent p.1 || neverRestored (p.1 / 256) (p.1 % 256)
    dom := s.dom.filter fun p => keys && isOperatorKey p.1 }

/-- The objects a transition returns to default (R458). -/
def State.transitionDefaults (s : State) (src dst : Nat) : State :=
  if dst = 1 ∨ dst = 4 then
    let t := s.toDefaults false
    { t with trust := { t.trust with cert1 := [], cert2 := [] } }
  else if src = 1 then s
  else
    { s with
      obj := s.obj.filter fun p => !(decide (0x6000 ≤ p.1 / 256) && decide (p.1 / 256 < 0x6400))
      dom := s.dom.filter fun p => !(decide (0x6000 ≤ p.1 / 256) && decide (p.1 / 256 < 0x6400)) }

/-- A restore of defaults asked for takes effect at the reset (R461). -/
def State.takeRestore (s : State) : State :=
  if s.server.restore then
    let t := s.toDefaults true
    { t with server := { t.server with restore := false } }
  else s

/-! ### Firmware -/

/-- The unit of the die at a location code. -/
def dieUnit (loc : Nat) : UnitId := if loc = 18 ∨ loc = 19 then .mgmt (loc - 18) else .die loc

/-- The dies in service of a type (R419). -/
def State.diesOf (s : State) (t : Nat) : List Nat :=
  (List.range 40).filter fun loc => decide (dieType loc = t) && !s.retired (dieUnit loc)

/-- The firmware of a die loaded: the newest verified image of its type (R421). -/
def State.loadDie (s : State) (loc : Nat) : State :=
  { s with server := { s.server with
      dies := Tab.put DieFw.fresh s.server.dies loc (s.newestImage (dieType loc)) } }

/-- The measurement block of a die type's firmware (R367). -/
def State.measureType (s : State) (t : Nat) : State :=
  { s with trust := { s.trust with
      measured := Tab.put 0 s.trust.measured (t + 1) (Config.sha384 (toBytes 256 (s.newestImage t).image)) } }

/-- The security version of a type raised once every die of the type runs an image above it, and recorded
(R423). -/
def State.raiseSecurity (s : State) (t : Nat) : State :=
  match (s.diesOf t).map fun loc => (s.dieFw loc).secVersion with
  | [] => s
  | v :: rest =>
    let low := rest.foldl min v
    if s.objv 0x6403 t < low then (s.setObj 0x6403 t low).recordEvent (s.info 0x8006 0 t) else s

/-- Step 3: every die loads its image; the alias key is derived from what was measured (R367, R421, R423, R448). -/
def State.loadFirmware (s : State) : State :=
  let t := ((List.range 40).filter fun loc => !s.retired (dieUnit loc)).foldl State.loadDie s
  let t := [1, 2, 3, 4, 5].foldl (fun (u : State) k => (u.measureType k).raiseSecurity k) t
  let key := (List.range 5).map fun k => Tab.get 0 t.trust.measured (k + 2)
  { t with trust := { t.trust with alias_ := key } }

/-! ### Management and buses -/

/-- The lower-numbered management die in service is active (R21, R432, R448). -/
def State.chooseMgmt (s : State) : State :=
  let a := s.retired (.mgmt 0)
  let b := s.retired (.mgmt 1)
  { s with mgmt := ⟨if a then 1 else 0, !a && !b, s.now, false, 0, a && b⟩ }

/-- The node-ID a bus takes: its override where that is not 0, else the straps (R406). -/
def State.nodeFor (s : State) (b : Nat) : Nat :=
  let o := s.objv 0x2000 (b + 2)
  if o ≠ 0 then o else s.server.straps

/-- A bus re-reads its node-ID and boots up: it sends boot-up under CAN-ID 0x700 + n and enters Pre-operational; with
node-ID 0 it stays in Initialisation and sends nothing (R400, R401, R406). -/
def State.bootBus (s : State) (b : Nat) : State :=
  let n := s.nodeFor b
  let x := Tab.get Bus.fresh s.buses b
  if n = 0 then
    { s with buses := Tab.put Bus.fresh s.buses b { x with nmt := .initialisation, node := 0, lastBeat := none } }
  else
    { s with
      buses := Tab.put Bus.fresh s.buses b { x with nmt := .preOperational, node := n, lastBeat := some s.now }
      out := s.out ++ [Output.bootUp b (0x700 + n)] }

/-! ### Memory training and the clearing -/

/-- A channel whose interface test fails in training: both its pseudo-channels are retired, without a
migration (R250, R450). -/
def State.failChannel (s : State) (n : Nat) : State :=
  if 640 ≤ n then s
  else
    let t := (s.bump 0x7800 1 1).bump 0x7800 2 1
    [2 * n, 2 * n + 1].foldl (fun (t : State) p =>
      if t.retired (.pc p) then t else t.loseTop (t.retire (.pc p) (unitEvent 0x3003 (.pc p) 2))) t

/-- Step 5: the channels that fail are retired, and the scans set the marginal mask, which pseudo-channels it
names being free values (R256, R450, log entry 45). -/
def State.trainMemory (s : State) (failed : List Nat) : State :=
  let t := failed.foldl State.failChannel s
  ((List.range 20).foldl (fun (u : State) n => u.setObj 0x4001 (21 + n) (t.freeVal n % 2 ^ 64)) t).usedFree 20

/-- The grains whose home is a retired pseudo-channel placed on spares, each on the pseudo-channel in
service that holds the fewest (R236, R451, log entry 31). -/
def State.placeGrains (s : State) (p : Nat) : State :=
  (List.range slotsPerPc).foldl (fun (t : State) sl =>
    match t.slotAddr p sl, t.spare with
    | some a, some q => { t with pool := { t.pool with reloc := Tab.put none t.pool.reloc (a / 256) (some q) } }
    | _, _ => t) s

/-- The keys of the clearing: new hash keys, and for every context a fresh key in slot 0 (R235, R451). -/
def State.clearKeys (s : State) : State :=
  let n := s.draws
  { s with
    draws := n + 75
    pool := { s.pool with
      hashKeys := (List.range 11).map fun k => Config.draw (n + k) % 2 ^ 22
      keys := (List.range 64).map fun c => (c, (⟨0, some (n + 11 + c), none⟩ : KeySlots)) } }

/-- Step 6, the clearing: memory, stores, objects and records are at their reset state already; keys are
drawn and retired pseudo-channels served by spares (R451). -/
def State.clearing (s : State) : State :=
  let t := s.clearKeys
  ((List.range 1280).filter fun p => t.retired (.pc p)).foldl State.placeGrains t

/-! ### The sequence -/

/-- What starts to count time at the reset: the telemetry groups, the AVSBus poll, the calibration intervals,
context 0 in its slot. -/
def State.startClocks (s : State) : State :=
  { s with
    ctxs := [(0, { Ctx.off with slot := some 0, since := s.now })]
    recorder := { s.recorder with calFrom := s.now }
    power := { s.power with
      lastAvs := s.now
      groups := if s.now = 0 then [] else
        (List.range 13).map fun g => (g, { TelemGroup.fresh with lastValid := s.now }) } }

/-- The VOUT transition rate of 10 mV/µs, written once after reset to every AVSBus rail (R377). -/
def State.setRates (s : State) : State :=
  { s with out := s.out ++ ((List.range 24).filterMap avsAddress).map fun a => Output.avsRate a.1 a.2 10 }

/-- A fresh nonce (R413). -/
def State.freshNonce (s : State) : State :=
  { s with
    draws := s.draws + 1
    server := { s.server with nonce := s.draws } }

/-- The start-up sequence of R448, from a device in reset to READY; with no management die in service nothing
starts (R377, R432, R446 to R451, log entry 45). -/
def State.startUp (s : State) (failed : List Nat) : State :=
  let t := (s.takeRestore.chooseMgmt).startClocks
  if t.mgmt.stopped then t
  else
    let t := ((t.freshNonce.bootBus 0).bootBus 1).setRates
    let t := t.recordEvent (t.info 0x0002 0 t.pins.resetType)
    let t := (t.loadFirmware.trainMemory failed).clearing
    let t := t.recordEvent (t.info 0x0004 0 0)
    { t with pins := { t.pins with ready := true } }

/-! ### The rows -/

/-- POWER_ON: the rails rise with RESET_N held low (R444, R446). -/
def execPowerOn (s : State) : Host.Outcome State Fault Refusal :=
  if s.pins.powered then .next s
  else .next { s.resetTo 1 with pins := ⟨true, false, false, 1⟩ }

/-- RESET_N_LOW: a device reset; no command is released or completed from here (R445, R447). -/
def execResetNLow (s : State) : Host.Outcome State Fault Refusal :=
  if s.pins.powered && s.pins.resetN then .next { s.resetTo 2 with pins := ⟨true, false, false, 2⟩ }
  else .next s

/-- RESET_N_RISE: the start-up sequence runs to READY; the channels named find no passing point and fail
their test (R448 to R453). -/
def execResetNRise (failedChannels : List Nat) (s : State) : Host.Outcome State Fault Refusal :=
  if s.pins.powered && !s.pins.resetN then
    .next (({ s with pins := { s.pins with resetN := true } }).startUp failedChannels)
  else .next s

/-- POWER_LOSS: the rails fall, ending all work; MRAM stays, THERMTRIP_N is released (R447, R460, R474). -/
def execPowerLoss (s : State) : Host.Outcome State Fault Refusal :=
  if s.pins.powered then
    let t := s.resetTo 1
    .next { t with
      pins := ⟨false, false, false, 1⟩
      power := { t.power with thermtrip := false, clocksStopped := false } }
  else .next s

/-! ### Life-cycle transitions -/

/-- A transition has nothing left to wait for: no command is released, and none that finished can still
write its record (R341, R459). -/
def State.transitionDue (s : State) : Bool :=
  s.server.transition.isSome && !s.mgmt.takeover && !(s.cmds.any fun (c : Cmd) =>
    match c.phase with
    | .admitted => false
    | .released => true
    | .finished _ => s.recordFree c.id.ctx c.id.queue)

/-- A transition stops work: every resident context leaves its slot at once, and released commands stop at
their next safe points (R459). -/
def State.stopAll (s : State) : State :=
  let t := (List.range 64).foldl (fun (t : State) c => t.leaveNow c) s
  t.abortTargets ((t.cmds.filter fun (c : Cmd) => decide (c.phase = Phase.released)).map (·.id))

/-- The commit of a transition: state and defaults in MRAM, the event, and the life-cycle reset with its
start-up (R458, R459). -/
def State.commitTransition (s : State) : State :=
  match s.server.transition with
  | none => s
  | some dst =>
    let src := s.server.life
    let t := s.transitionDefaults src dst
    let t := { t with server := { t.server with life := dst, transition := none } }
    let t := t.recordEvent (t.info 0x0003 0 (src * 256 + dst))
    (t.resetTo 3).startUp []

/-- A transition that has nothing left to wait for commits (R459). -/
def State.settle (s : State) : State := if s.transitionDue then s.commitTransition else s

/-- One nanosecond of the device with nothing commanded: the clocks, and a transition whose work has stopped
(R39, R44, R391, R459, log entry 1). -/
def State.tick (s : State) : State := s.powerTick.settle

end Sys2Proof.Machine
end

