-- ==== Sys2Proof/Machine/Dict.lean ====
section
/-! DEFINITION. The dictionary server: what an accepted write does, sessions, authorizations, firmware, and the
paths that requests take (chapters The Object Dictionary, and each chapter's objects; log entries 47 to 50). -/

namespace Sys2Proof

/-- The CLIENT field a channel requires (R413). -/
def Channel.client : Channel → Nat
  | .can _ c => c
  | .mbx _ _ _ => 0xFFFF

end Sys2Proof

namespace Sys2Proof.Machine

/-- What a request is answered with: status, abort code and value (R403, R415, R416). -/
structure Reply where
  st : Status
  code : Nat
  value : List Byte
  deriving DecidableEq, Repr

/-- A write done. -/
def Reply.done : Reply := ⟨.ok, 0, []⟩

/-- A write refused out of range or by a rule of its chapter (R416). -/
def Reply.bad : Reply := ⟨.invalid, 0x06090030, []⟩

/-- A write refused for want of a right (R416). -/
def Reply.denied : Reply := ⟨.accessDenied, 0x06010000, []⟩

/-- A write refused in the present device state (R416). -/
def Reply.busy : Reply := ⟨.busy, 0x08000022, []⟩

/-- The answer to a write whose effect ends in a status of its own. -/
def replyOf (st : Status) : Reply :=
  match st with
  | .ok | .retriedOk => ⟨st, 0, []⟩
  | .busy => Reply.busy
  | .accessDenied => Reply.denied
  | .dataSuspect => ⟨.dataSuspect, 0x06060000, []⟩
  | .unitRetired => ⟨.unitRetired, 0x08000000, []⟩
  | .keyBusy => ⟨.keyBusy, 0x08000021, []⟩
  | .paceLost => ⟨.paceLost, 0x08000020, []⟩
  | _ => Reply.bad

/-! ### Sessions -/

/-- An event of sessions and access (R440). -/
def State.accessEvent (s : State) (event outcome : Nat) : State := s.recordEvent (s.info event outcome 0)

/-- The refusals of opens on a channel. -/
def State.refusals (s : State) (ch : Channel) : Refusals :=
  (s.server.refusals.find? fun x => decide (x.chan = ch.home)).getD ⟨ch.home, 0, 0⟩

/-- The refusals of a channel replaced. -/
def State.setRefusals (s : State) (ch : Channel) (run until_ : Nat) : State :=
  let rest := s.server.refusals.filter fun x => decide (x.chan ≠ ch.home)
  { s with server := { s.server with refusals := rest ++ [⟨ch.home, run, until_⟩] } }

/-- Opens on a channel are blocked after eight refusals (R413). -/
def State.blockedOpens (s : State) (ch : Channel) : Bool := decide (s.now < (s.refusals ch).until_)

/-- A session open refused is counted and recorded; the eighth in a row blocks opens on the channel for 60 s
(R413, log entry 48). -/
def State.openRefused (s : State) (ch : Channel) : State :=
  let x := s.refusals ch
  let t := (s.bump 0x7700 5 1).accessEvent 0x9001 0
  if s.blockedOpens ch then t
  else if 8 ≤ x.run + 1 then (t.setRefusals ch 0 (s.now + 60000000000)).accessEvent 0x9003 4
  else t.setRefusals ch (x.run + 1) 0

/-- A channel may hold a session: the mailbox of function 0, or a bus where sessions are allowed (R412,
R413). -/
def State.mayOpen (s : State) (ch : Channel) : Bool :=
  match ch with
  | .mbx _ f _ => decide (f = 0)
  | .can _ _ => decide (s.objv 0x6400 6 = 1)

/-- The fields a session record and an authorization record share are the device's: serial number and
current nonce (R413, R414). -/
def State.freshRecord (s : State) (l : List Byte) : Bool :=
  decide (fieldOf l 4 4 = s.server.serial) && decide ((l.drop 8).take 32 = s.nonceBytes)

/-- The organizational unit that names the vendor-service purpose (R413). -/
def vendorService : List Byte :=
  asciiBytes [0x4E, 0x58, 0x47, 0x38, 0x32, 0x30, 0x20, 0x76, 0x65, 0x6E, 0x64, 0x6F, 0x72, 0x20, 0x73, 0x65, 0x72,
    0x76, 0x69, 0x63, 0x65]

/-- A certificate is signed with a key (R413). -/
def signedBy (x : Certificate) (key : List Byte) : Bool :=
  Config.ecdsaVerify key (Config.sha384 x.body) x.signature

/-- Every certificate of a chain is signed by the one after it, the last by the root (R413). -/
def chainSigned : List Certificate → Bool
  | [] => true
  | [x] => signedBy x Config.noxialRoot
  | x :: y :: l => signedBy x y.key && chainSigned (y :: l)

/-- The certificates above a leaf may sign, with their path lengths: the first has none below it but the leaf
(R413). -/
def issuersGood (l : List Certificate) : Bool :=
  ((List.range l.length).zip l).all fun x =>
    x.2.ca && x.2.certSign && x.2.pathLen.all fun n => decide (x.1 ≤ n)

/-- The leaf of a chain names the vendor-service purpose and signs data (R413). -/
def leafGood (x : Certificate) : Bool :=
  !x.ca && x.digitalSignature && decide (x.unitName = vendorService)

/-- The five checks of a CHAIN (R413, log entry 21). -/
def chainGood (l : List Certificate) : Bool :=
  decide (2 ≤ l.length ∧ l.length ≤ 4) && chainSigned l && issuersGood (l.drop 1) &&
    l.head?.any leafGood && l.all fun x => x.p384 && !x.otherCritical

/-- The key of a vendor-service session: that of the leaf of a CHAIN that passes its checks (R413). -/
def chainKey (l : List Byte) : Option (List Byte) :=
  ((Config.derCertificates l).filter chainGood).bind fun x => x.head?.map (·.key)

/-- A session record verifies (R413, log entry 21). -/
def State.sessionGood (s : State) (ch : Channel) (l : List Byte) : Bool :=
  let digest := Config.sha384 (l.take 48)
  let sig := (l.drop 48).take 96
  s.mayOpen ch && decide (fieldOf l 2 2 = ch.client) && s.freshRecord l &&
    (if fieldOf l 0 1 = 2 then
      let key := s.domv 0x6401 (fieldOf l 1 1 + 1)
      decide (key ≠ []) && Config.ecdsaVerify key digest sig
    else (chainKey (l.drop 144)).any fun key => Config.ecdsaVerify key digest sig)

/-- The session of a channel opened in a role. -/
def State.openSession (s : State) (ch : Channel) (role : Nat) : State :=
  let rest := s.server.sessions.filter fun x => decide (x.chan ≠ ch.home)
  { s with server := { s.server with sessions := rest ++ [⟨ch.home, role, s.now⟩] } }

/-- A session open whose form holds (R413). -/
def State.tryOpen (s : State) (ch : Channel) (l : List Byte) : State × Reply :=
  if s.blockedOpens ch then (s, Reply.busy)
  else if s.sessionGood ch l then ((s.openSession ch (fieldOf l 0 1)).setRefusals ch 0 0, Reply.done)
  else (s, Reply.denied)

/-- The session of a channel closed (R412). -/
def State.closeSession (s : State) (ch : Channel) : State := s.closeSessions fun x => decide (x = ch.home)

/-- A request on a channel: a session whose idle time has passed is closed, another starts its idle time
afresh (R412). -/
def State.touch (s : State) (ch : Channel) : State :=
  match s.session ch with
  | none => s.closeSession ch
  | some _ =>
    { s with server := { s.server with sessions := s.server.sessions.map fun (x : Session) =>
        if x.chan = ch.home then { x with last := s.now } else x } }

/-! ### Authorization records -/

/-- The authorization records of a channel are consumed (R414). -/
def State.consumeAuth (s : State) (ch : Channel) : State :=
  { s with server := { s.server with auths := s.server.auths.filter fun a => decide (a.chan ≠ ch.home) } }

/-- An authorization record verified and held for the next write on its channel (R414). -/
def State.takeAuth (s : State) (ch : Channel) (l : List Byte) : State × Reply :=
  let key := s.domv 0x6401 (fieldOf l 3 1 + 1)
  if s.freshRecord l && decide (key ≠ []) &&
      Config.ecdsaVerify key (Config.sha384 (l.take 96)) ((l.drop 96).take 96) then
    let a : Auth := ⟨ch.home, fieldOf l 0 2, fieldOf l 2 1, fieldOf l 3 1, fieldOf l 40 48, s.now⟩
    ({ s with server := { s.server with auths := s.server.auths ++ [a] } }, Reply.done)
  else (s, Reply.denied)

/-- A write after which the nonce is drawn afresh, whether it succeeds or not (R413). -/
def State.renewsNonce (s : State) (index sub : Nat) : Bool :=
  decide (index = 0x6400 ∧ sub = 2) || decide (index = 0x6402 ∧ sub = 1) || s.guarded index sub

/-! ### Firmware -/

/-- The firmware store of a type replaced. -/
def State.setFw (s : State) (t : Nat) (x : FwStore) : State :=
  { s with server := { s.server with fw := Tab.put FwStore.empty s.server.fw t x } }

/-- A store with the bytes of one slot replaced. -/
def FwStore.setSlot (x : FwStore) (k : Nat) (m : Mem) : FwStore :=
  if k = 0 then { x with slot0 := m } else { x with slot1 := m }

/-- A chunk staged at its offset in the slot that does not hold the newest verified image (R421). -/
def State.stageChunk (s : State) (t : Nat) (l : List Byte) : State :=
  let x := s.fwStore t
  s.setFw t { x.setSlot x.stage ((x.slot x.stage).write (fieldOf l 0 4) (l.drop 4)) with staging := 1 }

/-- A staged image passes every check of R421. -/
def State.imageGood (s : State) (t : Nat) : Bool :=
  let x := s.fwStore t
  let m := x.slot x.stage
  let n := m.num 16 4
  decide (x.staging = 1) && decide (m.num 0 4 = 0x4E584657) && decide (m.num 4 1 = t) &&
    decide (m.num 5 3 = 0) && decide (m.num 20 44 = 0) && decide (m.num 112 48 = 0) && decide (n ≤ 261888) &&
    decide (m.num 64 48 = Config.sha384 (m.read 256 n)) && Config.imageVerify (m.read 0 256) &&
    decide (s.objv 0x6403 t ≤ m.num 12 4)

/-- The staged image verified: it becomes the newest of its type, or the staging fails, as it does where no image
is being received; either is recorded (R421, R423, log entry 109). -/
def State.verifyImage (s : State) (t : Nat) : State × Reply :=
  let x := s.fwStore t
  let s' := s.recordEvent (s.info 0x8004 0 t)
  if s.imageGood t then (s'.setFw t { x with newest := some x.stage, staging := 2 }, Reply.done)
  else (s'.setFw t { x with staging := 3 }, Reply.bad)

/-- The staged image discarded (R421). -/
def State.discardImage (s : State) (t : Nat) : State := s.setFw t { s.fwStore t with staging := 0 }

/-- A reload begun: the die's units pause; that of the active management die first calls for a takeover
(R422, R432). -/
def State.beginReload (s : State) (loc : Nat) : State :=
  let t := { s with server := { s.server with reload := some loc } }
  if loc = s.mgmtLoc then t.callTakeover 3 else t

/-! ### The recorder -/

/-- The recorder cleared through a SEQ: the ring loses its records from the oldest to it, and the clearing is
recorded in a clearing slot and in the ring (R442). -/
def State.clearRecorder (s : State) (x slot : Nat) : State :=
  let r := s.recorder
  let gone := r.ring.filter fun e => reached32 x e.seq
  let first := (gone.map (·.seq)).headD 0
  let last := (gone.map (·.seq)).getLast?.getD 0
  let t := { s with recorder := { r with ring := r.ring.filter fun e => !reached32 x e.seq } }
  let t := t.appendEvent (t.info 0x0001 0 (first * 2 ^ 96 + last * 2 ^ 64 + slot * 2 ^ 56))
  let q := t.recorder
  match q.ring.getLast? with
  | none => t
  | some e =>
    let e := { e with heartwood := true }
    { t with recorder := { q with
        ring := setAt q.ring (q.ring.length - 1) e
        clearings := q.clearings ++ [e] } }

/-! ### Contexts -/

/-- A context undefined: its samples, sequence slots, batches and versions are freed (R348). -/
def State.undefine (s : State) (c : Nat) : State :=
  { s with
    samples := s.samples.filter fun x => decide (x.ctx ≠ c)
    seqs := s.seqs.filter fun x => decide (x.2.ctx ≠ c)
    batches := s.batches.filter fun x => decide (x.ctx ≠ c)
    versions := s.versions.filter fun x => decide (x.ctx ≠ c) }

/-- The object selector of a channel (R348). -/
def State.setSelector (s : State) (ch : Channel) (o : Nat) : State :=
  let rest := s.server.selectors.filter fun x => decide (x.1 ≠ ch.home)
  { s with server := { s.server with selectors := rest ++ [(ch.home, o)] } }

/-- A write of a context's object (R316, R348). -/
def State.writeContext (s : State) (c sub v : Nat) : State × Reply :=
  let t := s.setObj (0x6000 + c) sub v
  match sub with
  | 3 => (if v = 0 then t.undefine c else t, Reply.done)
  | 6 =>
    let r := t.reloadQueues c 0xFFFF
    (r.1, replyOf r.2)
  | 7 =>
    let r := s.reloadQueues c v
    (r.1, replyOf r.2)
  | _ => (t, Reply.done)

/-- A write of a context's trust object: its binding, Rotate or Force unbind (R354, R369, R371). -/
def State.writeTrust (s : State) (c sub v : Nat) : State :=
  match sub with
  | 6 => (s.loadKey c).rotated c none
  | 7 => s.tdiError c
  | _ => s.setObj (0x6200 + c) sub v

/-! ### Power -/

/-- A request for a change of mode: at the next stride boundary in LOCKED or HOLDOVER, at once otherwise
(R394). -/
def State.requestWide (s : State) (v : Nat) : State :=
  let want := decide (v = 1)
  let t := { s with power := { s.power with wideReq := want, wideAt := some s.pace.stride } }
  if s.pace.mode.running then t
  else if want = s.power.wide then { t with power := { t.power with wideAt := none } }
  else if want then t.enterWide 1
  else t.leaveWide

/-- A write of the barrier object's settings: the measurement starts afresh (R391). -/
def State.writeBarrier (s : State) (sub v : Nat) : State :=
  let t := s.setObj 0x3120 sub v
  { t with power := { t.power with
      barrier := { Barrier.idle with stride := s.pace.stride, last := s.angle }
      ended := none } }

/-! ### Tests and scans -/

/-- A self-test asked for by the operator: it joins a waiting test of its unit, or waits its turn; a Carust lane is
first narrowed out of its port (R269, R433). -/
def State.operatorTest (s : State) : State :=
  let u := s.testTarget
  let t := s.setObj 0x9000 4 5
  let t := if u.kind = 0x08 then t.narrow u.i1 u.i2 true else t
  t.askTest ⟨u, none, 1, false, u.event, false⟩

/-- A margin scan started, its target and kind held: it waits for its window, or for an I/O supply scan runs (R256,
R257). -/
def State.startScan (s : State) : State :=
  let s := { s with pool := { s.pool with scan := (s.scanTarget, s.objv 0x4300 2) } }
  ((s.setObj 0x4300 4 0).setObj 0x4300 5 0).setObj 0x4300 6 (if s.objv 0x4300 2 = 2 then 2 else 1)

/-! ### What a write does -/

/-- A number or a byte string stored. -/
def State.store (s : State) (index sub : Nat) (l : List Byte) : State :=
  if ((objectRow index sub).bind (·.ty.size)).isSome then s.setObj index sub (valOf l)
  else { s with dom := Tab.put [] s.dom (objKey index sub) l }

/-- The effect of an accepted write of an object with an effect of its own, storing any other (the objects of
every chapter). -/
def State.effect (s : State) (ch : Channel) (index sub : Nat) (l : List Byte) (auth : Option Auth) :
    State × Reply :=
  let v := valOf l
  if 0x6000 ≤ index ∧ index < 0x6040 then s.writeContext (index - 0x6000) sub v
  else if 0x5110 ≤ index ∧ index < 0x5118 then
    (({ s with windowMark := setAt s.windowMark (index - 0x5110) none }).store index sub l, Reply.done)
  else if 0x6200 ≤ index ∧ index < 0x6240 then (s.writeTrust (index - 0x6200) sub v, Reply.done)
  else match index with
    | 0x1011 => ({ s with server := { s.server with restore := true } }, Reply.done)
    | 0x1F50 => (s.stageChunk sub l, Reply.done)
    | 0x1F51 => if v = 1 then s.verifyImage sub else (s.discardImage sub, Reply.done)
    | 0x1F52 => (s.beginReload (sub - 1), Reply.done)
    | 0x2002 => (({ s with server := { s.server with transition := some v } }).stopAll, Reply.done)
    | 0x2200 => ({ s with obj := Tab.clearRange s.obj (objKey 0x7200 0) (256 * 256) }, Reply.done)
    | 0x3000 => (s.requestWide v, Reply.done)
    | 0x3100 => ({ s with power := { s.power with profPending := some (parseProfile l) } }, Reply.done)
    | 0x3101 =>
      if sub = 1 then
        ({ s with power := { s.power with capWritten := some (toSigned 32 v, s.pace.stride) } }, Reply.done)
      else (s.store index sub l, Reply.done)
    | 0x3120 => (s.writeBarrier sub v, Reply.done)
    | 0x4300 => if sub = 3 then (s.startScan, Reply.done) else (s.store index sub l, Reply.done)
    | 0x5100 => ((s.store index sub l).sourcesChanged, Reply.done)
    | 0x5103 =>
      if s.pace.mode.running then (s, Reply.done)
      else ({ s with pace := { s.pace with pendCount := some v } }, Reply.done)
    | 0x5120 => ({ s with cal := { s.cal with pend := some v } }, Reply.done)
    | 0x5202 => ((s.store index sub l).portSwitched (sub - 1), Reply.done)
    | 0x5207 => ((s.store index sub l).portsFlushed, Reply.done)
    | 0x5210 =>
      let masks := (List.range 4096).map fun m => fieldOf l (4 * m) 3
      let routes := (List.range 4096).foldl (fun (t : Tab Nat) m => Tab.put 0 t m (masks.getD m 0)) []
      (({ s with
        routes := routes
        membership := { s.membership with unreachable := [] } }).retryWaiting, Reply.done)
    | 0x5220 =>
      ({ s with membership := { s.membership with pending := parseMembership l, outcome := 0 } }, Reply.done)
    | 0x6110 => (s.setSelector ch v, Reply.done)
    | 0x6400 =>
      if sub = 2 then s.tryOpen ch l
      else if sub = 3 then (s.closeSession ch, Reply.done)
      else (s.store index sub l, Reply.done)
    | 0x6402 => s.takeAuth ch l
    | 0x8010 => (s.clearRecorder v ((auth.map (·.slot)).getD 0), Reply.done)
    | 0x9000 => if sub = 3 then (s.operatorTest, Reply.done) else (s.store index sub l, Reply.done)
    | 0x9020 => (s.callTakeover 4, Reply.done)
    | _ => (s.store index sub l, Reply.done)

/-- A write of a persistent object is committed to MRAM: a write check that has failed is retried, and with
every retry failed the old value is kept (R410, R426, log entry 44). -/
def State.commit (s : State) (persistent : Bool) (f : State → State × Reply) : State × Reply :=
  match persistent, s.server.mramFault with
  | true, some again =>
    let t := { s with server := { s.server with mramFault := none } }
    if again then
      let r := f t
      (r.1.recordEvent (r.1.info 0x8001 1 0), if r.2.st = .ok then { r.2 with st := .retriedOk } else r.2)
    else (t.recordEvent (t.info 0x8001 3 0), replyOf .dataSuspect)
  | _, _ => f s

/-- What a refused write leaves behind: the refusal of a session open and of a guarded write recorded, the
operator's test refused (R413, R433, R440, R443). -/
def State.afterRefusal (s : State) (ch : Channel) (index sub : Nat) (r : Reply) : State :=
  let t := if index = 0x6400 ∧ sub = 2 then s.openRefused ch else s
  let t := if s.guarded index sub then t.accessEvent 0x9002 0 else t
  if index = 0x9000 ∧ sub = 3 ∧ r.st = .unitRetired then t.setObj 0x9000 4 5 else t

/-- A write request served: checked, done, its authorization consumed, the nonce renewed where R413 has it. One
refused for its form alone, by the abort code `bad`, is a write on its channel like any other (R405, R408, R410, R413,
R414). -/
def State.serveWrite (s : State) (ch : Channel) (index sub : Nat) (l : List Byte) (bad : Option Nat) :
    State × Reply :=
  let auth := s.authorized ch index sub l
  let t := s.consumeAuth ch
  let persistent := (objectRow index sub).any fun r => decide (r.pers = .persistent)
  let r : State × Reply :=
    match (bad.map fun code => (Status.invalid, code)).orElse fun _ => s.writeRefusal ch (s.role ch) index sub l with
    | some (st, code) => (t, (⟨st, code, []⟩ : Reply))
    | none => t.commit persistent fun x => x.effect ch index sub l auth
  let good := decide (r.2.st = .ok ∨ r.2.st = .retriedOk)
  let u := if good then r.1 else r.1.afterRefusal ch index sub r.2
  (if s.renewsNonce index sub then u.freshNonce else u, r.2)

/-- A read request served (R408, R411, R441). -/
def State.serveRead (s : State) (ch : Channel) (index sub : Nat) : State × Reply :=
  match s.readRefusal ch (s.role ch) index sub with
  | some (st, code) => (s, ⟨st, code, []⟩)
  | none =>
    if index = 0x8002 ∧ sub = 0 then
      let r := s.readRecords
      (r.1, ⟨.ok, 0, r.2⟩)
    else
      match objectRow index sub with
      | none => (s, ⟨.ok, 0, toBytes 1 (highestSub index)⟩)
      | some r =>
        match r.ty.size with
        | some n => (s, ⟨.ok, 0, toBytes n (s.readAs ch ((s.role ch).getD 0) n index sub)⟩)
        | none => (s, ⟨.ok, 0, s.readDom index sub⟩)

/-- A request served under the role of its channel, a refusal for want of a right counted; `bad` is the abort code of
one whose form is refused (R411, R412, R417, R419). -/
def State.serve (s : State) (ch : Channel) (write : Bool) (index sub : Nat) (l : List Byte) (bad : Option Nat) :
    State × Reply :=
  let t := s.touch ch
  let r :=
    if write then t.serveWrite ch index sub l bad
    else
      match bad with
      | some code => (t, (⟨.invalid, code, []⟩ : Reply))
      | none => t.serveRead ch index sub
  (if r.2.st = .accessDenied then r.1.bump 0x7700 4 1 else r.1, r.2)

/-! ### The paths -/

/-- The dictionary is served: the device is out of reset, and an active management die runs (R417, R432,
R449). -/
def State.serverUp (s : State) : Bool :=
  s.pins.powered && s.pins.resetN && !s.mgmt.stopped && !s.mgmt.takeover

/-- A bus. -/
def State.bus (s : State) (b : Nat) : Bus := Tab.get Bus.fresh s.buses b

/-- A bus replaced. -/
def State.setBus (s : State) (b : Nat) (x : Bus) : State :=
  { s with buses := Tab.put Bus.fresh s.buses b x }

/-- A bus carries requests: Pre-operational or Operational, not recovering from bus-off (R399, R401). -/
def State.busServes (s : State) (b : Nat) : Bool :=
  decide ((s.bus b).nmt = .preOperational ∨ (s.bus b).nmt = .operational) && decide ((s.bus b).offUntil ≤ s.now)

/-- The device is on a bus: out of reset, not recovering from bus-off (R399). -/
def State.onBus (s : State) (b : Nat) : Bool :=
  s.pins.resetN && !s.mgmt.stopped && decide (b < 2 ∧ (s.bus b).offUntil ≤ s.now)

/-- A USDO answer to a client, under CAN-ID 0x580 + n, expedited or in segments as its length asks (R400, log entry
126). -/
def State.sendUsdo (s : State) (b client code : Nat) (value : List Byte) : State :=
  { s with out := s.out ++
      [Output.usdo b (0x580 + (s.bus b).node) client code value (Config.usdoFrames value.length)] }

/-- A request of a bus served and answered (R400, R416, R417). -/
def State.answerCan (s : State) (a : CanAsk) : State :=
  let r := s.serve (.can a.bus a.client) a.write a.index a.sub a.value none
  (r.1.bump 0x7700 (1 + a.bus) 1).sendUsdo a.bus a.client r.2.code r.2.value

/-- The abort codes of CiA 1301 for what fails of the protocol: a timeout, an unknown command specifier (R416). -/
def protocolAbort (failure : Nat) : Nat := if failure = 1 then 0x05040000 else 0x05040001

/-- A frame with a USDO request under CAN-ID 0x600 + n: one that is not of FD base format is discarded and counted, a
failure of the protocol is answered with its abort, and a request met by a takeover is held (R399, R400, R416,
R417). -/
def State.usdo (s : State) (seen : CanSeen) (client : Nat) (write : Bool) (index sub : Nat) (l : List Byte) :
    State :=
  let a : CanAsk := ⟨seen.bus, client, write, index, sub, l⟩
  if !s.onBus seen.bus then s
  else if seen.format ≠ 0 then s.bump 0x7700 8 1
  else if !s.busServes seen.bus then s
  else if s.serverUp then
    (if seen.failure = 0 then (s.answerCan a).settle
    else s.sendUsdo seen.bus client (protocolAbort seen.failure) [])
  else if s.mgmt.takeover && decide (seen.failure = 0) then
    { s with server := { s.server with heldCan := s.server.heldCan ++ [a] } }
  else s

/-- A mailbox request's header with its fields in place (R403). -/
def mailboxHeader (seq index sub ctx len irq : Nat) (write : Bool) : Nat :=
  seq % 2 ^ 32 + index % 2 ^ 16 * 2 ^ 96 + sub % 2 ^ 8 * 2 ^ 112 + b2n write * 2 ^ 128 + ctx % 64 * 2 ^ 132 +
    len % 2 ^ 32 * 2 ^ 160 + irq % 2 ^ 16 * 2 ^ 192

/-- A mailbox request is malformed: a reserved field or code, a length its data does not have, a CONTEXT on
function 0; the abort code it is refused with (R8, R403, R405, R416). -/
def headerRefusal (f hdr n : Nat) : Option Nat :=
  let op := bits hdr 129 128
  let len := bits hdr 191 160
  if bits hdr 255 208 ≠ 0 ∨ bits hdr 159 138 ≠ 0 ∨ bits hdr 131 130 ≠ 0 ∨ bits hdr 127 120 ≠ 0 ∨
      bits hdr 95 32 ≠ 0 ∨ 2 ≤ op ∨ (f = 0 ∧ bits hdr 137 132 ≠ 0) then some 0x06090030
  else if 32736 < len ∨ (op = 0 ∧ len ≠ 0) ∨ (op = 1 ∧ len ≠ n) then some 0x06070010
  else none

/-- A mailbox response: its header and its data (R403). -/
def responseBytes (seq : Nat) (r : Reply) : List Byte :=
  toBytes 32 (seq % 2 ^ 32 + r.value.length * 2 ^ 64 + r.st.code * 2 ^ 96 + r.code * 2 ^ 128) ++ r.value

/-- The request a mailbox holds is answered, and its vector raised (R403, R404). -/
def State.answerMailbox (s : State) (l f : Nat) : State :=
  match (s.func l f).asked with
  | none => s
  | some (hdr, value) =>
    let r := s.serve (.mbx l f (bits hdr 137 132)) (decide (bits hdr 129 128 = 1)) (bits hdr 111 96) (bits hdr 119 112)
      value (headerRefusal f hdr value.length)
    let t := r.1.bump 0x7700 3 1
    let t := t.setFunc l f { t.func l f with
      asked := none
      resp := responseBytes (bits hdr 31 0) r.2 }
    let irq := bits hdr 207 192
    if irq < 2048 then t.interrupt l f irq else t

/-- A mailbox takes requests: its link exists and carries them (R366, R403, R405). -/
def State.mailboxOpen (s : State) (l f : Nat) : Bool :=
  funcOk l f && s.linkExists l && s.linkServes l && s.pins.resetN && !s.mgmt.stopped

/-- The fields of a mailbox request header; what is reserved reads 0 (R403). -/
def mailboxFields (hdr : Nat) : Nat :=
  bits hdr 31 0 + bits hdr 119 96 * 2 ^ 96 + bits hdr 129 128 * 2 ^ 128 + bits hdr 137 132 * 2 ^ 132 +
    bits hdr 207 160 * 2 ^ 160

/-- The mailboxes of a link are answered now: not during a takeover, nor while its host die is reloaded
(R417, R422). -/
def State.answersNow (s : State) (l : Nat) : Bool := s.serverUp && !s.reloadingDie (16 + l / 2)

/-- A mailbox request, on an accepted access: the mailbox holds what is written; a changed SEQ submits it; one
submitted while another is unanswered is discarded and counted; one met by a takeover or a reload is held (R368, R404,
R405, R417, R422). -/
def State.mailbox (s : State) (l f hdr : Nat) (trusted : Bool) (value : List Byte) : State :=
  let seq := bits hdr 31 0
  if !s.mailboxOpen l f || !s.tdiTakes l f trusted then s
  else
    let x := { s.func l f with
      header := mailboxFields hdr
      data := value }
    if seq = x.lastSeq then s.setFunc l f x
    else if x.asked.isSome then (s.setFunc l f { x with lastSeq := seq }).bump 0x7700 9 1
    else
      let t := s.setFunc l f { x with
        lastSeq := seq
        asked := some (hdr, value) }
      if s.answersNow l then (t.answerMailbox l f).settle else t

/-- The server's turn passes to the channel after one: buses 0 and 1, then the mailboxes (R417). -/
def State.passTurn (s : State) (k : Nat) : State :=
  { s with server := { s.server with turn := (k + 1) % 38 } }

/-- One request of a channel that is held and can be answered now is (R417, R422). -/
def State.serveTurn (s : State) (k : Nat) : State :=
  if k < 2 then
    match s.server.heldCan.find? fun a => decide (a.bus = k) with
    | none => s
    | some a =>
      if s.serverUp then
        let t := { s with server := { s.server with heldCan := s.server.heldCan.erase a } }
        (if t.onBus k && t.busServes k then t.answerCan a else t).passTurn k
      else s
  else
    let l := (k - 2) / 9
    let f := (k - 2) % 9
    if (s.func l f).asked.isSome && s.mailboxOpen l f && s.answersNow l then (s.answerMailbox l f).passTurn k else s

/-- A round of the server's turns, from the channel whose turn it is (R417). -/
def State.serveRound (s : State) : State :=
  ((List.range 38).map fun i => (s.server.turn + i) % 38).foldl State.serveTurn s

/-- The requests held are answered in turns, one of each channel in a round (R417, R422). -/
def State.answerHeld (s : State) : State :=
  ((List.range (s.server.heldCan.length + 1)).foldl (fun (t : State) _ => t.serveRound) s).settle

/-- A write that arrives on a channel by the channel's path (R403, R417, log entry 47). -/
def State.writeOn (s : State) (ch : Channel) (index sub : Nat) (l : List Byte) : State :=
  match ch with
  | .can b c => s.usdo ⟨b, 0, 0⟩ c true index sub l
  | .mbx k f c =>
    s.mailbox k f (mailboxHeader ((s.func k f).lastSeq + 1) index sub c l.length 0xFFFF true) true l

/-- A read that arrives on a channel by the channel's path (R403, R417, log entry 47). -/
def State.readOn (s : State) (ch : Channel) (index sub : Nat) : State :=
  match ch with
  | .can b c => s.usdo ⟨b, 0, 0⟩ c false index sub []
  | .mbx k f c =>
    s.mailbox k f (mailboxHeader ((s.func k f).lastSeq + 1) index sub c 0 0xFFFF false) true []

/-! ### Rows: requests -/

/-- USDO_REQUEST (R399, R400, R416, R417). -/
def execUsdoRequest (seen : CanSeen) (client : Nat) (write : Bool) (index sub : Nat) (value : List Byte) (s : State) :
    Host.Outcome State Fault Refusal := .next (s.usdo seen client write index sub value)

/-- MAILBOX_REQUEST (R368, R404). -/
def execMailboxRequest (link fn : Nat) (seen : MailSeen) (value : List Byte) (s : State) :
    Host.Outcome State Fault Refusal := .next (s.mailbox link fn seen.header.toNat seen.trusted value)

/-- DICTIONARY_WRITE: any object (R408). -/
def execDictionaryWrite (ch : Channel) (index sub : Nat) (value : List Byte) (s : State) :
    Host.Outcome State Fault Refusal := .next (s.writeOn ch index sub value)

/-- QUEUE_RELOAD: the reload mask of a context (R316). -/
def execQueueReload (ch : Channel) (ctx : Nat) (value : List Byte) (s : State) :
    Host.Outcome State Fault Refusal := .next (s.writeOn ch (0x6000 + ctx) 7 value)

/-- QUEUE_TABLE_WRITE: the queue table address of a context (R316). -/
def execQueueTableWrite (ch : Channel) (ctx : Nat) (value : List Byte) (s : State) :
    Host.Outcome State Fault Refusal := .next (s.writeOn ch (0x6000 + ctx) 6 value)

/-- STRIDE_COUNT_WRITE: object 0x5103 (R49). -/
def execStrideCountWrite (ch : Channel) (value : List Byte) (s : State) :
    Host.Outcome State Fault Refusal := .next (s.writeOn ch 0x5103 0 value)

/-- CALENDAR_SECOND_WRITE: object 0x5120 subindex 1 (R44). -/
def execCalendarSecondWrite (ch : Channel) (value : List Byte) (s : State) :
    Host.Outcome State Fault Refusal := .next (s.writeOn ch 0x5120 1 value)

/-- MEMBERSHIP_RECORD_WRITE: object 0x5220 subindex 1 (R277). -/
def execMembershipRecordWrite (ch : Channel) (value : List Byte) (s : State) :
    Host.Outcome State Fault Refusal := .next (s.writeOn ch 0x5220 1 value)

/-- FORCE_UNBIND: object 0x6200 + c subindex 7 (R369). -/
def execForceUnbind (ch : Channel) (ctx : Nat) (value : List Byte) (s : State) :
    Host.Outcome State Fault Refusal := .next (s.writeOn ch (0x6200 + ctx) 7 value)

/-- ROTATE: object 0x6200 + c subindex 6 (R371). -/
def execRotate (ch : Channel) (ctx : Nat) (value : List Byte) (s : State) :
    Host.Outcome State Fault Refusal := .next (s.writeOn ch (0x6200 + ctx) 6 value)

/-- PHASE_PROFILE_WRITE: object 0x3100 subindex 1 (R387). -/
def execPhaseProfileWrite (ch : Channel) (value : List Byte) (s : State) :
    Host.Outcome State Fault Refusal := .next (s.writeOn ch 0x3100 1 value)

/-- CAP_OFFSET_WRITE: object 0x3101 subindex 1 (R392). -/
def execCapOffsetWrite (ch : Channel) (value : List Byte) (s : State) :
    Host.Outcome State Fault Refusal := .next (s.writeOn ch 0x3101 1 value)

/-- WIDE_MARGIN_REQUEST: object 0x3000 subindex 1 (R394). -/
def execWideMarginRequest (ch : Channel) (value : List Byte) (s : State) :
    Host.Outcome State Fault Refusal := .next (s.writeOn ch 0x3000 1 value)

/-- SESSION_OPEN: object 0x6400 subindex 2 (R413). -/
def execSessionOpen (ch : Channel) (value : List Byte) (s : State) : Host.Outcome State Fault Refusal :=
  .next (s.writeOn ch 0x6400 2 value)

/-- SESSION_CLOSE: object 0x6400 subindex 3 (R412). -/
def execSessionClose (ch : Channel) (value : List Byte) (s : State) : Host.Outcome State Fault Refusal :=
  .next (s.writeOn ch 0x6400 3 value)

/-- SESSION_IDLE_TIMEOUT: no request on the channel for the idle time (R412). -/
def execSessionIdleTimeout (ch : Channel) (s : State) : Host.Outcome State Fault Refusal :=
  match s.session ch with
  | some _ => .next s
  | none => .next (s.closeSession ch)

/-- AUTHORIZATION_RECORD: object 0x6402 subindex 1 (R414). -/
def execAuthorizationRecord (ch : Channel) (value : List Byte) (s : State) :
    Host.Outcome State Fault Refusal := .next (s.writeOn ch 0x6402 1 value)

/-- PROGRAM_DATA: object 0x1F50 subindex t (R421). -/
def execProgramData (ch : Channel) (t : Nat) (value : List Byte) (s : State) :
    Host.Outcome State Fault Refusal := .next (s.writeOn ch 0x1F50 t value)

/-- PROGRAM_CONTROL_VERIFY: 1 to object 0x1F51 subindex t (R421). -/
def execProgramControlVerify (ch : Channel) (t : Nat) (s : State) : Host.Outcome State Fault Refusal :=
  .next (s.writeOn ch 0x1F51 t (toBytes 1 1))

/-- PROGRAM_CONTROL_DISCARD: 2 to object 0x1F51 subindex t (R421). -/
def execProgramControlDiscard (ch : Channel) (t : Nat) (s : State) : Host.Outcome State Fault Refusal :=
  .next (s.writeOn ch 0x1F51 t (toBytes 1 2))

/-- RELOAD_DIE: object 0x1F52 subindex d (R422). -/
def execReloadDie (ch : Channel) (d : Nat) (value : List Byte) (s : State) :
    Host.Outcome State Fault Refusal := .next (s.writeOn ch 0x1F52 d value)

/-- RESTORE_DEFAULTS: object 0x1011 subindex 1 (R461). -/
def execRestoreDefaults (ch : Channel) (value : List Byte) (s : State) :
    Host.Outcome State Fault Refusal := .next (s.writeOn ch 0x1011 1 value)

/-- OPERATOR_KEY_WRITE: object 0x6401 subindex slot + 1 (R487). -/
def execOperatorKeyWrite (ch : Channel) (slot : Nat) (value : List Byte) (s : State) :
    Host.Outcome State Fault Refusal := .next (s.writeOn ch 0x6401 (slot + 1) value)

/-- LIFE_CYCLE_TRANSITION_REQUEST: object 0x2002 subindex 2; with nothing left to stop it commits at once
(R458, R459). -/
def execLifeCycleTransitionRequest (ch : Channel) (value : List Byte) (s : State) :
    Host.Outcome State Fault Refusal := .next (s.writeOn ch 0x2002 2 value)

/-- FORMAT_HEALTH_RESET: object 0x2200 subindex 1 (R117). -/
def execFormatHealthReset (ch : Channel) (value : List Byte) (s : State) :
    Host.Outcome State Fault Refusal := .next (s.writeOn ch 0x2200 1 value)

/-- PARTITION_WRITE: object 0x4100 + p (R240). -/
def execPartitionWrite (ch : Channel) (p sub : Nat) (value : List Byte) (s : State) :
    Host.Outcome State Fault Refusal :=
  if p < 16 then .next (s.writeOn ch (0x4100 + p) sub value) else .next s

/-- MARGIN_SCAN_START: object 0x4300 subindex 3 (R256). -/
def execMarginScanStart (ch : Channel) (value : List Byte) (s : State) :
    Host.Outcome State Fault Refusal := .next (s.writeOn ch 0x4300 3 value)

/-- SELF_TEST_START: object 0x9000 subindex 3 (R433). -/
def execSelfTestStart (ch : Channel) (value : List Byte) (s : State) :
    Host.Outcome State Fault Refusal := .next (s.writeOn ch 0x9000 3 value)

/-- TAKEOVER_REQUEST: object 0x9020 subindex 1 (R432). -/
def execTakeoverRequest (ch : Channel) (value : List Byte) (s : State) :
    Host.Outcome State Fault Refusal := .next (s.writeOn ch 0x9020 1 value)

/-- RECORDER_CLEAR: object 0x8010 subindex 1 (R442). -/
def execRecorderClear (ch : Channel) (value : List Byte) (s : State) :
    Host.Outcome State Fault Refusal := .next (s.writeOn ch 0x8010 1 value)

/-- RECORDER_READ: a read of object 0x8002 (R441). -/
def execRecorderRead (ch : Channel) (s : State) : Host.Outcome State Fault Refusal :=
  .next (s.readOn ch 0x8002 0)

/-! ### Rows: reload and takeover -/

/-- The held signals of a Kyoty die that resumes are applied in their order; those of a die that pauses wait on
(R422, R426). -/
def State.applyHeld (s : State) : State :=
  s.server.heldSignals.foldl (fun (t : State) x => t.signalObj x.1 x.2.1 x.2.2)
    { s with server := { s.server with heldSignals := [] } }

/-- A die resumes after a reload or its die test: what was held for it goes on (R422, R426). -/
def State.resumeDie (s : State) (loc : Nat) : State :=
  let t := s.applyHeld
  let t := if 8 ≤ loc ∧ loc < 16 then (List.range 3).foldl (fun (u : State) i => u.flush (3 * (loc - 8) + i)) t else t
  t.answerHeld.serveHost

/-- RELOAD_COMPLETE: the die runs the newest image of its type and resumes; the measurement is updated, TDISP
interfaces go to ERROR, a security version that every die has passed is raised, and what was held goes on
(R367, R369, R422, R423). -/
def execReloadComplete (s : State) : Host.Outcome State Fault Refusal :=
  match s.server.reload with
  | none => .next s
  | some loc =>
    if s.mgmt.takeover || !s.pins.resetN then .next s
    else
      let k := dieType loc
      let t := (s.loadDie loc).measureType k
      let t := { t with server := { t.server with reload := none } }
      let t := t.recordEvent (unitEvent 0x8005 (dieUnit loc) 5)
      .next (((t.tdisError fun _ _ => true).raiseSecurity k).resumeDie loc)

/-- The tests that ran are run again from their start (R427). -/
def State.testsAnew (s : State) : State :=
  { s with recorder := { s.recorder with
      tests := s.recorder.tests.map fun (t : Test) => { t with running := false } } }.startTests

/-- The standby becomes the active management die: the takeover is recorded, and the former active die is tested where
it is not retired (R427, R432). -/
def State.takeOver (s : State) : State :=
  let old := UnitId.mgmt s.mgmt.active
  let t := { s with mgmt := ⟨1 - s.mgmt.active, false, s.now, false, 0, false⟩ }
  let t := (t.recordEvent (unitEvent 0x8003 old 5)).testsAnew
  if t.retired old then t else t.askTest ⟨old, none, 3, false, 0x8002, false⟩

/-- MANAGEMENT_TAKEOVER: the standby becomes active, after 100 µs without a heartbeat (cause 0) or on the cause that
has called for it: 1 a failure, 2 undervoltage, 3 a reload, 4 the operator; without a standby a failure stops the
device. The requests held are answered (R417, R427, R432). -/
def execManagementTakeover (cause : Nat) (s : State) : Host.Outcome State Fault Refusal :=
  let due := if cause = 0 then decide (s.mgmt.lastBeat + 100000 ≤ s.now)
    else s.mgmt.takeover && decide (s.mgmt.cause = cause)
  if !due || s.mgmt.stopped || !s.pins.resetN then .next s
  else if s.mgmt.standby then .next s.takeOver.answerHeld
  else if cause ≤ 2 then .next { s with mgmt := { s.mgmt with takeover := false, stopped := true } }
  else .next ({ s with mgmt := { s.mgmt with takeover := false } }).answerHeld

/-! ### Rows: CANopen -/

/-- An NMT command reaches a bus: the bus is live, and the command names its node or all (R400, R401). -/
def State.nmtHears (s : State) (b node : Nat) : Bool :=
  s.pins.resetN && !s.mgmt.stopped && decide (b < 2) && decide ((s.bus b).offUntil ≤ s.now) &&
    decide (node = 0 ∨ node = (s.bus b).node)

/-- A bus in Pre-operational, Operational or Stopped goes to another of these states (R401). -/
def State.nmtTo (s : State) (b node : Nat) (x : Nmt) : State :=
  if s.nmtHears b node && decide ((s.bus b).nmt ≠ .initialisation) then s.setBus b { s.bus b with nmt := x }
  else s

/-- A bus is reset: its sessions close, its node-ID is read again, it boots up (R401, R406, R412). -/
def State.resetBus (s : State) (b node : Nat) : State :=
  if s.nmtHears b node then
    (s.closeSessions fun ch =>
      match ch with
      | .can x _ => decide (x = b)
      | .mbx _ _ _ => false).bootBus b
  else s

/-- NMT_START (R401). -/
def execNmtStart (bus node : Nat) (s : State) : Host.Outcome State Fault Refusal :=
  .next (s.nmtTo bus node .operational)

/-- NMT_STOP (R401). -/
def execNmtStop (bus node : Nat) (s : State) : Host.Outcome State Fault Refusal :=
  .next (s.nmtTo bus node .stopped)

/-- NMT_ENTER_PRE_OPERATIONAL (R401). -/
def execNmtEnterPreOperational (bus node : Nat) (s : State) : Host.Outcome State Fault Refusal :=
  .next (s.nmtTo bus node .preOperational)

/-- NMT_RESET_NODE: as Reset Communication (R400, R401). -/
def execNmtResetNode (bus node : Nat) (s : State) : Host.Outcome State Fault Refusal :=
  .next (s.resetBus bus node)

/-- NMT_RESET_COMMUNICATION (R401). -/
def execNmtResetCommunication (bus node : Nat) (s : State) : Host.Outcome State Fault Refusal :=
  .next (s.resetBus bus node)

/-- The state a heartbeat carries, after CiA 301 (log entry 50). -/
def Nmt.code : Nmt → Nat
  | .initialisation => 0 | .preOperational => 127 | .operational => 5 | .stopped => 4

/-- HEARTBEAT: the period of object 0x1017 has passed and a heartbeat goes out under CAN-ID 0x700 + n (R400, R401,
R432). -/
def execHeartbeat (bus : Nat) (s : State) : Host.Outcome State Fault Refusal :=
  let x := s.bus bus
  let period := s.objv 0x1017 0
  let due := match x.lastBeat with
    | some t => decide (t + 1000000 * period ≤ s.now)
    | none => true
  if s.nmtHears bus 0 && decide (x.nmt ≠ .initialisation) && decide (period ≠ 0) && due then
    let t := s.setBus bus { x with lastBeat := some s.now }
    .next { t with out := t.out ++ [Output.heartbeat bus (0x700 + x.node) x.nmt.code] }
  else .next s

/-- The time a controller needs to rejoin after bus-off, in ns: 128 times 11 recessive bits (R399, log entry
50). -/
def busOffTime : Nat := 1408000

/-- BUS_OFF: the controller leaves the bus, rejoins under the recovery rule, and the event is counted (R399,
log entry 50). -/
def execBusOff (bus : Nat) (s : State) : Host.Outcome State Fault Refusal :=
  if s.pins.resetN && !s.mgmt.stopped && decide (bus < 2) && decide ((s.bus bus).offUntil ≤ s.now) then
    .next ((s.setBus bus { s.bus bus with offUntil := s.now + busOffTime }).bump 0x7700 (6 + bus) 1)
  else .next s

/-! ### Rows: verdicts -/

/-- The tests that a verdict ends, from a place in the list on: the one that ran and those that have joined it
(R427, R433). -/
def endedTests (l : List Test) (u : UnitId) : List Test :=
  (l.take 1) ++ (l.drop 1).takeWhile fun t => t.joined && decide (t.unit = u)

/-- SELF_TEST_VERDICT: the running test of a unit ends, with those that joined it; what waited for it goes on, the
next test of its kind on the die starts. A verdict that a takeover meets is discarded (R422, R424, R426, R427,
R433). -/
def execSelfTestVerdict (unit : UnitId) (pass : Bool) (s : State) : Host.Outcome State Fault Refusal :=
  let s := s.startTests
  if s.mgmt.takeover || s.mgmt.stopped || !s.pins.resetN then .next s
  else
    match s.recorder.tests.findIdx? fun t => decide (t.unit = unit) && t.running with
    | none => .next s
    | some i =>
      let l := s.recorder.tests
      let done := endedTests (l.drop i) unit
      let a := { s with recorder := { s.recorder with tests := l.take i ++ (l.drop i).drop done.length } }
      let a := (a.bump 0x7800 1 1).bump 0x7800 2 (b2n (!pass))
      let b := (done.foldl (fun (t : State) x => t.applyVerdict x pass) a).startTests.endVerifies
      .next (if unit.kind = 0x0F ∧ unit.loc < 18 then b.resumeDie unit.loc else b.serveHost)

end Sys2Proof.Machine
end

