-- ==== Sys2Proof/Machine/Trust.lean ====
section
/-! DEFINITION. Attestation and confidential admission: the SPDM and TDISP messages (chapter Host Coupling and
Trust, R365 to R369; message codes and connection states after the standards the chapter names, log entry
58). -/

namespace Sys2Proof.Machine

/-! ### Data object exchange -/

/-- A function answers over DOE: its link is up and the device is ready; link encryption being required does
not stop it (R353, R366, R367, R449). -/
def State.doeUp (s : State) (l f : Nat) : Bool :=
  (s.link l).up && funcOk l f && s.pins.ready && !s.mgmt.stopped

/-- An answer sent over DOE. -/
def State.sendDoe (s : State) (l f code : Nat) (value : List Byte) : State :=
  let t := s.setFunc l f { s.func l f with spdmResp := value }
  { t with out := t.out ++ [Output.doe l f code value] }

/-- The security configuration that measurement block 7 covers: partitions, window, context bindings and IDE
policy (R367). -/
def State.securityConfig (s : State) : List Byte :=
  let parts := ((List.range 16).map fun p => (List.range 7).map fun k => s.objv (0x4100 + p) (k + 1)).flatten
  let window := (List.range 5).map fun k => s.objv 0x2302 (k + 1)
  let bound := ((List.range 64).map fun c => [s.objv (0x6200 + c) 1, s.objv (0x6200 + c) 2]).flatten
  ((parts ++ window ++ bound ++ [s.objv 0x6300 1]).map (toBytes 8)).flatten

/-- The measurement blocks: the boot measure, firmware, security configuration, life cycle and debug state, deadwood
list (R367, log entry 125). -/
def State.measurements (s : State) : List Byte :=
  toBytes 48 Config.bootMeasure ++
    ((List.range 5).map fun t => toBytes 48 (Tab.get 0 s.trust.measured (t + 2))).flatten ++ s.securityConfig ++
    toBytes 1 s.server.life ++ toBytes 8 Config.debugState ++ (s.recorder.dead.map Dead.bytes).flatten

/-- The certificate chain of a slot: slot 0 follows from the identity and the alias key, which the firmware measured
at this reset gives, slots 1 and 2 are as written (R367). -/
def State.certChain (s : State) (slot : Nat) : List Byte :=
  match slot with
  | 1 => s.trust.cert1
  | 2 => s.trust.cert2
  | _ => toBytes 4 s.server.serial ++ (s.trust.alias_.map (toBytes 48)).flatten

/-! ### SPDM -/

/-- The SPDM error answer of a code: 0x04 UnexpectedRequest, 0x01 InvalidRequest. -/
def State.spdmError (s : State) (l f code : Nat) : State := s.sendDoe l f 0x7F (toBytes 1 code)

/-- An SPDM request served in connection states that fit, answered by its message code from the request and
what the answer depends on; the connection goes to a state. Elsewhere it is unexpected (R367, log entry
58). -/
def State.spdm (s : State) (l f : Nat) (fits : Nat → Bool) (next : Nat → Nat) (code : Nat)
    (body facts : List Byte) : State :=
  if !s.doeUp l f then s
  else
    let x := s.func l f
    if fits x.spdm then
      (s.setFunc l f { x with spdm := next x.spdm }).sendDoe l f code (Config.spdmAnswer code (body ++ facts))
    else s.spdmError l f 0x04

/-- The bytes of a fresh random draw, for an answer that carries one. -/
def State.drawBytes (s : State) : List Byte := toBytes 32 (Config.draw s.draws)

/-- The security engine has made one more draw. -/
def State.drawn (s : State) : State := { s with draws := s.draws + 1 }

/-- GET_VERSION: a connection begins (R367). -/
def execGetVersion (link fn : Nat) (body : List Byte) (s : State) : Host.Outcome State Fault Refusal :=
  .next (s.spdm link fn (fun _ => true) (fun _ => 1) 0x04 body [])

/-- GET_CAPABILITIES (R367). -/
def execGetCapabilities (link fn : Nat) (body : List Byte) (s : State) : Host.Outcome State Fault Refusal :=
  .next (s.spdm link fn (fun n => decide (n = 1)) (fun _ => 2) 0x61 body [])

/-- NEGOTIATE_ALGORITHMS: P-384, SHA-384 and AES-256-GCM (R367). -/
def execNegotiateAlgorithms (link fn : Nat) (body : List Byte) (s : State) :
    Host.Outcome State Fault Refusal :=
  .next (s.spdm link fn (fun n => decide (n = 2)) (fun _ => 3) 0x63 body [])

/-- GET_DIGESTS: the digests of the chains (R367). -/
def execGetDigests (link fn : Nat) (body : List Byte) (s : State) : Host.Outcome State Fault Refusal :=
  .next (s.spdm link fn (fun n => decide (3 ≤ n)) id 0x01 body
    (s.certChain 0 ++ s.certChain 1 ++ s.certChain 2))

/-- GET_CERTIFICATE: the chain of the slot in bits 3:0 of the request's first byte (R367). -/
def execGetCertificate (link fn : Nat) (body : List Byte) (s : State) : Host.Outcome State Fault Refusal :=
  .next (s.spdm link fn (fun n => decide (3 ≤ n)) id 0x02 body (s.certChain (fieldOf body 0 1 % 16)))

/-- CHALLENGE: answered with a signature over the measurements and a fresh nonce (R367). -/
def execChallenge (link fn : Nat) (body : List Byte) (s : State) : Host.Outcome State Fault Refusal :=
  .next ((if s.doeUp link fn then s.drawn else s).spdm link fn (fun n => decide (3 ≤ n)) id 0x03 body
    (s.drawBytes ++ s.certChain 0 ++ s.measurements))

/-- GET_MEASUREMENTS: the measurement blocks (R367). -/
def execGetMeasurements (link fn : Nat) (body : List Byte) (s : State) : Host.Outcome State Fault Refusal :=
  .next ((if s.doeUp link fn then s.drawn else s).spdm link fn (fun n => decide (3 ≤ n)) id 0x60 body (s.drawBytes ++ s.measurements))

/-- KEY_EXCHANGE: a secured session begins (R367). -/
def execKeyExchange (link fn : Nat) (body : List Byte) (s : State) : Host.Outcome State Fault Refusal :=
  .next ((if s.doeUp link fn then s.drawn else s).spdm link fn (fun n => decide (n = 3)) (fun _ => 4) 0x64 body
    (s.drawBytes ++ s.certChain 0 ++ s.measurements))

/-- FINISH: the handshake is complete (R367). -/
def execFinish (link fn : Nat) (body : List Byte) (s : State) : Host.Outcome State Fault Refusal :=
  .next (s.spdm link fn (fun n => decide (n = 4)) (fun _ => 5) 0x65 body [])

/-- KEY_UPDATE: the keys of the secured session change (R367). -/
def execKeyUpdate (link fn : Nat) (body : List Byte) (s : State) : Host.Outcome State Fault Refusal :=
  .next (s.spdm link fn (fun n => decide (n = 5)) id 0x69 body [])

/-- HEARTBEAT of SPDM: the secured session lives on (R367). -/
def execHeartbeatSpdm (link fn : Nat) (body : List Byte) (s : State) : Host.Outcome State Fault Refusal :=
  .next (s.spdm link fn (fun n => decide (n = 5)) id 0x68 body [])

/-- END_SESSION: the secured session closes (R367). -/
def execEndSession (link fn : Nat) (body : List Byte) (s : State) : Host.Outcome State Fault Refusal :=
  .next (s.spdm link fn (fun n => decide (n = 5)) (fun _ => 3) 0x6C body [])

/-- GET_CSR and SET_CERTIFICATE are served: inside a secured session on function 0, while the function-0
mailbox of the link holds a session of the operator role or above (R367). -/
def State.mayProvision (s : State) (l f : Nat) : Bool :=
  decide (f = 0) && s.secured l f && (s.session (.mbx l 0 0)).any fun x => decide (2 ≤ x.role)

/-- GET_CSR: a certificate signing request of the device, otherwise UnexpectedRequest (R367). -/
def execGetCsr (link fn : Nat) (body : List Byte) (s : State) : Host.Outcome State Fault Refusal :=
  .next (s.spdm link fn (fun _ => s.mayProvision link fn) id 0x6D body (s.certChain 0))

/-- A certificate chain written to slot 1 or 2. -/
def State.setCert (s : State) (slot : Nat) (l : List Byte) : State :=
  if slot = 1 then { s with trust := { s.trust with cert1 := l } }
  else { s with trust := { s.trust with cert2 := l } }

/-- SET_CERTIFICATE: slot 1 or 2, named in bits 3:0 of the request's first byte, takes the chain after its
second byte, in PROVISIONED only; otherwise UnexpectedRequest and nothing changes (R367). -/
def execSetCertificate (link fn : Nat) (body : List Byte) (s : State) : Host.Outcome State Fault Refusal :=
  let slot := fieldOf body 0 1 % 16
  if !s.doeUp link fn then .next s
  else if !s.mayProvision link fn || decide (s.server.life ≠ 1) then .next (s.spdmError link fn 0x04)
  else if slot ≠ 1 ∧ slot ≠ 2 then .next (s.spdmError link fn 0x01)
  else .next ((s.setCert slot (body.drop 2)).sendDoe link fn 0x6E (toBytes 1 slot))

/-! ### TDISP -/

/-- Every partition in a context's memory is encrypted for it (R368). -/
def State.allEncrypted (s : State) (c : Nat) : Bool :=
  (List.range 16).all fun p =>
    !(s.partOn p && (s.objv (0x4100 + p) 3).testBit c) || decide (s.objv (0x4100 + p) 4 = c)

/-- The streams of step 3 are secure: the selective stream of the function, and for the window's context the
CXL.cache/CXL.mem streams of its slices (R368). -/
def State.streamsSecure (s : State) (l f c : Nat) : Bool :=
  decide (f ∈ (s.link l).selSecure) && (s.windowLinks c).all fun k => (s.link k).cacheSecure

/-- The check of LOCK_INTERFACE (R368, step 4). -/
def State.lockOk (s : State) (l f c : Nat) : Bool :=
  decide (s.server.life = 2) && s.allEncrypted c &&
    (decide (s.objv (0x6000 + c) 9 = 0) || s.saveOk c (s.objv (0x6000 + c) 9)) && !s.resident c &&
    s.streamsSecure l f c

/-- A TDISP message reaches the interface of a context: the context is bound to this context function, and the
message comes in its secured session (R354, R368). -/
def State.tdiHears (s : State) (l f c : Nat) : Bool :=
  decide (f ≠ 0 ∧ c < 64 ∧ s.boundTo c = (l, f)) && s.secured l f

/-- The TDISP error INVALID_REQUEST: the interface's state does not change (R368). -/
def State.tdispInvalid (s : State) (l f : Nat) : State := s.sendDoe l f 0x7F (toBytes 4 1)

/-- LOCK_INTERFACE: the interface is locked and the context's keys are replaced (R368, steps 4 and 5). -/
def execLockInterface (link fn ctx : Nat) (body : List Byte) (s : State) : Host.Outcome State Fault Refusal :=
  let _ := body
  let x := s.tdi ctx
  if !s.doeUp link fn then .next s
  else if !s.tdiHears link fn ctx || !decide (x.state = .none ∨ x.state = .unlocked) ||
      !s.lockOk link fn ctx then .next (s.tdispInvalid link fn)
  else
    let t := s.freshKeys ctx
    let nonce := t.drawBytes
    let t := (t.setTdi ctx ⟨.locked, link, fn, t.draws, false, false, false⟩).drawn
    .next (t.sendDoe link fn 0x03 nonce)

/-- GET_DEVICE_INTERFACE_REPORT: the doorbell page, the MSI-X table and the digest of measurement block 7, of
an interface locked or running (R368, step 6). -/
def execGetDeviceInterfaceReport (link fn ctx : Nat) (body : List Byte) (s : State) :
    Host.Outcome State Fault Refusal :=
  let _ := body
  let x := s.tdi ctx
  if !s.doeUp link fn then .next s
  else if !s.tdiHears link fn ctx || !decide (x.state = .locked ∨ x.state = .run) then
    .next (s.tdispInvalid link fn)
  else
    let report := toBytes 8 (4096 * ctx) ++ toBytes 8 0x080000 ++ toBytes 48 (Config.sha384 s.securityConfig)
    .next ((s.setTdi ctx { x with report := true }).sendDoe link fn 0x04 report)

/-- START_INTERFACE: a locked interface runs, and its context is confidential (R368, step 8). -/
def execStartInterface (link fn ctx : Nat) (body : List Byte) (s : State) : Host.Outcome State Fault Refusal :=
  let _ := body
  let x := s.tdi ctx
  if !s.doeUp link fn then .next s
  else if !s.tdiHears link fn ctx || decide (x.state ≠ .locked) then .next (s.tdispInvalid link fn)
  else .next ((s.setTdi ctx { x with state := .run }).sendDoe link fn 0x06 [])

/-- An interface locked or running is given up: its context leaves its slot, and its keys are replaced then,
at once where it holds none (R369). -/
def State.stopTdi (s : State) (c : Nat) : State :=
  let x := s.tdi c
  if x.state = .locked ∨ x.state = .run then
    let t := s.setTdi c { x with state := .unlocked, wasRun := decide (x.state = .run), rekey := true }
    let t := { t with trust := { t.trust with tsp := t.trust.tsp.filter (· ≠ c) } }
    if t.resident c then t.leaveNow c else t.endConfidence c
  else s.setTdi c { x with state := .unlocked }

/-- STOP_INTERFACE: the interface returns to CONFIG_UNLOCKED (R369). -/
def execStopInterface (link fn ctx : Nat) (body : List Byte) (s : State) : Host.Outcome State Fault Refusal :=
  let _ := body
  if !s.doeUp link fn then .next s
  else if !s.tdiHears link fn ctx then .next (s.tdispInvalid link fn)
  else .next ((s.stopTdi ctx).sendDoe link fn 0x07 [])

end Sys2Proof.Machine
end

