-- ==== Sys2Proof/Machine/Dispatch.lean ====
section
/-! DEFINITION. One arm per command: a direct call of its meaning, or its refusal by name. -/

namespace Sys2Proof.Machine

def exec (i : Instr) (s : State) : Host.Outcome State Fault Refusal :=
  match i with
  | .nop id => Sys2Proof.Machine.execNop id s
  | .abort id => Sys2Proof.Machine.execAbort id s
  | .syncSet id => Sys2Proof.Machine.execSyncSet id s
  | .ctxPreempt id => Sys2Proof.Machine.execCtxPreempt id s
  | .ctrlSampleOpen id => Sys2Proof.Machine.execCtrlSampleOpen id s
  | .ctrlSampleAdvance id => Sys2Proof.Machine.execCtrlSampleAdvance id s
  | .ctrlSampleClose id => Sys2Proof.Machine.execCtrlSampleClose id s
  | .ctrlSampleRead id => Sys2Proof.Machine.execCtrlSampleRead id s
  | .copy id => Sys2Proof.Machine.execCopy id s
  | .fill id => Sys2Proof.Machine.execFill id s
  | .biasSet id => Sys2Proof.Machine.execBiasSet id s
  | .keyRotate id => Sys2Proof.Machine.execKeyRotate id s
  | .standMatmul id => Sys2Proof.Machine.execStandMatmul id s
  | .standMatmulGen id => Sys2Proof.Machine.execStandMatmulGen id s
  | .standDrain id => Sys2Proof.Machine.execStandDrain id s
  | .standAccZero id => Sys2Proof.Machine.execStandAccZero id s
  | .standAccRelease id => Sys2Proof.Machine.execStandAccRelease id s
  | .flip core => Sys2Proof.Machine.execFlip core s
  | .vecElem id => Sys2Proof.Machine.execVecElem id s
  | .vecReduce id => Sys2Proof.Machine.execVecReduce id s
  | .vecSoftmax id => Sys2Proof.Machine.execVecSoftmax id s
  | .vecConvert id => Sys2Proof.Machine.execVecConvert id s
  | .embTableInstall id => Sys2Proof.Machine.execEmbTableInstall id s
  | .embTableRemove id => Sys2Proof.Machine.execEmbTableRemove id s
  | .versionInstallTakesEffect id => Sys2Proof.Machine.execVersionInstallTakesEffect id s
  | .embAdmitOpen id => Sys2Proof.Machine.execEmbAdmitOpen id s
  | .embAdmit id => Sys2Proof.Machine.execEmbAdmit id s
  | .embPrefetch id => Sys2Proof.Machine.execEmbPrefetch id s
  | .embGatherPool id => Sys2Proof.Machine.execEmbGatherPool id s
  | .embGradMerge id => Sys2Proof.Machine.execEmbGradMerge id s
  | .embGradCombine id => Sys2Proof.Machine.execEmbGradCombine id s
  | .embReplicaFetch id => Sys2Proof.Machine.execEmbReplicaFetch id s
  | .embBatchClose id => Sys2Proof.Machine.execEmbBatchClose id s
  | .versionRelease ctx table num => Sys2Proof.Machine.execVersionRelease ctx table num s
  | .tapInitCopy id => Sys2Proof.Machine.execTapInitCopy id s
  | .tapInitImage id => Sys2Proof.Machine.execTapInitImage id s
  | .tapUpdate id => Sys2Proof.Machine.execTapUpdate id s
  | .tapUpdateResume id => Sys2Proof.Machine.execTapUpdateResume id s
  | .tapSchedInstall id => Sys2Proof.Machine.execTapSchedInstall id s
  | .tapSchedHostStep id => Sys2Proof.Machine.execTapSchedHostStep id s
  | .scheduleInstallTakesEffect id => Sys2Proof.Machine.execScheduleInstallTakesEffect id s
  | .tapVerify id => Sys2Proof.Machine.execTapVerify id s
  | .tapSnapshot id => Sys2Proof.Machine.execTapSnapshot id s
  | .collReduceScatter id => Sys2Proof.Machine.execCollReduceScatter id s
  | .collAllReduce id => Sys2Proof.Machine.execCollAllReduce id s
  | .collGather id => Sys2Proof.Machine.execCollGather id s
  | .collPass id => Sys2Proof.Machine.execCollPass id s
  | .collPassLanding id step => Sys2Proof.Machine.execCollPassLanding id step s
  | .collPermute id => Sys2Proof.Machine.execCollPermute id s
  | .collListExchange id => Sys2Proof.Machine.execCollListExchange id s
  | .collectiveMatch id => Sys2Proof.Machine.execCollectiveMatch id s
  | .genSeqOpen id => Sys2Proof.Machine.execGenSeqOpen id s
  | .genSeqAppend id => Sys2Proof.Machine.execGenSeqAppend id s
  | .genSeqRead id => Sys2Proof.Machine.execGenSeqRead id s
  | .genSeqClose id => Sys2Proof.Machine.execGenSeqClose id s
  | .doorbellWrite link fn ctx queue value secure => Sys2Proof.Machine.execDoorbellWrite link fn ctx queue value secure s
  | .descriptorAdmission ctx queue => Sys2Proof.Machine.execDescriptorAdmission ctx queue s
  | .commandRelease ctx queue => Sys2Proof.Machine.execCommandRelease ctx queue s
  | .completionRecordWrite id => Sys2Proof.Machine.execCompletionRecordWrite id s
  | .safePointAbort id => Sys2Proof.Machine.execSafePointAbort id s
  | .queueReload ch ctx value => Sys2Proof.Machine.execQueueReload ch ctx value s
  | .queueTableWrite ch ctx value => Sys2Proof.Machine.execQueueTableWrite ch ctx value s
  | .contextResident ctx => Sys2Proof.Machine.execContextResident ctx s
  | .contextEvict ctx => Sys2Proof.Machine.execContextEvict ctx s
  | .quantumExpiry ctx => Sys2Proof.Machine.execQuantumExpiry ctx s
  | .contextLeave ctx => Sys2Proof.Machine.execContextLeave ctx s
  | .drainUsExpiry ctx => Sys2Proof.Machine.execDrainUsExpiry ctx s
  | .preemptionDeadline ctx => Sys2Proof.Machine.execPreemptionDeadline ctx s
  | .paceBoundary => Sys2Proof.Machine.execPaceBoundary s
  | .paceWord port word => Sys2Proof.Machine.execPaceWord port word s
  | .localGeneratorBoundary => Sys2Proof.Machine.execLocalGeneratorBoundary s
  | .paceSourceLost => Sys2Proof.Machine.execPaceSourceLost s
  | .paceSignalLost => Sys2Proof.Machine.execPaceSignalLost s
  | .holdoverBoundary => Sys2Proof.Machine.execHoldoverBoundary s
  | .holdoverExpiry => Sys2Proof.Machine.execHoldoverExpiry s
  | .sourceAdoption source count => Sys2Proof.Machine.execSourceAdoption source count s
  | .strideCountWrite ch value => Sys2Proof.Machine.execStrideCountWrite ch value s
  | .maintenanceWindowOpen w => Sys2Proof.Machine.execMaintenanceWindowOpen w s
  | .maintenanceWindowClose w => Sys2Proof.Machine.execMaintenanceWindowClose w s
  | .ppsInEdge => Sys2Proof.Machine.execPpsInEdge s
  | .calendarSecondWrite ch value => Sys2Proof.Machine.execCalendarSecondWrite ch value s
  | .strideStepSizePublish => Sys2Proof.Machine.execStrideStepSizePublish s
  | .signal k => Sys2Proof.Machine.execSignal k s
  | .abortNotice k => Sys2Proof.Machine.execAbortNotice k s
  | .preemptNotice k => Sys2Proof.Machine.execPreemptNotice k s
  | .rowRequest k => Sys2Proof.Machine.execRowRequest k s
  | .rowReply k => Sys2Proof.Machine.execRowReply k s
  | .hold k => Sys2Proof.Machine.execHold k s
  | .readRequest k => Sys2Proof.Machine.execReadRequest k s
  | .readReply k => Sys2Proof.Machine.execReadReply k s
  | .fetchRequest k => Sys2Proof.Machine.execFetchRequest k s
  | .fetchRows k => Sys2Proof.Machine.execFetchRows k s
  | .collective k => Sys2Proof.Machine.execCollective k s
  | .noRoute k => Sys2Proof.Machine.execNoRoute k s
  | .refusedFrame k => Sys2Proof.Machine.execRefusedFrame k s
  | .dataFragment port hdr payload good => Sys2Proof.Machine.execDataFragment port hdr payload good s
  | .nak port body => Sys2Proof.Machine.execNak port body s
  | .replayTimeout port => Sys2Proof.Machine.execReplayTimeout port s
  | .hello port body => Sys2Proof.Machine.execHello port body s
  | .helloTimer port => Sys2Proof.Machine.execHelloTimer port s
  | .beacon port body => Sys2Proof.Machine.execBeacon port body s
  | .echo port reply body => Sys2Proof.Machine.execEcho port reply body s
  | .lane port body => Sys2Proof.Machine.execLane port body s
  | .laneWidthChange port => Sys2Proof.Machine.execLaneWidthChange port s
  | .portTraining port result => Sys2Proof.Machine.execPortTraining port result s
  | .portTrainingTimeout port result => Sys2Proof.Machine.execPortTrainingTimeout port result s
  | .laneErrorTrigger port seen => Sys2Proof.Machine.execLaneErrorTrigger port seen s
  | .routeWaitExpiry => Sys2Proof.Machine.execRouteWaitExpiry s
  | .membershipRecordWrite ch value => Sys2Proof.Machine.execMembershipRecordWrite ch value s
  | .membershipEpochChange => Sys2Proof.Machine.execMembershipEpochChange s
  | .hostLinkTrained link rate width => Sys2Proof.Machine.execHostLinkTrained link rate width s
  | .hostLinkDown link => Sys2Proof.Machine.execHostLinkDown link s
  | .hostRequestFailure id again => Sys2Proof.Machine.execHostRequestFailure id again s
  | .hostCxlMemAccess link addr write len trusted => Sys2Proof.Machine.execHostCxlMemAccess link addr write len trusted s
  | .perst die => Sys2Proof.Machine.execPerst die s
  | .hotReset link => Sys2Proof.Machine.execHotReset link s
  | .flrFunction0 link => Sys2Proof.Machine.execFlrFunction0 link s
  | .flrContextFunction link fn => Sys2Proof.Machine.execFlrContextFunction link fn s
  | .ideIntegrityFailure link stream => Sys2Proof.Machine.execIdeIntegrityFailure link stream s
  | .kSetGo link fn stream set => Sys2Proof.Machine.execKSetGo link fn stream set s
  | .lockInterface link fn ctx body => Sys2Proof.Machine.execLockInterface link fn ctx body s
  | .getDeviceInterfaceReport link fn ctx body => Sys2Proof.Machine.execGetDeviceInterfaceReport link fn ctx body s
  | .startInterface link fn ctx body => Sys2Proof.Machine.execStartInterface link fn ctx body s
  | .stopInterface link fn ctx body => Sys2Proof.Machine.execStopInterface link fn ctx body s
  | .forceUnbind ch ctx value => Sys2Proof.Machine.execForceUnbind ch ctx value s
  | .rotate ch ctx value => Sys2Proof.Machine.execRotate ch ctx value s
  | .getVersion link fn body => Sys2Proof.Machine.execGetVersion link fn body s
  | .getCapabilities link fn body => Sys2Proof.Machine.execGetCapabilities link fn body s
  | .negotiateAlgorithms link fn body => Sys2Proof.Machine.execNegotiateAlgorithms link fn body s
  | .getDigests link fn body => Sys2Proof.Machine.execGetDigests link fn body s
  | .getCertificate link fn body => Sys2Proof.Machine.execGetCertificate link fn body s
  | .challenge link fn body => Sys2Proof.Machine.execChallenge link fn body s
  | .getMeasurements link fn body => Sys2Proof.Machine.execGetMeasurements link fn body s
  | .keyExchange link fn body => Sys2Proof.Machine.execKeyExchange link fn body s
  | .finish link fn body => Sys2Proof.Machine.execFinish link fn body s
  | .keyUpdate link fn body => Sys2Proof.Machine.execKeyUpdate link fn body s
  | .heartbeatSpdm link fn body => Sys2Proof.Machine.execHeartbeatSpdm link fn body s
  | .endSession link fn body => Sys2Proof.Machine.execEndSession link fn body s
  | .getCsr link fn body => Sys2Proof.Machine.execGetCsr link fn body s
  | .setCertificate link fn body => Sys2Proof.Machine.execSetCertificate link fn body s
  | .telemetryFrame group seen => Sys2Proof.Machine.execTelemetryFrame group seen s
  | .telemetryGroupBlind group => Sys2Proof.Machine.execTelemetryGroupBlind group s
  | .avsPoll readings => Sys2Proof.Machine.execAvsPoll readings s
  | .envelopeTick => Sys2Proof.Machine.execEnvelopeTick s
  | .capCheck => Sys2Proof.Machine.execCapCheck s
  | .thermalCheck readings => Sys2Proof.Machine.execThermalCheck readings s
  | .opTransitionStart => Sys2Proof.Machine.execOpTransitionStart s
  | .phaseProfileWrite ch value => Sys2Proof.Machine.execPhaseProfileWrite ch value s
  | .phaseProfileTakesEffect => Sys2Proof.Machine.execPhaseProfileTakesEffect s
  | .profileEntry => Sys2Proof.Machine.execProfileEntry s
  | .capOffsetWrite ch value => Sys2Proof.Machine.execCapOffsetWrite ch value s
  | .slackRecordWrite => Sys2Proof.Machine.execSlackRecordWrite s
  | .wideMarginRequest ch value => Sys2Proof.Machine.execWideMarginRequest ch value s
  | .wideMarginSwitch => Sys2Proof.Machine.execWideMarginSwitch s
  | .usdoRequest seen client write index sub value => Sys2Proof.Machine.execUsdoRequest seen client write index sub value s
  | .mailboxRequest link fn seen value => Sys2Proof.Machine.execMailboxRequest link fn seen value s
  | .nmtStart bus node => Sys2Proof.Machine.execNmtStart bus node s
  | .nmtStop bus node => Sys2Proof.Machine.execNmtStop bus node s
  | .nmtEnterPreOperational bus node => Sys2Proof.Machine.execNmtEnterPreOperational bus node s
  | .nmtResetNode bus node => Sys2Proof.Machine.execNmtResetNode bus node s
  | .nmtResetCommunication bus node => Sys2Proof.Machine.execNmtResetCommunication bus node s
  | .heartbeat bus => Sys2Proof.Machine.execHeartbeat bus s
  | .busOff bus => Sys2Proof.Machine.execBusOff bus s
  | .sessionOpen ch value => Sys2Proof.Machine.execSessionOpen ch value s
  | .sessionClose ch value => Sys2Proof.Machine.execSessionClose ch value s
  | .sessionIdleTimeout ch => Sys2Proof.Machine.execSessionIdleTimeout ch s
  | .authorizationRecord ch value => Sys2Proof.Machine.execAuthorizationRecord ch value s
  | .programData ch t value => Sys2Proof.Machine.execProgramData ch t value s
  | .programControlVerify ch t => Sys2Proof.Machine.execProgramControlVerify ch t s
  | .programControlDiscard ch t => Sys2Proof.Machine.execProgramControlDiscard ch t s
  | .reloadDie ch d value => Sys2Proof.Machine.execReloadDie ch d value s
  | .reloadComplete => Sys2Proof.Machine.execReloadComplete s
  | .restoreDefaults ch value => Sys2Proof.Machine.execRestoreDefaults ch value s
  | .operatorKeyWrite ch slot value => Sys2Proof.Machine.execOperatorKeyWrite ch slot value s
  | .lifeCycleTransitionRequest ch value => Sys2Proof.Machine.execLifeCycleTransitionRequest ch value s
  | .formatHealthReset ch value => Sys2Proof.Machine.execFormatHealthReset ch value s
  | .partitionWrite ch p sub value => Sys2Proof.Machine.execPartitionWrite ch p sub value s
  | .marginScanStart ch value => Sys2Proof.Machine.execMarginScanStart ch value s
  | .marginScanComplete below above => Sys2Proof.Machine.execMarginScanComplete below above s
  | .selfTestStart ch value => Sys2Proof.Machine.execSelfTestStart ch value s
  | .takeoverRequest ch value => Sys2Proof.Machine.execTakeoverRequest ch value s
  | .recorderClear ch value => Sys2Proof.Machine.execRecorderClear ch value s
  | .recorderRead ch => Sys2Proof.Machine.execRecorderRead ch s
  | .dictionaryWrite ch index sub value => Sys2Proof.Machine.execDictionaryWrite ch index sub value s
  | .errorDetected unit cmd seen => Sys2Proof.Machine.execErrorDetected unit cmd seen s
  | .selfTestVerdict unit pass => Sys2Proof.Machine.execSelfTestVerdict unit pass s
  | .migrationGrain readable => Sys2Proof.Machine.execMigrationGrain readable s
  | .migrationComplete => Sys2Proof.Machine.execMigrationComplete s
  | .patrolScrub finding => Sys2Proof.Machine.execPatrolScrub finding s
  | .sweepPage ctx => Sys2Proof.Machine.execSweepPage ctx s
  | .sweepComplete ctx => Sys2Proof.Machine.execSweepComplete ctx s
  | .regulatorRefill stack => Sys2Proof.Machine.execRegulatorRefill stack s
  | .calibrationDue cls unit => Sys2Proof.Machine.execCalibrationDue cls unit s
  | .calibrationStart cls unit => Sys2Proof.Machine.execCalibrationStart cls unit s
  | .managementHeartbeat => Sys2Proof.Machine.execManagementHeartbeat s
  | .managementTakeover cause => Sys2Proof.Machine.execManagementTakeover cause s
  | .powerOn => Sys2Proof.Machine.execPowerOn s
  | .resetNLow => Sys2Proof.Machine.execResetNLow s
  | .resetNRise failedChannels => Sys2Proof.Machine.execResetNRise failedChannels s
  | .powerLoss => Sys2Proof.Machine.execPowerLoss s
  | .calibrationComplete cls unit pass => Sys2Proof.Machine.execCalibrationComplete cls unit pass s
  | .fillControlFragment port hdr => Sys2Proof.Machine.execFillControlFragment port hdr s
  | .hostConfigurationRequest link fn reg word => Sys2Proof.Machine.execHostConfigurationRequest link fn reg word s
  | .cxlTspLock link ctx => Sys2Proof.Machine.execCxlTspLock link ctx s
  | .ideKm link fn stream set => Sys2Proof.Machine.execIdeKm link fn stream set s
  | .blindGroupAvsbusRead group readings => Sys2Proof.Machine.execBlindGroupAvsbusRead group readings s

end Sys2Proof.Machine
end

