-- ==== Sys2Proof/Safety.lean ====
section
/-! DEFINITION. What a sound state is, and the terms the statements are made in: every table in its
canonical form, a command ready for its row, and how a command stands after it. -/

namespace Sys2Proof.Machine

/-! ### Canonical form -/

/-- The stores of bytes keep their canonical form. -/
def State.memOk (s : State) : Bool :=
  s.mem.wf && s.host.wf && s.core.wf && s.acc.wf && s.feeder.wf

/-- The tables that commands read and write by number keep their canonical form. -/
def State.tabsOk (s : State) : Bool :=
  Tab.wf SyncObj.clear s.sync && Tab.wf Ctx.off s.ctxs && Tab.wf Queue.off s.queues &&
    Tab.wf Stand.fresh s.stands && Tab.wf none s.obj && Tab.wf false s.pool.poison &&
    Tab.wf none s.pool.tags && Tab.wf KeySlots.zeroed s.pool.keys && Tab.wf Sweep.idle s.pool.sweeps &&
    Tab.wf none s.pool.reloc && Tab.wf 0 s.pool.buckets && Tab.wf (0, 0) s.pool.rates &&
    Tab.wf SeqSlot.unused s.seqs && Tab.wf Tdi.absent s.tdis && Tab.wf false s.trust.bias &&
    Tab.wf Port.down s.ports && Tab.wf HostLink.down s.links && Tab.wf Func.fresh s.funcs &&
    Tab.wf Sched.empty s.scheds && Tab.wf Bus.fresh s.buses && Tab.wf TelemGroup.fresh s.power.groups &&
    Tab.wf Rail.fresh s.power.rails && Tab.wf DieOp.fresh s.power.dies && Tab.wf Heat.fresh s.power.heat

/-! ### Commands ready for a row, and what becomes of them -/

/-- A command is ready at a row: released, of the row's opcode, its units free, its turn come. -/
def State.readyAt (s : State) (id : CmdId) (p : Desc → Bool) (units : State → Cmd → List UnitId) (c : Cmd) :
    Prop :=
  s.runnable id p = some c ∧ s.unitsAre (units s c) = .free ∧ s.takesUnit c = true

/-- A stand command is ready: its turn has come, its width is the presented one, and its stand takes work. -/
def State.standReady (s : State) (id : CmdId) (p : Desc → Bool) (c : Cmd) : Prop :=
  s.runnable id p = some c ∧ s.takesUnit c = true ∧ s.width (standCore c.desc) = standWidth c.desc ∧
    s.blocked (.stand (standCore c.desc)) = false

/-- From s to t the command has finished with a status, and the other commands stand as they did. -/
def State.endsIn (s t : State) (id : CmdId) (st : Status) : Prop := t.cmds = (s.finish id st).cmds

/-- A taproot command is ready: released, its turn on its region come. -/
def State.tapReady (s : State) (id : CmdId) (p : Desc → Bool) (c : Cmd) : Prop :=
  s.runnable id p = some c ∧ s.tapWaits c = false

/-- Every grain of a list has an engine in service, none of them under test. -/
def State.enginesFree (s : State) (g : Geo) (qs : List Nat) : Bool :=
  match s.enginesFor g qs with
  | none => false
  | some l => !(l.any fun e => s.blocked (.taproot e))

/-- A collective is ready for its row: released and begun. -/
def State.collReady (s : State) (id : CmdId) (p : Desc → Bool) (c : Cmd) (x : Coll) : Prop :=
  s.runnable id p = some c ∧ s.collOf id = some x ∧ x.begun = true

/-- The state that a piece of work leaves: its command finished where the work says with which status, and
still released where it does not. -/
def State.ended (r : State × Option Status) (id : CmdId) : State :=
  match r.2 with
  | some st => r.1.finish id st
  | none => r.1

/-! ### The dictionary -/

/-- What an accepted write on a channel does to the state, and what it answers: the effect of the write once the
channel's authorization record is consumed. -/
def State.writeDone (s : State) (ch : Channel) (index sub : Nat) (l : List Byte) : State × Reply :=
  let u := s.touch ch
  (u.consumeAuth ch).effect ch index sub l (u.authorized ch index sub l)

/-- A write that a bus carries passes every check, and what it does succeeds. -/
def State.writeReady (s : State) (b client index sub : Nat) (l : List Byte) : Prop :=
  let ch : Channel := .can b client
  s.serverUp = true ∧ s.busServes b = true ∧ s.server.mramFault = none ∧
    (s.touch ch).writeRefusal ch ((s.touch ch).role ch) index sub l = none ∧
    (s.writeDone ch index sub l).2 = Reply.done

/-- No channel holds a request and no life-cycle transition is on its way: nothing else is answered with a
step. -/
def State.quiet (s : State) : Prop :=
  (∀ l f, (s.func l f).asked = none) ∧ s.server.heldCan = [] ∧ s.server.transition = none

/-! ### Bytes of device memory -/

/-- A region lies on one side of the boundary between stack memory and the host peer window. -/
def oneSide (a n : Nat) : Bool := decide (a + n ≤ hostBase) || decide (hostBase ≤ a)

/-- Every sector of a region is written under a key that its context holds, or in plaintext. -/
def State.keyed (s : State) (a n : Nat) : Bool :=
  (sectorsOf a n).all fun k =>
    match s.encCtx (32 * k) with
    | none => true
    | some c => ((s.keySlots c).key (s.keySlots c).current).isSome

/-- An address is one of the bytes of an extent at a place. -/
def Extent.holds (e : Extent) (p : Place) (a : Nat) : Bool :=
  decide (e.place = p) &&
    (List.range e.rows).any fun i => decide (e.addr + i * e.pitch ≤ a ∧ a < e.addr + i * e.pitch + e.n)

end Sys2Proof.Machine
end

