-- ==== Sys2Proof/Certificates/Slice0/Obligations.lean ====
section
/-! DEFINITION. The statements about the model, for the provers. -/

open Sys2Proof Sys2Proof.Machine

/-! ### The machine as a whole -/

/-- A step runs the command at the front of the queue on the state with the rest of the queue. -/
def Obligations.StepRunsTheFrontCommand : Prop :=
  ∀ (s : State) (c : Instr) (rest : List Instr),
    step { s with pending := c :: rest } = exec c { s with pending := rest }

/-- With no command waiting and no life-cycle transition on its way, a step is one nanosecond of the clocks and
touches nothing but the clocks, the power manager's measurements, the turns noted of repeating maintenance windows, and
the marks of gated installs whose angle it reaches, which never go: the model's choice (log entry 1). -/
def Obligations.IdleStepIsOneNanosecond : Prop :=
  ∀ s : State, s.pending = [] → s.server.transition = none →
    ∃ t, step s = .next t ∧ t.now = s.now + 1 ∧ t.cal = { s.cal with ns := (s.cal.ns + 1) % 2 ^ 64 } ∧
      t = { s with
        now := t.now, pace := t.pace, cal := t.cal, power := t.power, cmds := t.cmds, windowMark := t.windowMark } ∧
      t.cmds.length = s.cmds.length ∧
      ∀ (k : Nat) (c : Cmd), s.cmds[k]? = some c → t.cmds[k]? = some c ∨
        (isInstall c.desc = true ∧ gated c.desc = true ∧ c.phase = .admitted ∧
          t.cmds[k]? = some { c with onTime := true })

/-- Every command answers a next state in every state: no command stops the machine. -/
def Obligations.EveryCommandAnswersANextState : Prop :=
  ∀ (c : Instr) (s : State), ∃ t, exec c s = .next t

/-- What the spec says the machine holds in reset: powered with RESET_N and READY low, the pace UNLOCKED, no
Carust member, A0 active with A1 standby, context 0 alone resident, nothing queued, every object at its
default.

The reset state's stores and tables are in canonical form. -/
def Obligations.ResetStateIsCanonicalAndAsTheSpecSays : Prop :=
  (State.reset.pins = ⟨true, false, false, 1⟩ ∧ State.reset.pace.mode = .unlocked ∧ State.reset.angle = 0 ∧
     State.reset.membership.members = [] ∧ State.reset.membership.self = 0xFFFF ∧
     State.reset.mgmt.active = 0 ∧ State.reset.mgmt.standby = true ∧ State.reset.pending = [] ∧
     (∀ c, State.reset.resident c = decide (c = 0)) ∧ (∀ o, State.reset.syncObj o = ⟨0, false⟩) ∧
     (∀ i sub, State.reset.objv i sub = objDefault i sub) ∧ (∀ u, State.reset.retired u = false)) ∧
  (State.reset.memOk = true ∧ State.reset.tabsOk = true)

/-- Every step keeps every store of bytes and every numbered table in canonical form. -/
def Obligations.StepKeepsTheStoresCanonical : Prop :=
  ∀ s t : State, s.memOk = true → s.tabsOk = true → step s = .next t → t.memOk = true ∧ t.tabsOk = true

/-- A retirement is permanent: no step, no reset and no life-cycle transition among them, brings a retired
unit back. -/
def Obligations.RetirementIsPermanent : Prop :=
  ∀ (s t : State) (u : UnitId), u.loc < 40 → s.retired u = true → step s = .next t → t.retired u = true

/-! ### Angles, statuses, reach -/

/-- Angle A is at or after angle B exactly when (A − B) mod 2^48 is less than 2^47, and otherwise A is
before B. -/
def Obligations.AngleOrder : Prop :=
  ∀ a b : Angle, atOrAfter a b = true ↔ ((a.toNat : Int) - b.toNat) % 2 ^ 48 < 2 ^ 47

/-- Of several failing admission checks the first in the order INVALID, ACCESS_DENIED, PACE_LOST, KEY_BUSY,
BUSY is reported. -/
def Obligations.FirstFailingCheck : Prop :=
  ∀ (x : Checks) (lost : Bool),
    (x.invalid = true → x.first lost = some .invalid) ∧
    (x.invalid = false → x.denied = true → x.first lost = some .accessDenied) ∧
    (x.invalid = false → x.denied = false → lost = true → x.first lost = some .paceLost) ∧
    (x.invalid = false → x.denied = false → lost = false → x.keyBusy = true → x.first lost = some .keyBusy) ∧
    (x.invalid = false → x.denied = false → lost = false → x.keyBusy = false → x.busy = true →
      x.first lost = some .busy) ∧
    (x = ⟨false, false, false, false⟩ → lost = false → x.first lost = none)

/-! ### Memory -/

/-- The hash interleave is one to one, whatever the hash keys: two grains at one home are the same grain; the 1,280
grains of every 320 KiB range that begins at a multiple of 327,680 bytes land one in each pseudo-channel; and the
bytes of a grain have one home. -/
def Obligations.InterleaveIsOneToOne : Prop :=
  ∀ s : State,
    (∀ a b : Nat, a < 2 ^ 40 → b < 2 ^ 40 → s.homeOf a = s.homeOf b → a / 256 = b / 256) ∧
    (∀ m p : Nat, 327680 * (m + 1) ≤ 2 ^ 40 → p < 1280 →
      ∃ k, k < 1280 ∧ (s.homeOf (327680 * m + 256 * k)).1 = p ∧
        ∀ j, j < 1280 → (s.homeOf (327680 * m + 256 * j)).1 = p → j = k) ∧
    (∀ a : Nat, s.homeOf a = s.homeOf (a / 256 * 256))

/-- A write of device memory reads back, byte for byte, but in a poisoned sector it covers only in part; every
other byte reads as before.

A write of a whole sector clears its poison, a write of part of one does not, and no other sector's poison
changes. -/
def Obligations.DeviceWritesReadBackAndClearPoison : Prop :=
  (∀ (s : State) (a : Nat) (l : List Byte), s.memOk = true → s.tabsOk = true →
     oneSide a l.length = true → s.keyed a l.length = true →
     (∀ i, i < l.length → (hostBase ≤ a ∨ s.poisoned ((a + i) / 32) = false ∨
         wholeSector a l.length ((a + i) / 32) = true) →
       (s.devWrite a l).devByte (a + i) = l.getD i 0) ∧
     (∀ x, x < a ∨ a + l.length ≤ x → (s.devWrite a l).devByte x = s.devByte x)) ∧
  (∀ (s : State) (a : Nat) (l : List Byte) (k : Nat), s.tabsOk = true → a + l.length ≤ hostBase →
     Tab.get false (s.devWrite a l).pool.poison k =
       (Tab.get false s.pool.poison k && !(decide (0 < l.length) && wholeSector a l.length k)))

/-! ### Control commands -/

/-- NOP does no work: it ends with OK (RETRIED_OK after a retry) and nothing else changes.

SYNC_SET sets its object's value and clears FAULT; no other object changes, and nothing but the commands, the
objects and the index of a queue that the object rings does. On an object of a retired die it ends with
UNIT_RETIRED and sets nothing.

ABORT of a queue of this device reaches its targets, those of its range as it stood at its release: one not
released is finished with ABORTED at once, a collective with a CANCEL to its peers, a released one is to stop at
its next safe point, and the ABORT waits for their records. With no target left it ends with ALREADY_COMPLETE, and
where it names no sequence number of the queue with INVALID.

CTX_PREEMPT of the issuing context on this device: the context begins to leave its slot at once where DEADLINE has
been reached or the angle is not known to be the job's, and yields at DEADLINE otherwise, beside the deadlines it has
already. -/
def Obligations.ControlCommandsRun : Prop :=
  (∀ (s : State) (id : CmdId) (c : Cmd), s.runnable id (isOp 0x00) = some c →
     ∃ t, exec (.nop id) s = .next t ∧ s.endsIn t id .ok ∧ t = { s with cmds := t.cmds }) ∧
  (∀ (s : State) (id : CmdId) (c : Cmd), s.tabsOk = true → s.runnable id (isOp 0x02) = some c →
     ∃ t, exec (.syncSet id) s = .next t ∧ t = { s with cmds := t.cmds, sync := t.sync, queues := t.queues } ∧
       (∀ k q, (s.queue k q).dbKind ≠ 1 ∨ (s.queue k q).dbObj ≠ fld c.desc 207 192 → t.queue k q = s.queue k q) ∧
       (∀ k q, t.queue k q = { s.queue k q with producer := (t.queue k q).producer }) ∧
       (s.syncDead (fld c.desc 207 192) = false →
         s.endsIn t id .ok ∧ t.syncObj (fld c.desc 207 192) = ⟨fld c.desc 255 224, false⟩ ∧
         ∀ o, o ≠ fld c.desc 207 192 → t.syncObj o = s.syncObj o) ∧
       (s.syncDead (fld c.desc 207 192) = true → s.endsIn t id .unitRetired ∧ t.sync = s.sync ∧ t.queues = s.queues)) ∧
  (∀ (s : State) (id : CmdId) (c : Cmd), s.runnable id (isOp 0x01) = some c →
     (∀ w ∈ s.abortWaits, w.id ≠ id) → s.isSelf (fld c.desc 276 261) = true →
     let set := s.abortSet id.ctx (fld c.desc 259 256) (fld c.desc 223 192) c.latch.range (flag c.desc 260) (some id)
     (∀ l, set = .targets l →
       ∃ t, exec (.abort id) s = .next t ∧
         t = { s.abortTargets l with abortWaits := s.abortWaits ++ [⟨id, l, false, none, c.tag⟩] } ∧
         ((∀ x ∈ s.cmds, x.id ∈ l → x.phase = .admitted → isCollective x.desc = false) →
           t = { s with cmds := t.cmds, abortWaits := t.abortWaits }) ∧
         (∀ x ∈ s.cmds, x.id ∈ l → x.phase = .admitted → { x with phase := .finished .aborted } ∈ t.cmds) ∧
         (∀ x ∈ s.cmds, x.id ∈ l → x.phase ≠ .admitted → { x with abortReq := true } ∈ t.cmds) ∧
         (∀ x ∈ s.cmds, x.id ∉ l → x ∈ t.cmds)) ∧
     (set = .already → exec (.abort id) s = .next (s.finish id .alreadyComplete)) ∧
     (set = .invalid → exec (.abort id) s = .next (s.finish id .invalid))) ∧
  (∀ (s : State) (id : CmdId) (c : Cmd), s.tabsOk = true → s.runnable id (isOp 0x03) = some c →
     s.isSelf (fld c.desc 255 240) = true → s.resident id.ctx = true → (s.ctx id.ctx).leaving = false →
     ∃ t, exec (.ctxPreempt id) s = .next t ∧ s.endsIn t id .ok ∧
       t = { s with cmds := t.cmds, ctxs := t.ctxs } ∧ (∀ x, x ≠ id.ctx → t.ctx x = s.ctx x) ∧
       (t.ctx id.ctx).yieldAt = addOnce (s.ctx id.ctx).yieldAt (BitVec.ofNat 48 (fld c.desc 239 192)) ∧
      (t.ctx id.ctx).slot = (s.ctx id.ctx).slot ∧
       ((t.ctx id.ctx).leaving = true ↔ s.pace.mode.running = false ∨
         atOrAfter s.angle (BitVec.ofNat 48 (fld c.desc 239 192)) = true))

/-- CTRL_SAMPLE OPEN appends COUNT descriptors in state LANDED with the listed sample IDs and the current
angle; where a limit would be exceeded it ends with BUSY and creates none.

CTRL_SAMPLE ADVANCE sets every descriptor of the group to STATE, and changes none and ends with INVALID if
one already holds it or a later state; CLOSE frees the group. No other group's descriptor changes.

CTRL_SAMPLE READ writes the group's descriptors at LIST_ADDR in the order they were created, 32 bytes
each; it ends with INVALID and writes nothing where the group holds more than COUNT. -/
def Obligations.SampleListCommandsRun : Prop :=
  (∀ (s : State) (id : CmdId) (c : Cmd), s.runnable id (sampleOp 0) = some c →
     s.devReadBad (fld c.desc 239 192) (8 * fld c.desc 260 245) = false →
     ∃ t, exec (.ctrlSampleOpen id) s = .next t ∧ t = { s with cmds := t.cmds, samples := t.samples } ∧
       (s.samples.length + fld c.desc 260 245 ≤ 32768 →
         (s.samples.filter fun x => decide (x.ctx = id.ctx)).length + fld c.desc 260 245 ≤
           s.objv (0x6000 + id.ctx) 10 →
         s.endsIn t id .ok ∧ t.samples.length = s.samples.length + fld c.desc 260 245 ∧
         (∀ x ∈ s.samples, x ∈ t.samples) ∧
         ∀ k, k < fld c.desc 260 245 → t.samples[s.samples.length + k]? =
           some ⟨id.ctx, fld c.desc 268 261, s.devNum (fld c.desc 239 192 + 8 * k) 8, 1, s.angle, 0, 0⟩) ∧
       (32768 < s.samples.length + fld c.desc 260 245 ∨ s.objv (0x6000 + id.ctx) 10 <
           (s.samples.filter fun x => decide (x.ctx = id.ctx)).length + fld c.desc 260 245 →
         s.endsIn t id .busy ∧ t.samples = s.samples)) ∧
  (∀ (s : State) (id : CmdId) (c : Cmd),
     (s.runnable id (sampleOp 1) = some c →
       ∃ t, exec (.ctrlSampleAdvance id) s = .next t ∧ t = { s with cmds := t.cmds, samples := t.samples } ∧
         ((∀ x ∈ s.groupOf id.ctx (fld c.desc 268 261), x.st < fld c.desc 273 271) →
           s.endsIn t id .ok ∧
           (∀ x ∈ t.groupOf id.ctx (fld c.desc 268 261), x.st = fld c.desc 273 271 ∧ x.advAngle = s.angle ∧
             x.epoch = fld c.desc 305 274) ∧
           (t.groupOf id.ctx (fld c.desc 268 261)).length = (s.groupOf id.ctx (fld c.desc 268 261)).length) ∧
         ((∃ x ∈ s.groupOf id.ctx (fld c.desc 268 261), fld c.desc 273 271 ≤ x.st) →
           s.endsIn t id .invalid ∧ t.samples = s.samples) ∧
         ∀ k g, (k, g) ≠ (id.ctx, fld c.desc 268 261) → t.groupOf k g = s.groupOf k g) ∧
     (s.runnable id (sampleOp 2) = some c →
       ∃ t, exec (.ctrlSampleClose id) s = .next t ∧ t = { s with cmds := t.cmds, samples := t.samples } ∧
         s.endsIn t id .ok ∧ t.groupOf id.ctx (fld c.desc 268 261) = [] ∧
         ∀ k g, (k, g) ≠ (id.ctx, fld c.desc 268 261) → t.groupOf k g = s.groupOf k g)) ∧
  (∀ (s : State) (id : CmdId) (c : Cmd), s.runnable id (sampleOp 3) = some c →
     let l := s.groupOf id.ctx (fld c.desc 268 261)
     let a := fld c.desc 239 192
     (l.length ≤ fld c.desc 260 245 → s.devWriteBad a (32 * l.length) = false →
       (l.map sampleBytes).flatten.length = 32 * l.length ∧
       exec (.ctrlSampleRead id) s = .next ((s.devWrite a (l.map sampleBytes).flatten).finish id .ok)) ∧
     (fld c.desc 260 245 < l.length → exec (.ctrlSampleRead id) s = .next (s.finish id .invalid)))

/-! ### Copy-range commands -/

/-- COPY and FILL write their rows, row i at DST + i × pitch: for COPY the source rows as they were before the
first write, for FILL the 8-byte pattern repeated; what of it is a host's goes out as requests on the links. Stated
where the host links they need are up and carry requests, no poison is met, and source and destination do not meet. -/
def Obligations.CopyAndFillWriteTheirRows : Prop :=
  ∀ (s : State) (id : CmdId) (op : Nat) (body : Desc → CopyBody) (row : Instr) (c : Cmd),
    (op = 0x20 ∧ body = copyBody ∧ row = .copy id) ∨ (op = 0x21 ∧ body = fillBody ∧ row = .fill id) →
    s.readyAt id (isOp op) (fun s c => s.copyUnits (body c.desc)) c →
    (∀ l ∈ s.copyLinks (body c.desc), s.linkSecure l = true ∧ s.requestsFail id.ctx l = false) →
    let b := body c.desc
    let srcs := (b.src.map b.extent).toList
    s.regionsBad srcs = false → s.regionsWriteBad [b.extent b.dst] = false →
    srcs.any (b.extent b.dst).meets = false →
    exec row s = .next ((((s.took c).setRows (b.place b.dst) b.dst.addr b.dst.pitch
      ((List.range b.rows).map (s.copyRow b))).askHost id.ctx b).finish id .ok) ∧
    ∀ i, (s.copyRow b i).length = b.len ∧ (∀ e, b.src = some e →
        s.copyRow b i = s.get (b.place e) (e.addr + i * e.pitch) b.len) ∧
      (b.src = none → ∀ k, k < b.len → (s.copyRow b i).getD k 0 = BitVec.ofNat 8 (b.pattern / 256 ^ (k % 8)))

/-- A copy or fill changes no byte of device memory outside its destination rows, however it ends. -/
def Obligations.CopyAndFillLeaveOtherBytes : Prop :=
  ∀ (s t : State) (id : CmdId) (row : Instr) (c : Cmd) (a : Nat), s.memOk = true → s.tabsOk = true →
    s.findCmd id = some c → row = .copy id ∨ row = .fill id → exec row s = .next t →
    let b := if row = .copy id then copyBody c.desc else fillBody c.desc
    (∀ i, i < b.rows → oneSide (b.dst.addr + i * b.dst.pitch) b.len = true ∧
      s.keyed (b.dst.addr + i * b.dst.pitch) b.len = true) →
    (b.extent b.dst).holds .dev a = false → t.devByte a = s.devByte a

/-- BIAS_SET sets every named page to its BIAS, and no other page's changes; while the pages cannot be flushed from host
caches, since their link may carry no request, it waits.

KEY_ROTATE loads a fresh key into the context's slot that is not current, which stays so until the record
is written; while the last rotation is not over it ends with KEY_BUSY and changes nothing. No other
context's keys change. -/
def Obligations.BiasSetAndKeyRotateRun : Prop :=
  (∀ (s : State) (id : CmdId) (c : Cmd), s.tabsOk = true → s.runnable id (isOp 0x22) = some c →
     (s.mayFlush c.desc = true → ∃ t, exec (.biasSet id) s = .next t ∧ s.endsIn t id .ok ∧
       t = { s with cmds := t.cmds, trust := t.trust } ∧ t.trust = { s.trust with bias := t.trust.bias } ∧
       ∀ p, Tab.get false t.trust.bias p =
         if fld c.desc 239 192 / 4096 ≤ p ∧ p ≤ fld c.desc 239 192 / 4096 + fld c.desc 263 240 then flag c.desc 264
         else Tab.get false s.trust.bias p) ∧
     (s.mayFlush c.desc = false → exec (.biasSet id) s = .next s)) ∧
  (∀ (s : State) (id : CmdId) (c : Cmd), s.tabsOk = true → s.runnable id (isOp 0x23) = some c →
     ∃ t, exec (.keyRotate id) s = .next t ∧
       t = { s with cmds := t.cmds, draws := t.draws, pool := { s.pool with keys := t.pool.keys } } ∧
       (∀ x, x ≠ id.ctx → t.keySlots x = s.keySlots x) ∧
       (s.rotating id.ctx = true → s.endsIn t id .keyBusy ∧ t.keySlots id.ctx = s.keySlots id.ctx) ∧
       (s.rotating id.ctx = false → s.endsIn t id .ok ∧
         (t.keySlots id.ctx).current = (s.keySlots id.ctx).current ∧
         (t.keySlots id.ctx).key (1 - (s.keySlots id.ctx).current) = some s.draws ∧
         ((s.keySlots id.ctx).current ≤ 1 → (t.keySlots id.ctx).key (s.keySlots id.ctx).current =
           (s.keySlots id.ctx).key (s.keySlots id.ctx).current) ∧ t.draws = s.draws + 1))

/-! ### Stands -/

/-- A matrix instruction on a free stand of its width runs in one step: without FLIP_AFTER it ends with OK, or
RETRIED_OK after a retry, with it its flip is pending and it stays released. Its stand holds its stationary tile, the
one held already where REUSE names it and otherwise filled from its fields, and every other stand is as it was. Its M by
W results stand row by row in its region of the active set, each the rounded sum of its row and column, taken by its
MODE, in the accumulator format; every other accumulator byte, all of memory and the operand cache are as they were.
Stated where no command has met its operands and a generator record is still what admission checked; otherwise its
region, and no more of the accumulators, is undefined. -/
def Obligations.MatrixInstructionRuns : Prop :=
  ∀ (s : State) (id : CmdId) (c : Cmd) (b : MatBody) (op : Nat) (row : Instr)
    (moving : State → MatBody → List (List FVal)), s.tabsOk = true → s.memOk = true →
    (op = 0x40 ∧ row = .standMatmul id ∧ moving = State.movingRows) ∨
      (op = 0x41 ∧ row = .standMatmulGen id ∧ moving = State.generatedRows) →
    s.standReady id (isOp op) c → matBody c.desc = some b → s.flipWaits b.core = none →
    let x := s.stand b.core
    let tile := s.tileFor b
    let n := accBytes b.fmtAcc
    let a := accBase b.core x.half + 256 * b.accOff
    let rows := moving s b
    ∃ t, exec row s = .next t ∧ t.mem = s.mem ∧ t.host = s.host ∧ t.core = s.core ∧ t.feeder = s.feeder ∧
      (∀ k, k ≠ b.core → t.stand k = s.stand k) ∧
      (t.stand b.core).flipPending = (if b.flip then some id else none) ∧ (t.stand b.core).half = x.half ∧
      (t.findCmd id).map (·.phase) = some (if b.flip then Phase.released else .finished (c.earn .ok)) ∧
      (∀ i, i < a ∨ a + b.m * b.w * n ≤ i → t.acc.byte i = s.acc.byte i) ∧
      (c.spoilt = false → c.fillSpoilt = false → (b.gen = true → (s.genRecord b).ok b.m b.k b.fm.bits = true) →
        (t.stand b.core).tile = some tile ∧
        ∀ i j, i < b.m → j < b.w → ofBytes (t.acc.read (a + (i * b.w + j) * n) n) =
          (accWrite b.fmtAcc b.mode b.seed i j
            (accValue b.fmtAcc (ofBytes (s.acc.read (a + (i * b.w + j) * n) n)))
            (standSum b.cls.p (rows.getD i []) (column tile.vals j)) true).code % 2 ^ (8 * n))

/-- A matrix instruction or a zeroing writes only the active half of its stand's accumulator store: every byte
of every other half, the shadow set's among them, stays. -/
def Obligations.MatrixWritesOnlyTheActiveSet : Prop :=
  ∀ (s t : State) (id : CmdId) (row : Instr) (c : Cmd) (k h a : Nat),
    row = .standMatmul id ∨ row = .standMatmulGen id ∨ row = .standAccZero id → s.findCmd id = some c →
    (s.stand (standCore c.desc)).half ≤ 1 →
    (∀ b, matBody c.desc = some b → 256 * b.accOff + b.m * b.w * accBytes b.fmtAcc ≤ 2 ^ 20) →
    256 * fld c.desc 235 224 + fld c.desc 220 208 * standWidth c.desc * accBytes (fld c.desc 241 240) ≤ 2 ^ 20 →
    exec row s = .next t → h ≤ 1 → a < 2 ^ 20 → (k, h) ≠ (standCore c.desc, (s.stand (standCore c.desc)).half) →
    t.acc.byte (accBase k h + a) = s.acc.byte (accBase k h + a)

/-- FLIP: a flip that is due takes effect once the shadow set is released, on a stand in service whose clock runs: the
halves swap and the instruction that asked for it ends with what it earned; where its data failed or met another
command the tile now in the shadow set is undefined, and with what only its fill read the stand's own tile too.
Until the release it waits, and nothing changes; on a stand retired meanwhile the instruction ends with
UNIT_RETIRED, and the flip of one that has stopped is dropped.

STAND_DRAIN: after a flip since the last release, M rows of the shadow set are converted and written, undefined
where a vector command has met them, and the command ends with OK; where a write would cover part of a poisoned
sector only, it ends with DATA_SUSPECT and what it writes is undefined. Stated where no poison is read and the
rescale record has no reserved bit set.

STAND_ACC: a zeroing makes every byte of its region of the active set 0 and leaves the rest of the accumulator
store; a release releases the shadow set once every earlier drain has its record. -/
def Obligations.FlipDrainZeroAndRelease : Prop :=
  (∀ (s : State) (core : Nat), s.tabsOk = true →
     (∀ c, s.flipWaits core = some c →
       (s.retired (.stand core) = false → c.testing = none → (s.stand core).released = true →
         s.power.clocksStopped = false → s.reloading (.stand core) = false →
         ∃ t, exec (.flip core) s = .next t ∧
           t.cmds = ((s.finish c.id .ok).updCmd c.id fun y => { y with suspect := false }).cmds ∧
           (t.stand core).half = 1 - (s.stand core).half ∧ (t.stand core).released = false ∧
           (t.stand core).flipped = true ∧ (t.stand core).flipPending = none ∧
           ((c.fillSpoilt && c.filled) = false → t.stand core = { s.stand core with
             half := 1 - (s.stand core).half, released := false, flipped := true, flipPending := none }) ∧
           (∀ k, k ≠ core → t.stand k = s.stand k) ∧ t.mem = s.mem ∧ t.core = s.core ∧ t.sync = s.sync ∧
           ((c.fillSpoilt && c.filled) = false → c.suspect = false → c.spoilt = false →
             t = { s with cmds := t.cmds, stands := t.stands })) ∧
       (s.retired (.stand core) = false → (s.stand core).released = false → exec (.flip core) s = .next s) ∧
       (s.retired (.stand core) = true → ∃ t, exec (.flip core) s = .next t ∧ s.endsIn t c.id .unitRetired ∧
         (t.stand core).flipPending = none)) ∧
     (s.flipWaits core = none →
       exec (.flip core) s = .next (s.setStand core { s.stand core with flipPending := none }))) ∧
  (∀ (s : State) (id : CmdId) (c : Cmd) (b : DrainBody),
     s.standReady id (fun d => isOp 0x42 d && (drainBody d).isSome) c → drainBody c.desc = some b →
     (s.stand (standCore c.desc)).flipped = true →
     (b.rescale = true → rescaleBad (s.num (.core b.core) b.rescaleAddr 32) = false) →
     (b.resEn = true → s.regionsBad [.flat b.resPlace b.res (2 * b.m * b.w)] = false) →
     (s.regionsWriteBad b.writes = false →
       exec (.standDrain id) s = .next ((((s.took c).drain c b).spoil c b.writes).finish id .ok)) ∧
     (s.regionsWriteBad b.writes = true →
       exec (.standDrain id) s = .next ((((s.took c).drainPart c b).scrambleAll b.writes).finish id .dataSuspect))) ∧
  (∀ (s : State) (id : CmdId) (c : Cmd), s.memOk = true → s.tabsOk = true →
     (s.standReady id (fun d => isOp 0x43 d && decide (fld d 203 202 = 0)) c →
       s.flipWaits (standCore c.desc) = none →
       let lo := accBase (standCore c.desc) (s.stand (standCore c.desc)).half + 256 * fld c.desc 235 224
       let n := fld c.desc 220 208 * standWidth c.desc * accBytes (fld c.desc 241 240)
       ∃ t, exec (.standAccZero id) s = .next t ∧ s.endsIn t id .ok ∧
         t = { s with cmds := t.cmds, acc := t.acc, turns := t.turns } ∧
         ∀ x, t.acc.byte x = if lo ≤ x ∧ x < lo + n then 0 else s.acc.byte x) ∧
     (s.standReady id (fun d => isOp 0x43 d && decide (fld d 203 202 = 1)) c → s.drainsDone c = true →
       ∃ t, exec (.standAccRelease id) s = .next t ∧ s.endsIn t id .ok ∧
         t = { s with cmds := t.cmds, stands := t.stands, turns := t.turns } ∧
         t.stand (standCore c.desc) = { s.stand (standCore c.desc) with released := true, flipped := false } ∧
         ∀ k, k ≠ standCore c.desc → t.stand k = s.stand k))

/-- A stand command whose width is not its stand's presented width, as on a retired stand, ends with
UNIT_RETIRED and performs no work; the width is compared when its turn comes (log entry 88). -/
def Obligations.WidthMismatchEndsUnitRetired : Prop :=
  ∀ (s : State) (id : CmdId) (c : Cmd),
    s.takesUnit c = true → s.width (standCore c.desc) ≠ standWidth c.desc →
    (s.runnable id (fun d => isOp 0x42 d && (drainBody d).isSome) = some c →
      exec (.standDrain id) s = .next (s.finish id .unitRetired)) ∧
    (s.runnable id (fun d => isOp 0x43 d && decide (fld d 203 202 = 0)) = some c →
      exec (.standAccZero id) s = .next (s.finish id .unitRetired)) ∧
    (s.runnable id (fun d => isOp 0x43 d && decide (fld d 203 202 = 1)) = some c →
      exec (.standAccRelease id) s = .next (s.finish id .unitRetired)) ∧
    (∀ b, matBody c.desc = some b → s.flipWaits (standCore c.desc) = none →
      (s.runnable id (isOp 0x40) = some c → exec (.standMatmul id) s = .next (s.finish id .unitRetired)) ∧
      (s.runnable id (isOp 0x41) = some c → exec (.standMatmulGen id) s = .next (s.finish id .unitRetired)))

/-! ### Vector engines -/

/-- The vector commands on a free engine: each writes the tile, line or rows its body describes and ends with
OK; where a stand command has met it, what it wrote is undefined. -/
def Obligations.VectorCommandsRun : Prop :=
  ∀ (s : State) (id : CmdId) (c : Cmd),
    let unit := fun (_ : State) (c : Cmd) => [UnitId.vector (standCore c.desc)]
    let done := fun (t : State) => (t.spoil c (vectorOutputs c.desc)).finish id .ok
    (∀ b, s.readyAt id (isOp 0x60) unit c → elemBody c.desc = some b →
      exec (.vecElem id) s = .next (done ((s.took c).writeTile id.ctx b.h ((List.range b.h.rows).map fun r =>
        (List.range b.h.cols).map ((s.took c).elemAt b r))))) ∧
    (∀ b, s.readyAt id (isOp 0x61) unit c → reduceBody c.desc = some b →
      exec (.vecReduce id) s = .next (done ((s.took c).reduce id.ctx b))) ∧
    (∀ b, s.readyAt id (isOp 0x62) unit c → softBody c.desc = some b →
      exec (.vecSoftmax id) s = .next (done ((s.took c).softmax id.ctx b))) ∧
    (∀ b, s.readyAt id (isOp 0x63) unit c → convertBody c.desc = some b →
      exec (.vecConvert id) s = .next (done ((s.took c).convert id.ctx b)))

/-- A vector command that targets a retired vector engine ends with UNIT_RETIRED and performs no work; the stand of
that core, and every other unit, stays in service as it was. -/
def Obligations.RetiredVectorEngine : Prop :=
  ∀ (s : State) (id : CmdId) (c : Cmd) (op : Nat) (row : Instr), s.retired (.vector (standCore c.desc)) = true →
    (op, row) ∈ [(0x60, Instr.vecElem id), (0x61, .vecReduce id), (0x62, .vecSoftmax id), (0x63, .vecConvert id)] →
    s.runnable id (isOp op) = some c →
    ∃ t, exec row s = .next t ∧ t = s.finish id .unitRetired ∧
      (s.retired (.stand (standCore c.desc)) = false → t.retired (.stand (standCore c.desc)) = false) ∧
      ∀ u, t.retired u = s.retired u

/-- A vector command changes no byte of device memory and no accumulator: it reads and writes the operand cache
and the tile registers of its own core. -/
def Obligations.VectorCommandsStayInTheirCore : Prop :=
  ∀ (s t : State) (id : CmdId) (row : Instr),
    row = .vecElem id ∨ row = .vecReduce id ∨ row = .vecSoftmax id ∨ row = .vecConvert id →
    exec row s = .next t →
    t.mem = s.mem ∧ t.host = s.host ∧ t.acc = s.acc ∧ t.pool = s.pool ∧ t.stands = s.stands ∧ t.sync = s.sync

/-! ### Embedding engines -/

/-- An install that takes effect makes the record at DESC_ADDR the table's current version: numbered one after
the table's last (1 after 0xFFFF), with its reader object zero, its predecessor no longer current.

A remove leaves its table without the current version it had, and a superseded version whose reader count
is zero is released: it is gone and its release object signalled once. -/
def Obligations.VersionsInstallRemoveAndRelease : Prop :=
  (∀ (s : State) (id : CmdId) (c : Cmd) (row : Instr), s.tabsOk = true →
     (row = .embTableInstall id ∧ s.runnable id (fun d => isOp 0x80 d && !flag d 250) = some c) ∨
       (row = .versionInstallTakesEffect id ∧ s.findCmd id = some c ∧ isOp 0x80 c.desc = true ∧
         flag c.desc 250 = false ∧ s.installDue c = true ∧ s.mayAct (notBefore c.desc, 2) = true ∧
         s.objectGone c.desc = false ∧ s.waitFault c.desc = false) →
     (s.install c).2 = .ok →
     let table := fld c.desc 249 240
     let raw := s.devNum (fld c.desc 239 192) 64
     let num := (s.tableNum id.ctx table).last % 0xFFFF + 1
     (∀ w ∈ s.versions, w.ctx = id.ctx → w.table = table → w.num ≠ num) →
     ∃ t, exec row s = .next t ∧ s.endsIn t id .ok ∧
       (t.findVersion id.ctx table num).map (fun v => (v.raw, v.current, v.release)) = some (raw, true, none) ∧
       (fld c.desc 271 256 ≠ bits raw 239 224 → t.syncObj (bits raw 239 224) = ⟨0, false⟩) ∧
       (∀ v, s.currentVersion id.ctx table = some v → ∀ w ∈ t.versions, v.same w = true →
         w.current = false ∧ w.release = some (fld c.desc 271 256)) ∧
       ∀ w ∈ s.versions, (w.ctx ≠ id.ctx ∨ w.table ≠ table) → w ∈ t.versions) ∧
  ((∀ (s : State) (id : CmdId) (c : Cmd) (v : Version),
     s.runnable id (fun d => isOp 0x80 d && flag d 250) = some c →
     s.currentVersion id.ctx (fld c.desc 249 240) = some v → s.versionsFull id.ctx (fld c.desc 249 240) = false →
     s.isReader (fld c.desc 271 256) = false →
     ∃ t, exec (.embTableRemove id) s = .next t ∧ s.endsIn t id .ok ∧
       (∀ w ∈ t.versions, v.same w = true → w.current = false ∧ w.release = some (fld c.desc 271 256)) ∧
       (∀ w ∈ s.versions, v.same w = false → w ∈ t.versions) ∧
       ((s.syncObj v.reader).value ≠ 0 → t.sync = s.sync ∧ t.versions.length = s.versions.length)) ∧
   (∀ (s : State) (v : Version) (o : Nat), s.tabsOk = true → s.findVersion v.ctx v.table v.num = some v →
     v.current = false → v.release = some o → (s.syncObj v.reader).value = 0 → s.reloadingDie (o / 8192) = false →
     ∃ t, exec (.versionRelease v.ctx v.table v.num) s = .next t ∧
       t = { s with versions := t.versions, sync := t.sync, queues := t.queues } ∧
       t.versions = s.versions.filter (fun w => !v.same w) ∧
       t.syncObj o = ⟨((s.syncObj o).value + 1) % 2 ^ 32, (s.syncObj o).fault⟩ ∧
       ∀ p, p ≠ o → t.syncObj p = s.syncObj p))

/-- EMB_ADMIT's unique list: the rows its list refers to in ascending order without repeats, each with the
number of entries that refer to it. -/
def Obligations.MultiplicitiesCountTheRows : Prop :=
  ∀ l : List (Option (Nat × Bool)),
    (multiplicities l).Pairwise (fun a b => a.1 < b.1) ∧
    (∀ r, (Tab.get (0, false) (multiplicities l) r).1 = (l.filter fun x => decide (x.map (·.1) = some r)).length) ∧
    ∀ r m sub, (r, m, sub) ∈ multiplicities l → 0 < m

/-- An OPEN pass of local tables binds the current versions, counts their readers and works; a later pass of the
batch works on what was bound; EMB_BATCH_CLOSE frees the batch once its earlier commands are over. -/
def Obligations.BatchOpensPassesAndCloses : Prop :=
  ∀ (s : State) (id : CmdId) (c : Cmd),
    (∀ v, s.readyAt id (fun d => isOp 0x81 d && flag d 503) embUnits c →
      let b := admitBody c.desc
      s.installsDue id.ctx = false → (s.took c).openChecks id.ctx b = none →
      (s.took c).holdsNeeded id.ctx b = [] → s.asksOf id = [] →
      s.currentVersion id.ctx b.table = some v →
      let t := (((s.took c).dropAsks id).noteNeeds id).admitBatch id.ctx b []
      t.batches = s.batches ++ [⟨id.ctx, b.bid, (s.bindVersions id.ctx b).map (fun v => (v.table, v.num)), [],
        s.angle, []⟩] ∧
      exec (.embAdmitOpen id) s =
        .next ((t.passWork c b v s.angle).1.finish id (t.passWork c b v s.angle).2)) ∧
    (∀ x v, s.readyAt id (fun d => isOp 0x81 d && !flag d 503) embUnits c →
      let b := admitBody c.desc
      s.batch id.ctx b.bid = some x → s.boundVersion x b.table = some v →
      s.devReadBad b.offsetAddr (4 * (b.bags + 1)) = false → s.offsetsOk b = true →
      (s.reachChecks id.ctx (s.admitExtents b v.desc)).first false = none →
      exec (.embAdmit id) s = .next (((s.took c).passWork c b v x.angle).1.finish id
        ((s.took c).passWork c b v x.angle).2)) ∧
    (∀ b, s.readyAt id (isOp 0x87) (fun _ _ => []) c → s.batchBusy c (fld c.desc 199 192) = false →
      s.batch id.ctx (fld c.desc 199 192) = some b →
      exec (.embBatchClose id) s = .next (((s.took c).closeBatch b).finish id .ok) ∧
      ((s.took c).closeBatch b).batch id.ctx (fld c.desc 199 192) = none)

/-- Prefetch, gather and merge of rows held here, and the combine of merged lists, do their work in the step
they run: each then ends with the status that work gives. Stated where the pass is complete, the checks that it
decides pass and no row has to be asked for. -/
def Obligations.EmbeddingRowWorkRuns : Prop :=
  ∀ (s : State) (id : CmdId) (c : Cmd) (v : Version) (p : Pass), s.asksOf id = [] →
    let s1 := s.took c
    let far := fun (live : Bool) (us : List Nat) =>
      us.filter fun u => (s.entry p u).remote && (live || !(s.entry p u).staged)
    let rowsOf := fun (live : Bool) (us : List Nat) => p.extent :: us.map (s1.rowExtent p v live)
    (s.readyAt id (isOp 0x82) embUnits c → s.passOf id.ctx c.desc = some (v, p) →
      (s.prefetchLate id.ctx c.desc v p).first false = none → far true (prefetchRange c.desc) = [] →
      let r := (s1.noteNeeds id).withPoison (rowsOf true (prefetchRange c.desc))
        [prefetchExtent c.desc v.desc.rowBytes] fun s => s.stage c p v
      exec (.embPrefetch id) s = .next ((r.1.dropAsks id).finish id r.2)) ∧
    (∀ g, s.readyAt id (isOp 0x83) embUnits c → gatherBody c.desc = some g → s.passOf id.ctx c.desc = some (v, p) →
      (s.gatherLate id.ctx g v p).first false = none → far g.live (s.gatherNeeds g p) = [] →
      let r := (s1.noteNeeds id).withPoison (rowsOf g.live (s.gatherNeeds g p))
        (s1.gatherWrites g p v.desc.elems) fun s => s.gather c g p v
      exec (.embGatherPool id) s = .next ((r.1.dropAsks id).finish id r.2)) ∧
    (∀ m, s.readyAt id (isOp 0x84) embUnits c → mergeBody c.desc = some m → s.passOf id.ctx c.desc = some (v, p) →
      (s.mergeLate id.ctx m v p).first false = none →
      s.regionsBad (State.mergeReads m p v.desc.elems) = false →
      s.regionsWriteBad [s.mergeExtent m p v.desc.elems] = false →
      let r := listOf ⟨v.num, v.table, m.out.code, v.desc.elems, 0⟩ m.out m.seed (s.mergeItems m p v.desc.elems)
      exec (.embGradMerge id) s =
        .next (((s1.devWrite m.dest r.1).health id.ctx m.tgroup m.out.code r.2).finish id .ok)) ∧
    (∀ f, s.readyAt id (isOp 0x85) embUnits c → FC.ofCode (fld c.desc 331 328) = some f →
      let out := s.combineExtent c.desc f
      (Checks.all [s.combineHeads c.desc f, s.stackRegion id.ctx out.addr out.n 64,
        s.combineSizes id.ctx c.desc]).first false = none →
      s.regionsBad (.flat .dev (fld c.desc 239 192) (8 * (s.combineLists c.desc).length) ::
        (s.combineLists c.desc).map fun a => Extent.flat .dev a (s.listHead a).size) = false →
      s.regionsWriteBad [out] = false →
      ∃ t, exec (.embGradCombine id) s = .next (t.finish id .ok) ∧ ∃ u k n l,
        t = ((u : State).embCount id.ctx (engineOf c.desc) 10 k).health id.ctx n f.code l ∧
        k = saturatedSums (((s.combineLists c.desc).map s.listItems).flatten) ∧
        u = s1.devWrite out.addr
          (listOf { ((s.combineLists c.desc).head?.map s.listHead).getD ⟨0, 0, 0, 0, 0⟩ with fmt := f.code } f
            (fld c.desc 319 288)
            (combineItems (((s.combineLists c.desc).map s.listItems).flatten))).1)

/-- EMB_REPLICA_FETCH asks the owner for the list's rows; once every row has come they stand in the replica, and a
fingerprint that matches what the owner sent ends it with OK on the first turn and with RETRIED_OK on a later
one. -/
def Obligations.ReplicaFetchAsksAndVerifies : Prop :=
  ∀ (s : State) (id : CmdId) (c : Cmd) (v : Version), s.readyAt id (isOp 0x86) embUnits c →
    let s1 := s.took c
    let a := fld c.desc 239 192
    let rows := s.fetchList v a
    s.currentVersion id.ctx (fld c.desc 281 272) = some v → v.desc.kind = 2 →
    ((Checks.inv (s.listHead a).format.isNone).and (s.stackRegion id.ctx a (s.listHead a).size 1)).first false = none →
    s.devReadBad a (s.listHead a).size = false → s.memberLost v.desc.owner = false →
    (s.reachChecks id.ctx (rows.map fun r => .flat .dev (v.desc.rowAddr r) v.desc.rowBytes)).first false = none →
    (s.asksOf id = [] → exec (.embReplicaFetch id) s = .next (s1.askFetch c v 1 false rows)) ∧
    (∀ last l, (s.asksOf id).getLast? = some last → last.reply = some (.ok, l) → last.turn < 4 →
      rows.length ≤ (((s.asksOf id).filter fun x => decide (x.turn = last.turn)).map (·.rows.length)).sum →
      let t := (s1.landRows v last).noteNeeds id
      (((t.asksOf id).filter fun x => decide (x.turn = last.turn)).head?.any fun x =>
        decide (x.print = t.turnPrint c v last.turn)) = true →
      exec (.embReplicaFetch id) s = .next (((t.endFetch c).markSuspect id.ctx v.table false).finish id
        (if last.turn = 1 then .ok else .retriedOk)))

/-! ### The taproot -/

/-- Schedules: a record installed stands in its slot as it was read at its command's fetch, and the slot keeps the step
size of the stride it finds; a host value is kept for its stride when it comes before the half of the stride before it;
at a stride's start each slot's step size for it is fixed, and it does not change while the stride lasts. -/
def Obligations.SchedulesPublishStepSizes : Prop :=
  ∀ (s : State) (id : CmdId) (c : Cmd),
    let slot := fld c.desc 306 304
    (∀ row, s.tabsOk = true →
      (row = .tapSchedInstall id ∧ s.runnable id (schedOp 0) = some c ∧ s.tapFull c = false ∧
          s.pace.mode.lost = false) ∨
        (row = .scheduleInstallTakesEffect id ∧ s.findCmd id = some c ∧ schedOp 0 c.desc = true ∧
          s.installDue c = true ∧ s.mayAct (notBefore c.desc, 3) = true ∧ s.objectGone c.desc = false ∧
          s.waitFault c.desc = false) →
      ∀ x, c.latch.record = some x →
      ∃ t, exec row s = .next t ∧ s.endsIn t id .ok ∧ t = { s with scheds := t.scheds, cmds := t.cmds } ∧
        (t.sched id.ctx slot).record = [x] ∧
        (t.sched id.ctx slot).host = (s.sched id.ctx slot).host ∧
        (s.pace.mode ≠ .unlocked → gated c.desc = false ∨ notBefore c.desc ≠ strideAngle s.pace.stride →
          ∀ e, (s.sched id.ctx slot).published s.pace.stride = some e →
            (t.sched id.ctx slot).published s.pace.stride = some e)) ∧
    (s.runnable id (schedOp 1) = some c → s.tapFull c = false → s.pace.mode.lost = false →
      let k := fld c.desc 271 240
      let others := (s.sched id.ctx slot).host.filter fun h => decide (h.1 ≠ k)
      (atOrAfter s.angle (mkAngle (k + 2 ^ 32 - 1) 0x8000) = false →
        (mkAngle k 0 - s.angle).toNat ≤ 2 ^ 40 →
        (others.filter fun h => !reached32 s.pace.stride h.1).length < 16 →
        exec (.tapSchedHostStep id) s = .next ((s.setSched id.ctx slot { s.sched id.ctx slot with
          host := others ++ [(k, fld c.desc 303 272)] }).finish id .ok)) ∧
      (atOrAfter s.angle (mkAngle (k + 2 ^ 32 - 1) 0x8000) = true →
        exec (.tapSchedHostStep id) s = .next ((s.tally id.ctx 0x7131 4 1).finish id .invalid))) ∧
    (s.pace.mode ≠ .unlocked → s.mayAct (strideAngle s.pace.stride, 4) = true → s.tabsOk = true →
      ∃ t, exec .strideStepSizePublish s = .next t ∧ t = { s with scheds := t.scheds } ∧
        ∀ ctx k, (t.sched ctx k).latched = ((s.sched ctx k).published s.pace.stride).map (fun e => (s.pace.stride, e)) ∧
          (t.sched ctx k).record = (s.sched ctx k).record ∧
          (t.sched ctx k).published s.pace.stride = (s.sched ctx k).published s.pace.stride)

/-- The taproot commands on a region that may be worked on: an initialisation, an update or its resumption does
its work; a verification whose fingerprint is the header's ends with OK; a snapshot captures what is not yet
captured and clears SNAPSHOT. -/
def Obligations.TaprootCommandsRun : Prop :=
  ∀ (s : State) (id : CmdId) (c : Cmd),
    (∀ kind row work g, (kind = 0 ∧ row = .tapInitCopy id ∧ work = State.initCopy) ∨
        (kind = 1 ∧ row = .tapInitImage id ∧ work = State.initImage) →
      s.tapReady id (fun d => isOp 0xA0 d && decide (fld d 321 320 = kind)) c → s.initGeo c = .ok g →
      s.enginesFree g (List.range g.grains) = true →
      exec row s = .next ((work (s.captureAll g) c g).1.finish id (work (s.captureAll g) c g).2)) ∧
    (∀ resume row work j, (resume = false ∧ row = .tapUpdate id ∧ work = State.runUpdate) ∨
        (resume = true ∧ row = .tapUpdateResume id ∧ work = State.runResume) →
      s.tapReady id (fun d => isOp 0xA1 d && decide (flag d 452 = resume)) c → s.updJob c = .ok (some j) →
      s.enginesFree j.g (j.cover.map (·.1)) = true → s.jobBad c j = false →
      s.journalFull j.g (j.cover.map (·.1)) = false →
      exec row s = .next ((work s c j).1.finish id (work s c j).2)) ∧
    (∀ g h, s.tapReady id (isOp 0xA3) c → c.verifying = false →
      s.openTap c (fun h => if hdrPending h then some .busy else none) = .yes g h →
      (g.r.isTable = true → (s.tapListChecks id.ctx g (fld c.desc 287 240)).first false = none ∧
        s.devReadBad (fld c.desc 287 240) (s.listHead (fld c.desc 287 240)).size = false) →
      s.enginesFree g ((g.cover (s.verifyParams g (fld c.desc 287 240))).map (·.1)) = true →
      ((s.verifyParams g (fld c.desc 287 240)).any fun n => s.devReadBad (g.workAt n) g.size) = false →
      s.printOf g (hdrEpoch h) (s.verifyParams g (fld c.desc 287 240)) = hdrPrint h →
      exec (.tapVerify id) s = .next (s.finish id .ok)) ∧
    (s.runnable id (isOp 0xA4) = some c → s.tapFull c = false →
      let g := s.snapGeo c
      let h := s.tapHeader g.r.hdr
      s.enginesFree g (List.range g.grains) = true → s.snapLost g = false → hdrLost h = false →
      s.regionsBad g.workExtents = false →
      let r := s.capture g c.desc (hdrParity h) ((List.range g.grains).filter (s.uncaptured g h))
      exec (.tapSnapshot id) s =
        .next ((r.1.setHeader g.r.hdr (setBits (r.1.tapHeader g.r.hdr) 259 259 0)).finish id
          (if r.2 then .dataSuspect else .ok)))

/-! ### Collectives and generation sequences -/

/-- A collective that has begun takes its next step as its kind says; a landing of a pass puts the step's data and
tag into the slot and signals LAND_OBJ; a match lets a released collective begin and send its first data. -/
def Obligations.CollectivesStep : Prop :=
  ∀ (s : State) (id : CmdId) (c : Cmd) (x : Coll), s.groupLost c.desc = false → s.collGone c.desc = false →
    (∀ row p (f : State → Cmd → Coll → State × Option Status),
      (row = .collReduceScatter id ∧ p = reduceMode false ∧ f = fun s c x => s.reduceStep c x (collReduceBody c.desc)) ∨
      (row = .collAllReduce id ∧ p = reduceMode true ∧ f = fun s c x => s.reduceStep c x (collReduceBody c.desc)) ∨
      (row = .collGather id ∧ p = isOp 0xC1 ∧ f = fun s c x => s.gatherStep c x (gatherAll c.desc)) ∨
      (row = .collPass id ∧ p = isOp 0xC2 ∧ f = fun s c x => s.passStep c x (passBody c.desc)) ∨
      (row = .collPermute id ∧ p = isOp 0xC3 ∧ f = fun s c x => s.permuteStep c x (permuteBody c.desc)) ∨
      (row = .collListExchange id ∧ p = isOp 0xC4 ∧ f = fun s c x => s.exchangeStep c x (exchangeBody c.desc)) →
      s.collReady id p c x → exec row s = .next (State.ended (f s c x) id)) ∧
    (∀ l, s.collReady id (isOp 0xC2) c x → x.step < (passBody c.desc).steps →
      s.mayLand c x (passBody c.desc) = true → x.stepData (passBody c.desc).recv x.step = some l →
      exec (.collPassLanding id x.step) s = .next ((((s.setColl (x.past x.step)).writeFor id
        ((passBody c.desc).slot x.step) (l.take ((passBody c.desc).n + 8)))).signalObj (passBody c.desc).land 1 false)) ∧
    (s.runnable id isCollective = some c → s.collOf id = some x → x.begun = false →
      exec (.collectiveMatch id) s = .next (State.ended ((s.setColl { x with begun := true }).collStart c) id))

/-- GEN_SEQ on a slot: OPEN latches its fields with POSITION 0; APPEND copies ROWS rows from the core to the
positions from POSITION, which then grows by ROWS; READ copies rows to the core and changes no slot; CLOSE frees
the slot. On a slot that is not open the last three end with INVALID, on another context's with ACCESS_DENIED. -/
def Obligations.GenSeqOpensAppendsReadsCloses : Prop :=
  ∀ (s : State) (id : CmdId) (c : Cmd) (op : Nat) (row : Instr),
    (op, row) ∈ [(0, Instr.genSeqOpen id), (1, .genSeqAppend id), (2, .genSeqRead id), (3, .genSeqClose id)] →
    s.readyAt id (seqOp op) (fun _ _ => []) c →
    s.seqBusy c = false →
    let d := c.desc
    let s1 := s.took c
    let x := s.seqSlot (seqOf d)
    let n := seqRows d
    let k := coreOf (fld d 198 192)
    (op = 0 → x.opened = false → exec row s = .next ((s1.setSeq (seqOf d)
      ⟨true, id.ctx, 0, fld d 297 258, 32 * (fld d 257 251 + 1), fld d 385 338⟩).finish id .ok)) ∧
    (op ≠ 0 → x.opened = false → exec row s = .next (s1.finish id .invalid)) ∧
    (x.opened = true → x.ctx ≠ id.ctx → exec row s = .next (s1.finish id .accessDenied)) ∧
    (x.opened = true → x.ctx = id.ctx →
      (op = 0 → exec row s = .next (s1.finish id .busy)) ∧
      (op = 1 → s.regionsBad [x.entries x.pos n] = false →
        (s.seqChecks id.ctx x x.pos n x.limit (seqCore d)).first false = none →
        s.regionsWriteBad (s.seqExtents x x.pos n) = false →
        exec row s = .next ((((List.range n).foldl (fun (t : State) i => t.devWrite (s.seqAddr x (x.pos + i))
          (s.get (.core k) (seqCore d + i * x.row) x.row)) s1).setSeq (seqOf d) { x with pos := x.pos + n }).finish
            id .ok)) ∧
      (op = 2 → s.regionsBad [x.entries (seqFrom d) n] = false →
        (s.seqChecks id.ctx x (seqFrom d) n x.pos (seqCore d)).first false = none →
        s.regionsBad (s.seqExtents x (seqFrom d) n) = false →
        s.regionsWriteBad [.flat (.core k) (seqCore d) (n * x.row)] = false →
        exec row s = .next (((List.range n).foldl (fun (t : State) i => t.set (.core k) (seqCore d + i * x.row)
          (s.devRead (s.seqAddr x (seqFrom d + i)) x.row)) s1).finish id .ok)) ∧
      (op = 3 → exec row s = .next ((s1.setSeq (seqOf d) SeqSlot.unused).finish id .ok)))

/-! ### From doorbell to record -/

/-- Objects and producer indices: an object has reached a value when the difference modulo 2^32 is below 2^31. A
signal adds its increment modulo 2^32 as one step, on its object alone, and rings the queues whose doorbell the
object is; signals at one object are all applied in whatever order they come; at a Kyoty die that is reloaded they are
held. A doorbell on the function its context is bound to sets the queue's producer index when that has reached the one
held by the same comparison; a lower one changes nothing, and one on another function is discarded and counted; while
the host die is reloaded it waits. -/
def Obligations.SignalsAndDoorbellsCountModulo32 : Prop :=
  (∀ v x : Nat, reached32 v x = true ↔ ((v : Int) - x) % 2 ^ 32 < 2 ^ 31) ∧
  (∀ (s : State) (o inc : Nat) (fault : Bool), s.tabsOk = true → s.reloadingDie (o / 8192) = false →
    (s.signalObj o inc fault).syncObj o =
      ⟨((s.syncObj o).value + inc) % 2 ^ 32, (s.syncObj o).fault || fault⟩ ∧
    (∀ p, p ≠ o → (s.signalObj o inc fault).syncObj p = s.syncObj p) ∧
    (∀ c q, (s.signalObj o inc fault).queue c q =
      if (s.queue c q).dbObj = o then (s.queue c q).ring (((s.syncObj o).value + inc) % 2 ^ 32) else s.queue c q) ∧
    (let t := s.signalObj o inc fault
     t = { s with sync := t.sync, queues := t.queues }) ∧
    ∀ (k : Nat) (other : Bool), ((s.signalObj o inc fault).signalObj o k other).syncObj o =
      ((s.signalObj o k other).signalObj o inc fault).syncObj o) ∧
  (∀ (s : State) (o inc : Nat) (fault : Bool), s.reloadingDie (o / 8192) = true →
    s.signalObj o inc fault =
      { s with server := { s.server with heldSignals := s.server.heldSignals ++ [(o, inc, fault)] } }) ∧
  (∀ (s : State) (link fn ctx queue value : Nat) (secure : Bool), s.linkServes link = true → queue < 16 →
    s.reloadingDie (16 + link / 2) = true →
    exec (.doorbellWrite link fn ctx queue value secure) s =
      .next { s with hostWait := s.hostWait ++ [.doorbell link fn ctx queue value secure] }) ∧
  (∀ (s : State) (link fn ctx queue value : Nat) (secure : Bool), s.tabsOk = true → s.linkServes link = true →
    queue < 16 → s.reloadingDie (16 + link / 2) = false →
    (s.doorbellOk link fn ctx secure = true → (s.queue ctx queue).enabled = true →
      (s.queue ctx queue).dbKind = 0 →
      ∃ t, exec (.doorbellWrite link fn ctx queue value secure) s = .next t ∧ t = { s with queues := t.queues } ∧
        (reached32 (value % 2 ^ 32) (s.queue ctx queue).producer = true →
          t.queue ctx queue = { s.queue ctx queue with producer := value % 2 ^ 32 }) ∧
        (reached32 (value % 2 ^ 32) (s.queue ctx queue).producer = false → t = s) ∧
        ∀ c q, q < 16 → (c, q) ≠ (ctx, queue) → t.queue c q = s.queue c q) ∧
    (s.doorbellOk link fn ctx secure = false →
      exec (.doorbellWrite link fn ctx queue value secure) s = .next (s.bump 0x7600 (17 + link) 1)))

/-- A queue's next descriptor is fetched from its ring slot and becomes the last command, under the next sequence
number: admitted, or finished with the status of its first failing check, or with ABORTED where an abort had named
it. -/
def Obligations.AdmissionFetchesTheNextDescriptor : Prop :=
  ∀ (s : State) (ctx queue : Nat), s.tabsOk = true → s.mayFetch ctx queue = true →
    let x := s.queue ctx queue
    let a := x.ringBase + 64 * (x.next % x.ringSize)
    let d : Desc := BitVec.ofNat 512 (s.devNum a 64)
    let id : CmdId := ⟨ctx, queue, x.next⟩
    s.devReadBad a 64 = false →
    ∃ t c, exec (.descriptorAdmission ctx queue) s = .next t ∧ t.cmds = s.cmds ++ [c] ∧ c.id = id ∧ c.desc = d ∧
      c.retries = 0 ∧ (∀ st, s.admits id d = some st → c.phase = .finished st) ∧
      (s.admits id d = none → c.phase = if s.doomed id then .finished .aborted else .admitted) ∧
      t.queue ctx queue = { x with next := (x.next + 1) % 2 ^ 32 } ∧
      t.mem = s.mem ∧ t.host = s.host

/-- The command at the head of a resident context's queue is released when its gate is open, its wait satisfied
and nothing keyed on an earlier angle is outstanding; with FAULT set on its object it is aborted without
running, a collective's peers told, and one of a retired die's objects ends with UNIT_RETIRED. A release pauses
while the Kyoty die the command is to run on is reloaded (log entry 132).

A released command that is to stop stops at its safe point: its outputs are undefined, and it ends with the first
of UNIT_RETIRED, PACE_LOST, MEMBERSHIP_CHANGED, DATA_SUSPECT and ABORTED that holds there; one that has no safe
point, or is past its last, goes on. A finished one whose record is held ends with ABORTED. -/
def Obligations.ReleaseFollowsGateWaitAndSafePoint : Prop :=
  (∀ (s : State) (ctx queue : Nat) (c : Cmd), s.head ctx queue = some c → s.takesWork = true →
     s.mgmt.stopped = false → s.releases? ctx = true →
     (s.objectGone c.desc = true → exec (.commandRelease ctx queue) s = .next (s.finish c.id .unitRetired)) ∧
     (s.objectGone c.desc = false →
       ((s.gateOpen c.desc = false ∨ s.waitMet c.desc = false ∨ s.inTurn c = false ∨ s.releasePaused c.desc = true) →
         exec (.commandRelease ctx queue) s = .next s) ∧
       (s.gateOpen c.desc = true → s.waitMet c.desc = true → s.inTurn c = true → s.releasePaused c.desc = false →
         (s.waitFault c.desc = true →
           exec (.commandRelease ctx queue) s = .next ((s.cancelPeers c).finish c.id .aborted)) ∧
         (s.waitFault c.desc = false → exec (.commandRelease ctx queue) s = .next (s.released c))))) ∧
  (∀ (s : State) (id : CmdId) (c : Cmd), s.findCmd id = some c → c.abortReq = true →
     let stop := fun (t : State) (st : Status) =>
       t.updCmd id fun x => { x with phase := Phase.finished st, testing := none }
     let tap := s.tapStop c
     let gone := (s.unitsFor c).any s.retired = true ∨ s.collGone c.desc = true ∨ tap = some .unitRetired
     let lost := c.needs.any s.memberGone = true
     let bad := c.suspect = true ∨ tap = some .dataSuspect
     (c.phase = .released →
       (c.testing = none → s.tapIdle c = false → (noSafePoint c.desc = true ∨ s.pastSafe c = true) →
         exec (.safePointAbort id) s = .next s) ∧
       ((c.testing ≠ none ∨ s.tapIdle c = true ∨ (noSafePoint c.desc = false ∧ s.pastSafe c = false)) →
         (gone → exec (.safePointAbort id) s = .next (stop (s.stopWork c) .unitRetired)) ∧
         (¬ gone → tap = some .paceLost → exec (.safePointAbort id) s = .next (stop (s.stopWork c) .paceLost)) ∧
         (¬ gone → tap ≠ some .paceLost → lost → ∃ t, exec (.safePointAbort id) s = .next t ∧
           t = (if isCollective c.desc then
               (stop (s.stopWork c) .membershipChanged).tally id.ctx 0x7140 25 1
             else stop (s.stopWork c) .membershipChanged)) ∧
         (¬ gone → tap ≠ some .paceLost → ¬ lost → bad →
           exec (.safePointAbort id) s = .next (stop (s.stopWork c) .dataSuspect)) ∧
         (¬ gone → tap ≠ some .paceLost → ¬ lost → ¬ bad →
           exec (.safePointAbort id) s = .next (stop (s.stopWork c) .aborted)))) ∧
     (∀ st, c.phase = .finished st → st ≠ .aborted →
       (s.recordFree id.ctx id.queue = true → exec (.safePointAbort id) s = .next s) ∧
       (s.recordFree id.ctx id.queue = false → c.rank = 0 → exec (.safePointAbort id) s = .next (stop s .aborted)) ∧
       (s.recordFree id.ctx id.queue = false → 0 < c.rank →
         let t := ((s.cancelPeers c).tapUndone id).seqUndone c
         exec (.safePointAbort id) s = .next (stop (t.scrambleAll (t.outputs c)) .aborted))))

/-- The completion record is 16 bytes: the angle, the retries up to 255, the status, the opcode, the queue, the
phase and the sequence number, each in its place, the reserved bits 0.

A finished command whose record may be written is complete: its record stands in the next slot of its ring,
its queue has moved on by one slot with the phase inverted at the ring's end, its signal and interrupt follow, and
the command is gone. -/
def Obligations.CompletionRecordsCompleteCommands : Prop :=
  (∀ (s : State) (c : Cmd) (st : Status), c.id.queue < 16 → (s.queue c.id.ctx c.id.queue).phase ≤ 1 →
     (s.recordOf c st).length = 16 ∧
     let x := ofBytes (s.recordOf c st)
     bits x 31 0 = c.id.seq % 2 ^ 32 ∧ bits x 32 32 = (s.queue c.id.ctx c.id.queue).phase ∧ bits x 43 33 = 0 ∧
       bits x 47 44 = c.id.queue ∧ bits x 55 48 = opcode c.desc ∧ bits x 63 56 = st.code ∧
       bits x 71 64 = min 255 c.retries ∧ bits x 79 72 = 0 ∧ bits x 127 80 = s.angle.toNat) ∧
  (∀ (s : State) (id : CmdId) (c : Cmd) (st : Status), s.tabsOk = true → s.findCmd id = some c →
     c.phase = .finished st → s.pins.ready = true → s.mgmt.stopped = false →
     s.recordFree id.ctx id.queue = true → s.framesHeld c = false →
     let x := s.queue id.ctx id.queue
     let u := s.recordOutputs c st
     let r := u.putRecord c st
     let n := (x.slot + 1) % 2 ^ 32
     let slot := x.compBase + 16 * (x.slot % x.compSize)
     let v := (u.passBytes id.ctx x.cqHead 4 false).passBytes id.ctx slot 16 true
     r = { v.devWrite slot (s.recordOf c st) with queues := r.queues } ∧
     r.queue id.ctx id.queue = { x with slot := n, phase := if n % x.compSize = 0 then 1 - x.phase else x.phase } ∧
     ∃ t, exec (.completionRecordWrite id) s = .next t ∧ t.findCmd id = none ∧
       t = ((((r.recordEffects c st).signalFor c st).interruptFor c).leave c st))

/-! ### Contexts -/

/-- Residency: a waiter that may enter takes the lowest free slot; a context whose quantum or deadline is over, or
that makes room, is marked or begins to leave; one that leaves with nothing running crosses the firebreak and is no
longer resident; a drain that takes too long stops the context's commands. No other context's slot changes. -/
def Obligations.ContextsEnterAndLeave : Prop :=
  ∀ (s : State) (ctx : Nat), s.tabsOk = true →
    (∀ k l, s.freeSlots = k :: l → s.isWaiting ctx = true → s.mayEnter ctx = true →
      (s.earlier ctx).any s.mayEnter = false →
      ∃ t, exec (.contextResident ctx) s = .next t ∧ (t.ctx ctx).slot = some k ∧ (t.ctx ctx).since = s.now ∧
        (t.ctx ctx).leaving = false ∧ (∀ c, c ≠ ctx → t.ctx c = s.ctx c) ∧ t.mem = s.mem ∧ t.cmds = s.cmds) ∧
    (ctx ∈ s.evictions → (s.ctx ctx).leaving = false → exec (.contextEvict ctx) s =
      .next (s.setCtx ctx { s.ctx ctx with leaving := true, leaveAt := s.now, drained := false })) ∧
    (s.resident ctx = true → s.objv (0x6000 + ctx) 8 ≠ 0 →
      (s.ctx ctx).since + 1000 * s.objv (0x6000 + ctx) 8 ≤ s.now →
      exec (.quantumExpiry ctx) s = .next (s.setCtx ctx { s.ctx ctx with quantum := true })) ∧
    (∀ a ∈ (s.ctx ctx).yieldAt, s.resident ctx = true → (s.ctx ctx).leaving = false →
      (s.pace.mode.running = false ∨ (atOrAfter s.angle a = true ∧ s.mayAct (a, 10) = true)) →
      exec (.preemptionDeadline ctx) s =
        .next (s.setCtx ctx { s.ctx ctx with leaving := true, leaveAt := s.now, drained := false })) ∧
    (s.resident ctx = true → (s.ctx ctx).leaving = true → s.stillRuns ctx = false → s.grantTested ctx = false →
      ∃ t, exec (.contextLeave ctx) s = .next t ∧ t.resident ctx = false ∧ (t.ctx ctx).leaving = false ∧
        (∀ c, c ≠ ctx → t.ctx c = s.ctx c) ∧ t.cmds = s.cmds ∧
        ∀ k ∈ s.grantCores ctx, (t.stand k) = { Stand.fresh with half := (s.stand k).half }) ∧
    ((s.ctx ctx).leaving = true → (s.ctx ctx).leaveAt + 1000 * s.objv 0x6101 1 ≤ s.now →
      ∃ t, exec (.drainUsExpiry ctx) s = .next t ∧ (t.ctx ctx).drained = true ∧
        (∀ x ∈ s.cmds, x.id.ctx = ctx → 0 < x.rank → x.phase ≠ .admitted → { x with abortReq := true } ∈ t.cmds) ∧
        ∀ x ∈ s.cmds, x.id.ctx ≠ ctx → x ∈ t.cmds)

/-! ### The stride angle -/

/-- A boundary of the active source steps the angle to phase 0 of the next stride where it comes at or above
phase 0xF000 and in time, from the pins or from a pace word; below that phase it is a glitch, and neither the
angle nor the state of the pace unit changes before the fourth in a row. -/
def Obligations.ActiveBoundaryStepsTheAngle : Prop :=
  ∀ (s : State) (row : Instr) (late : Nat),
    (row = .paceBoundary ∧ s.pace.source = 1 ∧ late = 0) ∨
      (∃ port word, row = .paceWord port word ∧ s.pace.source = 2 ∧ s.portUp port = true ∧
        bits word.toNat 71 68 ≤ 8 ∧ s.pace.lastWord ≠ some (bits word.toNat 127 96) ∧
        late = bits word.toNat 95 72 + (Tab.get Port.down s.ports port).delay) ∨
      (row = .localGeneratorBoundary ∧ s.pace.source = 3 ∧ 3 ∈ s.sourceList ∧ late = 0) →
    s.pins.resetN = true → s.pace.mode = .locked → s.pace.pendCount = none →
    (0xF000 ≤ s.pace.phase → 16 * (s.now - late - s.pace.lastEdge) ≤ 17 * s.pace.that →
      ∃ t, exec row s = .next t ∧ t.pace.mode = .locked ∧ t.pace.stride = (s.pace.stride + 1) % 2 ^ 32 ∧
        t.pace.t64 = 64 * late ∧ t.pace.lastEdge = s.now - late ∧ t.pace.glitchRun = 0 ∧
        (late = 0 → t.angle = mkAngle (s.pace.stride + 1) 0) ∧ t.mem = s.mem) ∧
    (s.pace.phase < 0xF000 → s.pace.glitchRun ≠ 3 → s.pace.lastEdge ≠ s.now - late →
      ∃ t, exec row s = .next t ∧ t.angle = s.angle ∧ t.pace.mode = .locked ∧
        t.pace.glitches = s.pace.glitches + 1 ∧ t.pace.glitchRun = s.pace.glitchRun + 1 ∧ t.cmds = s.cmds)

/-- From UNLOCKED the local generator locks at its first boundary, at its own count, where no source above it is valid.

Of the pace words of one boundary the one with fewer hops, or as many on a lower port, is selected and times the
boundary where it is followed; a word of more than eight hops, or on a port out of service, changes nothing. -/
def Obligations.LocalGeneratorAndPaceWords : Prop :=
  (∀ s : State, 3 ∈ s.sourceList → s.pins.resetN = true → s.pace.mode = .unlocked → s.pace.pendCount = none →
     (∀ b ∈ s.sourceList, s.outranks b 3 = true → s.sourceLive b = false) →
     ∃ t, exec .localGeneratorBoundary s = .next t ∧ t.pace.mode = .locked ∧ t.pace.source = 3 ∧
       t.pace.stride = s.pace.genCount % 2 ^ 32 ∧ t.pace.genCount = (s.pace.genCount + 1) % 2 ^ 32 ∧
       t.angle = mkAngle s.pace.genCount 0) ∧
  (∀ (s : State) (port : Nat) (word : BitVec 128),
     let hops := bits word.toNat 71 68
     ((s.portUp port = false ∨ 8 < hops) → exec (.paceWord port word) s = .next s) ∧
     (s.portUp port = true → hops ≤ 8 → s.pace.lastWord = some (bits word.toNat 127 96) →
       (¬ (hops < s.pace.hop ∨ (hops = s.pace.hop ∧ port < s.pace.port)) → exec (.paceWord port word) s = .next s) ∧
       ((hops < s.pace.hop ∨ (hops = s.pace.hop ∧ port < s.pace.port)) →
         ∃ t, exec (.paceWord port word) s = .next t ∧ t.pace.hop = hops ∧ t.pace.port = port ∧
           t.pace.origin = bits word.toNat 15 0 ∧ t.pace.stride = s.pace.stride ∧ t.pace.mode = s.pace.mode ∧
           (s.pace.source = 2 → s.pace.mode = .locked → (s.pace.times 2).getLast? = some s.pace.lastEdge →
             t.pace.lastEdge = s.now - (bits word.toNat 95 72 + (s.port port).delay)))))

/-- Losing the source: in LOCKED a boundary that does not come by 1.0625 periods, or the pins' lost signal, begins
HOLDOVER; there each period ends a stride, and at the limit the pace is EXPIRED, every gated command not released
ends with PACE_LOST and the maintenance windows close; another source whose boundary agrees is adopted, and one
that does not is recorded. -/
def Obligations.HoldoverAndExpiry : Prop :=
  ∀ s : State,
    (s.pace.mode = .locked → 17 * s.pace.that ≤ 16 * (s.now - s.pace.lastEdge) →
      ∃ t, exec .paceSourceLost s = .next t ∧ t.pace.mode = .holdover ∧
        t.pace.stride = (s.pace.stride + 1) % 2 ^ 32 ∧ t.pace.t64 = 4 * s.pace.that + 63) ∧
    (s.pace.mode = .locked → s.pace.source = 1 →
      ∃ t, exec .paceSignalLost s = .next t ∧ t.pace.mode = .holdover ∧ t.pace.signal = false ∧
        t.angle = s.angle) ∧
    ((s.pace.mode = .holdover ∨ s.pace.mode = .expired) → 0 < s.pace.that → 64 * s.pace.that ≤ s.pace.t64 →
      ∃ t, exec .holdoverBoundary s = .next t ∧ t.mem = s.mem ∧ t.pace.mode = s.pace.mode ∧
        t.pace.stride = (s.pace.stride + 1) % 2 ^ 32 ∧ t.pace.t64 = s.pace.t64 - 64 * s.pace.that) ∧
    (s.pace.mode = .holdover →
      atOrAfter s.angle (strideAngle (s.pace.lastStride + 1 + s.objv 0x5104 0)) = true →
      ∃ t, exec .holdoverExpiry s = .next t ∧ t.pace.mode = .expired ∧ t.angle = s.angle ∧
        t.windows = List.replicate 8 false ∧ ∀ x ∈ t.cmds, x.phase = .admitted → gated x.desc = false) ∧
    (∀ source count, s.pins.resetN = true → s.pace.mode = .holdover → source ∈ s.sourceList →
      source ≠ s.pace.source → ({ s with pace := s.pace.note source s.now } : State).highestSource source = true →
      (source = 1 ∨ count.toNat = s.pace.nearStride 0) → (s.pace.offset 0).natAbs ≤ 2000 →
      ∃ t, exec (.sourceAdoption source count) s = .next t ∧ t.pace.mode = .locked ∧ t.pace.source = source)

/-- A maintenance window that the angle is in opens where the angle runs, and closes once the angle has left it;
no other window changes.

An edge on PPS_IN applies a loaded second; without one it steps the calendar to a whole second that lies within
100 µs; a farther edge is rejected and counted, and after three in a row the next is the new reference, for
the whole second nearest the calendar: the model's choice (log entry 82). -/
def Obligations.WindowsAndCalendarEdges : Prop :=
  (∀ (s : State) (w : Nat), w < s.windows.length → w < 8 →
     (s.pace.mode.running = true → s.inWindow w = true → s.mayAct (s.windowStart w (s.windowTurn w), 9) = true →
       ∃ t, exec (.maintenanceWindowOpen w) s = .next t ∧ t = { s with windows := t.windows } ∧
         t.windows[w]? = some true ∧ ∀ v, v ≠ w → t.windows[v]? = s.windows[v]?) ∧
     (s.inWindow w = false → s.windows[w]? = some true → s.mayAct (s.windowEnd w, 8) = true →
       ∃ t, exec (.maintenanceWindowClose w) s = .next t ∧
         t = { s with windows := t.windows, windowMark := t.windowMark } ∧
         t.windows[w]? = some false ∧ (∀ v, v ≠ w → t.windows[v]? = s.windows[v]?) ∧
         ∀ v, v ≠ w → t.windowMark[v]? = s.windowMark[v]?)) ∧
  (∀ s : State,
     let sec := 1000000000
     let near := (s.cal.ns + sec / 2) / sec * sec
     let off := (s.cal.ns - near) + (near - s.cal.ns)
     (∀ v, s.cal.pend = some v → ∃ t, exec .ppsInEdge s = .next t ∧ t = { s with cal := t.cal } ∧
       t.cal.ns = v * sec % 2 ^ 64 ∧ t.cal.pend = none ∧ t.cal.free = false) ∧
     (s.cal.pend = none → off ≤ 100000 → ∃ t, exec .ppsInEdge s = .next t ∧ t = { s with cal := t.cal } ∧
       t.cal.ns = near % 2 ^ 64 ∧ t.cal.rejects = 0) ∧
     (s.cal.pend = none → 100000 < off → s.cal.rejects < 3 → ∃ t, exec .ppsInEdge s = .next t ∧
       t.cal = { s.cal with rejects := s.cal.rejects + 1 }) ∧
     (s.cal.pend = none → 100000 < off → 3 ≤ s.cal.rejects → ∃ t, exec .ppsInEdge s = .next t ∧
       t.cal.ns = near % 2 ^ 64 ∧ t.cal.rejects = 0))

/-! ### Frames -/

/-- A frame in the inbox that asks for something is served: a SIGNAL on an object of its context is applied and on
another's refused, an ABORT_NOTICE reaches its targets, a PREEMPT_NOTICE makes the context yield, a request for
rows, bytes or a replica's rows is answered from here, a hold counts a reader, and bytes written land in the
context's memory. In each case the frame has left the inbox. A frame whose accesses are not served yet stays. -/
def Obligations.RequestFramesAreServed : Prop :=
  ∀ (s : State) (k : Nat) (f : Frame), s.inbox[k]? = some f →
    let u := ({ s with inbox := dropAt s.inbox k } : State).unstage f
    let x := ofBytes (f.body.take 8)
    let o := f.addr % 65536
    let rd := oneAccess f.addr (ofBytes f.body) false
    let wr := oneAccess f.addr f.body.length true
    (f.kind = 0x01 →
      (u.owner o = f.ctx → u.syncDead o = false →
        exec (.signal k) s = .next (u.signalObj o (bits x 31 0) (x.testBit 40))) ∧
      (u.owner o ≠ f.ctx → exec (.signal k) s = .next (u.sendRefused f .accessDenied)) ∧
      (u.owner o = f.ctx → u.syncDead o = true → exec (.signal k) s = .next (u.sendRefused f .unitRetired))) ∧
    (∀ l, f.kind = 0x02 → u.isDefined f.ctx = true → bits x 39 32 < 16 →
      u.abortSet f.ctx (bits x 39 32) (bits x 31 0) (u.queue f.ctx (bits x 39 32)).producer (x.testBit 40) none =
        .targets l →
      exec (.abortNotice k) s = .next { u.abortTargets l with
        notices := u.notices ++ [⟨f.src, f.ctx, bits x 39 32, bits x 31 0, f.tag, l, false⟩] }) ∧
    (f.kind = 0x03 → exec (.preemptNotice k) s = .next (u.yieldCtx f.ctx (u.nearestAngle (bits x 63 32)))) ∧
    (f.kind = 0x10 →
      (s.serves (s.rowsAccess f) = true → exec (.rowRequest k) s = .next ((u.payFor (s.rowsAccess f)).serveRows f)) ∧
      (s.serves (s.rowsAccess f) = false → exec (.rowRequest k) s = .next s)) ∧
    (f.kind = 0x11 → exec (.hold k) s = .next (u.applyHold f)) ∧
    (f.kind = 0x12 →
      let v := u.payFor rd
      (s.serves rd = false → exec (.readRequest k) s = .next s) ∧
      (s.serves rd = true → v.inStack f.addr (ofBytes f.body) = true →
        v.ctxMem f.ctx f.addr (ofBytes f.body) = true → v.devReadBad f.addr (ofBytes f.body) = false →
        exec (.readRequest k) s =
            .next (State.sendRead f (ofBytes f.body / frameRoom + 1) f.addr (ofBytes f.body) v) ∧
          (ofBytes f.body ≤ frameRoom → exec (.readRequest k) s = .next (v.sendFrame
            (v.mkFrame 0x31 f.ctx f.src f.tag f.addr (v.devRead f.addr (ofBytes f.body))))))) ∧
    (f.kind = 0x13 →
      (s.serves (s.fetchAccess f) = true → exec (.fetchRequest k) s = .next ((u.payFor (s.fetchAccess f)).onFetch f)) ∧
      (s.serves (s.fetchAccess f) = false → exec (.fetchRequest k) s = .next s)) ∧
    (f.kind = 0x31 →
      let v := u.payFor wr
      (s.serves wr = false → exec (.readReply k) s = .next s) ∧
      (s.serves wr = true → v.inStack f.addr f.body.length = true →
        v.ctxMem f.ctx f.addr f.body.length = true → v.devWriteBad f.addr f.body.length = false →
        exec (.readReply k) s = .next (v.devWrite f.addr f.body)))

/-- A frame that answers reaches what waits for it: the rows of a request go to the request, a refusal gives its
status, or ACCESS_DENIED in place of one its operation has no use for, to the request or to the abort that was sent,
a collective's frame joins its step or stays, and NO_ROUTE marks its destination unreachable. -/
def Obligations.AnswerFramesReachTheirRequest : Prop :=
  ∀ (s : State) (k : Nat) (f : Frame) (a : Ask), s.inbox[k]? = some f →
    let u := ({ s with inbox := dropAt s.inbox k } : State).unstage f
    let y := ofBytes (f.body.take 5)
    let got := fun (t : State) (st : Status) (l : List Byte) => a ∈ s.asks → a.sent = true → a.reply = none →
      a.member = f.src → { a with reply := some (st, l) } ∈ t.asks
    (a.tag = f.tag →
      (f.kind = 0x30 → ∃ t, exec (.rowReply k) s = .next t ∧ t = { u with asks := t.asks } ∧ got t .ok f.body) ∧
      (f.kind = 0x32 → ∃ t, exec (.fetchRows k) s = .next t ∧ t = { u with asks := t.asks } ∧ got t .ok f.body)) ∧
    (∀ st, f.kind = 0x34 → Status.ofCode (bits y 39 32) = some st → a.tag = bits y 31 0 → a ∈ s.asks → a.sent = true →
      a.reply = none → a.member = f.src → ∃ t, exec (.refusedFrame k) s = .next t ∧ t = { u with asks := t.asks } ∧
        got t (orDenied [.ok, .unitRetired, .busy, .invalid, .membershipChanged, .dataSuspect] st) []) ∧
    (∀ st w, f.kind = 0x34 → Status.ofCode (bits y 39 32) = some st →
      (∀ b ∈ s.asks, b.tag ≠ w.tag) → w.tag = bits y 31 0 →
      s.abortWaits.find? (fun z => decide (z.tag = w.tag ∧ z.remote = some f.src)) = some w →
      ∃ t, exec (.refusedFrame k) s = .next t ∧
        (∀ c, s.findCmd w.id = some c →
          (c.phase = .released → s.endsIn t w.id (orDenied [.ok, .alreadyComplete, .invalid, .membershipChanged] st)) ∧
          (c.phase ≠ .released → t.cmds = s.cmds)) ∧
        ∀ z ∈ t.abortWaits, z.id ≠ w.id) ∧
    (f.kind = 0x20 → (∀ t, u.takeColl f = some t → exec (.collective k) s = .next t) ∧
      (u.takeColl f = none → exec (.collective k) s = .next s)) ∧
    (f.kind = 0x33 → ∃ t, exec (.noRoute k) s = .next t ∧ t.inbox = u.inbox ∧
      bits (ofBytes (f.body.take 6)) 47 32 ∈ t.membership.unreachable)

/-! ### Carust links -/

/-- A data fragment that comes in order, on a port in service with a partner of this job, is taken: the next SEQ is
expected, and a frame it completes arrives; one out of order, of a bad header or of another length than its header
gives, or whose codeword was uncorrectable, is discarded with one NAK that names the SEQ expected.

NAK and the replay timeout send the held fragments again, from the SEQ named or all of them, where the partner
is not foreign; a control fragment with a good header delivers its acknowledgement and credits, and one with a bad
header or of a reserved type is counted. -/
def Obligations.FragmentsInOrderAndReplayed : Prop :=
  (∀ (s : State) (port : Nat) (hdr : BitVec 64) (payload : List Byte) (good : Bool), s.tabsOk = true →
     s.portUp port = true → s.portUsable port = true →
     let h := hdr.toNat
     let x := s.port port
     let key := bits h 19 18 * 256 + bits h 27 20
     let l := if h.testBit 17 then payload else (Tab.get ([], 0) x.partial_ key).1 ++ payload
     let fits := headerOk h = true ∧ h.testBit 11 = false ∧ payload.length = 16 * (bits h 15 12 + 1) ∧
       bits h 63 52 = x.recvSeq
     (good = true → fits →
       ∃ u n, (u.port port).recvSeq = (x.recvSeq + 1) % 4096 ∧ (u.port port).nakked = false ∧
         (s.backlog = [] → u.inbox = s.inbox ∧ u.membership = s.membership) ∧
         (h.testBit 16 = false → exec (.dataFragment port hdr payload good) s = .next u) ∧
         (h.testBit 16 = true → ∀ f, parseFrame (bits h 19 18) port l = some f →
           exec (.dataFragment port hdr payload good) s = .next (u.arrive port { f with frags := n }) ∧
           (f.dst = u.membership.self → (kindClass f.kind).isSome = true → u.acceptsFrame f = true →
             (u.arrive port { f with frags := n }).inbox = u.inbox ++ [{ f with frags := n }]))) ∧
     ((good = false ∨ ¬ fits) →
       ∃ t, exec (.dataFragment port hdr payload good) s = .next t ∧ t.inbox = s.inbox ∧
         (t.port port).recvSeq = x.recvSeq ∧ (t.port port).nakked = true ∧
         t.out = s.out ++ (if x.nakked then [] else [.control port 0x03 [x.controlHeader 0x03, x.recvSeq]]))) ∧
  (∀ (s : State) (port : Nat), s.portUp port = true →
     let x := s.port port
     let again := fun (l : List Frag) => l.map fun f => Output.fragment port (dataHeader f x.ack 0 0) f.payload
     (s.portUsable port = true →
       (∀ body : BitVec 128, ∀ i, x.replay.findIdx? (fun f => decide (f.seq = bits body.toNat 11 0)) = some i →
         ∃ t, exec (.nak port body) s = .next t ∧ t.out = s.out ++ again (x.replay.drop i) ∧ t.ports = s.ports) ∧
       ∃ t, exec (.replayTimeout port) s = .next t ∧ t.out = s.out ++ again x.replay ∧ t.ports = s.ports) ∧
     (s.portUsable port = false → exec (.replayTimeout port) s = .next s ∧
       ∀ body : BitVec 128, exec (.nak port body) s = .next s) ∧
     (∀ hdr : BitVec 64,
       (headerOk hdr.toNat = true → hdr.toNat.testBit 11 = true →
         (bits hdr.toNat 59 52 ≤ 0x06 →
           exec (.fillControlFragment port hdr) s = .next (s.applyHeader port hdr.toNat)) ∧
         (0x06 < bits hdr.toNat 59 52 →
           exec (.fillControlFragment port hdr) s = .next ((s.countDrop port).applyHeader port hdr.toNat))) ∧
       ((headerOk hdr.toNat = false ∨ hdr.toNat.testBit 11 = false) →
         exec (.fillControlFragment port hdr) s = .next (s.countDrop port))))

/-- The control fragments of a port in service: HELLO records the partner; the HELLO timer sends this device's; a
BEACON of the same epoch with another digest splits the member; an ECHO request is answered with the times, and the
reply to this port's own gives its delay; LANE is answered and the change noted, or confirmed by its answer, and a
confirmed change takes effect at its codeword. -/
def Obligations.PortControlFragments : Prop :=
  ∀ (s : State) (port : Nat) (body : BitVec 128), s.tabsOk = true → s.portUp port = true →
    let b := body.toNat
    let x := s.port port
    (∃ t, exec (.hello port body) s = .next t ∧
      (t.port port).partner =
        some ⟨bits b 31 16, bits b 127 96, bits b 15 8, bits b 95 64, bits b 63 32, bits b 7 0⟩ ∧
      (s.waiting = [] → s.backlog = [] → ∀ q, q ≠ port → t.port q = s.port q)) ∧
    (∃ t, exec (.helloTimer port) s = .next t ∧ t = { s with ports := t.ports, out := t.out } ∧
      t.port port = x.creditsSent ∧
      t.out = s.out ++ [.control port 0x01 [x.controlHeader 0x01, s.helloOf port]]) ∧
    (bits b 127 96 = s.membership.epoch → bits b 95 64 ≠ s.membership.digest →
      ∃ t, exec (.beacon port body) s = .next t ∧ bits b 63 48 ∈ t.membership.split ∧
        t.membership.members = s.membership.members ∧ ∀ m ∈ s.membership.split, m ∈ t.membership.split) ∧
    (s.portOpen port = true →
      (∃ t, exec (.echo port false body) s = .next t ∧ t.out = s.out ++ [.control port 0x06
        [x.controlHeader 0x06,
          bits b 127 96 * 2 ^ 96 + s.now % 2 ^ 32 * 2 ^ 64 + s.now % 2 ^ 32 * 2 ^ 32]]) ∧
      (x.echo = some (bits b 127 96) → x.ready = none → ∃ t, exec (.echo port true body) s = .next t ∧
        t.port port = { x with
          delay := ((s.now + 2 ^ 32 - bits b 127 96) % 2 ^ 32 - (bits b 63 32 + 2 ^ 32 - bits b 95 64) % 2 ^ 32) / 2
          echo := none })) ∧
    (b.testBit 18 = false → ∃ t, exec (.lane port body) s = .next t ∧
      (t.port port).changes = x.changes ++ [⟨bits b 7 0, s.cwNext port (bits b 17 8), true⟩] ∧
      ∃ h, t.out = s.out ++ [.control port 0x04 [h, bits b 17 0 + 2 ^ 18 + b2n (b.testBit 19) * 2 ^ 19]]) ∧
    (b.testBit 18 = true → exec (.lane port body) s = .next (s.setPort port { x with
      changes := x.changes.map fun c =>
        if c.mask = bits b 7 0 ∧ c.due % 1024 = bits b 17 8 then { c with confirmed := true } else c })) ∧
    (∀ i c, s.laneDue port = some i → x.changes[i]? = some c → 4 ≤ laneCount (c.mask &&& s.goodLanes port) →
      ∃ t, exec (.laneWidthChange port) s = .next t ∧
        t.port port = { x with
          mask := c.mask
          changes := x.changes.drop (i + 1)
          codewords := s.cwTotal port
          cwAt := s.now }) ∧
    (s.laneDue port = none → exec (.laneWidthChange port) s = .next s)

/-- Training: once every lane not retired has trained, or after 500 ms four or more, an enabled port asks ECHO, and
comes up at its answer with the delay it gives, the credits the partner grants, and the stored credit split where it
sums to 65,280; with fewer lanes it stays down and, after the timeout, does not try again for a second.

A lane that makes errors is left out and asked to be tested, and retired at its fourth trigger within an hour; below
its limit its symbols are only counted. -/
def Obligations.PortsTrainAndNarrow : Prop :=
  ∀ (s : State) (port g1 g2 : Nat), s.tabsOk = true →
    (∀ lanes : BitVec 8,
      let m := lanes.toNat &&& s.goodLanes port
      let x := s.port port
      let now := s.now % 2 ^ 32
      let old := ∃ t ∈ x.trainStart, t + 500000000 ≤ s.now
      (s.mayTrain port = true →
        (∀ row, x.ready = none →
            (row = .portTraining port ⟨lanes, g1, g2⟩ ∧ m = s.goodLanes port ∧ ∀ t ∈ x.trainStart, t ≤ s.now) ∨
              (row = .portTrainingTimeout port ⟨lanes, g1, g2⟩ ∧ 4 ≤ laneCount m ∧ old) →
          ∃ t, exec row s = .next t ∧ (t.port port).up = false ∧ (t.port port).echo = some now ∧
            (∃ r, (t.port port).ready = some r ∧ r.lanes.toNat = m ∧ r.g1 = g1 ∧ r.g2 = g2) ∧
            ∃ h, t.out = s.out ++ [.control port 0x06 [h, now * 2 ^ 96]]) ∧
        (x.ready = none → m ≠ s.goodLanes port → (∀ t ∈ x.trainStart, t ≤ s.now) →
          ∃ t, exec (.portTraining port ⟨lanes, g1, g2⟩) s = .next t ∧
            (t.port port).up = false ∧ (t.port port).trainStart = some (x.trainStart.getD s.now) ∧
            ∀ q, q ≠ port → t.port q = s.port q) ∧
        (x.ready = none → laneCount m < 4 → old →
          ∃ t, exec (.portTrainingTimeout port ⟨lanes, g1, g2⟩) s = .next t ∧ (t.port port).up = false ∧
            (t.port port).trainStart = some (s.now + 1000000000) ∧ ∀ q, q ≠ port → t.port q = s.port q) ∧
        (∀ r, x.ready = some r →
          (∀ row delay, (∃ body : BitVec 128, row = .echo port true body ∧ x.echo = some (bits body.toNat 127 96) ∧
                delay = ((s.now + 2 ^ 32 - bits body.toNat 127 96) % 2 ^ 32 -
                  (bits body.toNat 63 32 + 2 ^ 32 - bits body.toNat 95 64) % 2 ^ 32) / 2) ∨
              (row = .portTrainingTimeout port ⟨lanes, g1, g2⟩ ∧ old ∧ delay = x.delay) →
            ∃ t, exec row s = .next t ∧ (t.port port).up = true ∧ (t.port port).mask = r.lanes.toNat ∧
              (t.port port).delay = delay ∧ (t.port port).ready = none ∧
              (t.port port).credits = [256, r.g1, r.g2, 65280 - r.g1 - r.g2] ∧
              (s.objv 0x5208 4 + s.objv 0x5208 5 + s.objv 0x5208 6 = 65280 →
                (t.port port).split = [s.objv 0x5208 4, s.objv 0x5208 5, s.objv 0x5208 6])))) ∧
      (s.mayTrain port = false → exec (.portTraining port ⟨lanes, g1, g2⟩) s = .next s ∧
        exec (.portTrainingTimeout port ⟨lanes, g1, g2⟩) s = .next s)) ∧
    (∀ lane symbols worst, s.portUp port = true → lane < 8 → (s.port port).mask.testBit lane = true →
      s.retired (.lane port lane) = false →
      let x := s.port port
      let l := ((Tab.get [] x.triggers lane).filter fun t => decide (s.now < t + 3600000000000)) ++ [s.now]
      (worst = false → symbols ≤ s.objv 0x5209 1 →
        exec (.laneErrorTrigger port ⟨lane, symbols, worst⟩) s = .next (s.bump 0x7500 (49 + port) symbols)) ∧
      ((worst = true ∨ s.objv 0x5209 1 < symbols) →
        ∃ t, exec (.laneErrorTrigger port ⟨lane, symbols, worst⟩) s = .next t ∧
          (4 ≤ l.length → t.retired (.lane port lane) = true) ∧
          (l.length < 4 → (∃ j, ⟨.lane port lane, none, 0, false, 0x4001, j⟩ ∈ t.recorder.tests) ∧
            t.objv 0x7500 (73 + port) = s.objv 0x7500 (73 + port) + b2n worst ∧
            (x.maskAhead.testBit lane = true →
              (t.port port).changes = x.changes ++ [⟨x.maskAhead - 2 ^ lane, s.cwTotal port + 256, false⟩]))))

/-- Frames that have waited 10 ms for a port wait no more; a membership record whose stride has come takes effect
where the angle runs, and is discarded with PACE_LOST where the angle is lost. -/
def Obligations.RouteWaitsAndEpochsEnd : Prop :=
  ∀ s : State,
    (s.waiting ≠ [] → (∀ w ∈ s.waiting, w.2 + 10000000 ≤ s.now ∧ w.1.src = s.membership.self) →
      ∃ t, exec .routeWaitExpiry s = .next t ∧ t.waiting = [] ∧
        ∀ w ∈ s.waiting, w.1.dst ∈ t.membership.unreachable) ∧
    (∀ p, s.membership.pending = some p → atOrAfter s.angle (strideAngle p.effective) = true →
      (s.pace.mode.running = true → s.mayAct (strideAngle p.effective, 1) = true →
        exec .membershipEpochChange s = .next (s.enterEpoch p)) ∧
      (s.pace.mode.lost = true → s.pace.mode.running = false → ∃ t, exec .membershipEpochChange s = .next t ∧
        t.membership = { s.membership with pending := none, outcome := 0x0B }) ∧
      (s.enterEpoch p).membership.epoch = p.epoch)

/-! ### Host links -/

/-- A host link that trains is up at its rate and width; one that goes down, alone or with its host die, is down,
its streams insecure, and the sessions of its mailboxes closed. No other link changes.

A function-level reset: of function 0 its configuration and mailbox start afresh and its mailbox's sessions
close; of a context function its mailbox, and the contexts bound to it leave. -/
def Obligations.HostLinksAndFunctionResets : Prop :=
  (∀ (s : State) (link : Nat), s.tabsOk = true →
     (∀ rate width, s.linkExists link = true → s.pins.resetN = true → s.retired (.die (16 + link / 2)) = false →
       (s.link link).up = false → s.lanesFree link = true → rate ∈ linkRates → s.widthFits link width = true →
       s.looping link = false → ∃ t, exec (.hostLinkTrained link rate width) s = .next t ∧
         (t.link link).up = true ∧ (t.link link).rate = rate ∧ (t.link link).width = width ∧
         (t.link link).secure = false ∧
         ((t.link link).cxl = 7 ↔ link % 2 = 0 ∧ width = s.linkWidth link ∧ 32 ≤ rate) ∧
         (s.widthFits link (2 * width) = true → ∃ x ∈ t.recorder.tests, x.unit = hostLane link width) ∧
         ∀ k, k ≠ link → t.link k = s.link k) ∧
     (∀ row, (row = .hostLinkDown link ∨ row = .hotReset link ∨ row = .perst (link / 2) ∧ link < 4) →
       (s.link link).up = true → ∃ t, exec row s = .next t ∧ t.link link = HostLink.down ∧
         (∀ k, k / 2 ≠ link / 2 → t.link k = s.link k) ∧
         ∀ x ∈ t.server.sessions, ∀ f, isMailbox link f x.chan = false)) ∧
  (∀ (s : State) (link : Nat), s.tabsOk = true → link < 4 →
     (∃ t, exec (.flrFunction0 link) s = .next t ∧
       t.func link 0 = { (s.func link 0).mailboxReset with config := [], errors := 0 } ∧
       (∀ x ∈ t.server.sessions, isMailbox link 0 x.chan = false) ∧ t.cmds = s.cmds) ∧
     (∀ fn, 1 ≤ fn → fn ≤ 8 → ∃ t, exec (.flrContextFunction link fn) s = .next t ∧
       t.func link fn = (s.func link fn).mailboxReset ∧
       ∀ c, c < 64 → s.boundTo c = (link, fn) → s.resident c = true → t.resident c = true →
         (t.ctx c).leaving = true))

/-- Host requests: a configuration register holds what was written, and is answered with retry before READY; a dword
of BAR0 is read and written. A read of the window gives its bytes, a write stores them, and pages of device bias flip
first, but while its host die or its memory does not serve it the access waits; a host request that fails is tried once
more, and again ends its copy with DATA_SUSPECT. -/
def Obligations.HostRequests : Prop :=
  ∀ s : State, s.tabsOk = true →
    (∀ link fn reg trusted, (s.link link).up = true → funcOk link fn = true → s.linkSecure link = true →
      let x := s.func link fn
      (reg < 1024 → s.pins.ready = true → ∀ v,
        (∃ t, exec (.hostConfigurationRequest link fn reg ⟨some v, trusted⟩) s = .next t ∧
          t.func link fn = { x with
            config := Tab.put none x.config reg (some v)
            errors := x.errors - (x.errors &&& Config.configClears link fn reg v) } ∧
          (Tab.wf none x.config = true → Tab.get none (t.func link fn).config reg = some v) ∧
          t.out = s.out ++ [.cfg link fn false 0]) ∧
        exec (.hostConfigurationRequest link fn reg ⟨none, trusted⟩) s = .next { s with out := s.out ++
          [.cfg link fn false (Config.configSpace link fn reg (Tab.get none x.config reg) x.errors)] }) ∧
      (reg < 1024 → s.pins.ready = false → ∀ w,
        exec (.hostConfigurationRequest link fn reg ⟨w, trusted⟩) s =
          .next { s with out := s.out ++ [.cfg link fn true 0] }) ∧
      (1024 ≤ reg → (guardedWord fn (reg - 1024) = false ∨ s.tdiTakes link fn trusted = true) →
        (∀ v, exec (.hostConfigurationRequest link fn reg ⟨some v, trusted⟩) s =
          .next (s.barWrite link fn (reg - 1024) v)) ∧
        exec (.hostConfigurationRequest link fn reg ⟨none, trusted⟩) s = .next { s with out := s.out ++
          [.cfg link fn false (s.barRead link fn (reg - 1024))] })) ∧
    (∀ link addr write len trusted,
      let n := match write with
        | some l => l.length
        | none => len
      s.windowOpen link addr n = true →
      ((s.reloadingDie (16 + link / 2) = true ∨ s.grainWaits addr n = true) →
        exec (.hostCxlMemAccess link addr write len trusted) s =
          .next { s with hostWait := s.hostWait ++ [.window link addr write len trusted] }) ∧
      (s.reloadingDie (16 + link / 2) = false → s.grainWaits addr n = false →
        (s.confidential (s.objv 0x2302 5) = false ∨ (trusted = true ∧ (s.link link).cacheSecure = true)) →
        ∃ t, exec (.hostCxlMemAccess link addr write len trusted) s = .next t ∧
          (∀ p, addr / 4096 ≤ p → p ≤ (addr + n - 1) / 4096 → Tab.get false t.trust.bias p = false) ∧
          (∀ l, write = some l → t.mem = (s.devWrite addr l).mem ∧ t.out = s.out) ∧
          (write = none → t.mem = s.mem ∧
            t.out = s.out ++ [.hostData link (s.devReadBad addr n)
              (if s.devReadBad addr n then [] else s.devRead addr n)]))) ∧
    (∀ id c, s.runnable id (fun d => isOp 0x20 d || isOp 0x21 d) = some c →
      let b := if opcode c.desc = 0x20 then copyBody c.desc else fillBody c.desc
      b.ends.filter CopyEnd.host ≠ [] →
      (∃ t, exec (.hostRequestFailure id false) s = .next t ∧ t.cmds =
        (s.updCmd id fun x => { x with retries := x.retries + 1 }).cmds) ∧
      (c.retries ≠ 0 → ∃ t, exec (.hostRequestFailure id true) s = .next t ∧ s.endsIn t id .dataSuspect))

/-- Link encryption: keys loaded for a stream's set may then be switched to, which makes the stream secure; an
integrity failure makes it insecure. The window of a locked context is locked on a link whose cache stream is
secure. -/
def Obligations.StreamsBecomeSecure : Prop :=
  ∀ (s : State) (link fn stream set : Nat), s.tabsOk = true →
    (s.mayKey link fn stream = true → set < 2 → ∃ t, exec (.ideKm link fn stream set) s = .next t ∧
      (stream, set) ∈ (t.link link).loaded ∧ t = { s with links := t.links } ∧
      ∀ k, k ≠ link → t.link k = s.link k) ∧
    (s.mayKey link fn stream = true → (stream, set) ∈ (s.link link).loaded →
      ∃ t, exec (.kSetGo link fn stream set) s = .next t ∧ t = { s with links := t.links } ∧
        t.link link = { (s.link link).setSecure stream true with
          keySet := Tab.put 0 (s.link link).keySet stream set
          failed := (s.link link).failed.filter (· ≠ stream) } ∧
        (stream = 0 → (t.link link).secure = true)) ∧
    ((s.link link).up = true → streamOk link stream = true →
      ∃ t, exec (.ideIntegrityFailure link stream) s = .next t ∧ (stream = 0 → (t.link link).secure = false) ∧
         stream ∈ (t.link link).failed ∧ ∀ k, (stream, k) ∉ (t.link link).loaded) ∧
    (link % 2 = 0 → s.linkServes link = true → (s.link link).cacheSecure = true →
      (s.tdi (s.objv 0x2302 5)).state = .locked →
      ∃ t, exec (.cxlTspLock link (s.objv 0x2302 5)) s = .next t ∧ s.objv 0x2302 5 ∈ t.trust.tsp)

/-! ### The dictionary and its channels -/

/-- Every row that names an object is a request to write it: on a bus, where the write passes its checks, its
effect takes place, the client is answered with code 0, and the request is counted. -/
def Obligations.DictionaryRowsWriteTheirObjects : Prop :=
  ∀ (s : State) (b client index sub c k : Nat) (l : List Byte) (row : Instr), k < 16 →
    let ch : Channel := .can b client
    (row, index, sub) ∈ [(.dictionaryWrite ch index sub l, index, sub), (.queueReload ch c l, 0x6000 + c, 7),
      (.queueTableWrite ch c l, 0x6000 + c, 6), (.strideCountWrite ch l, 0x5103, 0),
      (.calendarSecondWrite ch l, 0x5120, 1), (.membershipRecordWrite ch l, 0x5220, 1),
      (.forceUnbind ch c l, 0x6200 + c, 7), (.rotate ch c l, 0x6200 + c, 6), (.phaseProfileWrite ch l, 0x3100, 1),
      (.capOffsetWrite ch l, 0x3101, 1), (.wideMarginRequest ch l, 0x3000, 1), (.sessionOpen ch l, 0x6400, 2),
      (.sessionClose ch l, 0x6400, 3), (.authorizationRecord ch l, 0x6402, 1), (.programData ch c l, 0x1F50, c),
      (.reloadDie ch c l, 0x1F52, c), (.restoreDefaults ch l, 0x1011, 1), (.operatorKeyWrite ch c l, 0x6401, c + 1),
      (.lifeCycleTransitionRequest ch l, 0x2002, 2), (.formatHealthReset ch l, 0x2200, 1),
      (.partitionWrite ch k sub l, 0x4100 + k, sub), (.marginScanStart ch l, 0x4300, 3),
      (.selfTestStart ch l, 0x9000, 3), (.takeoverRequest ch l, 0x9020, 1), (.recorderClear ch l, 0x8010, 1)] ∨
      (row = .programControlVerify ch c ∧ index = 0x1F51 ∧ sub = c ∧ l = toBytes 1 1) ∨
      (row = .programControlDiscard ch c ∧ index = 0x1F51 ∧ sub = c ∧ l = toBytes 1 2) →
    b < 2 → s.writeReady b client index sub l →
    let u := (s.writeDone ch index sub l).1
    let u := if (s.touch ch).renewsNonce index sub then u.freshNonce else u
    let t := u.bump 0x7700 (1 + b) 1
    exec row s = .next (State.settle { t with
      out := t.out ++ [.usdo b (0x580 + (t.bus b).node) client 0 [] (Config.usdoFrames 0)] })

/-- What an accepted write does, object by object: it reloads queues, sets the stride count or the second to come,
makes a record or a profile pending, rotates a key or unbinds an interface, opens or closes a session, stages,
verifies or discards an image, begins a reload, calls for a restore, a takeover, a transition, a test or a scan,
or stores what was written. -/
def Obligations.AcceptedWritesHaveTheirEffect : Prop :=
  ∀ (s : State) (ch : Channel) (l : List Byte) (auth : Option Auth) (c : Nat), s.tabsOk = true →
    let v := valOf l
    let e := fun (i sub : Nat) => (s.effect ch i sub l auth).1
    (c < 64 → e (0x6000 + c) 7 = (s.reloadQueues c v).1 ∧
      e (0x6000 + c) 6 = ((s.setObj (0x6000 + c) 6 v).reloadQueues c 0xFFFF).1 ∧
      e (0x6200 + c) 7 = s.tdiError c ∧ e (0x6200 + c) 6 = (s.loadKey c).rotated c none) ∧
    (s.pace.mode.running = false → e 0x5103 0 = { s with pace := { s.pace with pendCount := some v } }) ∧
    (s.pace.mode.running = true → e 0x5103 0 = s) ∧
    e 0x5120 1 = { s with cal := { s.cal with pend := some v } } ∧
    e 0x5220 1 = { s with membership := { s.membership with pending := parseMembership l, outcome := 0 } } ∧
    e 0x3100 1 = { s with power := { s.power with profPending := some (parseProfile l) } } ∧
    e 0x3101 1 = { s with power := { s.power with capWritten := some (toSigned 32 v, s.pace.stride) } } ∧
    ((e 0x3000 1).power.wideReq = decide (v = 1)) ∧
    (s.blockedOpens ch = false → s.sessionGood ch l = true →
      ⟨ch.home, fieldOf l 0 1, s.now⟩ ∈ (e 0x6400 2).server.sessions) ∧
    (∀ x ∈ (e 0x6400 3).server.sessions, x.chan ≠ ch.home) ∧
    (s.freshRecord l = true → s.domv 0x6401 (fieldOf l 3 1 + 1) ≠ [] →
      Config.ecdsaVerify (s.domv 0x6401 (fieldOf l 3 1 + 1)) (Config.sha384 (l.take 96)) ((l.drop 96).take 96) = true →
      (e 0x6402 1).server.auths = s.server.auths ++
        [⟨ch.home, fieldOf l 0 2, fieldOf l 2 1, fieldOf l 3 1, fieldOf l 40 48, s.now⟩]) ∧
    e 0x1F50 c = s.stageChunk c l ∧ (v = 2 → e 0x1F51 c = s.discardImage c) ∧
    (v = 1 → e 0x1F51 c = (s.verifyImage c).1) ∧ (e 0x1F52 (c + 1)).server.reload = some c ∧
    (e 0x1011 1).server.restore = true ∧
    (c < 4 → l ≠ [] → (e 0x6401 (c + 1)).domv 0x6401 (c + 1) = l) ∧
    (e 0x2002 2).server.transition = some v ∧
    (∀ i sub, i < 256 → sub < 256 → (e 0x2200 1).objv (0x7200 + i) sub = objDefault (0x7200 + i) sub) ∧
    (∀ sub, c < 16 → 1 ≤ sub → sub ≤ 7 → (e (0x4100 + c) sub).objv (0x4100 + c) sub = v) ∧
    (e 0x4300 3).objv 0x4300 6 = (if s.objv 0x4300 2 = 2 then 2 else 1) ∧ e 0x9000 3 = s.operatorTest ∧
    (e 0x9020 1).mgmt.takeover = true ∧ e 0x8010 1 = s.clearRecorder v ((auth.map (·.slot)).getD 0)

/-- Requests are answered: on a bus with the code and the value the dictionary gives, on a mailbox when a new SEQ
submits them, while a second one before the answer is discarded and counted. A frame of another format than FD base is
counted, a failure of the protocol answered with its abort code, and a request met by a takeover held. A read of the
recorder is such a request. -/
def Obligations.RequestsAreAnswered : Prop :=
  ∀ s : State,
    (∀ b format failure client write index sub l, s.onBus b = true →
      let r := s.serve (.can b client) write index sub l none
      let t := r.1.bump 0x7700 (1 + b) 1
      let row := Instr.usdoRequest ⟨b, format, failure⟩ client write index sub l
      (format ≠ 0 → exec row s = .next (s.bump 0x7700 8 1)) ∧
      (format = 0 → s.busServes b = true →
        (s.serverUp = true → failure = 0 → exec row s = .next (State.settle { t with
          out := t.out ++ [.usdo b (0x580 + (t.bus b).node) client r.2.code r.2.value
            (Config.usdoFrames r.2.value.length)] })) ∧
        (s.serverUp = true → failure ≠ 0 → exec row s = .next { s with
          out := s.out ++ [.usdo b (0x580 + (s.bus b).node) client (if failure = 1 then 0x05040000 else 0x05040001) []
            (Config.usdoFrames 0)] }) ∧
        (s.serverUp = false → s.mgmt.takeover = true → failure = 0 → exec row s = .next { s with
          server := { s.server with
            heldCan := s.server.heldCan ++ [⟨b, client, write, index, sub, l⟩] } }))) ∧
    (∀ b client, exec (.recorderRead (.can b client)) s =
      exec (.usdoRequest ⟨b, 0, 0⟩ client false 0x8002 0 []) s) ∧
    (∀ link fn (seen : MailSeen) l, s.mailboxOpen link fn = true → s.tdiTakes link fn seen.trusted = true →
      let hdr := seen.header.toNat
      let x := { s.func link fn with
        header := mailboxFields hdr
        data := l }
      (bits hdr 31 0 = (s.func link fn).lastSeq →
        exec (.mailboxRequest link fn seen l) s = .next (s.setFunc link fn x)) ∧
      (bits hdr 31 0 ≠ (s.func link fn).lastSeq →
        ((s.func link fn).asked.isSome = true → exec (.mailboxRequest link fn seen l) s =
          .next ((s.setFunc link fn { x with lastSeq := bits hdr 31 0 }).bump 0x7700 9 1)) ∧
        ((s.func link fn).asked = none →
          let u := s.setFunc link fn { x with
            lastSeq := bits hdr 31 0
            asked := some (hdr, l) }
          exec (.mailboxRequest link fn seen l) s =
            .next (if s.answersNow link then (u.answerMailbox link fn).settle else u)))) ∧
    (∀ link fn (seen : MailSeen) l, (s.mailboxOpen link fn = false ∨ s.tdiTakes link fn seen.trusted = false) →
      exec (.mailboxRequest link fn seen l) s = .next s)

/-- Network management on a bus that hears it: a state command sets the bus's state, a reset closes the bus's
sessions and boots it again. A heartbeat goes out when its time has come, a bus-off takes the bus away for its
recovery time, and a session whose idle time has passed is closed. -/
def Obligations.BusesAndSessions : Prop :=
  ∀ (s : State) (b node : Nat), s.tabsOk = true → s.nmtHears b node = true →
    ((s.bus b).nmt ≠ .initialisation → ∀ row n, (row, n) ∈ [(Instr.nmtStart b node, Nmt.operational),
        (.nmtStop b node, .stopped), (.nmtEnterPreOperational b node, .preOperational)] →
      ∃ t, exec row s = .next t ∧ t.bus b = { s.bus b with nmt := n } ∧ t = { s with buses := t.buses }) ∧
    (∀ row, row = .nmtResetNode b node ∨ row = .nmtResetCommunication b node → ∃ t, exec row s = .next t ∧
      (∀ x ∈ t.server.sessions, ∀ client, x.chan ≠ .can b client) ∧
      (s.nodeFor b ≠ 0 → (t.bus b).nmt = .preOperational ∧ (t.bus b).node = s.nodeFor b ∧
        t.out = s.out ++ [.bootUp b (0x700 + s.nodeFor b)])) ∧
    ((s.bus b).nmt ≠ .initialisation → s.objv 0x1017 0 ≠ 0 →
      (∀ t, (s.bus b).lastBeat = some t → t + 1000000 * s.objv 0x1017 0 ≤ s.now) →
      ∃ t, exec (.heartbeat b) s = .next t ∧
        t.out = s.out ++ [.heartbeat b (0x700 + (s.bus b).node) (s.bus b).nmt.code] ∧
        t.bus b = { s.bus b with lastBeat := some s.now }) ∧
    (∃ t, exec (.busOff b) s = .next t ∧ t.bus b = { s.bus b with offUntil := s.now + busOffTime }) ∧
    (∀ ch, s.session ch = none → ∃ t, exec (.sessionIdleTimeout ch) s = .next t ∧
      ∀ x ∈ t.server.sessions, x.chan ≠ ch.home)

/-- A reload ends with the die on its newest image and what was held for it done; the heartbeat keeps the standby
quiet, and without it, or on the cause that has called for it, the standby becomes active. With no standby a failure
stops the device, and another cause is over. -/
def Obligations.ReloadAndTakeover : Prop :=
  ∀ s : State, s.pins.resetN = true → s.mgmt.stopped = false → s.quiet →
    (∀ loc, s.server.reload = some loc → s.mgmt.takeover = false → ∃ t, exec .reloadComplete s = .next t ∧
      t.server.reload = none ∧ (s.recorder.tests = [] → t.server.heldSignals = []) ∧
      t.server.dies = Tab.put DieFw.fresh s.server.dies loc (s.newestImage (dieType loc))) ∧
    exec .managementHeartbeat s = .next { s with mgmt := { s.mgmt with lastBeat := s.now } } ∧
    (∀ cause, cause ≤ 4 → (cause = 0 → s.mgmt.lastBeat + 100000 ≤ s.now) →
      (cause ≠ 0 → s.mgmt.takeover = true ∧ s.mgmt.cause = cause) →
      (s.mgmt.standby = true → ∃ t, exec (.managementTakeover cause) s = .next t ∧
        t.mgmt = ⟨1 - s.mgmt.active, false, s.now, false, 0, false⟩) ∧
      (s.mgmt.standby = false → cause ≤ 2 → exec (.managementTakeover cause) s =
        .next { s with mgmt := { s.mgmt with takeover := false, stopped := true } }) ∧
      (s.mgmt.standby = false → 2 < cause → ∃ t, exec (.managementTakeover cause) s = .next t ∧
        t.mgmt = { s.mgmt with takeover := false }))

/-! ### Attestation and confidential admission -/

/-- The SPDM messages in the connection states that fit them: each is answered by its code, and the connection
goes on to its next state; elsewhere the answer is an error and nothing else changes. SET_CERTIFICATE stores its
chain; the TDISP messages lock, report, start and stop the interface of a context. -/
def Obligations.SpdmAndTdispMessages : Prop :=
  ∀ (s : State) (link fn : Nat) (body : List Byte), s.tabsOk = true → s.doeUp link fn = true →
    let x := s.func link fn
    (∀ (row : Instr) (fit : Bool) (next code : Nat), (row, fit, next, code) ∈
        [(.getVersion link fn body, true, 1, 0x04),
          (.getCapabilities link fn body, decide (x.spdm = 1), 2, 0x61),
          (.negotiateAlgorithms link fn body, decide (x.spdm = 2), 3, 0x63),
          (.getDigests link fn body, decide (3 ≤ x.spdm), x.spdm, 0x01),
          (.getCertificate link fn body, decide (3 ≤ x.spdm), x.spdm, 0x02),
          (.challenge link fn body, decide (3 ≤ x.spdm), x.spdm, 0x03),
          (.getMeasurements link fn body, decide (3 ≤ x.spdm), x.spdm, 0x60),
          (.keyExchange link fn body, decide (x.spdm = 3), 4, 0x64),
          (.finish link fn body, decide (x.spdm = 4), 5, 0x65),
          (.keyUpdate link fn body, decide (x.spdm = 5), x.spdm, 0x69),
          (.heartbeatSpdm link fn body, decide (x.spdm = 5), x.spdm, 0x68),
          (.endSession link fn body, decide (x.spdm = 5), 3, 0x6C),
          (.getCsr link fn body, s.mayProvision link fn, x.spdm, 0x6D)] →
      (fit = true → ∃ t l, exec row s = .next t ∧ (t.func link fn).spdm = next ∧
        (t.func link fn).spdmResp = l ∧ t.out = s.out ++ [.doe link fn code l] ∧ t.cmds = s.cmds) ∧
      (fit = false → ∃ t, exec row s = .next t ∧ (t.func link fn).spdm = x.spdm ∧
        t.out = s.out ++ [.doe link fn 0x7F (toBytes 1 0x04)])) ∧
    (s.mayProvision link fn = true → s.server.life = 1 → ∀ slot, slot = fieldOf body 0 1 % 16 →
      (slot = 1 ∨ slot = 2) → ∃ t, exec (.setCertificate link fn body) s = .next t ∧
        t.certChain slot = body.drop 2 ∧ t.certChain (3 - slot) = s.certChain (3 - slot)) ∧
    (∀ ctx, s.tdiHears link fn ctx = true →
      ((s.tdi ctx).state = .none ∨ (s.tdi ctx).state = .unlocked → s.lockOk link fn ctx = true →
        ∃ t, exec (.lockInterface link fn ctx body) s = .next t ∧ (t.tdi ctx).state = .locked ∧
          t.keySlots ctx = ⟨0, some s.draws, none⟩) ∧
      ((s.tdi ctx).state = .locked ∨ (s.tdi ctx).state = .run →
        ∃ t, exec (.getDeviceInterfaceReport link fn ctx body) s = .next t ∧ (t.tdi ctx).report = true ∧
          (t.tdi ctx).state = (s.tdi ctx).state) ∧
      ((s.tdi ctx).state = .locked → ∃ t, exec (.startInterface link fn ctx body) s = .next t ∧
        (t.tdi ctx).state = .run ∧ t.confidential ctx = true) ∧
      ((s.tdi ctx).state ≠ .locked → exec (.startInterface link fn ctx body) s = .next (s.tdispInvalid link fn)) ∧
      (∃ t, exec (.stopInterface link fn ctx body) s = .next t ∧ (t.tdi ctx).state = .unlocked))

/-! ### Power and heat -/

/-- Out of reset the telemetry frames, the AVSBus reads and the temperatures are taken in: a frame of an invalid
code, the wrong group or a wrong check, or out of sequence, is counted and not used, a valid one sets the sequence
expected; a group without a valid frame for 8 µs is blind, and its rails are read on their buses. -/
def Obligations.MeasurementsAreTakenIn : Prop :=
  ∀ (s : State), s.tabsOk = true → s.pins.resetN = true →
    (∀ group frame, group < 13 → frameCrcOk frame = true → bits frame.toNat 127 124 = group →
      let x := s.telem group
      let seq := bits frame.toNat 123 120
      ((x.seq = 0 ∨ seq + 1 = x.seq) → ∃ t, exec (.telemetryFrame group ⟨frame, true⟩) s = .next t ∧
        (t.telem group).seq = (seq + 1) % 16 + 1 ∧ (t.telem group).lastValid = s.now ∧
        (t.telem group).blind = (x.blind && decide (min 100 (x.run + 1) < 100)) ∧ t.mem = s.mem ∧ t.cmds = s.cmds) ∧
      (x.seq ≠ 0 → seq + 1 ≠ x.seq → ∃ t, exec (.telemetryFrame group ⟨frame, true⟩) s = .next t ∧
        (t.telem group).run = 0 ∧ t.power.rails = s.power.rails ∧ t.power.energy = s.power.energy)) ∧
    (∀ group frame valid, group < 13 →
      (valid = false ∨ frameCrcOk frame = false ∨ bits frame.toNat 127 124 ≠ group) →
      ∃ t, exec (.telemetryFrame group ⟨frame, valid⟩) s = .next t ∧ (t.telem group).run = 0 ∧
        t.power.rails = s.power.rails ∧ t.power.energy = s.power.energy) ∧
    (∀ group, group < 13 → (s.telem group).blind = false → (s.telem group).lastValid + 8000 ≤ s.now →
      ∃ t, exec (.telemetryGroupBlind group) s = .next t ∧ (t.telem group).blind = true ∧
        (group < 8 → (t.dieOp group).duty = 0)) ∧
    (∀ group readings, group < 12 → (s.telem group).blind = true →
      ∃ t, exec (.blindGroupAvsbusRead group readings) s = .next t ∧ t.power.groups = s.power.groups ∧
        ∀ x ∈ (groupRails group).zip readings, ((t.rail x.1).samples.map (·.2.1)).head? = some x.2 ∧
          ∀ a, avsAddress x.1 = some a → Output.avsRead a.1 a.2 0 ∈ t.out) ∧
    (∀ readings, s.power.lastAvs + 1000000 ≤ s.now → ∃ t, exec (.avsPoll readings) s = .next t ∧
      t.power.lastAvs = s.now ∧ ∀ r, r < 24 → ∀ v, readings[r]? = some v → (t.rail r).avs = v ∧
        ∀ a, avsAddress r = some a → ∀ w, w < 3 → Output.avsRead a.1 a.2 w ∈ t.out) ∧
    (∀ readings, s.pins.powered = true → ∃ t, exec (.thermalCheck readings) s = .next t ∧
      (∀ loc, loc < 40 → ∀ v, readings[loc]? = some v → (t.heatOf loc).temp = toSigned 32 v) ∧
      ((∃ loc, loc < 40 ∧ ∃ v, readings[loc]? = some v ∧ critical loc ≤ toSigned 32 v) →
        t.power.thermtrip = true))

/-- The operating points. An envelope tick moves each die's envelope towards its target by the slew, and its duty
by one towards the envelope; a cap check sheds duty, lowers or raises the ceiling of every die by its three rules; a
transition raises ahead of its angle the voltages whose time has come; a profile comes into force at its stride, its
entries at their phases, and a change of wide-margin mode at the next stride, each with the points it asks for: a
slower one at once, a faster one after its voltage; the slack record of an ended stride is written. -/
def Obligations.PointsProfilesAndSlack : Prop :=
  ∀ s : State, s.tabsOk = true →
    let moves := fun (t : State) (k : Nat) =>
      let d := s.dieOp k
      let p := t.pointFor k t.basePoint
      (opClock p ≤ opClock d.op → (t.dieOp k).op = p) ∧
      (opClock d.op < opClock p → opVoltage p ≤ d.mv → d.riseAt ≤ s.now → (t.dieOp k).op = p) ∧
      (opClock d.op < opClock p → d.mv < opVoltage p → (t.dieOp k).op = d.op ∧ (t.dieOp k).mv = opVoltage p ∧
        (t.dieOp k).riseAt = s.now + 100 * (opVoltage p - d.mv) + 5000)
    (s.pins.resetN = true → ∃ t, exec .envelopeTick s = .next t ∧ t.cmds = s.cmds ∧ t.mem = s.mem ∧
      t.pace = s.pace ∧ ∀ k, k < 8 →
        let d := s.dieOp k
        let ma := ((s.rail k).samples.map (·.2.1)).headD 0
        let env := if s.power.wide then 0 else slewTo d.envelope (if s.follows then
          1000 * (s.power.profEntry s.power.entry).getD 2 0 else 0) (s.objv 0x3101 3)
        let held := s.power.wide || s.power.clocksStopped || (s.telem k).blind || decide (0 < s.limitAction k) ||
          s.heatActs k || !s.understoryStand k
        (t.dieOp k).envelope = env ∧ moves t k ∧
        (held = true → (t.dieOp k).duty = 0) ∧
        (held = false → ma < env → s.capActs d = false → (t.dieOp k).duty = min 16 (d.duty + 1)) ∧
        (held = false → ma < env → s.capActs d = true → (t.dieOp k).duty = d.duty) ∧
        (held = false → env ≤ ma → 105 * env < 100 * ma → (t.dieOp k).duty = d.duty - 1) ∧
        (held = false → env ≤ ma → 100 * ma ≤ 105 * env → (t.dieOp k).duty = d.duty)) ∧
    (s.pins.resetN = true → ∃ t, exec .capCheck s = .next t ∧ t.cmds = s.cmds ∧ t.mem = s.mem ∧ t.pace = s.pace ∧
      let cap := s.effectiveCap
      (s.powerAbove cap = true → (∃ k, k < 8 ∧ 0 < (s.dieOp k).duty) → ∀ k, k < 8 →
        t.dieOp k = { s.dieOp k with duty := 0 }) ∧
      (s.powerAbove cap = true → (∀ k, k < 8 → (s.dieOp k).duty = 0) → ∀ k, k < 8 →
        (t.dieOp k).ceilCap = min 7 ((s.dieOp k).ceilCap + 1) ∧ moves t k) ∧
      (s.powerAbove cap = false → s.powerBelow (cap - 100) = true →
        ∀ b, s.power.lowSince = some b → b + 1000000 ≤ s.now →
        (∃ k, k < 8 ∧ 0 < (s.dieOp k).ceilCap) → t.power.lowSince = some s.now ∧ ∀ k, k < 8 →
          (t.dieOp k).ceilCap = (s.dieOp k).ceilCap - 1 ∧ moves t k) ∧
      (s.powerAbove cap = false → s.powerBelow (cap - 100) = false → t.power.lowSince = none ∧
        ∀ k, k < 8 → t.dieOp k = s.dieOp k)) ∧
    (s.follows = true → s.power.wide = false → ∃ t, exec .opTransitionStart s = .next t ∧
      t = { s with power := { s.power with dies := t.power.dies }, out := t.out } ∧ ∀ k, k < 8 →
        let d := s.dieOp k
        let mv := opVoltage (s.pointFor k s.nextPoint.1)
        let lead := 100 * (mv - d.mv) + 5000
        (d.mv < mv → s.nextPoint.2 ≤ lead →
          t.dieOp k = { d with mv := mv, ahead := mv, riseAt := s.now + lead } ∧ Output.avsWrite 0 k mv ∈ t.out) ∧
        ((mv ≤ d.mv ∨ lead < s.nextPoint.2) → t.dieOp k = d)) ∧
    (∀ l eff, s.power.profPending = some (l, eff) → atOrAfter s.angle (strideAngle eff) = true →
      s.pace.mode.running = true → s.mayAct (strideAngle eff, 5) = true →
      ∃ t, exec .phaseProfileTakesEffect s = .next t ∧ t.power.profile = l ∧ t.power.profEffective = eff ∧
        t.power.profPending = none ∧ t.cmds = s.cmds ∧ t.mem = s.mem ∧
        (s.follows = true → t.power.entry = entryAt l s.pace.phase ∧
          ∀ k, k < 8 → moves t k ∧ (t.dieOp k).ahead = 0)) ∧
    (s.pace.mode.running = true → s.mayAct (s.entryAngle, 6) = true →
      (∀ l eff, s.power.profPending = some (l, eff) → atOrAfter s.angle (strideAngle eff) = false) →
      ∃ t, exec .profileEntry s = .next t ∧ t.power.profile = s.power.profile ∧ t.cmds = s.cmds ∧ t.mem = s.mem ∧
        (s.follows = true → t.power.entry = entryAt s.power.profile s.pace.phase ∧
          ∀ k, k < 8 → moves t k ∧ (t.dieOp k).ahead = 0) ∧
        (∀ v stride, s.power.capWritten = some (v, stride) → stride ≠ s.pace.stride →
          t.power.capOffset = v ∧ t.power.capWritten = none)) ∧
    (∀ stride, s.power.wideAt = some stride → (s.pace.mode.running = false ∨ (stride ≠ s.pace.stride ∧
        s.mayAct (strideAngle s.pace.stride, 7) = true)) →
      ∃ t, exec .wideMarginSwitch s = .next t ∧ t.power.wide = s.power.wideReq ∧ t.power.wideAt = none ∧
        t.cmds = s.cmds ∧ t.mem = s.mem ∧
        (s.power.wide = false → s.power.wideReq = true → t.power.cause = 1 ∧ ∀ k, k < 8 →
          moves t k ∧ (t.dieOp k).envelope = 0 ∧ (t.dieOp k).duty = 0) ∧
        (s.power.wide = true → s.power.wideReq = false → ∀ k, k < 8 → moves t k)) ∧
    (∀ b, s.power.ended = some b →
      let u := { s with power := { s.power with ended := none } }
      let l := oneAccess (s.objv 0x3120 2) 32 true
      (s.ctxMem (s.objv 0x3120 3) (s.objv 0x3120 2) 32 = true → s.inStack (s.objv 0x3120 2) 32 = true →
        (s.serves l = true → exec .slackRecordWrite s = .next ((u.payFor l).devWrite (s.objv 0x3120 2) b.bytes)) ∧
        (s.serves l = false → exec .slackRecordWrite s = .next s)) ∧
      ((s.ctxMem (s.objv 0x3120 3) (s.objv 0x3120 2) 32 = false ∨ s.inStack (s.objv 0x3120 2) 32 = false) →
        exec .slackRecordWrite s = .next (u.recordEvent (u.info 0x7008 4 0))))

/-! ### Faults, repair, start-up -/

/-- An error of a unit asks for its test and is met by the command that runs on the unit, or uses its memory or its
line, which then waits for the verdict; a verdict ends the test and those that joined it; a calibration falls due, takes
its unit out and puts it back. -/
def Obligations.ErrorsTestsAndCalibrations : Prop :=
  ∀ (s : State) (unit : UnitId),
    (∀ (event : Nat) (line : Option Nat), s.pins.resetN = true → event ≠ 0x8001 → errorFits event unit = true →
      s.retired unit = false → unit.kind ≠ 0x10 → (line = none ∨ unit.kind = 2 ∨ unit.kind = 3) →
      (∃ t, exec (.errorDetected unit none ⟨event, line⟩) s = .next t ∧
        (∃ x ∈ t.recorder.tests, x.unit = unit ∧ x.cmd = none ∧ x.event = event) ∧ t.cmds = s.cmds) ∧
      (∀ (id : CmdId) (c : Cmd), s.findCmd id = some c → c.phase = .released → c.testing = none →
        s.errorMeets unit event c = true → event ≠ 0x3001 → line.all (s.usesLine c) = true → c.errors < 3 →
        ∃ t, exec (.errorDetected unit (some id) ⟨event, line⟩) s = .next t ∧ t.underTest unit = true ∧
          (∃ x ∈ t.recorder.tests, x.unit = unit ∧ x.cmd = some id ∧ x.event = event) ∧
          (t.findCmd id).map (fun x => (x.testing, x.errors)) = some (some unit, c.errors + 1))) ∧
    (∀ pass, let u := s.startTests
      let l := u.recorder.tests
      ((s.mgmt.takeover = true ∨ s.mgmt.stopped = true ∨ s.pins.resetN = false) →
        exec (.selfTestVerdict unit pass) s = .next u) ∧
      (∀ i, l.findIdx? (fun t => decide (t.unit = unit) && t.running) = some i →
        s.mgmt.takeover = false → s.mgmt.stopped = false → s.pins.resetN = true →
        let done := endedTests (l.drop i) unit
        let a := { u with recorder := { u.recorder with tests := l.take i ++ (l.drop i).drop done.length } }
        let a := (a.bump 0x7800 1 1).bump 0x7800 2 (b2n (!pass))
        let b := (done.foldl (fun (t : State) x => t.applyVerdict x pass) a).startTests.endVerifies
        exec (.selfTestVerdict unit pass) s =
          .next (if unit.kind = 0x0F ∧ unit.loc < 18 then b.resumeDie unit.loc else b.serveHost))) ∧
    (∀ cls, let u := calUnit cls unit
      s.pins.ready = true → u.real = true → u.kind = calKind cls →
      (s.retired u = false ∨ (cls = 3 ∧ s.retired { u with i1 := u.i1 + 1 } = false)) →
      s.calDue cls u = true → (∀ c ∈ s.recorder.calibs, c.unit ≠ u) →
      exec (.calibrationDue cls unit) s = .next { s with recorder := { s.recorder with
        calibs := s.recorder.calibs ++ [⟨cls, u, s.now, false⟩] } }) ∧
    (∀ cls c, let u := calUnit cls unit
      (s.recorder.calibs.find? (fun c => decide (c.unit = u ∧ c.cls = cls)) = some c →
        c.running = false → s.underTest u = false → s.quietNow cls c.due = true →
        ∃ t, exec (.calibrationStart cls unit) s = .next t ∧ t.underCal u = true ∧ t.cmds = s.cmds ∧ t.mem = s.mem) ∧
      (s.recorder.calibs.find? (fun c => decide (c.unit = u ∧ c.cls = cls) && c.running) = some c →
        (∀ d ∈ s.recorder.calibs, d.unit = u → d = c) →
        ∃ t, exec (.calibrationComplete cls unit true) s = .next t ∧ t.underCal u = false ∧ t.cmds = s.cmds))

/-- The memory's upkeep: a migration moves its next grain to the spare and ends when none is left; the scrub goes on
from sector to sector, a find asks for its row's test; a sweep rewrites its page and, with none left, zeroes the
retiring key slot; the regulators refill up to the burst; a scan reports its steps and marks a marginal
pseudo-channel. -/
def Obligations.MemoryUpkeep : Prop :=
  ∀ s : State, s.tabsOk = true →
    (∀ m rest a p good, s.pool.migrations = m :: rest → s.nextGrain m = some a → s.slicedGrain a = false →
      s.spare = some p → exec (.migrationGrain good) s = .next (s.moveGrain m a p good) ∧
      Tab.get none (s.moveGrain m a p good).pool.reloc (a / 256) = some p ∧
      (s.moveGrain m a p good).pool.migrations =
        { m with next := m.next + 1, lost := m.lost + b2n (!(good && decide (m.from_ ≠ .unreadable))) } :: rest ∧
      (s.hostWait = [] → (s.moveGrain m a p good).mem = s.mem)) ∧
    (∀ m rest, s.pool.migrations = m :: rest → slotsPerPc ≤ m.next → s.nextGrain m = none →
      ∃ t, exec .migrationComplete s = .next t ∧ t.pool = { s.pool with migrations := rest } ∧ t.mem = s.mem ∧
        t.cmds = s.cmds) ∧
    (s.pins.ready = true → s.reloadingDie (20 + s.pool.scrub / sectorsPerPc % 1280 / 64) = false →
      s.retired (.pc (s.pool.scrub / sectorsPerPc % 1280)) = false → ∀ finding,
      ∃ t, exec (.patrolScrub finding) s = .next t ∧ t.pool.scrub = (s.pool.scrub + 1) % (1280 * sectorsPerPc) ∧
        t.mem = s.mem ∧ t.cmds = s.cmds ∧ (finding = 1 ∨ finding = 2 →
          ∃ row, ∃ x ∈ t.recorder.tests, x.unit = .memRow (s.pool.scrub / sectorsPerPc % 1280) row)) ∧
    (∀ ctx p, let w := Tab.get Sweep.idle s.pool.sweeps ctx
      let u := (List.range 128).foldl (fun (t : State) i => t.sweepSector w.retiring (128 * p + i)) s
      w.active = true →
      (s.sweepNext ctx = some p → s.grainWaits (4096 * p) 4096 = false →
        exec (.sweepPage ctx) s = .next { u with pool := { u.pool with
          sweeps := Tab.put Sweep.idle s.pool.sweeps ctx { w with next := p + 1 } } } ∧ u.pool.keys = s.pool.keys ∧
        u.cmds = s.cmds) ∧
      (s.sweepNext ctx = none → ∃ t, exec (.sweepComplete ctx) s = .next t ∧
        t.keySlots ctx = (s.keySlots ctx).zero w.retiring ∧ t.sweeping ctx = false ∧ t.mem = s.mem)) ∧
    (∀ stack, stack < 20 → (∀ p, p < 16 → s.bucketOwed (stack * 16 + p) = false) →
      ∃ t, exec (.regulatorRefill stack) s = .next t ∧
        t = { s with pool := { s.pool with buckets := t.pool.buckets, rates := t.pool.rates } } ∧ ∀ p, p < 16 →
          let k := stack * 16 + p
          let rate := s.objv (0x4100 + p) 5
          let burst := s.objv (0x4100 + p) 6
          (s.partOn p = true →
            Tab.get 0 t.pool.buckets k =
              (if rate = 0 then 0 else min burst (Tab.get 0 s.pool.buckets k + rate)) ∧
            Tab.get (0, 0) t.pool.rates k = (rate, burst)) ∧
          (s.partOn p = false → Tab.get 0 t.pool.buckets k = Tab.get 0 s.pool.buckets k ∧
            Tab.get (0, 0) t.pool.rates k = Tab.get (0, 0) s.pool.rates k)) ∧
    (∀ below above, (s.objv 0x4300 6 = 2 ∨ (s.objv 0x4300 6 = 1 ∧ s.scanMayRun = true)) → s.pool.scan.1 < 1280 →
      ∃ t, exec (.marginScanComplete below above) s = .next t ∧ t.objv 0x4300 6 = 3 ∧
        t.objv 0x4300 4 = min below (if s.pool.scan.2 = 2 then 30 else 32) ∧
        t.objv 0x4300 5 = min above (if s.pool.scan.2 = 2 then 30 else 32) ∧ t.cmds = s.cmds ∧
        (s.hostWait = [] → t.mem = s.mem) ∧
        (s.pool.scan.2 ≠ 2 → (t.objv 0x4001 (21 + s.pool.scan.1 / 64)).testBit (s.pool.scan.1 % 64) =
          decide (below < 12 ∨ above < 12)))

/-- Power and reset: power-on and RESET_N low leave the device in reset with nothing queued, the deadwood list and
the host's memory as they were; the rise of RESET_N runs the start-up to READY where a management die is in
service; a power loss leaves it unpowered. -/
def Obligations.PowerAndResetPins : Prop :=
  ∀ s : State,
    (s.pins.powered = false → ∃ t, exec .powerOn s = .next t ∧ t.pins = ⟨true, false, false, 1⟩ ∧ t.cmds = [] ∧
      t.recorder.dead = s.recorder.dead ∧ t.mem = [] ∧ t.host = s.host ∧ t.pace.mode = .unlocked) ∧
    (s.pins.powered = true → s.pins.resetN = true → ∃ t, exec .resetNLow s = .next t ∧
      t.pins = ⟨true, false, false, 2⟩ ∧ t.cmds = [] ∧ t.recorder.dead = s.recorder.dead ∧ t.mem = [] ∧
      t.host = s.host ∧ t.now = s.now) ∧
    (s.pins.powered = true → s.pins.resetN = false → ∀ failed, ∃ t, exec (.resetNRise failed) s = .next t ∧
      t.pins.resetN = true ∧
      ((s.retired (.mgmt 0) = false ∨ s.retired (.mgmt 1) = false) → t.pins.ready = true) ∧
      (s.retired (.mgmt 0) = false → t.mgmt.active = 0)) ∧
    (s.pins.powered = true → ∃ t, exec .powerLoss s = .next t ∧ t.pins = ⟨false, false, false, 1⟩ ∧ t.cmds = [] ∧
      t.power.thermtrip = false ∧ t.recorder.dead = s.recorder.dead)
end

