-- ==== Sys2Proof/Laws/State.lean ====
section
/-! SUPPORT. What each plain update of the state leaves alone, field by field: true by unfolding, for `simp`,
so that no proof opens a record update. -/

namespace Sys2Proof.Machine

variable (s : State)

/-! `State.usedFree` changes `free` alone. -/

@[simp] theorem State.usedFree_now (n : Nat) : (s.usedFree n).now = s.now := rfl
@[simp] theorem State.usedFree_pace (n : Nat) : (s.usedFree n).pace = s.pace := rfl
@[simp] theorem State.usedFree_cal (n : Nat) : (s.usedFree n).cal = s.cal := rfl
@[simp] theorem State.usedFree_windows (n : Nat) : (s.usedFree n).windows = s.windows := rfl
@[simp] theorem State.usedFree_windowMark (n : Nat) : (s.usedFree n).windowMark = s.windowMark := rfl
@[simp] theorem State.usedFree_queues (n : Nat) : (s.usedFree n).queues = s.queues := rfl
@[simp] theorem State.usedFree_cmds (n : Nat) : (s.usedFree n).cmds = s.cmds := rfl
@[simp] theorem State.usedFree_abortWaits (n : Nat) : (s.usedFree n).abortWaits = s.abortWaits := rfl
@[simp] theorem State.usedFree_notices (n : Nat) : (s.usedFree n).notices = s.notices := rfl
@[simp] theorem State.usedFree_ctxs (n : Nat) : (s.usedFree n).ctxs = s.ctxs := rfl
@[simp] theorem State.usedFree_sync (n : Nat) : (s.usedFree n).sync = s.sync := rfl
@[simp] theorem State.usedFree_samples (n : Nat) : (s.usedFree n).samples = s.samples := rfl
@[simp] theorem State.usedFree_stands (n : Nat) : (s.usedFree n).stands = s.stands := rfl
@[simp] theorem State.usedFree_acc (n : Nat) : (s.usedFree n).acc = s.acc := rfl
@[simp] theorem State.usedFree_core (n : Nat) : (s.usedFree n).core = s.core := rfl
@[simp] theorem State.usedFree_feeder (n : Nat) : (s.usedFree n).feeder = s.feeder := rfl
@[simp] theorem State.usedFree_versions (n : Nat) : (s.usedFree n).versions = s.versions := rfl
@[simp] theorem State.usedFree_tables (n : Nat) : (s.usedFree n).tables = s.tables := rfl
@[simp] theorem State.usedFree_batches (n : Nat) : (s.usedFree n).batches = s.batches := rfl
@[simp] theorem State.usedFree_asks (n : Nat) : (s.usedFree n).asks = s.asks := rfl
@[simp] theorem State.usedFree_remoteHolds (n : Nat) : (s.usedFree n).remoteHolds = s.remoteHolds := rfl
@[simp] theorem State.usedFree_regions (n : Nat) : (s.usedFree n).regions = s.regions := rfl
@[simp] theorem State.usedFree_undo (n : Nat) : (s.usedFree n).undo = s.undo := rfl
@[simp] theorem State.usedFree_tapDone (n : Nat) : (s.usedFree n).tapDone = s.tapDone := rfl
@[simp] theorem State.usedFree_fetches (n : Nat) : (s.usedFree n).fetches = s.fetches := rfl
@[simp] theorem State.usedFree_scheds (n : Nat) : (s.usedFree n).scheds = s.scheds := rfl
@[simp] theorem State.usedFree_mem (n : Nat) : (s.usedFree n).mem = s.mem := rfl
@[simp] theorem State.usedFree_host (n : Nat) : (s.usedFree n).host = s.host := rfl
@[simp] theorem State.usedFree_pool (n : Nat) : (s.usedFree n).pool = s.pool := rfl
@[simp] theorem State.usedFree_ports (n : Nat) : (s.usedFree n).ports = s.ports := rfl
@[simp] theorem State.usedFree_inbox (n : Nat) : (s.usedFree n).inbox = s.inbox := rfl
@[simp] theorem State.usedFree_waiting (n : Nat) : (s.usedFree n).waiting = s.waiting := rfl
@[simp] theorem State.usedFree_backlog (n : Nat) : (s.usedFree n).backlog = s.backlog := rfl
@[simp] theorem State.usedFree_routes (n : Nat) : (s.usedFree n).routes = s.routes := rfl
@[simp] theorem State.usedFree_hostWait (n : Nat) : (s.usedFree n).hostWait = s.hostWait := rfl
@[simp] theorem State.usedFree_membership (n : Nat) : (s.usedFree n).membership = s.membership := rfl
@[simp] theorem State.usedFree_colls (n : Nat) : (s.usedFree n).colls = s.colls := rfl
@[simp] theorem State.usedFree_seqs (n : Nat) : (s.usedFree n).seqs = s.seqs := rfl
@[simp] theorem State.usedFree_links (n : Nat) : (s.usedFree n).links = s.links := rfl
@[simp] theorem State.usedFree_funcs (n : Nat) : (s.usedFree n).funcs = s.funcs := rfl
@[simp] theorem State.usedFree_tdis (n : Nat) : (s.usedFree n).tdis = s.tdis := rfl
@[simp] theorem State.usedFree_trust (n : Nat) : (s.usedFree n).trust = s.trust := rfl
@[simp] theorem State.usedFree_power (n : Nat) : (s.usedFree n).power = s.power := rfl
@[simp] theorem State.usedFree_obj (n : Nat) : (s.usedFree n).obj = s.obj := rfl
@[simp] theorem State.usedFree_dom (n : Nat) : (s.usedFree n).dom = s.dom := rfl
@[simp] theorem State.usedFree_buses (n : Nat) : (s.usedFree n).buses = s.buses := rfl
@[simp] theorem State.usedFree_server (n : Nat) : (s.usedFree n).server = s.server := rfl
@[simp] theorem State.usedFree_recorder (n : Nat) : (s.usedFree n).recorder = s.recorder := rfl
@[simp] theorem State.usedFree_mgmt (n : Nat) : (s.usedFree n).mgmt = s.mgmt := rfl
@[simp] theorem State.usedFree_pins (n : Nat) : (s.usedFree n).pins = s.pins := rfl
@[simp] theorem State.usedFree_out (n : Nat) : (s.usedFree n).out = s.out := rfl
@[simp] theorem State.usedFree_draws (n : Nat) : (s.usedFree n).draws = s.draws := rfl
@[simp] theorem State.usedFree_nextTag (n : Nat) : (s.usedFree n).nextTag = s.nextTag := rfl
@[simp] theorem State.usedFree_releases (n : Nat) : (s.usedFree n).releases = s.releases := rfl
@[simp] theorem State.usedFree_turns (n : Nat) : (s.usedFree n).turns = s.turns := rfl
@[simp] theorem State.usedFree_pending (n : Nat) : (s.usedFree n).pending = s.pending := rfl

/-! `State.setObj` changes `obj` alone. -/

@[simp] theorem State.setObj_now (i b v : Nat) : (s.setObj i b v).now = s.now := rfl
@[simp] theorem State.setObj_pace (i b v : Nat) : (s.setObj i b v).pace = s.pace := rfl
@[simp] theorem State.setObj_cal (i b v : Nat) : (s.setObj i b v).cal = s.cal := rfl
@[simp] theorem State.setObj_windows (i b v : Nat) : (s.setObj i b v).windows = s.windows := rfl
@[simp] theorem State.setObj_windowMark (i b v : Nat) : (s.setObj i b v).windowMark = s.windowMark := rfl
@[simp] theorem State.setObj_queues (i b v : Nat) : (s.setObj i b v).queues = s.queues := rfl
@[simp] theorem State.setObj_cmds (i b v : Nat) : (s.setObj i b v).cmds = s.cmds := rfl
@[simp] theorem State.setObj_abortWaits (i b v : Nat) : (s.setObj i b v).abortWaits = s.abortWaits := rfl
@[simp] theorem State.setObj_notices (i b v : Nat) : (s.setObj i b v).notices = s.notices := rfl
@[simp] theorem State.setObj_ctxs (i b v : Nat) : (s.setObj i b v).ctxs = s.ctxs := rfl
@[simp] theorem State.setObj_sync (i b v : Nat) : (s.setObj i b v).sync = s.sync := rfl
@[simp] theorem State.setObj_samples (i b v : Nat) : (s.setObj i b v).samples = s.samples := rfl
@[simp] theorem State.setObj_stands (i b v : Nat) : (s.setObj i b v).stands = s.stands := rfl
@[simp] theorem State.setObj_acc (i b v : Nat) : (s.setObj i b v).acc = s.acc := rfl
@[simp] theorem State.setObj_core (i b v : Nat) : (s.setObj i b v).core = s.core := rfl
@[simp] theorem State.setObj_feeder (i b v : Nat) : (s.setObj i b v).feeder = s.feeder := rfl
@[simp] theorem State.setObj_versions (i b v : Nat) : (s.setObj i b v).versions = s.versions := rfl
@[simp] theorem State.setObj_tables (i b v : Nat) : (s.setObj i b v).tables = s.tables := rfl
@[simp] theorem State.setObj_batches (i b v : Nat) : (s.setObj i b v).batches = s.batches := rfl
@[simp] theorem State.setObj_asks (i b v : Nat) : (s.setObj i b v).asks = s.asks := rfl
@[simp] theorem State.setObj_remoteHolds (i b v : Nat) : (s.setObj i b v).remoteHolds = s.remoteHolds := rfl
@[simp] theorem State.setObj_regions (i b v : Nat) : (s.setObj i b v).regions = s.regions := rfl
@[simp] theorem State.setObj_undo (i b v : Nat) : (s.setObj i b v).undo = s.undo := rfl
@[simp] theorem State.setObj_tapDone (i b v : Nat) : (s.setObj i b v).tapDone = s.tapDone := rfl
@[simp] theorem State.setObj_fetches (i b v : Nat) : (s.setObj i b v).fetches = s.fetches := rfl
@[simp] theorem State.setObj_scheds (i b v : Nat) : (s.setObj i b v).scheds = s.scheds := rfl
@[simp] theorem State.setObj_mem (i b v : Nat) : (s.setObj i b v).mem = s.mem := rfl
@[simp] theorem State.setObj_host (i b v : Nat) : (s.setObj i b v).host = s.host := rfl
@[simp] theorem State.setObj_pool (i b v : Nat) : (s.setObj i b v).pool = s.pool := rfl
@[simp] theorem State.setObj_ports (i b v : Nat) : (s.setObj i b v).ports = s.ports := rfl
@[simp] theorem State.setObj_inbox (i b v : Nat) : (s.setObj i b v).inbox = s.inbox := rfl
@[simp] theorem State.setObj_waiting (i b v : Nat) : (s.setObj i b v).waiting = s.waiting := rfl
@[simp] theorem State.setObj_backlog (i b v : Nat) : (s.setObj i b v).backlog = s.backlog := rfl
@[simp] theorem State.setObj_routes (i b v : Nat) : (s.setObj i b v).routes = s.routes := rfl
@[simp] theorem State.setObj_hostWait (i b v : Nat) : (s.setObj i b v).hostWait = s.hostWait := rfl
@[simp] theorem State.setObj_membership (i b v : Nat) : (s.setObj i b v).membership = s.membership := rfl
@[simp] theorem State.setObj_colls (i b v : Nat) : (s.setObj i b v).colls = s.colls := rfl
@[simp] theorem State.setObj_seqs (i b v : Nat) : (s.setObj i b v).seqs = s.seqs := rfl
@[simp] theorem State.setObj_links (i b v : Nat) : (s.setObj i b v).links = s.links := rfl
@[simp] theorem State.setObj_funcs (i b v : Nat) : (s.setObj i b v).funcs = s.funcs := rfl
@[simp] theorem State.setObj_tdis (i b v : Nat) : (s.setObj i b v).tdis = s.tdis := rfl
@[simp] theorem State.setObj_trust (i b v : Nat) : (s.setObj i b v).trust = s.trust := rfl
@[simp] theorem State.setObj_power (i b v : Nat) : (s.setObj i b v).power = s.power := rfl
@[simp] theorem State.setObj_dom (i b v : Nat) : (s.setObj i b v).dom = s.dom := rfl
@[simp] theorem State.setObj_buses (i b v : Nat) : (s.setObj i b v).buses = s.buses := rfl
@[simp] theorem State.setObj_server (i b v : Nat) : (s.setObj i b v).server = s.server := rfl
@[simp] theorem State.setObj_recorder (i b v : Nat) : (s.setObj i b v).recorder = s.recorder := rfl
@[simp] theorem State.setObj_mgmt (i b v : Nat) : (s.setObj i b v).mgmt = s.mgmt := rfl
@[simp] theorem State.setObj_pins (i b v : Nat) : (s.setObj i b v).pins = s.pins := rfl
@[simp] theorem State.setObj_out (i b v : Nat) : (s.setObj i b v).out = s.out := rfl
@[simp] theorem State.setObj_free (i b v : Nat) : (s.setObj i b v).free = s.free := rfl
@[simp] theorem State.setObj_draws (i b v : Nat) : (s.setObj i b v).draws = s.draws := rfl
@[simp] theorem State.setObj_nextTag (i b v : Nat) : (s.setObj i b v).nextTag = s.nextTag := rfl
@[simp] theorem State.setObj_releases (i b v : Nat) : (s.setObj i b v).releases = s.releases := rfl
@[simp] theorem State.setObj_turns (i b v : Nat) : (s.setObj i b v).turns = s.turns := rfl
@[simp] theorem State.setObj_pending (i b v : Nat) : (s.setObj i b v).pending = s.pending := rfl

/-! `State.setSync` changes `sync` and `queues` alone. -/

@[simp] theorem State.setSync_now (o : Nat) (x : SyncObj) : (s.setSync o x).now = s.now := rfl
@[simp] theorem State.setSync_pace (o : Nat) (x : SyncObj) : (s.setSync o x).pace = s.pace := rfl
@[simp] theorem State.setSync_cal (o : Nat) (x : SyncObj) : (s.setSync o x).cal = s.cal := rfl
@[simp] theorem State.setSync_windows (o : Nat) (x : SyncObj) : (s.setSync o x).windows = s.windows := rfl
@[simp] theorem State.setSync_windowMark (o : Nat) (x : SyncObj) : (s.setSync o x).windowMark = s.windowMark := rfl
@[simp] theorem State.setSync_cmds (o : Nat) (x : SyncObj) : (s.setSync o x).cmds = s.cmds := rfl
@[simp] theorem State.setSync_abortWaits (o : Nat) (x : SyncObj) : (s.setSync o x).abortWaits = s.abortWaits := rfl
@[simp] theorem State.setSync_notices (o : Nat) (x : SyncObj) : (s.setSync o x).notices = s.notices := rfl
@[simp] theorem State.setSync_ctxs (o : Nat) (x : SyncObj) : (s.setSync o x).ctxs = s.ctxs := rfl
@[simp] theorem State.setSync_samples (o : Nat) (x : SyncObj) : (s.setSync o x).samples = s.samples := rfl
@[simp] theorem State.setSync_stands (o : Nat) (x : SyncObj) : (s.setSync o x).stands = s.stands := rfl
@[simp] theorem State.setSync_acc (o : Nat) (x : SyncObj) : (s.setSync o x).acc = s.acc := rfl
@[simp] theorem State.setSync_core (o : Nat) (x : SyncObj) : (s.setSync o x).core = s.core := rfl
@[simp] theorem State.setSync_feeder (o : Nat) (x : SyncObj) : (s.setSync o x).feeder = s.feeder := rfl
@[simp] theorem State.setSync_versions (o : Nat) (x : SyncObj) : (s.setSync o x).versions = s.versions := rfl
@[simp] theorem State.setSync_tables (o : Nat) (x : SyncObj) : (s.setSync o x).tables = s.tables := rfl
@[simp] theorem State.setSync_batches (o : Nat) (x : SyncObj) : (s.setSync o x).batches = s.batches := rfl
@[simp] theorem State.setSync_asks (o : Nat) (x : SyncObj) : (s.setSync o x).asks = s.asks := rfl
@[simp] theorem State.setSync_remoteHolds (o : Nat) (x : SyncObj) : (s.setSync o x).remoteHolds = s.remoteHolds := rfl
@[simp] theorem State.setSync_regions (o : Nat) (x : SyncObj) : (s.setSync o x).regions = s.regions := rfl
@[simp] theorem State.setSync_undo (o : Nat) (x : SyncObj) : (s.setSync o x).undo = s.undo := rfl
@[simp] theorem State.setSync_tapDone (o : Nat) (x : SyncObj) : (s.setSync o x).tapDone = s.tapDone := rfl
@[simp] theorem State.setSync_fetches (o : Nat) (x : SyncObj) : (s.setSync o x).fetches = s.fetches := rfl
@[simp] theorem State.setSync_scheds (o : Nat) (x : SyncObj) : (s.setSync o x).scheds = s.scheds := rfl
@[simp] theorem State.setSync_mem (o : Nat) (x : SyncObj) : (s.setSync o x).mem = s.mem := rfl
@[simp] theorem State.setSync_host (o : Nat) (x : SyncObj) : (s.setSync o x).host = s.host := rfl
@[simp] theorem State.setSync_pool (o : Nat) (x : SyncObj) : (s.setSync o x).pool = s.pool := rfl
@[simp] theorem State.setSync_ports (o : Nat) (x : SyncObj) : (s.setSync o x).ports = s.ports := rfl
@[simp] theorem State.setSync_inbox (o : Nat) (x : SyncObj) : (s.setSync o x).inbox = s.inbox := rfl
@[simp] theorem State.setSync_waiting (o : Nat) (x : SyncObj) : (s.setSync o x).waiting = s.waiting := rfl
@[simp] theorem State.setSync_backlog (o : Nat) (x : SyncObj) : (s.setSync o x).backlog = s.backlog := rfl
@[simp] theorem State.setSync_routes (o : Nat) (x : SyncObj) : (s.setSync o x).routes = s.routes := rfl
@[simp] theorem State.setSync_hostWait (o : Nat) (x : SyncObj) : (s.setSync o x).hostWait = s.hostWait := rfl
@[simp] theorem State.setSync_membership (o : Nat) (x : SyncObj) : (s.setSync o x).membership = s.membership := rfl
@[simp] theorem State.setSync_colls (o : Nat) (x : SyncObj) : (s.setSync o x).colls = s.colls := rfl
@[simp] theorem State.setSync_seqs (o : Nat) (x : SyncObj) : (s.setSync o x).seqs = s.seqs := rfl
@[simp] theorem State.setSync_links (o : Nat) (x : SyncObj) : (s.setSync o x).links = s.links := rfl
@[simp] theorem State.setSync_funcs (o : Nat) (x : SyncObj) : (s.setSync o x).funcs = s.funcs := rfl
@[simp] theorem State.setSync_tdis (o : Nat) (x : SyncObj) : (s.setSync o x).tdis = s.tdis := rfl
@[simp] theorem State.setSync_trust (o : Nat) (x : SyncObj) : (s.setSync o x).trust = s.trust := rfl
@[simp] theorem State.setSync_power (o : Nat) (x : SyncObj) : (s.setSync o x).power = s.power := rfl
@[simp] theorem State.setSync_obj (o : Nat) (x : SyncObj) : (s.setSync o x).obj = s.obj := rfl
@[simp] theorem State.setSync_dom (o : Nat) (x : SyncObj) : (s.setSync o x).dom = s.dom := rfl
@[simp] theorem State.setSync_buses (o : Nat) (x : SyncObj) : (s.setSync o x).buses = s.buses := rfl
@[simp] theorem State.setSync_server (o : Nat) (x : SyncObj) : (s.setSync o x).server = s.server := rfl
@[simp] theorem State.setSync_recorder (o : Nat) (x : SyncObj) : (s.setSync o x).recorder = s.recorder := rfl
@[simp] theorem State.setSync_mgmt (o : Nat) (x : SyncObj) : (s.setSync o x).mgmt = s.mgmt := rfl
@[simp] theorem State.setSync_pins (o : Nat) (x : SyncObj) : (s.setSync o x).pins = s.pins := rfl
@[simp] theorem State.setSync_out (o : Nat) (x : SyncObj) : (s.setSync o x).out = s.out := rfl
@[simp] theorem State.setSync_free (o : Nat) (x : SyncObj) : (s.setSync o x).free = s.free := rfl
@[simp] theorem State.setSync_draws (o : Nat) (x : SyncObj) : (s.setSync o x).draws = s.draws := rfl
@[simp] theorem State.setSync_nextTag (o : Nat) (x : SyncObj) : (s.setSync o x).nextTag = s.nextTag := rfl
@[simp] theorem State.setSync_releases (o : Nat) (x : SyncObj) : (s.setSync o x).releases = s.releases := rfl
@[simp] theorem State.setSync_turns (o : Nat) (x : SyncObj) : (s.setSync o x).turns = s.turns := rfl
@[simp] theorem State.setSync_pending (o : Nat) (x : SyncObj) : (s.setSync o x).pending = s.pending := rfl

/-! `State.addObj` changes `sync` and `queues` alone. -/

@[simp] theorem State.addObj_now (o n : Nat) (f : Bool) : (s.addObj o n f).now = s.now := rfl
@[simp] theorem State.addObj_pace (o n : Nat) (f : Bool) : (s.addObj o n f).pace = s.pace := rfl
@[simp] theorem State.addObj_cal (o n : Nat) (f : Bool) : (s.addObj o n f).cal = s.cal := rfl
@[simp] theorem State.addObj_windows (o n : Nat) (f : Bool) : (s.addObj o n f).windows = s.windows := rfl
@[simp] theorem State.addObj_windowMark (o n : Nat) (f : Bool) : (s.addObj o n f).windowMark = s.windowMark := rfl
@[simp] theorem State.addObj_cmds (o n : Nat) (f : Bool) : (s.addObj o n f).cmds = s.cmds := rfl
@[simp] theorem State.addObj_abortWaits (o n : Nat) (f : Bool) : (s.addObj o n f).abortWaits = s.abortWaits := rfl
@[simp] theorem State.addObj_notices (o n : Nat) (f : Bool) : (s.addObj o n f).notices = s.notices := rfl
@[simp] theorem State.addObj_ctxs (o n : Nat) (f : Bool) : (s.addObj o n f).ctxs = s.ctxs := rfl
@[simp] theorem State.addObj_samples (o n : Nat) (f : Bool) : (s.addObj o n f).samples = s.samples := rfl
@[simp] theorem State.addObj_stands (o n : Nat) (f : Bool) : (s.addObj o n f).stands = s.stands := rfl
@[simp] theorem State.addObj_acc (o n : Nat) (f : Bool) : (s.addObj o n f).acc = s.acc := rfl
@[simp] theorem State.addObj_core (o n : Nat) (f : Bool) : (s.addObj o n f).core = s.core := rfl
@[simp] theorem State.addObj_feeder (o n : Nat) (f : Bool) : (s.addObj o n f).feeder = s.feeder := rfl
@[simp] theorem State.addObj_versions (o n : Nat) (f : Bool) : (s.addObj o n f).versions = s.versions := rfl
@[simp] theorem State.addObj_tables (o n : Nat) (f : Bool) : (s.addObj o n f).tables = s.tables := rfl
@[simp] theorem State.addObj_batches (o n : Nat) (f : Bool) : (s.addObj o n f).batches = s.batches := rfl
@[simp] theorem State.addObj_asks (o n : Nat) (f : Bool) : (s.addObj o n f).asks = s.asks := rfl
@[simp] theorem State.addObj_remoteHolds (o n : Nat) (f : Bool) : (s.addObj o n f).remoteHolds = s.remoteHolds := rfl
@[simp] theorem State.addObj_regions (o n : Nat) (f : Bool) : (s.addObj o n f).regions = s.regions := rfl
@[simp] theorem State.addObj_undo (o n : Nat) (f : Bool) : (s.addObj o n f).undo = s.undo := rfl
@[simp] theorem State.addObj_tapDone (o n : Nat) (f : Bool) : (s.addObj o n f).tapDone = s.tapDone := rfl
@[simp] theorem State.addObj_fetches (o n : Nat) (f : Bool) : (s.addObj o n f).fetches = s.fetches := rfl
@[simp] theorem State.addObj_scheds (o n : Nat) (f : Bool) : (s.addObj o n f).scheds = s.scheds := rfl
@[simp] theorem State.addObj_mem (o n : Nat) (f : Bool) : (s.addObj o n f).mem = s.mem := rfl
@[simp] theorem State.addObj_host (o n : Nat) (f : Bool) : (s.addObj o n f).host = s.host := rfl
@[simp] theorem State.addObj_pool (o n : Nat) (f : Bool) : (s.addObj o n f).pool = s.pool := rfl
@[simp] theorem State.addObj_ports (o n : Nat) (f : Bool) : (s.addObj o n f).ports = s.ports := rfl
@[simp] theorem State.addObj_inbox (o n : Nat) (f : Bool) : (s.addObj o n f).inbox = s.inbox := rfl
@[simp] theorem State.addObj_waiting (o n : Nat) (f : Bool) : (s.addObj o n f).waiting = s.waiting := rfl
@[simp] theorem State.addObj_backlog (o n : Nat) (f : Bool) : (s.addObj o n f).backlog = s.backlog := rfl
@[simp] theorem State.addObj_routes (o n : Nat) (f : Bool) : (s.addObj o n f).routes = s.routes := rfl
@[simp] theorem State.addObj_hostWait (o n : Nat) (f : Bool) : (s.addObj o n f).hostWait = s.hostWait := rfl
@[simp] theorem State.addObj_membership (o n : Nat) (f : Bool) : (s.addObj o n f).membership = s.membership := rfl
@[simp] theorem State.addObj_colls (o n : Nat) (f : Bool) : (s.addObj o n f).colls = s.colls := rfl
@[simp] theorem State.addObj_seqs (o n : Nat) (f : Bool) : (s.addObj o n f).seqs = s.seqs := rfl
@[simp] theorem State.addObj_links (o n : Nat) (f : Bool) : (s.addObj o n f).links = s.links := rfl
@[simp] theorem State.addObj_funcs (o n : Nat) (f : Bool) : (s.addObj o n f).funcs = s.funcs := rfl
@[simp] theorem State.addObj_tdis (o n : Nat) (f : Bool) : (s.addObj o n f).tdis = s.tdis := rfl
@[simp] theorem State.addObj_trust (o n : Nat) (f : Bool) : (s.addObj o n f).trust = s.trust := rfl
@[simp] theorem State.addObj_power (o n : Nat) (f : Bool) : (s.addObj o n f).power = s.power := rfl
@[simp] theorem State.addObj_obj (o n : Nat) (f : Bool) : (s.addObj o n f).obj = s.obj := rfl
@[simp] theorem State.addObj_dom (o n : Nat) (f : Bool) : (s.addObj o n f).dom = s.dom := rfl
@[simp] theorem State.addObj_buses (o n : Nat) (f : Bool) : (s.addObj o n f).buses = s.buses := rfl
@[simp] theorem State.addObj_server (o n : Nat) (f : Bool) : (s.addObj o n f).server = s.server := rfl
@[simp] theorem State.addObj_recorder (o n : Nat) (f : Bool) : (s.addObj o n f).recorder = s.recorder := rfl
@[simp] theorem State.addObj_mgmt (o n : Nat) (f : Bool) : (s.addObj o n f).mgmt = s.mgmt := rfl
@[simp] theorem State.addObj_pins (o n : Nat) (f : Bool) : (s.addObj o n f).pins = s.pins := rfl
@[simp] theorem State.addObj_out (o n : Nat) (f : Bool) : (s.addObj o n f).out = s.out := rfl
@[simp] theorem State.addObj_free (o n : Nat) (f : Bool) : (s.addObj o n f).free = s.free := rfl
@[simp] theorem State.addObj_draws (o n : Nat) (f : Bool) : (s.addObj o n f).draws = s.draws := rfl
@[simp] theorem State.addObj_nextTag (o n : Nat) (f : Bool) : (s.addObj o n f).nextTag = s.nextTag := rfl
@[simp] theorem State.addObj_releases (o n : Nat) (f : Bool) : (s.addObj o n f).releases = s.releases := rfl
@[simp] theorem State.addObj_turns (o n : Nat) (f : Bool) : (s.addObj o n f).turns = s.turns := rfl
@[simp] theorem State.addObj_pending (o n : Nat) (f : Bool) : (s.addObj o n f).pending = s.pending := rfl

/-! `State.setCtx` changes `ctxs` alone. -/

@[simp] theorem State.setCtx_now (c : Nat) (x : Ctx) : (s.setCtx c x).now = s.now := rfl
@[simp] theorem State.setCtx_pace (c : Nat) (x : Ctx) : (s.setCtx c x).pace = s.pace := rfl
@[simp] theorem State.setCtx_cal (c : Nat) (x : Ctx) : (s.setCtx c x).cal = s.cal := rfl
@[simp] theorem State.setCtx_windows (c : Nat) (x : Ctx) : (s.setCtx c x).windows = s.windows := rfl
@[simp] theorem State.setCtx_windowMark (c : Nat) (x : Ctx) : (s.setCtx c x).windowMark = s.windowMark := rfl
@[simp] theorem State.setCtx_queues (c : Nat) (x : Ctx) : (s.setCtx c x).queues = s.queues := rfl
@[simp] theorem State.setCtx_cmds (c : Nat) (x : Ctx) : (s.setCtx c x).cmds = s.cmds := rfl
@[simp] theorem State.setCtx_abortWaits (c : Nat) (x : Ctx) : (s.setCtx c x).abortWaits = s.abortWaits := rfl
@[simp] theorem State.setCtx_notices (c : Nat) (x : Ctx) : (s.setCtx c x).notices = s.notices := rfl
@[simp] theorem State.setCtx_sync (c : Nat) (x : Ctx) : (s.setCtx c x).sync = s.sync := rfl
@[simp] theorem State.setCtx_samples (c : Nat) (x : Ctx) : (s.setCtx c x).samples = s.samples := rfl
@[simp] theorem State.setCtx_stands (c : Nat) (x : Ctx) : (s.setCtx c x).stands = s.stands := rfl
@[simp] theorem State.setCtx_acc (c : Nat) (x : Ctx) : (s.setCtx c x).acc = s.acc := rfl
@[simp] theorem State.setCtx_core (c : Nat) (x : Ctx) : (s.setCtx c x).core = s.core := rfl
@[simp] theorem State.setCtx_feeder (c : Nat) (x : Ctx) : (s.setCtx c x).feeder = s.feeder := rfl
@[simp] theorem State.setCtx_versions (c : Nat) (x : Ctx) : (s.setCtx c x).versions = s.versions := rfl
@[simp] theorem State.setCtx_tables (c : Nat) (x : Ctx) : (s.setCtx c x).tables = s.tables := rfl
@[simp] theorem State.setCtx_batches (c : Nat) (x : Ctx) : (s.setCtx c x).batches = s.batches := rfl
@[simp] theorem State.setCtx_asks (c : Nat) (x : Ctx) : (s.setCtx c x).asks = s.asks := rfl
@[simp] theorem State.setCtx_remoteHolds (c : Nat) (x : Ctx) : (s.setCtx c x).remoteHolds = s.remoteHolds := rfl
@[simp] theorem State.setCtx_regions (c : Nat) (x : Ctx) : (s.setCtx c x).regions = s.regions := rfl
@[simp] theorem State.setCtx_undo (c : Nat) (x : Ctx) : (s.setCtx c x).undo = s.undo := rfl
@[simp] theorem State.setCtx_tapDone (c : Nat) (x : Ctx) : (s.setCtx c x).tapDone = s.tapDone := rfl
@[simp] theorem State.setCtx_fetches (c : Nat) (x : Ctx) : (s.setCtx c x).fetches = s.fetches := rfl
@[simp] theorem State.setCtx_scheds (c : Nat) (x : Ctx) : (s.setCtx c x).scheds = s.scheds := rfl
@[simp] theorem State.setCtx_mem (c : Nat) (x : Ctx) : (s.setCtx c x).mem = s.mem := rfl
@[simp] theorem State.setCtx_host (c : Nat) (x : Ctx) : (s.setCtx c x).host = s.host := rfl
@[simp] theorem State.setCtx_pool (c : Nat) (x : Ctx) : (s.setCtx c x).pool = s.pool := rfl
@[simp] theorem State.setCtx_ports (c : Nat) (x : Ctx) : (s.setCtx c x).ports = s.ports := rfl
@[simp] theorem State.setCtx_inbox (c : Nat) (x : Ctx) : (s.setCtx c x).inbox = s.inbox := rfl
@[simp] theorem State.setCtx_waiting (c : Nat) (x : Ctx) : (s.setCtx c x).waiting = s.waiting := rfl
@[simp] theorem State.setCtx_backlog (c : Nat) (x : Ctx) : (s.setCtx c x).backlog = s.backlog := rfl
@[simp] theorem State.setCtx_routes (c : Nat) (x : Ctx) : (s.setCtx c x).routes = s.routes := rfl
@[simp] theorem State.setCtx_hostWait (c : Nat) (x : Ctx) : (s.setCtx c x).hostWait = s.hostWait := rfl
@[simp] theorem State.setCtx_membership (c : Nat) (x : Ctx) : (s.setCtx c x).membership = s.membership := rfl
@[simp] theorem State.setCtx_colls (c : Nat) (x : Ctx) : (s.setCtx c x).colls = s.colls := rfl
@[simp] theorem State.setCtx_seqs (c : Nat) (x : Ctx) : (s.setCtx c x).seqs = s.seqs := rfl
@[simp] theorem State.setCtx_links (c : Nat) (x : Ctx) : (s.setCtx c x).links = s.links := rfl
@[simp] theorem State.setCtx_funcs (c : Nat) (x : Ctx) : (s.setCtx c x).funcs = s.funcs := rfl
@[simp] theorem State.setCtx_tdis (c : Nat) (x : Ctx) : (s.setCtx c x).tdis = s.tdis := rfl
@[simp] theorem State.setCtx_trust (c : Nat) (x : Ctx) : (s.setCtx c x).trust = s.trust := rfl
@[simp] theorem State.setCtx_power (c : Nat) (x : Ctx) : (s.setCtx c x).power = s.power := rfl
@[simp] theorem State.setCtx_obj (c : Nat) (x : Ctx) : (s.setCtx c x).obj = s.obj := rfl
@[simp] theorem State.setCtx_dom (c : Nat) (x : Ctx) : (s.setCtx c x).dom = s.dom := rfl
@[simp] theorem State.setCtx_buses (c : Nat) (x : Ctx) : (s.setCtx c x).buses = s.buses := rfl
@[simp] theorem State.setCtx_server (c : Nat) (x : Ctx) : (s.setCtx c x).server = s.server := rfl
@[simp] theorem State.setCtx_recorder (c : Nat) (x : Ctx) : (s.setCtx c x).recorder = s.recorder := rfl
@[simp] theorem State.setCtx_mgmt (c : Nat) (x : Ctx) : (s.setCtx c x).mgmt = s.mgmt := rfl
@[simp] theorem State.setCtx_pins (c : Nat) (x : Ctx) : (s.setCtx c x).pins = s.pins := rfl
@[simp] theorem State.setCtx_out (c : Nat) (x : Ctx) : (s.setCtx c x).out = s.out := rfl
@[simp] theorem State.setCtx_free (c : Nat) (x : Ctx) : (s.setCtx c x).free = s.free := rfl
@[simp] theorem State.setCtx_draws (c : Nat) (x : Ctx) : (s.setCtx c x).draws = s.draws := rfl
@[simp] theorem State.setCtx_nextTag (c : Nat) (x : Ctx) : (s.setCtx c x).nextTag = s.nextTag := rfl
@[simp] theorem State.setCtx_releases (c : Nat) (x : Ctx) : (s.setCtx c x).releases = s.releases := rfl
@[simp] theorem State.setCtx_turns (c : Nat) (x : Ctx) : (s.setCtx c x).turns = s.turns := rfl
@[simp] theorem State.setCtx_pending (c : Nat) (x : Ctx) : (s.setCtx c x).pending = s.pending := rfl

/-! `State.updCmd` changes `cmds` alone. -/

@[simp] theorem State.updCmd_now (id : CmdId) (f : Cmd → Cmd) : (s.updCmd id f).now = s.now := rfl
@[simp] theorem State.updCmd_pace (id : CmdId) (f : Cmd → Cmd) : (s.updCmd id f).pace = s.pace := rfl
@[simp] theorem State.updCmd_cal (id : CmdId) (f : Cmd → Cmd) : (s.updCmd id f).cal = s.cal := rfl
@[simp] theorem State.updCmd_windows (id : CmdId) (f : Cmd → Cmd) : (s.updCmd id f).windows = s.windows := rfl
@[simp] theorem State.updCmd_windowMark (id : CmdId) (f : Cmd → Cmd) : (s.updCmd id f).windowMark = s.windowMark := rfl
@[simp] theorem State.updCmd_queues (id : CmdId) (f : Cmd → Cmd) : (s.updCmd id f).queues = s.queues := rfl
@[simp] theorem State.updCmd_abortWaits (id : CmdId) (f : Cmd → Cmd) : (s.updCmd id f).abortWaits = s.abortWaits := rfl
@[simp] theorem State.updCmd_notices (id : CmdId) (f : Cmd → Cmd) : (s.updCmd id f).notices = s.notices := rfl
@[simp] theorem State.updCmd_ctxs (id : CmdId) (f : Cmd → Cmd) : (s.updCmd id f).ctxs = s.ctxs := rfl
@[simp] theorem State.updCmd_sync (id : CmdId) (f : Cmd → Cmd) : (s.updCmd id f).sync = s.sync := rfl
@[simp] theorem State.updCmd_samples (id : CmdId) (f : Cmd → Cmd) : (s.updCmd id f).samples = s.samples := rfl
@[simp] theorem State.updCmd_stands (id : CmdId) (f : Cmd → Cmd) : (s.updCmd id f).stands = s.stands := rfl
@[simp] theorem State.updCmd_acc (id : CmdId) (f : Cmd → Cmd) : (s.updCmd id f).acc = s.acc := rfl
@[simp] theorem State.updCmd_core (id : CmdId) (f : Cmd → Cmd) : (s.updCmd id f).core = s.core := rfl
@[simp] theorem State.updCmd_feeder (id : CmdId) (f : Cmd → Cmd) : (s.updCmd id f).feeder = s.feeder := rfl
@[simp] theorem State.updCmd_versions (id : CmdId) (f : Cmd → Cmd) : (s.updCmd id f).versions = s.versions := rfl
@[simp] theorem State.updCmd_tables (id : CmdId) (f : Cmd → Cmd) : (s.updCmd id f).tables = s.tables := rfl
@[simp] theorem State.updCmd_batches (id : CmdId) (f : Cmd → Cmd) : (s.updCmd id f).batches = s.batches := rfl
@[simp] theorem State.updCmd_asks (id : CmdId) (f : Cmd → Cmd) : (s.updCmd id f).asks = s.asks := rfl
@[simp] theorem State.updCmd_remoteHolds (id : CmdId) (f : Cmd → Cmd) : (s.updCmd id f).remoteHolds = s.remoteHolds := rfl
@[simp] theorem State.updCmd_regions (id : CmdId) (f : Cmd → Cmd) : (s.updCmd id f).regions = s.regions := rfl
@[simp] theorem State.updCmd_undo (id : CmdId) (f : Cmd → Cmd) : (s.updCmd id f).undo = s.undo := rfl
@[simp] theorem State.updCmd_tapDone (id : CmdId) (f : Cmd → Cmd) : (s.updCmd id f).tapDone = s.tapDone := rfl
@[simp] theorem State.updCmd_fetches (id : CmdId) (f : Cmd → Cmd) : (s.updCmd id f).fetches = s.fetches := rfl
@[simp] theorem State.updCmd_scheds (id : CmdId) (f : Cmd → Cmd) : (s.updCmd id f).scheds = s.scheds := rfl
@[simp] theorem State.updCmd_mem (id : CmdId) (f : Cmd → Cmd) : (s.updCmd id f).mem = s.mem := rfl
@[simp] theorem State.updCmd_host (id : CmdId) (f : Cmd → Cmd) : (s.updCmd id f).host = s.host := rfl
@[simp] theorem State.updCmd_pool (id : CmdId) (f : Cmd → Cmd) : (s.updCmd id f).pool = s.pool := rfl
@[simp] theorem State.updCmd_ports (id : CmdId) (f : Cmd → Cmd) : (s.updCmd id f).ports = s.ports := rfl
@[simp] theorem State.updCmd_inbox (id : CmdId) (f : Cmd → Cmd) : (s.updCmd id f).inbox = s.inbox := rfl
@[simp] theorem State.updCmd_waiting (id : CmdId) (f : Cmd → Cmd) : (s.updCmd id f).waiting = s.waiting := rfl
@[simp] theorem State.updCmd_backlog (id : CmdId) (f : Cmd → Cmd) : (s.updCmd id f).backlog = s.backlog := rfl
@[simp] theorem State.updCmd_routes (id : CmdId) (f : Cmd → Cmd) : (s.updCmd id f).routes = s.routes := rfl
@[simp] theorem State.updCmd_hostWait (id : CmdId) (f : Cmd → Cmd) : (s.updCmd id f).hostWait = s.hostWait := rfl
@[simp] theorem State.updCmd_membership (id : CmdId) (f : Cmd → Cmd) : (s.updCmd id f).membership = s.membership := rfl
@[simp] theorem State.updCmd_colls (id : CmdId) (f : Cmd → Cmd) : (s.updCmd id f).colls = s.colls := rfl
@[simp] theorem State.updCmd_seqs (id : CmdId) (f : Cmd → Cmd) : (s.updCmd id f).seqs = s.seqs := rfl
@[simp] theorem State.updCmd_links (id : CmdId) (f : Cmd → Cmd) : (s.updCmd id f).links = s.links := rfl
@[simp] theorem State.updCmd_funcs (id : CmdId) (f : Cmd → Cmd) : (s.updCmd id f).funcs = s.funcs := rfl
@[simp] theorem State.updCmd_tdis (id : CmdId) (f : Cmd → Cmd) : (s.updCmd id f).tdis = s.tdis := rfl
@[simp] theorem State.updCmd_trust (id : CmdId) (f : Cmd → Cmd) : (s.updCmd id f).trust = s.trust := rfl
@[simp] theorem State.updCmd_power (id : CmdId) (f : Cmd → Cmd) : (s.updCmd id f).power = s.power := rfl
@[simp] theorem State.updCmd_obj (id : CmdId) (f : Cmd → Cmd) : (s.updCmd id f).obj = s.obj := rfl
@[simp] theorem State.updCmd_dom (id : CmdId) (f : Cmd → Cmd) : (s.updCmd id f).dom = s.dom := rfl
@[simp] theorem State.updCmd_buses (id : CmdId) (f : Cmd → Cmd) : (s.updCmd id f).buses = s.buses := rfl
@[simp] theorem State.updCmd_server (id : CmdId) (f : Cmd → Cmd) : (s.updCmd id f).server = s.server := rfl
@[simp] theorem State.updCmd_recorder (id : CmdId) (f : Cmd → Cmd) : (s.updCmd id f).recorder = s.recorder := rfl
@[simp] theorem State.updCmd_mgmt (id : CmdId) (f : Cmd → Cmd) : (s.updCmd id f).mgmt = s.mgmt := rfl
@[simp] theorem State.updCmd_pins (id : CmdId) (f : Cmd → Cmd) : (s.updCmd id f).pins = s.pins := rfl
@[simp] theorem State.updCmd_out (id : CmdId) (f : Cmd → Cmd) : (s.updCmd id f).out = s.out := rfl
@[simp] theorem State.updCmd_free (id : CmdId) (f : Cmd → Cmd) : (s.updCmd id f).free = s.free := rfl
@[simp] theorem State.updCmd_draws (id : CmdId) (f : Cmd → Cmd) : (s.updCmd id f).draws = s.draws := rfl
@[simp] theorem State.updCmd_nextTag (id : CmdId) (f : Cmd → Cmd) : (s.updCmd id f).nextTag = s.nextTag := rfl
@[simp] theorem State.updCmd_releases (id : CmdId) (f : Cmd → Cmd) : (s.updCmd id f).releases = s.releases := rfl
@[simp] theorem State.updCmd_turns (id : CmdId) (f : Cmd → Cmd) : (s.updCmd id f).turns = s.turns := rfl
@[simp] theorem State.updCmd_pending (id : CmdId) (f : Cmd → Cmd) : (s.updCmd id f).pending = s.pending := rfl

/-! `State.finish` changes `cmds` alone. -/

@[simp] theorem State.finish_now (id : CmdId) (st : Status) : (s.finish id st).now = s.now := rfl
@[simp] theorem State.finish_pace (id : CmdId) (st : Status) : (s.finish id st).pace = s.pace := rfl
@[simp] theorem State.finish_cal (id : CmdId) (st : Status) : (s.finish id st).cal = s.cal := rfl
@[simp] theorem State.finish_windows (id : CmdId) (st : Status) : (s.finish id st).windows = s.windows := rfl
@[simp] theorem State.finish_windowMark (id : CmdId) (st : Status) : (s.finish id st).windowMark = s.windowMark := rfl
@[simp] theorem State.finish_queues (id : CmdId) (st : Status) : (s.finish id st).queues = s.queues := rfl
@[simp] theorem State.finish_abortWaits (id : CmdId) (st : Status) : (s.finish id st).abortWaits = s.abortWaits := rfl
@[simp] theorem State.finish_notices (id : CmdId) (st : Status) : (s.finish id st).notices = s.notices := rfl
@[simp] theorem State.finish_ctxs (id : CmdId) (st : Status) : (s.finish id st).ctxs = s.ctxs := rfl
@[simp] theorem State.finish_sync (id : CmdId) (st : Status) : (s.finish id st).sync = s.sync := rfl
@[simp] theorem State.finish_samples (id : CmdId) (st : Status) : (s.finish id st).samples = s.samples := rfl
@[simp] theorem State.finish_stands (id : CmdId) (st : Status) : (s.finish id st).stands = s.stands := rfl
@[simp] theorem State.finish_acc (id : CmdId) (st : Status) : (s.finish id st).acc = s.acc := rfl
@[simp] theorem State.finish_core (id : CmdId) (st : Status) : (s.finish id st).core = s.core := rfl
@[simp] theorem State.finish_feeder (id : CmdId) (st : Status) : (s.finish id st).feeder = s.feeder := rfl
@[simp] theorem State.finish_versions (id : CmdId) (st : Status) : (s.finish id st).versions = s.versions := rfl
@[simp] theorem State.finish_tables (id : CmdId) (st : Status) : (s.finish id st).tables = s.tables := rfl
@[simp] theorem State.finish_batches (id : CmdId) (st : Status) : (s.finish id st).batches = s.batches := rfl
@[simp] theorem State.finish_asks (id : CmdId) (st : Status) : (s.finish id st).asks = s.asks := rfl
@[simp] theorem State.finish_remoteHolds (id : CmdId) (st : Status) : (s.finish id st).remoteHolds = s.remoteHolds := rfl
@[simp] theorem State.finish_regions (id : CmdId) (st : Status) : (s.finish id st).regions = s.regions := rfl
@[simp] theorem State.finish_undo (id : CmdId) (st : Status) : (s.finish id st).undo = s.undo := rfl
@[simp] theorem State.finish_tapDone (id : CmdId) (st : Status) : (s.finish id st).tapDone = s.tapDone := rfl
@[simp] theorem State.finish_fetches (id : CmdId) (st : Status) : (s.finish id st).fetches = s.fetches := rfl
@[simp] theorem State.finish_scheds (id : CmdId) (st : Status) : (s.finish id st).scheds = s.scheds := rfl
@[simp] theorem State.finish_mem (id : CmdId) (st : Status) : (s.finish id st).mem = s.mem := rfl
@[simp] theorem State.finish_host (id : CmdId) (st : Status) : (s.finish id st).host = s.host := rfl
@[simp] theorem State.finish_pool (id : CmdId) (st : Status) : (s.finish id st).pool = s.pool := rfl
@[simp] theorem State.finish_ports (id : CmdId) (st : Status) : (s.finish id st).ports = s.ports := rfl
@[simp] theorem State.finish_inbox (id : CmdId) (st : Status) : (s.finish id st).inbox = s.inbox := rfl
@[simp] theorem State.finish_waiting (id : CmdId) (st : Status) : (s.finish id st).waiting = s.waiting := rfl
@[simp] theorem State.finish_backlog (id : CmdId) (st : Status) : (s.finish id st).backlog = s.backlog := rfl
@[simp] theorem State.finish_routes (id : CmdId) (st : Status) : (s.finish id st).routes = s.routes := rfl
@[simp] theorem State.finish_hostWait (id : CmdId) (st : Status) : (s.finish id st).hostWait = s.hostWait := rfl
@[simp] theorem State.finish_membership (id : CmdId) (st : Status) : (s.finish id st).membership = s.membership := rfl
@[simp] theorem State.finish_colls (id : CmdId) (st : Status) : (s.finish id st).colls = s.colls := rfl
@[simp] theorem State.finish_seqs (id : CmdId) (st : Status) : (s.finish id st).seqs = s.seqs := rfl
@[simp] theorem State.finish_links (id : CmdId) (st : Status) : (s.finish id st).links = s.links := rfl
@[simp] theorem State.finish_funcs (id : CmdId) (st : Status) : (s.finish id st).funcs = s.funcs := rfl
@[simp] theorem State.finish_tdis (id : CmdId) (st : Status) : (s.finish id st).tdis = s.tdis := rfl
@[simp] theorem State.finish_trust (id : CmdId) (st : Status) : (s.finish id st).trust = s.trust := rfl
@[simp] theorem State.finish_power (id : CmdId) (st : Status) : (s.finish id st).power = s.power := rfl
@[simp] theorem State.finish_obj (id : CmdId) (st : Status) : (s.finish id st).obj = s.obj := rfl
@[simp] theorem State.finish_dom (id : CmdId) (st : Status) : (s.finish id st).dom = s.dom := rfl
@[simp] theorem State.finish_buses (id : CmdId) (st : Status) : (s.finish id st).buses = s.buses := rfl
@[simp] theorem State.finish_server (id : CmdId) (st : Status) : (s.finish id st).server = s.server := rfl
@[simp] theorem State.finish_recorder (id : CmdId) (st : Status) : (s.finish id st).recorder = s.recorder := rfl
@[simp] theorem State.finish_mgmt (id : CmdId) (st : Status) : (s.finish id st).mgmt = s.mgmt := rfl
@[simp] theorem State.finish_pins (id : CmdId) (st : Status) : (s.finish id st).pins = s.pins := rfl
@[simp] theorem State.finish_out (id : CmdId) (st : Status) : (s.finish id st).out = s.out := rfl
@[simp] theorem State.finish_free (id : CmdId) (st : Status) : (s.finish id st).free = s.free := rfl
@[simp] theorem State.finish_draws (id : CmdId) (st : Status) : (s.finish id st).draws = s.draws := rfl
@[simp] theorem State.finish_nextTag (id : CmdId) (st : Status) : (s.finish id st).nextTag = s.nextTag := rfl
@[simp] theorem State.finish_releases (id : CmdId) (st : Status) : (s.finish id st).releases = s.releases := rfl
@[simp] theorem State.finish_turns (id : CmdId) (st : Status) : (s.finish id st).turns = s.turns := rfl
@[simp] theorem State.finish_pending (id : CmdId) (st : Status) : (s.finish id st).pending = s.pending := rfl

/-! `State.setQueue` changes `queues` alone. -/

@[simp] theorem State.setQueue_now (c q : Nat) (x : Queue) : (s.setQueue c q x).now = s.now := rfl
@[simp] theorem State.setQueue_pace (c q : Nat) (x : Queue) : (s.setQueue c q x).pace = s.pace := rfl
@[simp] theorem State.setQueue_cal (c q : Nat) (x : Queue) : (s.setQueue c q x).cal = s.cal := rfl
@[simp] theorem State.setQueue_windows (c q : Nat) (x : Queue) : (s.setQueue c q x).windows = s.windows := rfl
@[simp] theorem State.setQueue_windowMark (c q : Nat) (x : Queue) : (s.setQueue c q x).windowMark = s.windowMark := rfl
@[simp] theorem State.setQueue_cmds (c q : Nat) (x : Queue) : (s.setQueue c q x).cmds = s.cmds := rfl
@[simp] theorem State.setQueue_abortWaits (c q : Nat) (x : Queue) : (s.setQueue c q x).abortWaits = s.abortWaits := rfl
@[simp] theorem State.setQueue_notices (c q : Nat) (x : Queue) : (s.setQueue c q x).notices = s.notices := rfl
@[simp] theorem State.setQueue_ctxs (c q : Nat) (x : Queue) : (s.setQueue c q x).ctxs = s.ctxs := rfl
@[simp] theorem State.setQueue_sync (c q : Nat) (x : Queue) : (s.setQueue c q x).sync = s.sync := rfl
@[simp] theorem State.setQueue_samples (c q : Nat) (x : Queue) : (s.setQueue c q x).samples = s.samples := rfl
@[simp] theorem State.setQueue_stands (c q : Nat) (x : Queue) : (s.setQueue c q x).stands = s.stands := rfl
@[simp] theorem State.setQueue_acc (c q : Nat) (x : Queue) : (s.setQueue c q x).acc = s.acc := rfl
@[simp] theorem State.setQueue_core (c q : Nat) (x : Queue) : (s.setQueue c q x).core = s.core := rfl
@[simp] theorem State.setQueue_feeder (c q : Nat) (x : Queue) : (s.setQueue c q x).feeder = s.feeder := rfl
@[simp] theorem State.setQueue_versions (c q : Nat) (x : Queue) : (s.setQueue c q x).versions = s.versions := rfl
@[simp] theorem State.setQueue_tables (c q : Nat) (x : Queue) : (s.setQueue c q x).tables = s.tables := rfl
@[simp] theorem State.setQueue_batches (c q : Nat) (x : Queue) : (s.setQueue c q x).batches = s.batches := rfl
@[simp] theorem State.setQueue_asks (c q : Nat) (x : Queue) : (s.setQueue c q x).asks = s.asks := rfl
@[simp] theorem State.setQueue_remoteHolds (c q : Nat) (x : Queue) : (s.setQueue c q x).remoteHolds = s.remoteHolds := rfl
@[simp] theorem State.setQueue_regions (c q : Nat) (x : Queue) : (s.setQueue c q x).regions = s.regions := rfl
@[simp] theorem State.setQueue_undo (c q : Nat) (x : Queue) : (s.setQueue c q x).undo = s.undo := rfl
@[simp] theorem State.setQueue_tapDone (c q : Nat) (x : Queue) : (s.setQueue c q x).tapDone = s.tapDone := rfl
@[simp] theorem State.setQueue_fetches (c q : Nat) (x : Queue) : (s.setQueue c q x).fetches = s.fetches := rfl
@[simp] theorem State.setQueue_scheds (c q : Nat) (x : Queue) : (s.setQueue c q x).scheds = s.scheds := rfl
@[simp] theorem State.setQueue_mem (c q : Nat) (x : Queue) : (s.setQueue c q x).mem = s.mem := rfl
@[simp] theorem State.setQueue_host (c q : Nat) (x : Queue) : (s.setQueue c q x).host = s.host := rfl
@[simp] theorem State.setQueue_pool (c q : Nat) (x : Queue) : (s.setQueue c q x).pool = s.pool := rfl
@[simp] theorem State.setQueue_ports (c q : Nat) (x : Queue) : (s.setQueue c q x).ports = s.ports := rfl
@[simp] theorem State.setQueue_inbox (c q : Nat) (x : Queue) : (s.setQueue c q x).inbox = s.inbox := rfl
@[simp] theorem State.setQueue_waiting (c q : Nat) (x : Queue) : (s.setQueue c q x).waiting = s.waiting := rfl
@[simp] theorem State.setQueue_backlog (c q : Nat) (x : Queue) : (s.setQueue c q x).backlog = s.backlog := rfl
@[simp] theorem State.setQueue_routes (c q : Nat) (x : Queue) : (s.setQueue c q x).routes = s.routes := rfl
@[simp] theorem State.setQueue_hostWait (c q : Nat) (x : Queue) : (s.setQueue c q x).hostWait = s.hostWait := rfl
@[simp] theorem State.setQueue_membership (c q : Nat) (x : Queue) : (s.setQueue c q x).membership = s.membership := rfl
@[simp] theorem State.setQueue_colls (c q : Nat) (x : Queue) : (s.setQueue c q x).colls = s.colls := rfl
@[simp] theorem State.setQueue_seqs (c q : Nat) (x : Queue) : (s.setQueue c q x).seqs = s.seqs := rfl
@[simp] theorem State.setQueue_links (c q : Nat) (x : Queue) : (s.setQueue c q x).links = s.links := rfl
@[simp] theorem State.setQueue_funcs (c q : Nat) (x : Queue) : (s.setQueue c q x).funcs = s.funcs := rfl
@[simp] theorem State.setQueue_tdis (c q : Nat) (x : Queue) : (s.setQueue c q x).tdis = s.tdis := rfl
@[simp] theorem State.setQueue_trust (c q : Nat) (x : Queue) : (s.setQueue c q x).trust = s.trust := rfl
@[simp] theorem State.setQueue_power (c q : Nat) (x : Queue) : (s.setQueue c q x).power = s.power := rfl
@[simp] theorem State.setQueue_obj (c q : Nat) (x : Queue) : (s.setQueue c q x).obj = s.obj := rfl
@[simp] theorem State.setQueue_dom (c q : Nat) (x : Queue) : (s.setQueue c q x).dom = s.dom := rfl
@[simp] theorem State.setQueue_buses (c q : Nat) (x : Queue) : (s.setQueue c q x).buses = s.buses := rfl
@[simp] theorem State.setQueue_server (c q : Nat) (x : Queue) : (s.setQueue c q x).server = s.server := rfl
@[simp] theorem State.setQueue_recorder (c q : Nat) (x : Queue) : (s.setQueue c q x).recorder = s.recorder := rfl
@[simp] theorem State.setQueue_mgmt (c q : Nat) (x : Queue) : (s.setQueue c q x).mgmt = s.mgmt := rfl
@[simp] theorem State.setQueue_pins (c q : Nat) (x : Queue) : (s.setQueue c q x).pins = s.pins := rfl
@[simp] theorem State.setQueue_out (c q : Nat) (x : Queue) : (s.setQueue c q x).out = s.out := rfl
@[simp] theorem State.setQueue_free (c q : Nat) (x : Queue) : (s.setQueue c q x).free = s.free := rfl
@[simp] theorem State.setQueue_draws (c q : Nat) (x : Queue) : (s.setQueue c q x).draws = s.draws := rfl
@[simp] theorem State.setQueue_nextTag (c q : Nat) (x : Queue) : (s.setQueue c q x).nextTag = s.nextTag := rfl
@[simp] theorem State.setQueue_releases (c q : Nat) (x : Queue) : (s.setQueue c q x).releases = s.releases := rfl
@[simp] theorem State.setQueue_turns (c q : Nat) (x : Queue) : (s.setQueue c q x).turns = s.turns := rfl
@[simp] theorem State.setQueue_pending (c q : Nat) (x : Queue) : (s.setQueue c q x).pending = s.pending := rfl

/-! `State.setPort` changes `ports` alone. -/

@[simp] theorem State.setPort_now (p : Nat) (x : Port) : (s.setPort p x).now = s.now := rfl
@[simp] theorem State.setPort_pace (p : Nat) (x : Port) : (s.setPort p x).pace = s.pace := rfl
@[simp] theorem State.setPort_cal (p : Nat) (x : Port) : (s.setPort p x).cal = s.cal := rfl
@[simp] theorem State.setPort_windows (p : Nat) (x : Port) : (s.setPort p x).windows = s.windows := rfl
@[simp] theorem State.setPort_windowMark (p : Nat) (x : Port) : (s.setPort p x).windowMark = s.windowMark := rfl
@[simp] theorem State.setPort_queues (p : Nat) (x : Port) : (s.setPort p x).queues = s.queues := rfl
@[simp] theorem State.setPort_cmds (p : Nat) (x : Port) : (s.setPort p x).cmds = s.cmds := rfl
@[simp] theorem State.setPort_abortWaits (p : Nat) (x : Port) : (s.setPort p x).abortWaits = s.abortWaits := rfl
@[simp] theorem State.setPort_notices (p : Nat) (x : Port) : (s.setPort p x).notices = s.notices := rfl
@[simp] theorem State.setPort_ctxs (p : Nat) (x : Port) : (s.setPort p x).ctxs = s.ctxs := rfl
@[simp] theorem State.setPort_sync (p : Nat) (x : Port) : (s.setPort p x).sync = s.sync := rfl
@[simp] theorem State.setPort_samples (p : Nat) (x : Port) : (s.setPort p x).samples = s.samples := rfl
@[simp] theorem State.setPort_stands (p : Nat) (x : Port) : (s.setPort p x).stands = s.stands := rfl
@[simp] theorem State.setPort_acc (p : Nat) (x : Port) : (s.setPort p x).acc = s.acc := rfl
@[simp] theorem State.setPort_core (p : Nat) (x : Port) : (s.setPort p x).core = s.core := rfl
@[simp] theorem State.setPort_feeder (p : Nat) (x : Port) : (s.setPort p x).feeder = s.feeder := rfl
@[simp] theorem State.setPort_versions (p : Nat) (x : Port) : (s.setPort p x).versions = s.versions := rfl
@[simp] theorem State.setPort_tables (p : Nat) (x : Port) : (s.setPort p x).tables = s.tables := rfl
@[simp] theorem State.setPort_batches (p : Nat) (x : Port) : (s.setPort p x).batches = s.batches := rfl
@[simp] theorem State.setPort_asks (p : Nat) (x : Port) : (s.setPort p x).asks = s.asks := rfl
@[simp] theorem State.setPort_remoteHolds (p : Nat) (x : Port) : (s.setPort p x).remoteHolds = s.remoteHolds := rfl
@[simp] theorem State.setPort_regions (p : Nat) (x : Port) : (s.setPort p x).regions = s.regions := rfl
@[simp] theorem State.setPort_undo (p : Nat) (x : Port) : (s.setPort p x).undo = s.undo := rfl
@[simp] theorem State.setPort_tapDone (p : Nat) (x : Port) : (s.setPort p x).tapDone = s.tapDone := rfl
@[simp] theorem State.setPort_fetches (p : Nat) (x : Port) : (s.setPort p x).fetches = s.fetches := rfl
@[simp] theorem State.setPort_scheds (p : Nat) (x : Port) : (s.setPort p x).scheds = s.scheds := rfl
@[simp] theorem State.setPort_mem (p : Nat) (x : Port) : (s.setPort p x).mem = s.mem := rfl
@[simp] theorem State.setPort_host (p : Nat) (x : Port) : (s.setPort p x).host = s.host := rfl
@[simp] theorem State.setPort_pool (p : Nat) (x : Port) : (s.setPort p x).pool = s.pool := rfl
@[simp] theorem State.setPort_inbox (p : Nat) (x : Port) : (s.setPort p x).inbox = s.inbox := rfl
@[simp] theorem State.setPort_waiting (p : Nat) (x : Port) : (s.setPort p x).waiting = s.waiting := rfl
@[simp] theorem State.setPort_backlog (p : Nat) (x : Port) : (s.setPort p x).backlog = s.backlog := rfl
@[simp] theorem State.setPort_routes (p : Nat) (x : Port) : (s.setPort p x).routes = s.routes := rfl
@[simp] theorem State.setPort_hostWait (p : Nat) (x : Port) : (s.setPort p x).hostWait = s.hostWait := rfl
@[simp] theorem State.setPort_membership (p : Nat) (x : Port) : (s.setPort p x).membership = s.membership := rfl
@[simp] theorem State.setPort_colls (p : Nat) (x : Port) : (s.setPort p x).colls = s.colls := rfl
@[simp] theorem State.setPort_seqs (p : Nat) (x : Port) : (s.setPort p x).seqs = s.seqs := rfl
@[simp] theorem State.setPort_links (p : Nat) (x : Port) : (s.setPort p x).links = s.links := rfl
@[simp] theorem State.setPort_funcs (p : Nat) (x : Port) : (s.setPort p x).funcs = s.funcs := rfl
@[simp] theorem State.setPort_tdis (p : Nat) (x : Port) : (s.setPort p x).tdis = s.tdis := rfl
@[simp] theorem State.setPort_trust (p : Nat) (x : Port) : (s.setPort p x).trust = s.trust := rfl
@[simp] theorem State.setPort_power (p : Nat) (x : Port) : (s.setPort p x).power = s.power := rfl
@[simp] theorem State.setPort_obj (p : Nat) (x : Port) : (s.setPort p x).obj = s.obj := rfl
@[simp] theorem State.setPort_dom (p : Nat) (x : Port) : (s.setPort p x).dom = s.dom := rfl
@[simp] theorem State.setPort_buses (p : Nat) (x : Port) : (s.setPort p x).buses = s.buses := rfl
@[simp] theorem State.setPort_server (p : Nat) (x : Port) : (s.setPort p x).server = s.server := rfl
@[simp] theorem State.setPort_recorder (p : Nat) (x : Port) : (s.setPort p x).recorder = s.recorder := rfl
@[simp] theorem State.setPort_mgmt (p : Nat) (x : Port) : (s.setPort p x).mgmt = s.mgmt := rfl
@[simp] theorem State.setPort_pins (p : Nat) (x : Port) : (s.setPort p x).pins = s.pins := rfl
@[simp] theorem State.setPort_out (p : Nat) (x : Port) : (s.setPort p x).out = s.out := rfl
@[simp] theorem State.setPort_free (p : Nat) (x : Port) : (s.setPort p x).free = s.free := rfl
@[simp] theorem State.setPort_draws (p : Nat) (x : Port) : (s.setPort p x).draws = s.draws := rfl
@[simp] theorem State.setPort_nextTag (p : Nat) (x : Port) : (s.setPort p x).nextTag = s.nextTag := rfl
@[simp] theorem State.setPort_releases (p : Nat) (x : Port) : (s.setPort p x).releases = s.releases := rfl
@[simp] theorem State.setPort_turns (p : Nat) (x : Port) : (s.setPort p x).turns = s.turns := rfl
@[simp] theorem State.setPort_pending (p : Nat) (x : Port) : (s.setPort p x).pending = s.pending := rfl

/-! `State.setColl` changes `colls` alone. -/

@[simp] theorem State.setColl_now (x : Coll) : (s.setColl x).now = s.now := rfl
@[simp] theorem State.setColl_pace (x : Coll) : (s.setColl x).pace = s.pace := rfl
@[simp] theorem State.setColl_cal (x : Coll) : (s.setColl x).cal = s.cal := rfl
@[simp] theorem State.setColl_windows (x : Coll) : (s.setColl x).windows = s.windows := rfl
@[simp] theorem State.setColl_windowMark (x : Coll) : (s.setColl x).windowMark = s.windowMark := rfl
@[simp] theorem State.setColl_queues (x : Coll) : (s.setColl x).queues = s.queues := rfl
@[simp] theorem State.setColl_cmds (x : Coll) : (s.setColl x).cmds = s.cmds := rfl
@[simp] theorem State.setColl_abortWaits (x : Coll) : (s.setColl x).abortWaits = s.abortWaits := rfl
@[simp] theorem State.setColl_notices (x : Coll) : (s.setColl x).notices = s.notices := rfl
@[simp] theorem State.setColl_ctxs (x : Coll) : (s.setColl x).ctxs = s.ctxs := rfl
@[simp] theorem State.setColl_sync (x : Coll) : (s.setColl x).sync = s.sync := rfl
@[simp] theorem State.setColl_samples (x : Coll) : (s.setColl x).samples = s.samples := rfl
@[simp] theorem State.setColl_stands (x : Coll) : (s.setColl x).stands = s.stands := rfl
@[simp] theorem State.setColl_acc (x : Coll) : (s.setColl x).acc = s.acc := rfl
@[simp] theorem State.setColl_core (x : Coll) : (s.setColl x).core = s.core := rfl
@[simp] theorem State.setColl_feeder (x : Coll) : (s.setColl x).feeder = s.feeder := rfl
@[simp] theorem State.setColl_versions (x : Coll) : (s.setColl x).versions = s.versions := rfl
@[simp] theorem State.setColl_tables (x : Coll) : (s.setColl x).tables = s.tables := rfl
@[simp] theorem State.setColl_batches (x : Coll) : (s.setColl x).batches = s.batches := rfl
@[simp] theorem State.setColl_asks (x : Coll) : (s.setColl x).asks = s.asks := rfl
@[simp] theorem State.setColl_remoteHolds (x : Coll) : (s.setColl x).remoteHolds = s.remoteHolds := rfl
@[simp] theorem State.setColl_regions (x : Coll) : (s.setColl x).regions = s.regions := rfl
@[simp] theorem State.setColl_undo (x : Coll) : (s.setColl x).undo = s.undo := rfl
@[simp] theorem State.setColl_tapDone (x : Coll) : (s.setColl x).tapDone = s.tapDone := rfl
@[simp] theorem State.setColl_fetches (x : Coll) : (s.setColl x).fetches = s.fetches := rfl
@[simp] theorem State.setColl_scheds (x : Coll) : (s.setColl x).scheds = s.scheds := rfl
@[simp] theorem State.setColl_mem (x : Coll) : (s.setColl x).mem = s.mem := rfl
@[simp] theorem State.setColl_host (x : Coll) : (s.setColl x).host = s.host := rfl
@[simp] theorem State.setColl_pool (x : Coll) : (s.setColl x).pool = s.pool := rfl
@[simp] theorem State.setColl_ports (x : Coll) : (s.setColl x).ports = s.ports := rfl
@[simp] theorem State.setColl_inbox (x : Coll) : (s.setColl x).inbox = s.inbox := rfl
@[simp] theorem State.setColl_waiting (x : Coll) : (s.setColl x).waiting = s.waiting := rfl
@[simp] theorem State.setColl_backlog (x : Coll) : (s.setColl x).backlog = s.backlog := rfl
@[simp] theorem State.setColl_routes (x : Coll) : (s.setColl x).routes = s.routes := rfl
@[simp] theorem State.setColl_hostWait (x : Coll) : (s.setColl x).hostWait = s.hostWait := rfl
@[simp] theorem State.setColl_membership (x : Coll) : (s.setColl x).membership = s.membership := rfl
@[simp] theorem State.setColl_seqs (x : Coll) : (s.setColl x).seqs = s.seqs := rfl
@[simp] theorem State.setColl_links (x : Coll) : (s.setColl x).links = s.links := rfl
@[simp] theorem State.setColl_funcs (x : Coll) : (s.setColl x).funcs = s.funcs := rfl
@[simp] theorem State.setColl_tdis (x : Coll) : (s.setColl x).tdis = s.tdis := rfl
@[simp] theorem State.setColl_trust (x : Coll) : (s.setColl x).trust = s.trust := rfl
@[simp] theorem State.setColl_power (x : Coll) : (s.setColl x).power = s.power := rfl
@[simp] theorem State.setColl_obj (x : Coll) : (s.setColl x).obj = s.obj := rfl
@[simp] theorem State.setColl_dom (x : Coll) : (s.setColl x).dom = s.dom := rfl
@[simp] theorem State.setColl_buses (x : Coll) : (s.setColl x).buses = s.buses := rfl
@[simp] theorem State.setColl_server (x : Coll) : (s.setColl x).server = s.server := rfl
@[simp] theorem State.setColl_recorder (x : Coll) : (s.setColl x).recorder = s.recorder := rfl
@[simp] theorem State.setColl_mgmt (x : Coll) : (s.setColl x).mgmt = s.mgmt := rfl
@[simp] theorem State.setColl_pins (x : Coll) : (s.setColl x).pins = s.pins := rfl
@[simp] theorem State.setColl_out (x : Coll) : (s.setColl x).out = s.out := rfl
@[simp] theorem State.setColl_free (x : Coll) : (s.setColl x).free = s.free := rfl
@[simp] theorem State.setColl_draws (x : Coll) : (s.setColl x).draws = s.draws := rfl
@[simp] theorem State.setColl_nextTag (x : Coll) : (s.setColl x).nextTag = s.nextTag := rfl
@[simp] theorem State.setColl_releases (x : Coll) : (s.setColl x).releases = s.releases := rfl
@[simp] theorem State.setColl_turns (x : Coll) : (s.setColl x).turns = s.turns := rfl
@[simp] theorem State.setColl_pending (x : Coll) : (s.setColl x).pending = s.pending := rfl

/-! `State.setSeq` changes `seqs` alone. -/

@[simp] theorem State.setSeq_now (k : Nat) (x : SeqSlot) : (s.setSeq k x).now = s.now := rfl
@[simp] theorem State.setSeq_pace (k : Nat) (x : SeqSlot) : (s.setSeq k x).pace = s.pace := rfl
@[simp] theorem State.setSeq_cal (k : Nat) (x : SeqSlot) : (s.setSeq k x).cal = s.cal := rfl
@[simp] theorem State.setSeq_windows (k : Nat) (x : SeqSlot) : (s.setSeq k x).windows = s.windows := rfl
@[simp] theorem State.setSeq_windowMark (k : Nat) (x : SeqSlot) : (s.setSeq k x).windowMark = s.windowMark := rfl
@[simp] theorem State.setSeq_queues (k : Nat) (x : SeqSlot) : (s.setSeq k x).queues = s.queues := rfl
@[simp] theorem State.setSeq_cmds (k : Nat) (x : SeqSlot) : (s.setSeq k x).cmds = s.cmds := rfl
@[simp] theorem State.setSeq_abortWaits (k : Nat) (x : SeqSlot) : (s.setSeq k x).abortWaits = s.abortWaits := rfl
@[simp] theorem State.setSeq_notices (k : Nat) (x : SeqSlot) : (s.setSeq k x).notices = s.notices := rfl
@[simp] theorem State.setSeq_ctxs (k : Nat) (x : SeqSlot) : (s.setSeq k x).ctxs = s.ctxs := rfl
@[simp] theorem State.setSeq_sync (k : Nat) (x : SeqSlot) : (s.setSeq k x).sync = s.sync := rfl
@[simp] theorem State.setSeq_samples (k : Nat) (x : SeqSlot) : (s.setSeq k x).samples = s.samples := rfl
@[simp] theorem State.setSeq_stands (k : Nat) (x : SeqSlot) : (s.setSeq k x).stands = s.stands := rfl
@[simp] theorem State.setSeq_acc (k : Nat) (x : SeqSlot) : (s.setSeq k x).acc = s.acc := rfl
@[simp] theorem State.setSeq_core (k : Nat) (x : SeqSlot) : (s.setSeq k x).core = s.core := rfl
@[simp] theorem State.setSeq_feeder (k : Nat) (x : SeqSlot) : (s.setSeq k x).feeder = s.feeder := rfl
@[simp] theorem State.setSeq_versions (k : Nat) (x : SeqSlot) : (s.setSeq k x).versions = s.versions := rfl
@[simp] theorem State.setSeq_tables (k : Nat) (x : SeqSlot) : (s.setSeq k x).tables = s.tables := rfl
@[simp] theorem State.setSeq_batches (k : Nat) (x : SeqSlot) : (s.setSeq k x).batches = s.batches := rfl
@[simp] theorem State.setSeq_asks (k : Nat) (x : SeqSlot) : (s.setSeq k x).asks = s.asks := rfl
@[simp] theorem State.setSeq_remoteHolds (k : Nat) (x : SeqSlot) : (s.setSeq k x).remoteHolds = s.remoteHolds := rfl
@[simp] theorem State.setSeq_regions (k : Nat) (x : SeqSlot) : (s.setSeq k x).regions = s.regions := rfl
@[simp] theorem State.setSeq_undo (k : Nat) (x : SeqSlot) : (s.setSeq k x).undo = s.undo := rfl
@[simp] theorem State.setSeq_tapDone (k : Nat) (x : SeqSlot) : (s.setSeq k x).tapDone = s.tapDone := rfl
@[simp] theorem State.setSeq_fetches (k : Nat) (x : SeqSlot) : (s.setSeq k x).fetches = s.fetches := rfl
@[simp] theorem State.setSeq_scheds (k : Nat) (x : SeqSlot) : (s.setSeq k x).scheds = s.scheds := rfl
@[simp] theorem State.setSeq_mem (k : Nat) (x : SeqSlot) : (s.setSeq k x).mem = s.mem := rfl
@[simp] theorem State.setSeq_host (k : Nat) (x : SeqSlot) : (s.setSeq k x).host = s.host := rfl
@[simp] theorem State.setSeq_pool (k : Nat) (x : SeqSlot) : (s.setSeq k x).pool = s.pool := rfl
@[simp] theorem State.setSeq_ports (k : Nat) (x : SeqSlot) : (s.setSeq k x).ports = s.ports := rfl
@[simp] theorem State.setSeq_inbox (k : Nat) (x : SeqSlot) : (s.setSeq k x).inbox = s.inbox := rfl
@[simp] theorem State.setSeq_waiting (k : Nat) (x : SeqSlot) : (s.setSeq k x).waiting = s.waiting := rfl
@[simp] theorem State.setSeq_backlog (k : Nat) (x : SeqSlot) : (s.setSeq k x).backlog = s.backlog := rfl
@[simp] theorem State.setSeq_routes (k : Nat) (x : SeqSlot) : (s.setSeq k x).routes = s.routes := rfl
@[simp] theorem State.setSeq_hostWait (k : Nat) (x : SeqSlot) : (s.setSeq k x).hostWait = s.hostWait := rfl
@[simp] theorem State.setSeq_membership (k : Nat) (x : SeqSlot) : (s.setSeq k x).membership = s.membership := rfl
@[simp] theorem State.setSeq_colls (k : Nat) (x : SeqSlot) : (s.setSeq k x).colls = s.colls := rfl
@[simp] theorem State.setSeq_links (k : Nat) (x : SeqSlot) : (s.setSeq k x).links = s.links := rfl
@[simp] theorem State.setSeq_funcs (k : Nat) (x : SeqSlot) : (s.setSeq k x).funcs = s.funcs := rfl
@[simp] theorem State.setSeq_tdis (k : Nat) (x : SeqSlot) : (s.setSeq k x).tdis = s.tdis := rfl
@[simp] theorem State.setSeq_trust (k : Nat) (x : SeqSlot) : (s.setSeq k x).trust = s.trust := rfl
@[simp] theorem State.setSeq_power (k : Nat) (x : SeqSlot) : (s.setSeq k x).power = s.power := rfl
@[simp] theorem State.setSeq_obj (k : Nat) (x : SeqSlot) : (s.setSeq k x).obj = s.obj := rfl
@[simp] theorem State.setSeq_dom (k : Nat) (x : SeqSlot) : (s.setSeq k x).dom = s.dom := rfl
@[simp] theorem State.setSeq_buses (k : Nat) (x : SeqSlot) : (s.setSeq k x).buses = s.buses := rfl
@[simp] theorem State.setSeq_server (k : Nat) (x : SeqSlot) : (s.setSeq k x).server = s.server := rfl
@[simp] theorem State.setSeq_recorder (k : Nat) (x : SeqSlot) : (s.setSeq k x).recorder = s.recorder := rfl
@[simp] theorem State.setSeq_mgmt (k : Nat) (x : SeqSlot) : (s.setSeq k x).mgmt = s.mgmt := rfl
@[simp] theorem State.setSeq_pins (k : Nat) (x : SeqSlot) : (s.setSeq k x).pins = s.pins := rfl
@[simp] theorem State.setSeq_out (k : Nat) (x : SeqSlot) : (s.setSeq k x).out = s.out := rfl
@[simp] theorem State.setSeq_free (k : Nat) (x : SeqSlot) : (s.setSeq k x).free = s.free := rfl
@[simp] theorem State.setSeq_draws (k : Nat) (x : SeqSlot) : (s.setSeq k x).draws = s.draws := rfl
@[simp] theorem State.setSeq_nextTag (k : Nat) (x : SeqSlot) : (s.setSeq k x).nextTag = s.nextTag := rfl
@[simp] theorem State.setSeq_releases (k : Nat) (x : SeqSlot) : (s.setSeq k x).releases = s.releases := rfl
@[simp] theorem State.setSeq_turns (k : Nat) (x : SeqSlot) : (s.setSeq k x).turns = s.turns := rfl
@[simp] theorem State.setSeq_pending (k : Nat) (x : SeqSlot) : (s.setSeq k x).pending = s.pending := rfl

/-! `State.setBus` changes `buses` alone. -/

@[simp] theorem State.setBus_now (b : Nat) (x : Bus) : (s.setBus b x).now = s.now := rfl
@[simp] theorem State.setBus_pace (b : Nat) (x : Bus) : (s.setBus b x).pace = s.pace := rfl
@[simp] theorem State.setBus_cal (b : Nat) (x : Bus) : (s.setBus b x).cal = s.cal := rfl
@[simp] theorem State.setBus_windows (b : Nat) (x : Bus) : (s.setBus b x).windows = s.windows := rfl
@[simp] theorem State.setBus_windowMark (b : Nat) (x : Bus) : (s.setBus b x).windowMark = s.windowMark := rfl
@[simp] theorem State.setBus_queues (b : Nat) (x : Bus) : (s.setBus b x).queues = s.queues := rfl
@[simp] theorem State.setBus_cmds (b : Nat) (x : Bus) : (s.setBus b x).cmds = s.cmds := rfl
@[simp] theorem State.setBus_abortWaits (b : Nat) (x : Bus) : (s.setBus b x).abortWaits = s.abortWaits := rfl
@[simp] theorem State.setBus_notices (b : Nat) (x : Bus) : (s.setBus b x).notices = s.notices := rfl
@[simp] theorem State.setBus_ctxs (b : Nat) (x : Bus) : (s.setBus b x).ctxs = s.ctxs := rfl
@[simp] theorem State.setBus_sync (b : Nat) (x : Bus) : (s.setBus b x).sync = s.sync := rfl
@[simp] theorem State.setBus_samples (b : Nat) (x : Bus) : (s.setBus b x).samples = s.samples := rfl
@[simp] theorem State.setBus_stands (b : Nat) (x : Bus) : (s.setBus b x).stands = s.stands := rfl
@[simp] theorem State.setBus_acc (b : Nat) (x : Bus) : (s.setBus b x).acc = s.acc := rfl
@[simp] theorem State.setBus_core (b : Nat) (x : Bus) : (s.setBus b x).core = s.core := rfl
@[simp] theorem State.setBus_feeder (b : Nat) (x : Bus) : (s.setBus b x).feeder = s.feeder := rfl
@[simp] theorem State.setBus_versions (b : Nat) (x : Bus) : (s.setBus b x).versions = s.versions := rfl
@[simp] theorem State.setBus_tables (b : Nat) (x : Bus) : (s.setBus b x).tables = s.tables := rfl
@[simp] theorem State.setBus_batches (b : Nat) (x : Bus) : (s.setBus b x).batches = s.batches := rfl
@[simp] theorem State.setBus_asks (b : Nat) (x : Bus) : (s.setBus b x).asks = s.asks := rfl
@[simp] theorem State.setBus_remoteHolds (b : Nat) (x : Bus) : (s.setBus b x).remoteHolds = s.remoteHolds := rfl
@[simp] theorem State.setBus_regions (b : Nat) (x : Bus) : (s.setBus b x).regions = s.regions := rfl
@[simp] theorem State.setBus_undo (b : Nat) (x : Bus) : (s.setBus b x).undo = s.undo := rfl
@[simp] theorem State.setBus_tapDone (b : Nat) (x : Bus) : (s.setBus b x).tapDone = s.tapDone := rfl
@[simp] theorem State.setBus_fetches (b : Nat) (x : Bus) : (s.setBus b x).fetches = s.fetches := rfl
@[simp] theorem State.setBus_scheds (b : Nat) (x : Bus) : (s.setBus b x).scheds = s.scheds := rfl
@[simp] theorem State.setBus_mem (b : Nat) (x : Bus) : (s.setBus b x).mem = s.mem := rfl
@[simp] theorem State.setBus_host (b : Nat) (x : Bus) : (s.setBus b x).host = s.host := rfl
@[simp] theorem State.setBus_pool (b : Nat) (x : Bus) : (s.setBus b x).pool = s.pool := rfl
@[simp] theorem State.setBus_ports (b : Nat) (x : Bus) : (s.setBus b x).ports = s.ports := rfl
@[simp] theorem State.setBus_inbox (b : Nat) (x : Bus) : (s.setBus b x).inbox = s.inbox := rfl
@[simp] theorem State.setBus_waiting (b : Nat) (x : Bus) : (s.setBus b x).waiting = s.waiting := rfl
@[simp] theorem State.setBus_backlog (b : Nat) (x : Bus) : (s.setBus b x).backlog = s.backlog := rfl
@[simp] theorem State.setBus_routes (b : Nat) (x : Bus) : (s.setBus b x).routes = s.routes := rfl
@[simp] theorem State.setBus_hostWait (b : Nat) (x : Bus) : (s.setBus b x).hostWait = s.hostWait := rfl
@[simp] theorem State.setBus_membership (b : Nat) (x : Bus) : (s.setBus b x).membership = s.membership := rfl
@[simp] theorem State.setBus_colls (b : Nat) (x : Bus) : (s.setBus b x).colls = s.colls := rfl
@[simp] theorem State.setBus_seqs (b : Nat) (x : Bus) : (s.setBus b x).seqs = s.seqs := rfl
@[simp] theorem State.setBus_links (b : Nat) (x : Bus) : (s.setBus b x).links = s.links := rfl
@[simp] theorem State.setBus_funcs (b : Nat) (x : Bus) : (s.setBus b x).funcs = s.funcs := rfl
@[simp] theorem State.setBus_tdis (b : Nat) (x : Bus) : (s.setBus b x).tdis = s.tdis := rfl
@[simp] theorem State.setBus_trust (b : Nat) (x : Bus) : (s.setBus b x).trust = s.trust := rfl
@[simp] theorem State.setBus_power (b : Nat) (x : Bus) : (s.setBus b x).power = s.power := rfl
@[simp] theorem State.setBus_obj (b : Nat) (x : Bus) : (s.setBus b x).obj = s.obj := rfl
@[simp] theorem State.setBus_dom (b : Nat) (x : Bus) : (s.setBus b x).dom = s.dom := rfl
@[simp] theorem State.setBus_server (b : Nat) (x : Bus) : (s.setBus b x).server = s.server := rfl
@[simp] theorem State.setBus_recorder (b : Nat) (x : Bus) : (s.setBus b x).recorder = s.recorder := rfl
@[simp] theorem State.setBus_mgmt (b : Nat) (x : Bus) : (s.setBus b x).mgmt = s.mgmt := rfl
@[simp] theorem State.setBus_pins (b : Nat) (x : Bus) : (s.setBus b x).pins = s.pins := rfl
@[simp] theorem State.setBus_out (b : Nat) (x : Bus) : (s.setBus b x).out = s.out := rfl
@[simp] theorem State.setBus_free (b : Nat) (x : Bus) : (s.setBus b x).free = s.free := rfl
@[simp] theorem State.setBus_draws (b : Nat) (x : Bus) : (s.setBus b x).draws = s.draws := rfl
@[simp] theorem State.setBus_nextTag (b : Nat) (x : Bus) : (s.setBus b x).nextTag = s.nextTag := rfl
@[simp] theorem State.setBus_releases (b : Nat) (x : Bus) : (s.setBus b x).releases = s.releases := rfl
@[simp] theorem State.setBus_turns (b : Nat) (x : Bus) : (s.setBus b x).turns = s.turns := rfl
@[simp] theorem State.setBus_pending (b : Nat) (x : Bus) : (s.setBus b x).pending = s.pending := rfl

/-! `State.setTable` changes `tables` alone. -/

@[simp] theorem State.setTable_now (c t : Nat) (x : TableNum) : (s.setTable c t x).now = s.now := rfl
@[simp] theorem State.setTable_pace (c t : Nat) (x : TableNum) : (s.setTable c t x).pace = s.pace := rfl
@[simp] theorem State.setTable_cal (c t : Nat) (x : TableNum) : (s.setTable c t x).cal = s.cal := rfl
@[simp] theorem State.setTable_windows (c t : Nat) (x : TableNum) : (s.setTable c t x).windows = s.windows := rfl
@[simp] theorem State.setTable_windowMark (c t : Nat) (x : TableNum) : (s.setTable c t x).windowMark = s.windowMark := rfl
@[simp] theorem State.setTable_queues (c t : Nat) (x : TableNum) : (s.setTable c t x).queues = s.queues := rfl
@[simp] theorem State.setTable_cmds (c t : Nat) (x : TableNum) : (s.setTable c t x).cmds = s.cmds := rfl
@[simp] theorem State.setTable_abortWaits (c t : Nat) (x : TableNum) : (s.setTable c t x).abortWaits = s.abortWaits := rfl
@[simp] theorem State.setTable_notices (c t : Nat) (x : TableNum) : (s.setTable c t x).notices = s.notices := rfl
@[simp] theorem State.setTable_ctxs (c t : Nat) (x : TableNum) : (s.setTable c t x).ctxs = s.ctxs := rfl
@[simp] theorem State.setTable_sync (c t : Nat) (x : TableNum) : (s.setTable c t x).sync = s.sync := rfl
@[simp] theorem State.setTable_samples (c t : Nat) (x : TableNum) : (s.setTable c t x).samples = s.samples := rfl
@[simp] theorem State.setTable_stands (c t : Nat) (x : TableNum) : (s.setTable c t x).stands = s.stands := rfl
@[simp] theorem State.setTable_acc (c t : Nat) (x : TableNum) : (s.setTable c t x).acc = s.acc := rfl
@[simp] theorem State.setTable_core (c t : Nat) (x : TableNum) : (s.setTable c t x).core = s.core := rfl
@[simp] theorem State.setTable_feeder (c t : Nat) (x : TableNum) : (s.setTable c t x).feeder = s.feeder := rfl
@[simp] theorem State.setTable_versions (c t : Nat) (x : TableNum) : (s.setTable c t x).versions = s.versions := rfl
@[simp] theorem State.setTable_batches (c t : Nat) (x : TableNum) : (s.setTable c t x).batches = s.batches := rfl
@[simp] theorem State.setTable_asks (c t : Nat) (x : TableNum) : (s.setTable c t x).asks = s.asks := rfl
@[simp] theorem State.setTable_remoteHolds (c t : Nat) (x : TableNum) : (s.setTable c t x).remoteHolds = s.remoteHolds := rfl
@[simp] theorem State.setTable_regions (c t : Nat) (x : TableNum) : (s.setTable c t x).regions = s.regions := rfl
@[simp] theorem State.setTable_undo (c t : Nat) (x : TableNum) : (s.setTable c t x).undo = s.undo := rfl
@[simp] theorem State.setTable_tapDone (c t : Nat) (x : TableNum) : (s.setTable c t x).tapDone = s.tapDone := rfl
@[simp] theorem State.setTable_fetches (c t : Nat) (x : TableNum) : (s.setTable c t x).fetches = s.fetches := rfl
@[simp] theorem State.setTable_scheds (c t : Nat) (x : TableNum) : (s.setTable c t x).scheds = s.scheds := rfl
@[simp] theorem State.setTable_mem (c t : Nat) (x : TableNum) : (s.setTable c t x).mem = s.mem := rfl
@[simp] theorem State.setTable_host (c t : Nat) (x : TableNum) : (s.setTable c t x).host = s.host := rfl
@[simp] theorem State.setTable_pool (c t : Nat) (x : TableNum) : (s.setTable c t x).pool = s.pool := rfl
@[simp] theorem State.setTable_ports (c t : Nat) (x : TableNum) : (s.setTable c t x).ports = s.ports := rfl
@[simp] theorem State.setTable_inbox (c t : Nat) (x : TableNum) : (s.setTable c t x).inbox = s.inbox := rfl
@[simp] theorem State.setTable_waiting (c t : Nat) (x : TableNum) : (s.setTable c t x).waiting = s.waiting := rfl
@[simp] theorem State.setTable_backlog (c t : Nat) (x : TableNum) : (s.setTable c t x).backlog = s.backlog := rfl
@[simp] theorem State.setTable_routes (c t : Nat) (x : TableNum) : (s.setTable c t x).routes = s.routes := rfl
@[simp] theorem State.setTable_hostWait (c t : Nat) (x : TableNum) : (s.setTable c t x).hostWait = s.hostWait := rfl
@[simp] theorem State.setTable_membership (c t : Nat) (x : TableNum) : (s.setTable c t x).membership = s.membership := rfl
@[simp] theorem State.setTable_colls (c t : Nat) (x : TableNum) : (s.setTable c t x).colls = s.colls := rfl
@[simp] theorem State.setTable_seqs (c t : Nat) (x : TableNum) : (s.setTable c t x).seqs = s.seqs := rfl
@[simp] theorem State.setTable_links (c t : Nat) (x : TableNum) : (s.setTable c t x).links = s.links := rfl
@[simp] theorem State.setTable_funcs (c t : Nat) (x : TableNum) : (s.setTable c t x).funcs = s.funcs := rfl
@[simp] theorem State.setTable_tdis (c t : Nat) (x : TableNum) : (s.setTable c t x).tdis = s.tdis := rfl
@[simp] theorem State.setTable_trust (c t : Nat) (x : TableNum) : (s.setTable c t x).trust = s.trust := rfl
@[simp] theorem State.setTable_power (c t : Nat) (x : TableNum) : (s.setTable c t x).power = s.power := rfl
@[simp] theorem State.setTable_obj (c t : Nat) (x : TableNum) : (s.setTable c t x).obj = s.obj := rfl
@[simp] theorem State.setTable_dom (c t : Nat) (x : TableNum) : (s.setTable c t x).dom = s.dom := rfl
@[simp] theorem State.setTable_buses (c t : Nat) (x : TableNum) : (s.setTable c t x).buses = s.buses := rfl
@[simp] theorem State.setTable_server (c t : Nat) (x : TableNum) : (s.setTable c t x).server = s.server := rfl
@[simp] theorem State.setTable_recorder (c t : Nat) (x : TableNum) : (s.setTable c t x).recorder = s.recorder := rfl
@[simp] theorem State.setTable_mgmt (c t : Nat) (x : TableNum) : (s.setTable c t x).mgmt = s.mgmt := rfl
@[simp] theorem State.setTable_pins (c t : Nat) (x : TableNum) : (s.setTable c t x).pins = s.pins := rfl
@[simp] theorem State.setTable_out (c t : Nat) (x : TableNum) : (s.setTable c t x).out = s.out := rfl
@[simp] theorem State.setTable_free (c t : Nat) (x : TableNum) : (s.setTable c t x).free = s.free := rfl
@[simp] theorem State.setTable_draws (c t : Nat) (x : TableNum) : (s.setTable c t x).draws = s.draws := rfl
@[simp] theorem State.setTable_nextTag (c t : Nat) (x : TableNum) : (s.setTable c t x).nextTag = s.nextTag := rfl
@[simp] theorem State.setTable_releases (c t : Nat) (x : TableNum) : (s.setTable c t x).releases = s.releases := rfl
@[simp] theorem State.setTable_turns (c t : Nat) (x : TableNum) : (s.setTable c t x).turns = s.turns := rfl
@[simp] theorem State.setTable_pending (c t : Nat) (x : TableNum) : (s.setTable c t x).pending = s.pending := rfl

/-! `State.updAsk` changes `asks` alone. -/

@[simp] theorem State.updAsk_now (tag : Nat) (f : Ask → Ask) : (s.updAsk tag f).now = s.now := rfl
@[simp] theorem State.updAsk_pace (tag : Nat) (f : Ask → Ask) : (s.updAsk tag f).pace = s.pace := rfl
@[simp] theorem State.updAsk_cal (tag : Nat) (f : Ask → Ask) : (s.updAsk tag f).cal = s.cal := rfl
@[simp] theorem State.updAsk_windows (tag : Nat) (f : Ask → Ask) : (s.updAsk tag f).windows = s.windows := rfl
@[simp] theorem State.updAsk_windowMark (tag : Nat) (f : Ask → Ask) : (s.updAsk tag f).windowMark = s.windowMark := rfl
@[simp] theorem State.updAsk_queues (tag : Nat) (f : Ask → Ask) : (s.updAsk tag f).queues = s.queues := rfl
@[simp] theorem State.updAsk_cmds (tag : Nat) (f : Ask → Ask) : (s.updAsk tag f).cmds = s.cmds := rfl
@[simp] theorem State.updAsk_abortWaits (tag : Nat) (f : Ask → Ask) : (s.updAsk tag f).abortWaits = s.abortWaits := rfl
@[simp] theorem State.updAsk_notices (tag : Nat) (f : Ask → Ask) : (s.updAsk tag f).notices = s.notices := rfl
@[simp] theorem State.updAsk_ctxs (tag : Nat) (f : Ask → Ask) : (s.updAsk tag f).ctxs = s.ctxs := rfl
@[simp] theorem State.updAsk_sync (tag : Nat) (f : Ask → Ask) : (s.updAsk tag f).sync = s.sync := rfl
@[simp] theorem State.updAsk_samples (tag : Nat) (f : Ask → Ask) : (s.updAsk tag f).samples = s.samples := rfl
@[simp] theorem State.updAsk_stands (tag : Nat) (f : Ask → Ask) : (s.updAsk tag f).stands = s.stands := rfl
@[simp] theorem State.updAsk_acc (tag : Nat) (f : Ask → Ask) : (s.updAsk tag f).acc = s.acc := rfl
@[simp] theorem State.updAsk_core (tag : Nat) (f : Ask → Ask) : (s.updAsk tag f).core = s.core := rfl
@[simp] theorem State.updAsk_feeder (tag : Nat) (f : Ask → Ask) : (s.updAsk tag f).feeder = s.feeder := rfl
@[simp] theorem State.updAsk_versions (tag : Nat) (f : Ask → Ask) : (s.updAsk tag f).versions = s.versions := rfl
@[simp] theorem State.updAsk_tables (tag : Nat) (f : Ask → Ask) : (s.updAsk tag f).tables = s.tables := rfl
@[simp] theorem State.updAsk_batches (tag : Nat) (f : Ask → Ask) : (s.updAsk tag f).batches = s.batches := rfl
@[simp] theorem State.updAsk_remoteHolds (tag : Nat) (f : Ask → Ask) : (s.updAsk tag f).remoteHolds = s.remoteHolds := rfl
@[simp] theorem State.updAsk_regions (tag : Nat) (f : Ask → Ask) : (s.updAsk tag f).regions = s.regions := rfl
@[simp] theorem State.updAsk_undo (tag : Nat) (f : Ask → Ask) : (s.updAsk tag f).undo = s.undo := rfl
@[simp] theorem State.updAsk_tapDone (tag : Nat) (f : Ask → Ask) : (s.updAsk tag f).tapDone = s.tapDone := rfl
@[simp] theorem State.updAsk_fetches (tag : Nat) (f : Ask → Ask) : (s.updAsk tag f).fetches = s.fetches := rfl
@[simp] theorem State.updAsk_scheds (tag : Nat) (f : Ask → Ask) : (s.updAsk tag f).scheds = s.scheds := rfl
@[simp] theorem State.updAsk_mem (tag : Nat) (f : Ask → Ask) : (s.updAsk tag f).mem = s.mem := rfl
@[simp] theorem State.updAsk_host (tag : Nat) (f : Ask → Ask) : (s.updAsk tag f).host = s.host := rfl
@[simp] theorem State.updAsk_pool (tag : Nat) (f : Ask → Ask) : (s.updAsk tag f).pool = s.pool := rfl
@[simp] theorem State.updAsk_ports (tag : Nat) (f : Ask → Ask) : (s.updAsk tag f).ports = s.ports := rfl
@[simp] theorem State.updAsk_inbox (tag : Nat) (f : Ask → Ask) : (s.updAsk tag f).inbox = s.inbox := rfl
@[simp] theorem State.updAsk_waiting (tag : Nat) (f : Ask → Ask) : (s.updAsk tag f).waiting = s.waiting := rfl
@[simp] theorem State.updAsk_backlog (tag : Nat) (f : Ask → Ask) : (s.updAsk tag f).backlog = s.backlog := rfl
@[simp] theorem State.updAsk_routes (tag : Nat) (f : Ask → Ask) : (s.updAsk tag f).routes = s.routes := rfl
@[simp] theorem State.updAsk_hostWait (tag : Nat) (f : Ask → Ask) : (s.updAsk tag f).hostWait = s.hostWait := rfl
@[simp] theorem State.updAsk_membership (tag : Nat) (f : Ask → Ask) : (s.updAsk tag f).membership = s.membership := rfl
@[simp] theorem State.updAsk_colls (tag : Nat) (f : Ask → Ask) : (s.updAsk tag f).colls = s.colls := rfl
@[simp] theorem State.updAsk_seqs (tag : Nat) (f : Ask → Ask) : (s.updAsk tag f).seqs = s.seqs := rfl
@[simp] theorem State.updAsk_links (tag : Nat) (f : Ask → Ask) : (s.updAsk tag f).links = s.links := rfl
@[simp] theorem State.updAsk_funcs (tag : Nat) (f : Ask → Ask) : (s.updAsk tag f).funcs = s.funcs := rfl
@[simp] theorem State.updAsk_tdis (tag : Nat) (f : Ask → Ask) : (s.updAsk tag f).tdis = s.tdis := rfl
@[simp] theorem State.updAsk_trust (tag : Nat) (f : Ask → Ask) : (s.updAsk tag f).trust = s.trust := rfl
@[simp] theorem State.updAsk_power (tag : Nat) (f : Ask → Ask) : (s.updAsk tag f).power = s.power := rfl
@[simp] theorem State.updAsk_obj (tag : Nat) (f : Ask → Ask) : (s.updAsk tag f).obj = s.obj := rfl
@[simp] theorem State.updAsk_dom (tag : Nat) (f : Ask → Ask) : (s.updAsk tag f).dom = s.dom := rfl
@[simp] theorem State.updAsk_buses (tag : Nat) (f : Ask → Ask) : (s.updAsk tag f).buses = s.buses := rfl
@[simp] theorem State.updAsk_server (tag : Nat) (f : Ask → Ask) : (s.updAsk tag f).server = s.server := rfl
@[simp] theorem State.updAsk_recorder (tag : Nat) (f : Ask → Ask) : (s.updAsk tag f).recorder = s.recorder := rfl
@[simp] theorem State.updAsk_mgmt (tag : Nat) (f : Ask → Ask) : (s.updAsk tag f).mgmt = s.mgmt := rfl
@[simp] theorem State.updAsk_pins (tag : Nat) (f : Ask → Ask) : (s.updAsk tag f).pins = s.pins := rfl
@[simp] theorem State.updAsk_out (tag : Nat) (f : Ask → Ask) : (s.updAsk tag f).out = s.out := rfl
@[simp] theorem State.updAsk_free (tag : Nat) (f : Ask → Ask) : (s.updAsk tag f).free = s.free := rfl
@[simp] theorem State.updAsk_draws (tag : Nat) (f : Ask → Ask) : (s.updAsk tag f).draws = s.draws := rfl
@[simp] theorem State.updAsk_nextTag (tag : Nat) (f : Ask → Ask) : (s.updAsk tag f).nextTag = s.nextTag := rfl
@[simp] theorem State.updAsk_releases (tag : Nat) (f : Ask → Ask) : (s.updAsk tag f).releases = s.releases := rfl
@[simp] theorem State.updAsk_turns (tag : Nat) (f : Ask → Ask) : (s.updAsk tag f).turns = s.turns := rfl
@[simp] theorem State.updAsk_pending (tag : Nat) (f : Ask → Ask) : (s.updAsk tag f).pending = s.pending := rfl

/-! `State.setBatch` changes `batches` alone. -/

@[simp] theorem State.setBatch_now (b : Batch) : (s.setBatch b).now = s.now := rfl
@[simp] theorem State.setBatch_pace (b : Batch) : (s.setBatch b).pace = s.pace := rfl
@[simp] theorem State.setBatch_cal (b : Batch) : (s.setBatch b).cal = s.cal := rfl
@[simp] theorem State.setBatch_windows (b : Batch) : (s.setBatch b).windows = s.windows := rfl
@[simp] theorem State.setBatch_windowMark (b : Batch) : (s.setBatch b).windowMark = s.windowMark := rfl
@[simp] theorem State.setBatch_queues (b : Batch) : (s.setBatch b).queues = s.queues := rfl
@[simp] theorem State.setBatch_cmds (b : Batch) : (s.setBatch b).cmds = s.cmds := rfl
@[simp] theorem State.setBatch_abortWaits (b : Batch) : (s.setBatch b).abortWaits = s.abortWaits := rfl
@[simp] theorem State.setBatch_notices (b : Batch) : (s.setBatch b).notices = s.notices := rfl
@[simp] theorem State.setBatch_ctxs (b : Batch) : (s.setBatch b).ctxs = s.ctxs := rfl
@[simp] theorem State.setBatch_sync (b : Batch) : (s.setBatch b).sync = s.sync := rfl
@[simp] theorem State.setBatch_samples (b : Batch) : (s.setBatch b).samples = s.samples := rfl
@[simp] theorem State.setBatch_stands (b : Batch) : (s.setBatch b).stands = s.stands := rfl
@[simp] theorem State.setBatch_acc (b : Batch) : (s.setBatch b).acc = s.acc := rfl
@[simp] theorem State.setBatch_core (b : Batch) : (s.setBatch b).core = s.core := rfl
@[simp] theorem State.setBatch_feeder (b : Batch) : (s.setBatch b).feeder = s.feeder := rfl
@[simp] theorem State.setBatch_versions (b : Batch) : (s.setBatch b).versions = s.versions := rfl
@[simp] theorem State.setBatch_tables (b : Batch) : (s.setBatch b).tables = s.tables := rfl
@[simp] theorem State.setBatch_asks (b : Batch) : (s.setBatch b).asks = s.asks := rfl
@[simp] theorem State.setBatch_remoteHolds (b : Batch) : (s.setBatch b).remoteHolds = s.remoteHolds := rfl
@[simp] theorem State.setBatch_regions (b : Batch) : (s.setBatch b).regions = s.regions := rfl
@[simp] theorem State.setBatch_undo (b : Batch) : (s.setBatch b).undo = s.undo := rfl
@[simp] theorem State.setBatch_tapDone (b : Batch) : (s.setBatch b).tapDone = s.tapDone := rfl
@[simp] theorem State.setBatch_fetches (b : Batch) : (s.setBatch b).fetches = s.fetches := rfl
@[simp] theorem State.setBatch_scheds (b : Batch) : (s.setBatch b).scheds = s.scheds := rfl
@[simp] theorem State.setBatch_mem (b : Batch) : (s.setBatch b).mem = s.mem := rfl
@[simp] theorem State.setBatch_host (b : Batch) : (s.setBatch b).host = s.host := rfl
@[simp] theorem State.setBatch_pool (b : Batch) : (s.setBatch b).pool = s.pool := rfl
@[simp] theorem State.setBatch_ports (b : Batch) : (s.setBatch b).ports = s.ports := rfl
@[simp] theorem State.setBatch_inbox (b : Batch) : (s.setBatch b).inbox = s.inbox := rfl
@[simp] theorem State.setBatch_waiting (b : Batch) : (s.setBatch b).waiting = s.waiting := rfl
@[simp] theorem State.setBatch_backlog (b : Batch) : (s.setBatch b).backlog = s.backlog := rfl
@[simp] theorem State.setBatch_routes (b : Batch) : (s.setBatch b).routes = s.routes := rfl
@[simp] theorem State.setBatch_hostWait (b : Batch) : (s.setBatch b).hostWait = s.hostWait := rfl
@[simp] theorem State.setBatch_membership (b : Batch) : (s.setBatch b).membership = s.membership := rfl
@[simp] theorem State.setBatch_colls (b : Batch) : (s.setBatch b).colls = s.colls := rfl
@[simp] theorem State.setBatch_seqs (b : Batch) : (s.setBatch b).seqs = s.seqs := rfl
@[simp] theorem State.setBatch_links (b : Batch) : (s.setBatch b).links = s.links := rfl
@[simp] theorem State.setBatch_funcs (b : Batch) : (s.setBatch b).funcs = s.funcs := rfl
@[simp] theorem State.setBatch_tdis (b : Batch) : (s.setBatch b).tdis = s.tdis := rfl
@[simp] theorem State.setBatch_trust (b : Batch) : (s.setBatch b).trust = s.trust := rfl
@[simp] theorem State.setBatch_power (b : Batch) : (s.setBatch b).power = s.power := rfl
@[simp] theorem State.setBatch_obj (b : Batch) : (s.setBatch b).obj = s.obj := rfl
@[simp] theorem State.setBatch_dom (b : Batch) : (s.setBatch b).dom = s.dom := rfl
@[simp] theorem State.setBatch_buses (b : Batch) : (s.setBatch b).buses = s.buses := rfl
@[simp] theorem State.setBatch_server (b : Batch) : (s.setBatch b).server = s.server := rfl
@[simp] theorem State.setBatch_recorder (b : Batch) : (s.setBatch b).recorder = s.recorder := rfl
@[simp] theorem State.setBatch_mgmt (b : Batch) : (s.setBatch b).mgmt = s.mgmt := rfl
@[simp] theorem State.setBatch_pins (b : Batch) : (s.setBatch b).pins = s.pins := rfl
@[simp] theorem State.setBatch_out (b : Batch) : (s.setBatch b).out = s.out := rfl
@[simp] theorem State.setBatch_free (b : Batch) : (s.setBatch b).free = s.free := rfl
@[simp] theorem State.setBatch_draws (b : Batch) : (s.setBatch b).draws = s.draws := rfl
@[simp] theorem State.setBatch_nextTag (b : Batch) : (s.setBatch b).nextTag = s.nextTag := rfl
@[simp] theorem State.setBatch_releases (b : Batch) : (s.setBatch b).releases = s.releases := rfl
@[simp] theorem State.setBatch_turns (b : Batch) : (s.setBatch b).turns = s.turns := rfl
@[simp] theorem State.setBatch_pending (b : Batch) : (s.setBatch b).pending = s.pending := rfl

/-! `State.setLink` changes `links` alone. -/

@[simp] theorem State.setLink_now (l : Nat) (x : HostLink) : (s.setLink l x).now = s.now := rfl
@[simp] theorem State.setLink_pace (l : Nat) (x : HostLink) : (s.setLink l x).pace = s.pace := rfl
@[simp] theorem State.setLink_cal (l : Nat) (x : HostLink) : (s.setLink l x).cal = s.cal := rfl
@[simp] theorem State.setLink_windows (l : Nat) (x : HostLink) : (s.setLink l x).windows = s.windows := rfl
@[simp] theorem State.setLink_windowMark (l : Nat) (x : HostLink) : (s.setLink l x).windowMark = s.windowMark := rfl
@[simp] theorem State.setLink_queues (l : Nat) (x : HostLink) : (s.setLink l x).queues = s.queues := rfl
@[simp] theorem State.setLink_cmds (l : Nat) (x : HostLink) : (s.setLink l x).cmds = s.cmds := rfl
@[simp] theorem State.setLink_abortWaits (l : Nat) (x : HostLink) : (s.setLink l x).abortWaits = s.abortWaits := rfl
@[simp] theorem State.setLink_notices (l : Nat) (x : HostLink) : (s.setLink l x).notices = s.notices := rfl
@[simp] theorem State.setLink_ctxs (l : Nat) (x : HostLink) : (s.setLink l x).ctxs = s.ctxs := rfl
@[simp] theorem State.setLink_sync (l : Nat) (x : HostLink) : (s.setLink l x).sync = s.sync := rfl
@[simp] theorem State.setLink_samples (l : Nat) (x : HostLink) : (s.setLink l x).samples = s.samples := rfl
@[simp] theorem State.setLink_stands (l : Nat) (x : HostLink) : (s.setLink l x).stands = s.stands := rfl
@[simp] theorem State.setLink_acc (l : Nat) (x : HostLink) : (s.setLink l x).acc = s.acc := rfl
@[simp] theorem State.setLink_core (l : Nat) (x : HostLink) : (s.setLink l x).core = s.core := rfl
@[simp] theorem State.setLink_feeder (l : Nat) (x : HostLink) : (s.setLink l x).feeder = s.feeder := rfl
@[simp] theorem State.setLink_versions (l : Nat) (x : HostLink) : (s.setLink l x).versions = s.versions := rfl
@[simp] theorem State.setLink_tables (l : Nat) (x : HostLink) : (s.setLink l x).tables = s.tables := rfl
@[simp] theorem State.setLink_batches (l : Nat) (x : HostLink) : (s.setLink l x).batches = s.batches := rfl
@[simp] theorem State.setLink_asks (l : Nat) (x : HostLink) : (s.setLink l x).asks = s.asks := rfl
@[simp] theorem State.setLink_remoteHolds (l : Nat) (x : HostLink) : (s.setLink l x).remoteHolds = s.remoteHolds := rfl
@[simp] theorem State.setLink_regions (l : Nat) (x : HostLink) : (s.setLink l x).regions = s.regions := rfl
@[simp] theorem State.setLink_undo (l : Nat) (x : HostLink) : (s.setLink l x).undo = s.undo := rfl
@[simp] theorem State.setLink_tapDone (l : Nat) (x : HostLink) : (s.setLink l x).tapDone = s.tapDone := rfl
@[simp] theorem State.setLink_fetches (l : Nat) (x : HostLink) : (s.setLink l x).fetches = s.fetches := rfl
@[simp] theorem State.setLink_scheds (l : Nat) (x : HostLink) : (s.setLink l x).scheds = s.scheds := rfl
@[simp] theorem State.setLink_mem (l : Nat) (x : HostLink) : (s.setLink l x).mem = s.mem := rfl
@[simp] theorem State.setLink_host (l : Nat) (x : HostLink) : (s.setLink l x).host = s.host := rfl
@[simp] theorem State.setLink_pool (l : Nat) (x : HostLink) : (s.setLink l x).pool = s.pool := rfl
@[simp] theorem State.setLink_ports (l : Nat) (x : HostLink) : (s.setLink l x).ports = s.ports := rfl
@[simp] theorem State.setLink_inbox (l : Nat) (x : HostLink) : (s.setLink l x).inbox = s.inbox := rfl
@[simp] theorem State.setLink_waiting (l : Nat) (x : HostLink) : (s.setLink l x).waiting = s.waiting := rfl
@[simp] theorem State.setLink_backlog (l : Nat) (x : HostLink) : (s.setLink l x).backlog = s.backlog := rfl
@[simp] theorem State.setLink_routes (l : Nat) (x : HostLink) : (s.setLink l x).routes = s.routes := rfl
@[simp] theorem State.setLink_hostWait (l : Nat) (x : HostLink) : (s.setLink l x).hostWait = s.hostWait := rfl
@[simp] theorem State.setLink_membership (l : Nat) (x : HostLink) : (s.setLink l x).membership = s.membership := rfl
@[simp] theorem State.setLink_colls (l : Nat) (x : HostLink) : (s.setLink l x).colls = s.colls := rfl
@[simp] theorem State.setLink_seqs (l : Nat) (x : HostLink) : (s.setLink l x).seqs = s.seqs := rfl
@[simp] theorem State.setLink_funcs (l : Nat) (x : HostLink) : (s.setLink l x).funcs = s.funcs := rfl
@[simp] theorem State.setLink_tdis (l : Nat) (x : HostLink) : (s.setLink l x).tdis = s.tdis := rfl
@[simp] theorem State.setLink_trust (l : Nat) (x : HostLink) : (s.setLink l x).trust = s.trust := rfl
@[simp] theorem State.setLink_power (l : Nat) (x : HostLink) : (s.setLink l x).power = s.power := rfl
@[simp] theorem State.setLink_obj (l : Nat) (x : HostLink) : (s.setLink l x).obj = s.obj := rfl
@[simp] theorem State.setLink_dom (l : Nat) (x : HostLink) : (s.setLink l x).dom = s.dom := rfl
@[simp] theorem State.setLink_buses (l : Nat) (x : HostLink) : (s.setLink l x).buses = s.buses := rfl
@[simp] theorem State.setLink_server (l : Nat) (x : HostLink) : (s.setLink l x).server = s.server := rfl
@[simp] theorem State.setLink_recorder (l : Nat) (x : HostLink) : (s.setLink l x).recorder = s.recorder := rfl
@[simp] theorem State.setLink_mgmt (l : Nat) (x : HostLink) : (s.setLink l x).mgmt = s.mgmt := rfl
@[simp] theorem State.setLink_pins (l : Nat) (x : HostLink) : (s.setLink l x).pins = s.pins := rfl
@[simp] theorem State.setLink_out (l : Nat) (x : HostLink) : (s.setLink l x).out = s.out := rfl
@[simp] theorem State.setLink_free (l : Nat) (x : HostLink) : (s.setLink l x).free = s.free := rfl
@[simp] theorem State.setLink_draws (l : Nat) (x : HostLink) : (s.setLink l x).draws = s.draws := rfl
@[simp] theorem State.setLink_nextTag (l : Nat) (x : HostLink) : (s.setLink l x).nextTag = s.nextTag := rfl
@[simp] theorem State.setLink_releases (l : Nat) (x : HostLink) : (s.setLink l x).releases = s.releases := rfl
@[simp] theorem State.setLink_turns (l : Nat) (x : HostLink) : (s.setLink l x).turns = s.turns := rfl
@[simp] theorem State.setLink_pending (l : Nat) (x : HostLink) : (s.setLink l x).pending = s.pending := rfl

/-! `State.setFunc` changes `funcs` alone. -/

@[simp] theorem State.setFunc_now (l f : Nat) (x : Func) : (s.setFunc l f x).now = s.now := rfl
@[simp] theorem State.setFunc_pace (l f : Nat) (x : Func) : (s.setFunc l f x).pace = s.pace := rfl
@[simp] theorem State.setFunc_cal (l f : Nat) (x : Func) : (s.setFunc l f x).cal = s.cal := rfl
@[simp] theorem State.setFunc_windows (l f : Nat) (x : Func) : (s.setFunc l f x).windows = s.windows := rfl
@[simp] theorem State.setFunc_windowMark (l f : Nat) (x : Func) : (s.setFunc l f x).windowMark = s.windowMark := rfl
@[simp] theorem State.setFunc_queues (l f : Nat) (x : Func) : (s.setFunc l f x).queues = s.queues := rfl
@[simp] theorem State.setFunc_cmds (l f : Nat) (x : Func) : (s.setFunc l f x).cmds = s.cmds := rfl
@[simp] theorem State.setFunc_abortWaits (l f : Nat) (x : Func) : (s.setFunc l f x).abortWaits = s.abortWaits := rfl
@[simp] theorem State.setFunc_notices (l f : Nat) (x : Func) : (s.setFunc l f x).notices = s.notices := rfl
@[simp] theorem State.setFunc_ctxs (l f : Nat) (x : Func) : (s.setFunc l f x).ctxs = s.ctxs := rfl
@[simp] theorem State.setFunc_sync (l f : Nat) (x : Func) : (s.setFunc l f x).sync = s.sync := rfl
@[simp] theorem State.setFunc_samples (l f : Nat) (x : Func) : (s.setFunc l f x).samples = s.samples := rfl
@[simp] theorem State.setFunc_stands (l f : Nat) (x : Func) : (s.setFunc l f x).stands = s.stands := rfl
@[simp] theorem State.setFunc_acc (l f : Nat) (x : Func) : (s.setFunc l f x).acc = s.acc := rfl
@[simp] theorem State.setFunc_core (l f : Nat) (x : Func) : (s.setFunc l f x).core = s.core := rfl
@[simp] theorem State.setFunc_feeder (l f : Nat) (x : Func) : (s.setFunc l f x).feeder = s.feeder := rfl
@[simp] theorem State.setFunc_versions (l f : Nat) (x : Func) : (s.setFunc l f x).versions = s.versions := rfl
@[simp] theorem State.setFunc_tables (l f : Nat) (x : Func) : (s.setFunc l f x).tables = s.tables := rfl
@[simp] theorem State.setFunc_batches (l f : Nat) (x : Func) : (s.setFunc l f x).batches = s.batches := rfl
@[simp] theorem State.setFunc_asks (l f : Nat) (x : Func) : (s.setFunc l f x).asks = s.asks := rfl
@[simp] theorem State.setFunc_remoteHolds (l f : Nat) (x : Func) : (s.setFunc l f x).remoteHolds = s.remoteHolds := rfl
@[simp] theorem State.setFunc_regions (l f : Nat) (x : Func) : (s.setFunc l f x).regions = s.regions := rfl
@[simp] theorem State.setFunc_undo (l f : Nat) (x : Func) : (s.setFunc l f x).undo = s.undo := rfl
@[simp] theorem State.setFunc_tapDone (l f : Nat) (x : Func) : (s.setFunc l f x).tapDone = s.tapDone := rfl
@[simp] theorem State.setFunc_fetches (l f : Nat) (x : Func) : (s.setFunc l f x).fetches = s.fetches := rfl
@[simp] theorem State.setFunc_scheds (l f : Nat) (x : Func) : (s.setFunc l f x).scheds = s.scheds := rfl
@[simp] theorem State.setFunc_mem (l f : Nat) (x : Func) : (s.setFunc l f x).mem = s.mem := rfl
@[simp] theorem State.setFunc_host (l f : Nat) (x : Func) : (s.setFunc l f x).host = s.host := rfl
@[simp] theorem State.setFunc_pool (l f : Nat) (x : Func) : (s.setFunc l f x).pool = s.pool := rfl
@[simp] theorem State.setFunc_ports (l f : Nat) (x : Func) : (s.setFunc l f x).ports = s.ports := rfl
@[simp] theorem State.setFunc_inbox (l f : Nat) (x : Func) : (s.setFunc l f x).inbox = s.inbox := rfl
@[simp] theorem State.setFunc_waiting (l f : Nat) (x : Func) : (s.setFunc l f x).waiting = s.waiting := rfl
@[simp] theorem State.setFunc_backlog (l f : Nat) (x : Func) : (s.setFunc l f x).backlog = s.backlog := rfl
@[simp] theorem State.setFunc_routes (l f : Nat) (x : Func) : (s.setFunc l f x).routes = s.routes := rfl
@[simp] theorem State.setFunc_hostWait (l f : Nat) (x : Func) : (s.setFunc l f x).hostWait = s.hostWait := rfl
@[simp] theorem State.setFunc_membership (l f : Nat) (x : Func) : (s.setFunc l f x).membership = s.membership := rfl
@[simp] theorem State.setFunc_colls (l f : Nat) (x : Func) : (s.setFunc l f x).colls = s.colls := rfl
@[simp] theorem State.setFunc_seqs (l f : Nat) (x : Func) : (s.setFunc l f x).seqs = s.seqs := rfl
@[simp] theorem State.setFunc_links (l f : Nat) (x : Func) : (s.setFunc l f x).links = s.links := rfl
@[simp] theorem State.setFunc_tdis (l f : Nat) (x : Func) : (s.setFunc l f x).tdis = s.tdis := rfl
@[simp] theorem State.setFunc_trust (l f : Nat) (x : Func) : (s.setFunc l f x).trust = s.trust := rfl
@[simp] theorem State.setFunc_power (l f : Nat) (x : Func) : (s.setFunc l f x).power = s.power := rfl
@[simp] theorem State.setFunc_obj (l f : Nat) (x : Func) : (s.setFunc l f x).obj = s.obj := rfl
@[simp] theorem State.setFunc_dom (l f : Nat) (x : Func) : (s.setFunc l f x).dom = s.dom := rfl
@[simp] theorem State.setFunc_buses (l f : Nat) (x : Func) : (s.setFunc l f x).buses = s.buses := rfl
@[simp] theorem State.setFunc_server (l f : Nat) (x : Func) : (s.setFunc l f x).server = s.server := rfl
@[simp] theorem State.setFunc_recorder (l f : Nat) (x : Func) : (s.setFunc l f x).recorder = s.recorder := rfl
@[simp] theorem State.setFunc_mgmt (l f : Nat) (x : Func) : (s.setFunc l f x).mgmt = s.mgmt := rfl
@[simp] theorem State.setFunc_pins (l f : Nat) (x : Func) : (s.setFunc l f x).pins = s.pins := rfl
@[simp] theorem State.setFunc_out (l f : Nat) (x : Func) : (s.setFunc l f x).out = s.out := rfl
@[simp] theorem State.setFunc_free (l f : Nat) (x : Func) : (s.setFunc l f x).free = s.free := rfl
@[simp] theorem State.setFunc_draws (l f : Nat) (x : Func) : (s.setFunc l f x).draws = s.draws := rfl
@[simp] theorem State.setFunc_nextTag (l f : Nat) (x : Func) : (s.setFunc l f x).nextTag = s.nextTag := rfl
@[simp] theorem State.setFunc_releases (l f : Nat) (x : Func) : (s.setFunc l f x).releases = s.releases := rfl
@[simp] theorem State.setFunc_turns (l f : Nat) (x : Func) : (s.setFunc l f x).turns = s.turns := rfl
@[simp] theorem State.setFunc_pending (l f : Nat) (x : Func) : (s.setFunc l f x).pending = s.pending := rfl

/-! `State.setFw` changes `server` alone. -/

@[simp] theorem State.setFw_now (t : Nat) (x : FwStore) : (s.setFw t x).now = s.now := rfl
@[simp] theorem State.setFw_pace (t : Nat) (x : FwStore) : (s.setFw t x).pace = s.pace := rfl
@[simp] theorem State.setFw_cal (t : Nat) (x : FwStore) : (s.setFw t x).cal = s.cal := rfl
@[simp] theorem State.setFw_windows (t : Nat) (x : FwStore) : (s.setFw t x).windows = s.windows := rfl
@[simp] theorem State.setFw_windowMark (t : Nat) (x : FwStore) : (s.setFw t x).windowMark = s.windowMark := rfl
@[simp] theorem State.setFw_queues (t : Nat) (x : FwStore) : (s.setFw t x).queues = s.queues := rfl
@[simp] theorem State.setFw_cmds (t : Nat) (x : FwStore) : (s.setFw t x).cmds = s.cmds := rfl
@[simp] theorem State.setFw_abortWaits (t : Nat) (x : FwStore) : (s.setFw t x).abortWaits = s.abortWaits := rfl
@[simp] theorem State.setFw_notices (t : Nat) (x : FwStore) : (s.setFw t x).notices = s.notices := rfl
@[simp] theorem State.setFw_ctxs (t : Nat) (x : FwStore) : (s.setFw t x).ctxs = s.ctxs := rfl
@[simp] theorem State.setFw_sync (t : Nat) (x : FwStore) : (s.setFw t x).sync = s.sync := rfl
@[simp] theorem State.setFw_samples (t : Nat) (x : FwStore) : (s.setFw t x).samples = s.samples := rfl
@[simp] theorem State.setFw_stands (t : Nat) (x : FwStore) : (s.setFw t x).stands = s.stands := rfl
@[simp] theorem State.setFw_acc (t : Nat) (x : FwStore) : (s.setFw t x).acc = s.acc := rfl
@[simp] theorem State.setFw_core (t : Nat) (x : FwStore) : (s.setFw t x).core = s.core := rfl
@[simp] theorem State.setFw_feeder (t : Nat) (x : FwStore) : (s.setFw t x).feeder = s.feeder := rfl
@[simp] theorem State.setFw_versions (t : Nat) (x : FwStore) : (s.setFw t x).versions = s.versions := rfl
@[simp] theorem State.setFw_tables (t : Nat) (x : FwStore) : (s.setFw t x).tables = s.tables := rfl
@[simp] theorem State.setFw_batches (t : Nat) (x : FwStore) : (s.setFw t x).batches = s.batches := rfl
@[simp] theorem State.setFw_asks (t : Nat) (x : FwStore) : (s.setFw t x).asks = s.asks := rfl
@[simp] theorem State.setFw_remoteHolds (t : Nat) (x : FwStore) : (s.setFw t x).remoteHolds = s.remoteHolds := rfl
@[simp] theorem State.setFw_regions (t : Nat) (x : FwStore) : (s.setFw t x).regions = s.regions := rfl
@[simp] theorem State.setFw_undo (t : Nat) (x : FwStore) : (s.setFw t x).undo = s.undo := rfl
@[simp] theorem State.setFw_tapDone (t : Nat) (x : FwStore) : (s.setFw t x).tapDone = s.tapDone := rfl
@[simp] theorem State.setFw_fetches (t : Nat) (x : FwStore) : (s.setFw t x).fetches = s.fetches := rfl
@[simp] theorem State.setFw_scheds (t : Nat) (x : FwStore) : (s.setFw t x).scheds = s.scheds := rfl
@[simp] theorem State.setFw_mem (t : Nat) (x : FwStore) : (s.setFw t x).mem = s.mem := rfl
@[simp] theorem State.setFw_host (t : Nat) (x : FwStore) : (s.setFw t x).host = s.host := rfl
@[simp] theorem State.setFw_pool (t : Nat) (x : FwStore) : (s.setFw t x).pool = s.pool := rfl
@[simp] theorem State.setFw_ports (t : Nat) (x : FwStore) : (s.setFw t x).ports = s.ports := rfl
@[simp] theorem State.setFw_inbox (t : Nat) (x : FwStore) : (s.setFw t x).inbox = s.inbox := rfl
@[simp] theorem State.setFw_waiting (t : Nat) (x : FwStore) : (s.setFw t x).waiting = s.waiting := rfl
@[simp] theorem State.setFw_backlog (t : Nat) (x : FwStore) : (s.setFw t x).backlog = s.backlog := rfl
@[simp] theorem State.setFw_routes (t : Nat) (x : FwStore) : (s.setFw t x).routes = s.routes := rfl
@[simp] theorem State.setFw_hostWait (t : Nat) (x : FwStore) : (s.setFw t x).hostWait = s.hostWait := rfl
@[simp] theorem State.setFw_membership (t : Nat) (x : FwStore) : (s.setFw t x).membership = s.membership := rfl
@[simp] theorem State.setFw_colls (t : Nat) (x : FwStore) : (s.setFw t x).colls = s.colls := rfl
@[simp] theorem State.setFw_seqs (t : Nat) (x : FwStore) : (s.setFw t x).seqs = s.seqs := rfl
@[simp] theorem State.setFw_links (t : Nat) (x : FwStore) : (s.setFw t x).links = s.links := rfl
@[simp] theorem State.setFw_funcs (t : Nat) (x : FwStore) : (s.setFw t x).funcs = s.funcs := rfl
@[simp] theorem State.setFw_tdis (t : Nat) (x : FwStore) : (s.setFw t x).tdis = s.tdis := rfl
@[simp] theorem State.setFw_trust (t : Nat) (x : FwStore) : (s.setFw t x).trust = s.trust := rfl
@[simp] theorem State.setFw_power (t : Nat) (x : FwStore) : (s.setFw t x).power = s.power := rfl
@[simp] theorem State.setFw_obj (t : Nat) (x : FwStore) : (s.setFw t x).obj = s.obj := rfl
@[simp] theorem State.setFw_dom (t : Nat) (x : FwStore) : (s.setFw t x).dom = s.dom := rfl
@[simp] theorem State.setFw_buses (t : Nat) (x : FwStore) : (s.setFw t x).buses = s.buses := rfl
@[simp] theorem State.setFw_recorder (t : Nat) (x : FwStore) : (s.setFw t x).recorder = s.recorder := rfl
@[simp] theorem State.setFw_mgmt (t : Nat) (x : FwStore) : (s.setFw t x).mgmt = s.mgmt := rfl
@[simp] theorem State.setFw_pins (t : Nat) (x : FwStore) : (s.setFw t x).pins = s.pins := rfl
@[simp] theorem State.setFw_out (t : Nat) (x : FwStore) : (s.setFw t x).out = s.out := rfl
@[simp] theorem State.setFw_free (t : Nat) (x : FwStore) : (s.setFw t x).free = s.free := rfl
@[simp] theorem State.setFw_draws (t : Nat) (x : FwStore) : (s.setFw t x).draws = s.draws := rfl
@[simp] theorem State.setFw_nextTag (t : Nat) (x : FwStore) : (s.setFw t x).nextTag = s.nextTag := rfl
@[simp] theorem State.setFw_releases (t : Nat) (x : FwStore) : (s.setFw t x).releases = s.releases := rfl
@[simp] theorem State.setFw_turns (t : Nat) (x : FwStore) : (s.setFw t x).turns = s.turns := rfl
@[simp] theorem State.setFw_pending (t : Nat) (x : FwStore) : (s.setFw t x).pending = s.pending := rfl

/-! `State.setMigration` changes `pool` alone. -/

@[simp] theorem State.setMigration_now (m : Migration) : (s.setMigration m).now = s.now := rfl
@[simp] theorem State.setMigration_pace (m : Migration) : (s.setMigration m).pace = s.pace := rfl
@[simp] theorem State.setMigration_cal (m : Migration) : (s.setMigration m).cal = s.cal := rfl
@[simp] theorem State.setMigration_windows (m : Migration) : (s.setMigration m).windows = s.windows := rfl
@[simp] theorem State.setMigration_windowMark (m : Migration) : (s.setMigration m).windowMark = s.windowMark := rfl
@[simp] theorem State.setMigration_queues (m : Migration) : (s.setMigration m).queues = s.queues := rfl
@[simp] theorem State.setMigration_cmds (m : Migration) : (s.setMigration m).cmds = s.cmds := rfl
@[simp] theorem State.setMigration_abortWaits (m : Migration) : (s.setMigration m).abortWaits = s.abortWaits := rfl
@[simp] theorem State.setMigration_notices (m : Migration) : (s.setMigration m).notices = s.notices := rfl
@[simp] theorem State.setMigration_ctxs (m : Migration) : (s.setMigration m).ctxs = s.ctxs := rfl
@[simp] theorem State.setMigration_sync (m : Migration) : (s.setMigration m).sync = s.sync := rfl
@[simp] theorem State.setMigration_samples (m : Migration) : (s.setMigration m).samples = s.samples := rfl
@[simp] theorem State.setMigration_stands (m : Migration) : (s.setMigration m).stands = s.stands := rfl
@[simp] theorem State.setMigration_acc (m : Migration) : (s.setMigration m).acc = s.acc := rfl
@[simp] theorem State.setMigration_core (m : Migration) : (s.setMigration m).core = s.core := rfl
@[simp] theorem State.setMigration_feeder (m : Migration) : (s.setMigration m).feeder = s.feeder := rfl
@[simp] theorem State.setMigration_versions (m : Migration) : (s.setMigration m).versions = s.versions := rfl
@[simp] theorem State.setMigration_tables (m : Migration) : (s.setMigration m).tables = s.tables := rfl
@[simp] theorem State.setMigration_batches (m : Migration) : (s.setMigration m).batches = s.batches := rfl
@[simp] theorem State.setMigration_asks (m : Migration) : (s.setMigration m).asks = s.asks := rfl
@[simp] theorem State.setMigration_remoteHolds (m : Migration) : (s.setMigration m).remoteHolds = s.remoteHolds := rfl
@[simp] theorem State.setMigration_regions (m : Migration) : (s.setMigration m).regions = s.regions := rfl
@[simp] theorem State.setMigration_undo (m : Migration) : (s.setMigration m).undo = s.undo := rfl
@[simp] theorem State.setMigration_tapDone (m : Migration) : (s.setMigration m).tapDone = s.tapDone := rfl
@[simp] theorem State.setMigration_fetches (m : Migration) : (s.setMigration m).fetches = s.fetches := rfl
@[simp] theorem State.setMigration_scheds (m : Migration) : (s.setMigration m).scheds = s.scheds := rfl
@[simp] theorem State.setMigration_mem (m : Migration) : (s.setMigration m).mem = s.mem := rfl
@[simp] theorem State.setMigration_host (m : Migration) : (s.setMigration m).host = s.host := rfl
@[simp] theorem State.setMigration_ports (m : Migration) : (s.setMigration m).ports = s.ports := rfl
@[simp] theorem State.setMigration_inbox (m : Migration) : (s.setMigration m).inbox = s.inbox := rfl
@[simp] theorem State.setMigration_waiting (m : Migration) : (s.setMigration m).waiting = s.waiting := rfl
@[simp] theorem State.setMigration_backlog (m : Migration) : (s.setMigration m).backlog = s.backlog := rfl
@[simp] theorem State.setMigration_routes (m : Migration) : (s.setMigration m).routes = s.routes := rfl
@[simp] theorem State.setMigration_hostWait (m : Migration) : (s.setMigration m).hostWait = s.hostWait := rfl
@[simp] theorem State.setMigration_membership (m : Migration) : (s.setMigration m).membership = s.membership := rfl
@[simp] theorem State.setMigration_colls (m : Migration) : (s.setMigration m).colls = s.colls := rfl
@[simp] theorem State.setMigration_seqs (m : Migration) : (s.setMigration m).seqs = s.seqs := rfl
@[simp] theorem State.setMigration_links (m : Migration) : (s.setMigration m).links = s.links := rfl
@[simp] theorem State.setMigration_funcs (m : Migration) : (s.setMigration m).funcs = s.funcs := rfl
@[simp] theorem State.setMigration_tdis (m : Migration) : (s.setMigration m).tdis = s.tdis := rfl
@[simp] theorem State.setMigration_trust (m : Migration) : (s.setMigration m).trust = s.trust := rfl
@[simp] theorem State.setMigration_power (m : Migration) : (s.setMigration m).power = s.power := rfl
@[simp] theorem State.setMigration_obj (m : Migration) : (s.setMigration m).obj = s.obj := rfl
@[simp] theorem State.setMigration_dom (m : Migration) : (s.setMigration m).dom = s.dom := rfl
@[simp] theorem State.setMigration_buses (m : Migration) : (s.setMigration m).buses = s.buses := rfl
@[simp] theorem State.setMigration_server (m : Migration) : (s.setMigration m).server = s.server := rfl
@[simp] theorem State.setMigration_recorder (m : Migration) : (s.setMigration m).recorder = s.recorder := rfl
@[simp] theorem State.setMigration_mgmt (m : Migration) : (s.setMigration m).mgmt = s.mgmt := rfl
@[simp] theorem State.setMigration_pins (m : Migration) : (s.setMigration m).pins = s.pins := rfl
@[simp] theorem State.setMigration_out (m : Migration) : (s.setMigration m).out = s.out := rfl
@[simp] theorem State.setMigration_free (m : Migration) : (s.setMigration m).free = s.free := rfl
@[simp] theorem State.setMigration_draws (m : Migration) : (s.setMigration m).draws = s.draws := rfl
@[simp] theorem State.setMigration_nextTag (m : Migration) : (s.setMigration m).nextTag = s.nextTag := rfl
@[simp] theorem State.setMigration_releases (m : Migration) : (s.setMigration m).releases = s.releases := rfl
@[simp] theorem State.setMigration_turns (m : Migration) : (s.setMigration m).turns = s.turns := rfl
@[simp] theorem State.setMigration_pending (m : Migration) : (s.setMigration m).pending = s.pending := rfl

/-! `State.setRail` changes `power` alone. -/

@[simp] theorem State.setRail_now (r : Nat) (x : Rail) : (s.setRail r x).now = s.now := rfl
@[simp] theorem State.setRail_pace (r : Nat) (x : Rail) : (s.setRail r x).pace = s.pace := rfl
@[simp] theorem State.setRail_cal (r : Nat) (x : Rail) : (s.setRail r x).cal = s.cal := rfl
@[simp] theorem State.setRail_windows (r : Nat) (x : Rail) : (s.setRail r x).windows = s.windows := rfl
@[simp] theorem State.setRail_windowMark (r : Nat) (x : Rail) : (s.setRail r x).windowMark = s.windowMark := rfl
@[simp] theorem State.setRail_queues (r : Nat) (x : Rail) : (s.setRail r x).queues = s.queues := rfl
@[simp] theorem State.setRail_cmds (r : Nat) (x : Rail) : (s.setRail r x).cmds = s.cmds := rfl
@[simp] theorem State.setRail_abortWaits (r : Nat) (x : Rail) : (s.setRail r x).abortWaits = s.abortWaits := rfl
@[simp] theorem State.setRail_notices (r : Nat) (x : Rail) : (s.setRail r x).notices = s.notices := rfl
@[simp] theorem State.setRail_ctxs (r : Nat) (x : Rail) : (s.setRail r x).ctxs = s.ctxs := rfl
@[simp] theorem State.setRail_sync (r : Nat) (x : Rail) : (s.setRail r x).sync = s.sync := rfl
@[simp] theorem State.setRail_samples (r : Nat) (x : Rail) : (s.setRail r x).samples = s.samples := rfl
@[simp] theorem State.setRail_stands (r : Nat) (x : Rail) : (s.setRail r x).stands = s.stands := rfl
@[simp] theorem State.setRail_acc (r : Nat) (x : Rail) : (s.setRail r x).acc = s.acc := rfl
@[simp] theorem State.setRail_core (r : Nat) (x : Rail) : (s.setRail r x).core = s.core := rfl
@[simp] theorem State.setRail_feeder (r : Nat) (x : Rail) : (s.setRail r x).feeder = s.feeder := rfl
@[simp] theorem State.setRail_versions (r : Nat) (x : Rail) : (s.setRail r x).versions = s.versions := rfl
@[simp] theorem State.setRail_tables (r : Nat) (x : Rail) : (s.setRail r x).tables = s.tables := rfl
@[simp] theorem State.setRail_batches (r : Nat) (x : Rail) : (s.setRail r x).batches = s.batches := rfl
@[simp] theorem State.setRail_asks (r : Nat) (x : Rail) : (s.setRail r x).asks = s.asks := rfl
@[simp] theorem State.setRail_remoteHolds (r : Nat) (x : Rail) : (s.setRail r x).remoteHolds = s.remoteHolds := rfl
@[simp] theorem State.setRail_regions (r : Nat) (x : Rail) : (s.setRail r x).regions = s.regions := rfl
@[simp] theorem State.setRail_undo (r : Nat) (x : Rail) : (s.setRail r x).undo = s.undo := rfl
@[simp] theorem State.setRail_tapDone (r : Nat) (x : Rail) : (s.setRail r x).tapDone = s.tapDone := rfl
@[simp] theorem State.setRail_fetches (r : Nat) (x : Rail) : (s.setRail r x).fetches = s.fetches := rfl
@[simp] theorem State.setRail_scheds (r : Nat) (x : Rail) : (s.setRail r x).scheds = s.scheds := rfl
@[simp] theorem State.setRail_mem (r : Nat) (x : Rail) : (s.setRail r x).mem = s.mem := rfl
@[simp] theorem State.setRail_host (r : Nat) (x : Rail) : (s.setRail r x).host = s.host := rfl
@[simp] theorem State.setRail_pool (r : Nat) (x : Rail) : (s.setRail r x).pool = s.pool := rfl
@[simp] theorem State.setRail_ports (r : Nat) (x : Rail) : (s.setRail r x).ports = s.ports := rfl
@[simp] theorem State.setRail_inbox (r : Nat) (x : Rail) : (s.setRail r x).inbox = s.inbox := rfl
@[simp] theorem State.setRail_waiting (r : Nat) (x : Rail) : (s.setRail r x).waiting = s.waiting := rfl
@[simp] theorem State.setRail_backlog (r : Nat) (x : Rail) : (s.setRail r x).backlog = s.backlog := rfl
@[simp] theorem State.setRail_routes (r : Nat) (x : Rail) : (s.setRail r x).routes = s.routes := rfl
@[simp] theorem State.setRail_hostWait (r : Nat) (x : Rail) : (s.setRail r x).hostWait = s.hostWait := rfl
@[simp] theorem State.setRail_membership (r : Nat) (x : Rail) : (s.setRail r x).membership = s.membership := rfl
@[simp] theorem State.setRail_colls (r : Nat) (x : Rail) : (s.setRail r x).colls = s.colls := rfl
@[simp] theorem State.setRail_seqs (r : Nat) (x : Rail) : (s.setRail r x).seqs = s.seqs := rfl
@[simp] theorem State.setRail_links (r : Nat) (x : Rail) : (s.setRail r x).links = s.links := rfl
@[simp] theorem State.setRail_funcs (r : Nat) (x : Rail) : (s.setRail r x).funcs = s.funcs := rfl
@[simp] theorem State.setRail_tdis (r : Nat) (x : Rail) : (s.setRail r x).tdis = s.tdis := rfl
@[simp] theorem State.setRail_trust (r : Nat) (x : Rail) : (s.setRail r x).trust = s.trust := rfl
@[simp] theorem State.setRail_obj (r : Nat) (x : Rail) : (s.setRail r x).obj = s.obj := rfl
@[simp] theorem State.setRail_dom (r : Nat) (x : Rail) : (s.setRail r x).dom = s.dom := rfl
@[simp] theorem State.setRail_buses (r : Nat) (x : Rail) : (s.setRail r x).buses = s.buses := rfl
@[simp] theorem State.setRail_server (r : Nat) (x : Rail) : (s.setRail r x).server = s.server := rfl
@[simp] theorem State.setRail_recorder (r : Nat) (x : Rail) : (s.setRail r x).recorder = s.recorder := rfl
@[simp] theorem State.setRail_mgmt (r : Nat) (x : Rail) : (s.setRail r x).mgmt = s.mgmt := rfl
@[simp] theorem State.setRail_pins (r : Nat) (x : Rail) : (s.setRail r x).pins = s.pins := rfl
@[simp] theorem State.setRail_out (r : Nat) (x : Rail) : (s.setRail r x).out = s.out := rfl
@[simp] theorem State.setRail_free (r : Nat) (x : Rail) : (s.setRail r x).free = s.free := rfl
@[simp] theorem State.setRail_draws (r : Nat) (x : Rail) : (s.setRail r x).draws = s.draws := rfl
@[simp] theorem State.setRail_nextTag (r : Nat) (x : Rail) : (s.setRail r x).nextTag = s.nextTag := rfl
@[simp] theorem State.setRail_releases (r : Nat) (x : Rail) : (s.setRail r x).releases = s.releases := rfl
@[simp] theorem State.setRail_turns (r : Nat) (x : Rail) : (s.setRail r x).turns = s.turns := rfl
@[simp] theorem State.setRail_pending (r : Nat) (x : Rail) : (s.setRail r x).pending = s.pending := rfl

/-! `State.setStand` changes `stands` alone. -/

@[simp] theorem State.setStand_now (k : Nat) (x : Stand) : (s.setStand k x).now = s.now := rfl
@[simp] theorem State.setStand_pace (k : Nat) (x : Stand) : (s.setStand k x).pace = s.pace := rfl
@[simp] theorem State.setStand_cal (k : Nat) (x : Stand) : (s.setStand k x).cal = s.cal := rfl
@[simp] theorem State.setStand_windows (k : Nat) (x : Stand) : (s.setStand k x).windows = s.windows := rfl
@[simp] theorem State.setStand_windowMark (k : Nat) (x : Stand) : (s.setStand k x).windowMark = s.windowMark := rfl
@[simp] theorem State.setStand_queues (k : Nat) (x : Stand) : (s.setStand k x).queues = s.queues := rfl
@[simp] theorem State.setStand_cmds (k : Nat) (x : Stand) : (s.setStand k x).cmds = s.cmds := rfl
@[simp] theorem State.setStand_abortWaits (k : Nat) (x : Stand) : (s.setStand k x).abortWaits = s.abortWaits := rfl
@[simp] theorem State.setStand_notices (k : Nat) (x : Stand) : (s.setStand k x).notices = s.notices := rfl
@[simp] theorem State.setStand_ctxs (k : Nat) (x : Stand) : (s.setStand k x).ctxs = s.ctxs := rfl
@[simp] theorem State.setStand_sync (k : Nat) (x : Stand) : (s.setStand k x).sync = s.sync := rfl
@[simp] theorem State.setStand_samples (k : Nat) (x : Stand) : (s.setStand k x).samples = s.samples := rfl
@[simp] theorem State.setStand_acc (k : Nat) (x : Stand) : (s.setStand k x).acc = s.acc := rfl
@[simp] theorem State.setStand_core (k : Nat) (x : Stand) : (s.setStand k x).core = s.core := rfl
@[simp] theorem State.setStand_feeder (k : Nat) (x : Stand) : (s.setStand k x).feeder = s.feeder := rfl
@[simp] theorem State.setStand_versions (k : Nat) (x : Stand) : (s.setStand k x).versions = s.versions := rfl
@[simp] theorem State.setStand_tables (k : Nat) (x : Stand) : (s.setStand k x).tables = s.tables := rfl
@[simp] theorem State.setStand_batches (k : Nat) (x : Stand) : (s.setStand k x).batches = s.batches := rfl
@[simp] theorem State.setStand_asks (k : Nat) (x : Stand) : (s.setStand k x).asks = s.asks := rfl
@[simp] theorem State.setStand_remoteHolds (k : Nat) (x : Stand) : (s.setStand k x).remoteHolds = s.remoteHolds := rfl
@[simp] theorem State.setStand_regions (k : Nat) (x : Stand) : (s.setStand k x).regions = s.regions := rfl
@[simp] theorem State.setStand_undo (k : Nat) (x : Stand) : (s.setStand k x).undo = s.undo := rfl
@[simp] theorem State.setStand_tapDone (k : Nat) (x : Stand) : (s.setStand k x).tapDone = s.tapDone := rfl
@[simp] theorem State.setStand_fetches (k : Nat) (x : Stand) : (s.setStand k x).fetches = s.fetches := rfl
@[simp] theorem State.setStand_scheds (k : Nat) (x : Stand) : (s.setStand k x).scheds = s.scheds := rfl
@[simp] theorem State.setStand_mem (k : Nat) (x : Stand) : (s.setStand k x).mem = s.mem := rfl
@[simp] theorem State.setStand_host (k : Nat) (x : Stand) : (s.setStand k x).host = s.host := rfl
@[simp] theorem State.setStand_pool (k : Nat) (x : Stand) : (s.setStand k x).pool = s.pool := rfl
@[simp] theorem State.setStand_ports (k : Nat) (x : Stand) : (s.setStand k x).ports = s.ports := rfl
@[simp] theorem State.setStand_inbox (k : Nat) (x : Stand) : (s.setStand k x).inbox = s.inbox := rfl
@[simp] theorem State.setStand_waiting (k : Nat) (x : Stand) : (s.setStand k x).waiting = s.waiting := rfl
@[simp] theorem State.setStand_backlog (k : Nat) (x : Stand) : (s.setStand k x).backlog = s.backlog := rfl
@[simp] theorem State.setStand_routes (k : Nat) (x : Stand) : (s.setStand k x).routes = s.routes := rfl
@[simp] theorem State.setStand_hostWait (k : Nat) (x : Stand) : (s.setStand k x).hostWait = s.hostWait := rfl
@[simp] theorem State.setStand_membership (k : Nat) (x : Stand) : (s.setStand k x).membership = s.membership := rfl
@[simp] theorem State.setStand_colls (k : Nat) (x : Stand) : (s.setStand k x).colls = s.colls := rfl
@[simp] theorem State.setStand_seqs (k : Nat) (x : Stand) : (s.setStand k x).seqs = s.seqs := rfl
@[simp] theorem State.setStand_links (k : Nat) (x : Stand) : (s.setStand k x).links = s.links := rfl
@[simp] theorem State.setStand_funcs (k : Nat) (x : Stand) : (s.setStand k x).funcs = s.funcs := rfl
@[simp] theorem State.setStand_tdis (k : Nat) (x : Stand) : (s.setStand k x).tdis = s.tdis := rfl
@[simp] theorem State.setStand_trust (k : Nat) (x : Stand) : (s.setStand k x).trust = s.trust := rfl
@[simp] theorem State.setStand_power (k : Nat) (x : Stand) : (s.setStand k x).power = s.power := rfl
@[simp] theorem State.setStand_obj (k : Nat) (x : Stand) : (s.setStand k x).obj = s.obj := rfl
@[simp] theorem State.setStand_dom (k : Nat) (x : Stand) : (s.setStand k x).dom = s.dom := rfl
@[simp] theorem State.setStand_buses (k : Nat) (x : Stand) : (s.setStand k x).buses = s.buses := rfl
@[simp] theorem State.setStand_server (k : Nat) (x : Stand) : (s.setStand k x).server = s.server := rfl
@[simp] theorem State.setStand_recorder (k : Nat) (x : Stand) : (s.setStand k x).recorder = s.recorder := rfl
@[simp] theorem State.setStand_mgmt (k : Nat) (x : Stand) : (s.setStand k x).mgmt = s.mgmt := rfl
@[simp] theorem State.setStand_pins (k : Nat) (x : Stand) : (s.setStand k x).pins = s.pins := rfl
@[simp] theorem State.setStand_out (k : Nat) (x : Stand) : (s.setStand k x).out = s.out := rfl
@[simp] theorem State.setStand_free (k : Nat) (x : Stand) : (s.setStand k x).free = s.free := rfl
@[simp] theorem State.setStand_draws (k : Nat) (x : Stand) : (s.setStand k x).draws = s.draws := rfl
@[simp] theorem State.setStand_nextTag (k : Nat) (x : Stand) : (s.setStand k x).nextTag = s.nextTag := rfl
@[simp] theorem State.setStand_releases (k : Nat) (x : Stand) : (s.setStand k x).releases = s.releases := rfl
@[simp] theorem State.setStand_turns (k : Nat) (x : Stand) : (s.setStand k x).turns = s.turns := rfl
@[simp] theorem State.setStand_pending (k : Nat) (x : Stand) : (s.setStand k x).pending = s.pending := rfl

/-! `State.setTdi` changes `tdis` alone. -/

@[simp] theorem State.setTdi_now (c : Nat) (x : Tdi) : (s.setTdi c x).now = s.now := rfl
@[simp] theorem State.setTdi_pace (c : Nat) (x : Tdi) : (s.setTdi c x).pace = s.pace := rfl
@[simp] theorem State.setTdi_cal (c : Nat) (x : Tdi) : (s.setTdi c x).cal = s.cal := rfl
@[simp] theorem State.setTdi_windows (c : Nat) (x : Tdi) : (s.setTdi c x).windows = s.windows := rfl
@[simp] theorem State.setTdi_windowMark (c : Nat) (x : Tdi) : (s.setTdi c x).windowMark = s.windowMark := rfl
@[simp] theorem State.setTdi_queues (c : Nat) (x : Tdi) : (s.setTdi c x).queues = s.queues := rfl
@[simp] theorem State.setTdi_cmds (c : Nat) (x : Tdi) : (s.setTdi c x).cmds = s.cmds := rfl
@[simp] theorem State.setTdi_abortWaits (c : Nat) (x : Tdi) : (s.setTdi c x).abortWaits = s.abortWaits := rfl
@[simp] theorem State.setTdi_notices (c : Nat) (x : Tdi) : (s.setTdi c x).notices = s.notices := rfl
@[simp] theorem State.setTdi_ctxs (c : Nat) (x : Tdi) : (s.setTdi c x).ctxs = s.ctxs := rfl
@[simp] theorem State.setTdi_sync (c : Nat) (x : Tdi) : (s.setTdi c x).sync = s.sync := rfl
@[simp] theorem State.setTdi_samples (c : Nat) (x : Tdi) : (s.setTdi c x).samples = s.samples := rfl
@[simp] theorem State.setTdi_stands (c : Nat) (x : Tdi) : (s.setTdi c x).stands = s.stands := rfl
@[simp] theorem State.setTdi_acc (c : Nat) (x : Tdi) : (s.setTdi c x).acc = s.acc := rfl
@[simp] theorem State.setTdi_core (c : Nat) (x : Tdi) : (s.setTdi c x).core = s.core := rfl
@[simp] theorem State.setTdi_feeder (c : Nat) (x : Tdi) : (s.setTdi c x).feeder = s.feeder := rfl
@[simp] theorem State.setTdi_versions (c : Nat) (x : Tdi) : (s.setTdi c x).versions = s.versions := rfl
@[simp] theorem State.setTdi_tables (c : Nat) (x : Tdi) : (s.setTdi c x).tables = s.tables := rfl
@[simp] theorem State.setTdi_batches (c : Nat) (x : Tdi) : (s.setTdi c x).batches = s.batches := rfl
@[simp] theorem State.setTdi_asks (c : Nat) (x : Tdi) : (s.setTdi c x).asks = s.asks := rfl
@[simp] theorem State.setTdi_remoteHolds (c : Nat) (x : Tdi) : (s.setTdi c x).remoteHolds = s.remoteHolds := rfl
@[simp] theorem State.setTdi_regions (c : Nat) (x : Tdi) : (s.setTdi c x).regions = s.regions := rfl
@[simp] theorem State.setTdi_undo (c : Nat) (x : Tdi) : (s.setTdi c x).undo = s.undo := rfl
@[simp] theorem State.setTdi_tapDone (c : Nat) (x : Tdi) : (s.setTdi c x).tapDone = s.tapDone := rfl
@[simp] theorem State.setTdi_fetches (c : Nat) (x : Tdi) : (s.setTdi c x).fetches = s.fetches := rfl
@[simp] theorem State.setTdi_scheds (c : Nat) (x : Tdi) : (s.setTdi c x).scheds = s.scheds := rfl
@[simp] theorem State.setTdi_mem (c : Nat) (x : Tdi) : (s.setTdi c x).mem = s.mem := rfl
@[simp] theorem State.setTdi_host (c : Nat) (x : Tdi) : (s.setTdi c x).host = s.host := rfl
@[simp] theorem State.setTdi_pool (c : Nat) (x : Tdi) : (s.setTdi c x).pool = s.pool := rfl
@[simp] theorem State.setTdi_ports (c : Nat) (x : Tdi) : (s.setTdi c x).ports = s.ports := rfl
@[simp] theorem State.setTdi_inbox (c : Nat) (x : Tdi) : (s.setTdi c x).inbox = s.inbox := rfl
@[simp] theorem State.setTdi_waiting (c : Nat) (x : Tdi) : (s.setTdi c x).waiting = s.waiting := rfl
@[simp] theorem State.setTdi_backlog (c : Nat) (x : Tdi) : (s.setTdi c x).backlog = s.backlog := rfl
@[simp] theorem State.setTdi_routes (c : Nat) (x : Tdi) : (s.setTdi c x).routes = s.routes := rfl
@[simp] theorem State.setTdi_hostWait (c : Nat) (x : Tdi) : (s.setTdi c x).hostWait = s.hostWait := rfl
@[simp] theorem State.setTdi_membership (c : Nat) (x : Tdi) : (s.setTdi c x).membership = s.membership := rfl
@[simp] theorem State.setTdi_colls (c : Nat) (x : Tdi) : (s.setTdi c x).colls = s.colls := rfl
@[simp] theorem State.setTdi_seqs (c : Nat) (x : Tdi) : (s.setTdi c x).seqs = s.seqs := rfl
@[simp] theorem State.setTdi_links (c : Nat) (x : Tdi) : (s.setTdi c x).links = s.links := rfl
@[simp] theorem State.setTdi_funcs (c : Nat) (x : Tdi) : (s.setTdi c x).funcs = s.funcs := rfl
@[simp] theorem State.setTdi_trust (c : Nat) (x : Tdi) : (s.setTdi c x).trust = s.trust := rfl
@[simp] theorem State.setTdi_power (c : Nat) (x : Tdi) : (s.setTdi c x).power = s.power := rfl
@[simp] theorem State.setTdi_obj (c : Nat) (x : Tdi) : (s.setTdi c x).obj = s.obj := rfl
@[simp] theorem State.setTdi_dom (c : Nat) (x : Tdi) : (s.setTdi c x).dom = s.dom := rfl
@[simp] theorem State.setTdi_buses (c : Nat) (x : Tdi) : (s.setTdi c x).buses = s.buses := rfl
@[simp] theorem State.setTdi_server (c : Nat) (x : Tdi) : (s.setTdi c x).server = s.server := rfl
@[simp] theorem State.setTdi_recorder (c : Nat) (x : Tdi) : (s.setTdi c x).recorder = s.recorder := rfl
@[simp] theorem State.setTdi_mgmt (c : Nat) (x : Tdi) : (s.setTdi c x).mgmt = s.mgmt := rfl
@[simp] theorem State.setTdi_pins (c : Nat) (x : Tdi) : (s.setTdi c x).pins = s.pins := rfl
@[simp] theorem State.setTdi_out (c : Nat) (x : Tdi) : (s.setTdi c x).out = s.out := rfl
@[simp] theorem State.setTdi_free (c : Nat) (x : Tdi) : (s.setTdi c x).free = s.free := rfl
@[simp] theorem State.setTdi_draws (c : Nat) (x : Tdi) : (s.setTdi c x).draws = s.draws := rfl
@[simp] theorem State.setTdi_nextTag (c : Nat) (x : Tdi) : (s.setTdi c x).nextTag = s.nextTag := rfl
@[simp] theorem State.setTdi_releases (c : Nat) (x : Tdi) : (s.setTdi c x).releases = s.releases := rfl
@[simp] theorem State.setTdi_turns (c : Nat) (x : Tdi) : (s.setTdi c x).turns = s.turns := rfl
@[simp] theorem State.setTdi_pending (c : Nat) (x : Tdi) : (s.setTdi c x).pending = s.pending := rfl

/-! `State.setSched` changes `scheds` alone. -/

@[simp] theorem State.setSched_now (c k : Nat) (x : Sched) : (s.setSched c k x).now = s.now := rfl
@[simp] theorem State.setSched_pace (c k : Nat) (x : Sched) : (s.setSched c k x).pace = s.pace := rfl
@[simp] theorem State.setSched_cal (c k : Nat) (x : Sched) : (s.setSched c k x).cal = s.cal := rfl
@[simp] theorem State.setSched_windows (c k : Nat) (x : Sched) : (s.setSched c k x).windows = s.windows := rfl
@[simp] theorem State.setSched_windowMark (c k : Nat) (x : Sched) : (s.setSched c k x).windowMark = s.windowMark := rfl
@[simp] theorem State.setSched_queues (c k : Nat) (x : Sched) : (s.setSched c k x).queues = s.queues := rfl
@[simp] theorem State.setSched_cmds (c k : Nat) (x : Sched) : (s.setSched c k x).cmds = s.cmds := rfl
@[simp] theorem State.setSched_abortWaits (c k : Nat) (x : Sched) : (s.setSched c k x).abortWaits = s.abortWaits := rfl
@[simp] theorem State.setSched_notices (c k : Nat) (x : Sched) : (s.setSched c k x).notices = s.notices := rfl
@[simp] theorem State.setSched_ctxs (c k : Nat) (x : Sched) : (s.setSched c k x).ctxs = s.ctxs := rfl
@[simp] theorem State.setSched_sync (c k : Nat) (x : Sched) : (s.setSched c k x).sync = s.sync := rfl
@[simp] theorem State.setSched_samples (c k : Nat) (x : Sched) : (s.setSched c k x).samples = s.samples := rfl
@[simp] theorem State.setSched_stands (c k : Nat) (x : Sched) : (s.setSched c k x).stands = s.stands := rfl
@[simp] theorem State.setSched_acc (c k : Nat) (x : Sched) : (s.setSched c k x).acc = s.acc := rfl
@[simp] theorem State.setSched_core (c k : Nat) (x : Sched) : (s.setSched c k x).core = s.core := rfl
@[simp] theorem State.setSched_feeder (c k : Nat) (x : Sched) : (s.setSched c k x).feeder = s.feeder := rfl
@[simp] theorem State.setSched_versions (c k : Nat) (x : Sched) : (s.setSched c k x).versions = s.versions := rfl
@[simp] theorem State.setSched_tables (c k : Nat) (x : Sched) : (s.setSched c k x).tables = s.tables := rfl
@[simp] theorem State.setSched_batches (c k : Nat) (x : Sched) : (s.setSched c k x).batches = s.batches := rfl
@[simp] theorem State.setSched_asks (c k : Nat) (x : Sched) : (s.setSched c k x).asks = s.asks := rfl
@[simp] theorem State.setSched_remoteHolds (c k : Nat) (x : Sched) : (s.setSched c k x).remoteHolds = s.remoteHolds := rfl
@[simp] theorem State.setSched_regions (c k : Nat) (x : Sched) : (s.setSched c k x).regions = s.regions := rfl
@[simp] theorem State.setSched_undo (c k : Nat) (x : Sched) : (s.setSched c k x).undo = s.undo := rfl
@[simp] theorem State.setSched_tapDone (c k : Nat) (x : Sched) : (s.setSched c k x).tapDone = s.tapDone := rfl
@[simp] theorem State.setSched_fetches (c k : Nat) (x : Sched) : (s.setSched c k x).fetches = s.fetches := rfl
@[simp] theorem State.setSched_mem (c k : Nat) (x : Sched) : (s.setSched c k x).mem = s.mem := rfl
@[simp] theorem State.setSched_host (c k : Nat) (x : Sched) : (s.setSched c k x).host = s.host := rfl
@[simp] theorem State.setSched_pool (c k : Nat) (x : Sched) : (s.setSched c k x).pool = s.pool := rfl
@[simp] theorem State.setSched_ports (c k : Nat) (x : Sched) : (s.setSched c k x).ports = s.ports := rfl
@[simp] theorem State.setSched_inbox (c k : Nat) (x : Sched) : (s.setSched c k x).inbox = s.inbox := rfl
@[simp] theorem State.setSched_waiting (c k : Nat) (x : Sched) : (s.setSched c k x).waiting = s.waiting := rfl
@[simp] theorem State.setSched_backlog (c k : Nat) (x : Sched) : (s.setSched c k x).backlog = s.backlog := rfl
@[simp] theorem State.setSched_routes (c k : Nat) (x : Sched) : (s.setSched c k x).routes = s.routes := rfl
@[simp] theorem State.setSched_hostWait (c k : Nat) (x : Sched) : (s.setSched c k x).hostWait = s.hostWait := rfl
@[simp] theorem State.setSched_membership (c k : Nat) (x : Sched) : (s.setSched c k x).membership = s.membership := rfl
@[simp] theorem State.setSched_colls (c k : Nat) (x : Sched) : (s.setSched c k x).colls = s.colls := rfl
@[simp] theorem State.setSched_seqs (c k : Nat) (x : Sched) : (s.setSched c k x).seqs = s.seqs := rfl
@[simp] theorem State.setSched_links (c k : Nat) (x : Sched) : (s.setSched c k x).links = s.links := rfl
@[simp] theorem State.setSched_funcs (c k : Nat) (x : Sched) : (s.setSched c k x).funcs = s.funcs := rfl
@[simp] theorem State.setSched_tdis (c k : Nat) (x : Sched) : (s.setSched c k x).tdis = s.tdis := rfl
@[simp] theorem State.setSched_trust (c k : Nat) (x : Sched) : (s.setSched c k x).trust = s.trust := rfl
@[simp] theorem State.setSched_power (c k : Nat) (x : Sched) : (s.setSched c k x).power = s.power := rfl
@[simp] theorem State.setSched_obj (c k : Nat) (x : Sched) : (s.setSched c k x).obj = s.obj := rfl
@[simp] theorem State.setSched_dom (c k : Nat) (x : Sched) : (s.setSched c k x).dom = s.dom := rfl
@[simp] theorem State.setSched_buses (c k : Nat) (x : Sched) : (s.setSched c k x).buses = s.buses := rfl
@[simp] theorem State.setSched_server (c k : Nat) (x : Sched) : (s.setSched c k x).server = s.server := rfl
@[simp] theorem State.setSched_recorder (c k : Nat) (x : Sched) : (s.setSched c k x).recorder = s.recorder := rfl
@[simp] theorem State.setSched_mgmt (c k : Nat) (x : Sched) : (s.setSched c k x).mgmt = s.mgmt := rfl
@[simp] theorem State.setSched_pins (c k : Nat) (x : Sched) : (s.setSched c k x).pins = s.pins := rfl
@[simp] theorem State.setSched_out (c k : Nat) (x : Sched) : (s.setSched c k x).out = s.out := rfl
@[simp] theorem State.setSched_free (c k : Nat) (x : Sched) : (s.setSched c k x).free = s.free := rfl
@[simp] theorem State.setSched_draws (c k : Nat) (x : Sched) : (s.setSched c k x).draws = s.draws := rfl
@[simp] theorem State.setSched_nextTag (c k : Nat) (x : Sched) : (s.setSched c k x).nextTag = s.nextTag := rfl
@[simp] theorem State.setSched_releases (c k : Nat) (x : Sched) : (s.setSched c k x).releases = s.releases := rfl
@[simp] theorem State.setSched_turns (c k : Nat) (x : Sched) : (s.setSched c k x).turns = s.turns := rfl
@[simp] theorem State.setSched_pending (c k : Nat) (x : Sched) : (s.setSched c k x).pending = s.pending := rfl

/-! `State.setDieOp` changes `power` alone. -/

@[simp] theorem State.setDieOp_now (k : Nat) (x : DieOp) : (s.setDieOp k x).now = s.now := rfl
@[simp] theorem State.setDieOp_pace (k : Nat) (x : DieOp) : (s.setDieOp k x).pace = s.pace := rfl
@[simp] theorem State.setDieOp_cal (k : Nat) (x : DieOp) : (s.setDieOp k x).cal = s.cal := rfl
@[simp] theorem State.setDieOp_windows (k : Nat) (x : DieOp) : (s.setDieOp k x).windows = s.windows := rfl
@[simp] theorem State.setDieOp_windowMark (k : Nat) (x : DieOp) : (s.setDieOp k x).windowMark = s.windowMark := rfl
@[simp] theorem State.setDieOp_queues (k : Nat) (x : DieOp) : (s.setDieOp k x).queues = s.queues := rfl
@[simp] theorem State.setDieOp_cmds (k : Nat) (x : DieOp) : (s.setDieOp k x).cmds = s.cmds := rfl
@[simp] theorem State.setDieOp_abortWaits (k : Nat) (x : DieOp) : (s.setDieOp k x).abortWaits = s.abortWaits := rfl
@[simp] theorem State.setDieOp_notices (k : Nat) (x : DieOp) : (s.setDieOp k x).notices = s.notices := rfl
@[simp] theorem State.setDieOp_ctxs (k : Nat) (x : DieOp) : (s.setDieOp k x).ctxs = s.ctxs := rfl
@[simp] theorem State.setDieOp_sync (k : Nat) (x : DieOp) : (s.setDieOp k x).sync = s.sync := rfl
@[simp] theorem State.setDieOp_samples (k : Nat) (x : DieOp) : (s.setDieOp k x).samples = s.samples := rfl
@[simp] theorem State.setDieOp_stands (k : Nat) (x : DieOp) : (s.setDieOp k x).stands = s.stands := rfl
@[simp] theorem State.setDieOp_acc (k : Nat) (x : DieOp) : (s.setDieOp k x).acc = s.acc := rfl
@[simp] theorem State.setDieOp_core (k : Nat) (x : DieOp) : (s.setDieOp k x).core = s.core := rfl
@[simp] theorem State.setDieOp_feeder (k : Nat) (x : DieOp) : (s.setDieOp k x).feeder = s.feeder := rfl
@[simp] theorem State.setDieOp_versions (k : Nat) (x : DieOp) : (s.setDieOp k x).versions = s.versions := rfl
@[simp] theorem State.setDieOp_tables (k : Nat) (x : DieOp) : (s.setDieOp k x).tables = s.tables := rfl
@[simp] theorem State.setDieOp_batches (k : Nat) (x : DieOp) : (s.setDieOp k x).batches = s.batches := rfl
@[simp] theorem State.setDieOp_asks (k : Nat) (x : DieOp) : (s.setDieOp k x).asks = s.asks := rfl
@[simp] theorem State.setDieOp_remoteHolds (k : Nat) (x : DieOp) : (s.setDieOp k x).remoteHolds = s.remoteHolds := rfl
@[simp] theorem State.setDieOp_regions (k : Nat) (x : DieOp) : (s.setDieOp k x).regions = s.regions := rfl
@[simp] theorem State.setDieOp_undo (k : Nat) (x : DieOp) : (s.setDieOp k x).undo = s.undo := rfl
@[simp] theorem State.setDieOp_tapDone (k : Nat) (x : DieOp) : (s.setDieOp k x).tapDone = s.tapDone := rfl
@[simp] theorem State.setDieOp_fetches (k : Nat) (x : DieOp) : (s.setDieOp k x).fetches = s.fetches := rfl
@[simp] theorem State.setDieOp_scheds (k : Nat) (x : DieOp) : (s.setDieOp k x).scheds = s.scheds := rfl
@[simp] theorem State.setDieOp_mem (k : Nat) (x : DieOp) : (s.setDieOp k x).mem = s.mem := rfl
@[simp] theorem State.setDieOp_host (k : Nat) (x : DieOp) : (s.setDieOp k x).host = s.host := rfl
@[simp] theorem State.setDieOp_pool (k : Nat) (x : DieOp) : (s.setDieOp k x).pool = s.pool := rfl
@[simp] theorem State.setDieOp_ports (k : Nat) (x : DieOp) : (s.setDieOp k x).ports = s.ports := rfl
@[simp] theorem State.setDieOp_inbox (k : Nat) (x : DieOp) : (s.setDieOp k x).inbox = s.inbox := rfl
@[simp] theorem State.setDieOp_waiting (k : Nat) (x : DieOp) : (s.setDieOp k x).waiting = s.waiting := rfl
@[simp] theorem State.setDieOp_backlog (k : Nat) (x : DieOp) : (s.setDieOp k x).backlog = s.backlog := rfl
@[simp] theorem State.setDieOp_routes (k : Nat) (x : DieOp) : (s.setDieOp k x).routes = s.routes := rfl
@[simp] theorem State.setDieOp_hostWait (k : Nat) (x : DieOp) : (s.setDieOp k x).hostWait = s.hostWait := rfl
@[simp] theorem State.setDieOp_membership (k : Nat) (x : DieOp) : (s.setDieOp k x).membership = s.membership := rfl
@[simp] theorem State.setDieOp_colls (k : Nat) (x : DieOp) : (s.setDieOp k x).colls = s.colls := rfl
@[simp] theorem State.setDieOp_seqs (k : Nat) (x : DieOp) : (s.setDieOp k x).seqs = s.seqs := rfl
@[simp] theorem State.setDieOp_links (k : Nat) (x : DieOp) : (s.setDieOp k x).links = s.links := rfl
@[simp] theorem State.setDieOp_funcs (k : Nat) (x : DieOp) : (s.setDieOp k x).funcs = s.funcs := rfl
@[simp] theorem State.setDieOp_tdis (k : Nat) (x : DieOp) : (s.setDieOp k x).tdis = s.tdis := rfl
@[simp] theorem State.setDieOp_trust (k : Nat) (x : DieOp) : (s.setDieOp k x).trust = s.trust := rfl
@[simp] theorem State.setDieOp_obj (k : Nat) (x : DieOp) : (s.setDieOp k x).obj = s.obj := rfl
@[simp] theorem State.setDieOp_dom (k : Nat) (x : DieOp) : (s.setDieOp k x).dom = s.dom := rfl
@[simp] theorem State.setDieOp_buses (k : Nat) (x : DieOp) : (s.setDieOp k x).buses = s.buses := rfl
@[simp] theorem State.setDieOp_server (k : Nat) (x : DieOp) : (s.setDieOp k x).server = s.server := rfl
@[simp] theorem State.setDieOp_recorder (k : Nat) (x : DieOp) : (s.setDieOp k x).recorder = s.recorder := rfl
@[simp] theorem State.setDieOp_mgmt (k : Nat) (x : DieOp) : (s.setDieOp k x).mgmt = s.mgmt := rfl
@[simp] theorem State.setDieOp_pins (k : Nat) (x : DieOp) : (s.setDieOp k x).pins = s.pins := rfl
@[simp] theorem State.setDieOp_out (k : Nat) (x : DieOp) : (s.setDieOp k x).out = s.out := rfl
@[simp] theorem State.setDieOp_free (k : Nat) (x : DieOp) : (s.setDieOp k x).free = s.free := rfl
@[simp] theorem State.setDieOp_draws (k : Nat) (x : DieOp) : (s.setDieOp k x).draws = s.draws := rfl
@[simp] theorem State.setDieOp_nextTag (k : Nat) (x : DieOp) : (s.setDieOp k x).nextTag = s.nextTag := rfl
@[simp] theorem State.setDieOp_releases (k : Nat) (x : DieOp) : (s.setDieOp k x).releases = s.releases := rfl
@[simp] theorem State.setDieOp_turns (k : Nat) (x : DieOp) : (s.setDieOp k x).turns = s.turns := rfl
@[simp] theorem State.setDieOp_pending (k : Nat) (x : DieOp) : (s.setDieOp k x).pending = s.pending := rfl

/-! `State.setHeat` changes `power` alone. -/

@[simp] theorem State.setHeat_now (l : Nat) (x : Heat) : (s.setHeat l x).now = s.now := rfl
@[simp] theorem State.setHeat_pace (l : Nat) (x : Heat) : (s.setHeat l x).pace = s.pace := rfl
@[simp] theorem State.setHeat_cal (l : Nat) (x : Heat) : (s.setHeat l x).cal = s.cal := rfl
@[simp] theorem State.setHeat_windows (l : Nat) (x : Heat) : (s.setHeat l x).windows = s.windows := rfl
@[simp] theorem State.setHeat_windowMark (l : Nat) (x : Heat) : (s.setHeat l x).windowMark = s.windowMark := rfl
@[simp] theorem State.setHeat_queues (l : Nat) (x : Heat) : (s.setHeat l x).queues = s.queues := rfl
@[simp] theorem State.setHeat_cmds (l : Nat) (x : Heat) : (s.setHeat l x).cmds = s.cmds := rfl
@[simp] theorem State.setHeat_abortWaits (l : Nat) (x : Heat) : (s.setHeat l x).abortWaits = s.abortWaits := rfl
@[simp] theorem State.setHeat_notices (l : Nat) (x : Heat) : (s.setHeat l x).notices = s.notices := rfl
@[simp] theorem State.setHeat_ctxs (l : Nat) (x : Heat) : (s.setHeat l x).ctxs = s.ctxs := rfl
@[simp] theorem State.setHeat_sync (l : Nat) (x : Heat) : (s.setHeat l x).sync = s.sync := rfl
@[simp] theorem State.setHeat_samples (l : Nat) (x : Heat) : (s.setHeat l x).samples = s.samples := rfl
@[simp] theorem State.setHeat_stands (l : Nat) (x : Heat) : (s.setHeat l x).stands = s.stands := rfl
@[simp] theorem State.setHeat_acc (l : Nat) (x : Heat) : (s.setHeat l x).acc = s.acc := rfl
@[simp] theorem State.setHeat_core (l : Nat) (x : Heat) : (s.setHeat l x).core = s.core := rfl
@[simp] theorem State.setHeat_feeder (l : Nat) (x : Heat) : (s.setHeat l x).feeder = s.feeder := rfl
@[simp] theorem State.setHeat_versions (l : Nat) (x : Heat) : (s.setHeat l x).versions = s.versions := rfl
@[simp] theorem State.setHeat_tables (l : Nat) (x : Heat) : (s.setHeat l x).tables = s.tables := rfl
@[simp] theorem State.setHeat_batches (l : Nat) (x : Heat) : (s.setHeat l x).batches = s.batches := rfl
@[simp] theorem State.setHeat_asks (l : Nat) (x : Heat) : (s.setHeat l x).asks = s.asks := rfl
@[simp] theorem State.setHeat_remoteHolds (l : Nat) (x : Heat) : (s.setHeat l x).remoteHolds = s.remoteHolds := rfl
@[simp] theorem State.setHeat_regions (l : Nat) (x : Heat) : (s.setHeat l x).regions = s.regions := rfl
@[simp] theorem State.setHeat_undo (l : Nat) (x : Heat) : (s.setHeat l x).undo = s.undo := rfl
@[simp] theorem State.setHeat_tapDone (l : Nat) (x : Heat) : (s.setHeat l x).tapDone = s.tapDone := rfl
@[simp] theorem State.setHeat_fetches (l : Nat) (x : Heat) : (s.setHeat l x).fetches = s.fetches := rfl
@[simp] theorem State.setHeat_scheds (l : Nat) (x : Heat) : (s.setHeat l x).scheds = s.scheds := rfl
@[simp] theorem State.setHeat_mem (l : Nat) (x : Heat) : (s.setHeat l x).mem = s.mem := rfl
@[simp] theorem State.setHeat_host (l : Nat) (x : Heat) : (s.setHeat l x).host = s.host := rfl
@[simp] theorem State.setHeat_pool (l : Nat) (x : Heat) : (s.setHeat l x).pool = s.pool := rfl
@[simp] theorem State.setHeat_ports (l : Nat) (x : Heat) : (s.setHeat l x).ports = s.ports := rfl
@[simp] theorem State.setHeat_inbox (l : Nat) (x : Heat) : (s.setHeat l x).inbox = s.inbox := rfl
@[simp] theorem State.setHeat_waiting (l : Nat) (x : Heat) : (s.setHeat l x).waiting = s.waiting := rfl
@[simp] theorem State.setHeat_backlog (l : Nat) (x : Heat) : (s.setHeat l x).backlog = s.backlog := rfl
@[simp] theorem State.setHeat_routes (l : Nat) (x : Heat) : (s.setHeat l x).routes = s.routes := rfl
@[simp] theorem State.setHeat_hostWait (l : Nat) (x : Heat) : (s.setHeat l x).hostWait = s.hostWait := rfl
@[simp] theorem State.setHeat_membership (l : Nat) (x : Heat) : (s.setHeat l x).membership = s.membership := rfl
@[simp] theorem State.setHeat_colls (l : Nat) (x : Heat) : (s.setHeat l x).colls = s.colls := rfl
@[simp] theorem State.setHeat_seqs (l : Nat) (x : Heat) : (s.setHeat l x).seqs = s.seqs := rfl
@[simp] theorem State.setHeat_links (l : Nat) (x : Heat) : (s.setHeat l x).links = s.links := rfl
@[simp] theorem State.setHeat_funcs (l : Nat) (x : Heat) : (s.setHeat l x).funcs = s.funcs := rfl
@[simp] theorem State.setHeat_tdis (l : Nat) (x : Heat) : (s.setHeat l x).tdis = s.tdis := rfl
@[simp] theorem State.setHeat_trust (l : Nat) (x : Heat) : (s.setHeat l x).trust = s.trust := rfl
@[simp] theorem State.setHeat_obj (l : Nat) (x : Heat) : (s.setHeat l x).obj = s.obj := rfl
@[simp] theorem State.setHeat_dom (l : Nat) (x : Heat) : (s.setHeat l x).dom = s.dom := rfl
@[simp] theorem State.setHeat_buses (l : Nat) (x : Heat) : (s.setHeat l x).buses = s.buses := rfl
@[simp] theorem State.setHeat_server (l : Nat) (x : Heat) : (s.setHeat l x).server = s.server := rfl
@[simp] theorem State.setHeat_recorder (l : Nat) (x : Heat) : (s.setHeat l x).recorder = s.recorder := rfl
@[simp] theorem State.setHeat_mgmt (l : Nat) (x : Heat) : (s.setHeat l x).mgmt = s.mgmt := rfl
@[simp] theorem State.setHeat_pins (l : Nat) (x : Heat) : (s.setHeat l x).pins = s.pins := rfl
@[simp] theorem State.setHeat_out (l : Nat) (x : Heat) : (s.setHeat l x).out = s.out := rfl
@[simp] theorem State.setHeat_free (l : Nat) (x : Heat) : (s.setHeat l x).free = s.free := rfl
@[simp] theorem State.setHeat_draws (l : Nat) (x : Heat) : (s.setHeat l x).draws = s.draws := rfl
@[simp] theorem State.setHeat_nextTag (l : Nat) (x : Heat) : (s.setHeat l x).nextTag = s.nextTag := rfl
@[simp] theorem State.setHeat_releases (l : Nat) (x : Heat) : (s.setHeat l x).releases = s.releases := rfl
@[simp] theorem State.setHeat_turns (l : Nat) (x : Heat) : (s.setHeat l x).turns = s.turns := rfl
@[simp] theorem State.setHeat_pending (l : Nat) (x : Heat) : (s.setHeat l x).pending = s.pending := rfl

/-! `State.setTelem` changes `power` alone. -/

@[simp] theorem State.setTelem_now (g : Nat) (x : TelemGroup) : (s.setTelem g x).now = s.now := rfl
@[simp] theorem State.setTelem_pace (g : Nat) (x : TelemGroup) : (s.setTelem g x).pace = s.pace := rfl
@[simp] theorem State.setTelem_cal (g : Nat) (x : TelemGroup) : (s.setTelem g x).cal = s.cal := rfl
@[simp] theorem State.setTelem_windows (g : Nat) (x : TelemGroup) : (s.setTelem g x).windows = s.windows := rfl
@[simp] theorem State.setTelem_windowMark (g : Nat) (x : TelemGroup) : (s.setTelem g x).windowMark = s.windowMark := rfl
@[simp] theorem State.setTelem_queues (g : Nat) (x : TelemGroup) : (s.setTelem g x).queues = s.queues := rfl
@[simp] theorem State.setTelem_cmds (g : Nat) (x : TelemGroup) : (s.setTelem g x).cmds = s.cmds := rfl
@[simp] theorem State.setTelem_abortWaits (g : Nat) (x : TelemGroup) : (s.setTelem g x).abortWaits = s.abortWaits := rfl
@[simp] theorem State.setTelem_notices (g : Nat) (x : TelemGroup) : (s.setTelem g x).notices = s.notices := rfl
@[simp] theorem State.setTelem_ctxs (g : Nat) (x : TelemGroup) : (s.setTelem g x).ctxs = s.ctxs := rfl
@[simp] theorem State.setTelem_sync (g : Nat) (x : TelemGroup) : (s.setTelem g x).sync = s.sync := rfl
@[simp] theorem State.setTelem_samples (g : Nat) (x : TelemGroup) : (s.setTelem g x).samples = s.samples := rfl
@[simp] theorem State.setTelem_stands (g : Nat) (x : TelemGroup) : (s.setTelem g x).stands = s.stands := rfl
@[simp] theorem State.setTelem_acc (g : Nat) (x : TelemGroup) : (s.setTelem g x).acc = s.acc := rfl
@[simp] theorem State.setTelem_core (g : Nat) (x : TelemGroup) : (s.setTelem g x).core = s.core := rfl
@[simp] theorem State.setTelem_feeder (g : Nat) (x : TelemGroup) : (s.setTelem g x).feeder = s.feeder := rfl
@[simp] theorem State.setTelem_versions (g : Nat) (x : TelemGroup) : (s.setTelem g x).versions = s.versions := rfl
@[simp] theorem State.setTelem_tables (g : Nat) (x : TelemGroup) : (s.setTelem g x).tables = s.tables := rfl
@[simp] theorem State.setTelem_batches (g : Nat) (x : TelemGroup) : (s.setTelem g x).batches = s.batches := rfl
@[simp] theorem State.setTelem_asks (g : Nat) (x : TelemGroup) : (s.setTelem g x).asks = s.asks := rfl
@[simp] theorem State.setTelem_remoteHolds (g : Nat) (x : TelemGroup) : (s.setTelem g x).remoteHolds = s.remoteHolds := rfl
@[simp] theorem State.setTelem_regions (g : Nat) (x : TelemGroup) : (s.setTelem g x).regions = s.regions := rfl
@[simp] theorem State.setTelem_undo (g : Nat) (x : TelemGroup) : (s.setTelem g x).undo = s.undo := rfl
@[simp] theorem State.setTelem_tapDone (g : Nat) (x : TelemGroup) : (s.setTelem g x).tapDone = s.tapDone := rfl
@[simp] theorem State.setTelem_fetches (g : Nat) (x : TelemGroup) : (s.setTelem g x).fetches = s.fetches := rfl
@[simp] theorem State.setTelem_scheds (g : Nat) (x : TelemGroup) : (s.setTelem g x).scheds = s.scheds := rfl
@[simp] theorem State.setTelem_mem (g : Nat) (x : TelemGroup) : (s.setTelem g x).mem = s.mem := rfl
@[simp] theorem State.setTelem_host (g : Nat) (x : TelemGroup) : (s.setTelem g x).host = s.host := rfl
@[simp] theorem State.setTelem_pool (g : Nat) (x : TelemGroup) : (s.setTelem g x).pool = s.pool := rfl
@[simp] theorem State.setTelem_ports (g : Nat) (x : TelemGroup) : (s.setTelem g x).ports = s.ports := rfl
@[simp] theorem State.setTelem_inbox (g : Nat) (x : TelemGroup) : (s.setTelem g x).inbox = s.inbox := rfl
@[simp] theorem State.setTelem_waiting (g : Nat) (x : TelemGroup) : (s.setTelem g x).waiting = s.waiting := rfl
@[simp] theorem State.setTelem_backlog (g : Nat) (x : TelemGroup) : (s.setTelem g x).backlog = s.backlog := rfl
@[simp] theorem State.setTelem_routes (g : Nat) (x : TelemGroup) : (s.setTelem g x).routes = s.routes := rfl
@[simp] theorem State.setTelem_hostWait (g : Nat) (x : TelemGroup) : (s.setTelem g x).hostWait = s.hostWait := rfl
@[simp] theorem State.setTelem_membership (g : Nat) (x : TelemGroup) : (s.setTelem g x).membership = s.membership := rfl
@[simp] theorem State.setTelem_colls (g : Nat) (x : TelemGroup) : (s.setTelem g x).colls = s.colls := rfl
@[simp] theorem State.setTelem_seqs (g : Nat) (x : TelemGroup) : (s.setTelem g x).seqs = s.seqs := rfl
@[simp] theorem State.setTelem_links (g : Nat) (x : TelemGroup) : (s.setTelem g x).links = s.links := rfl
@[simp] theorem State.setTelem_funcs (g : Nat) (x : TelemGroup) : (s.setTelem g x).funcs = s.funcs := rfl
@[simp] theorem State.setTelem_tdis (g : Nat) (x : TelemGroup) : (s.setTelem g x).tdis = s.tdis := rfl
@[simp] theorem State.setTelem_trust (g : Nat) (x : TelemGroup) : (s.setTelem g x).trust = s.trust := rfl
@[simp] theorem State.setTelem_obj (g : Nat) (x : TelemGroup) : (s.setTelem g x).obj = s.obj := rfl
@[simp] theorem State.setTelem_dom (g : Nat) (x : TelemGroup) : (s.setTelem g x).dom = s.dom := rfl
@[simp] theorem State.setTelem_buses (g : Nat) (x : TelemGroup) : (s.setTelem g x).buses = s.buses := rfl
@[simp] theorem State.setTelem_server (g : Nat) (x : TelemGroup) : (s.setTelem g x).server = s.server := rfl
@[simp] theorem State.setTelem_recorder (g : Nat) (x : TelemGroup) : (s.setTelem g x).recorder = s.recorder := rfl
@[simp] theorem State.setTelem_mgmt (g : Nat) (x : TelemGroup) : (s.setTelem g x).mgmt = s.mgmt := rfl
@[simp] theorem State.setTelem_pins (g : Nat) (x : TelemGroup) : (s.setTelem g x).pins = s.pins := rfl
@[simp] theorem State.setTelem_out (g : Nat) (x : TelemGroup) : (s.setTelem g x).out = s.out := rfl
@[simp] theorem State.setTelem_free (g : Nat) (x : TelemGroup) : (s.setTelem g x).free = s.free := rfl
@[simp] theorem State.setTelem_draws (g : Nat) (x : TelemGroup) : (s.setTelem g x).draws = s.draws := rfl
@[simp] theorem State.setTelem_nextTag (g : Nat) (x : TelemGroup) : (s.setTelem g x).nextTag = s.nextTag := rfl
@[simp] theorem State.setTelem_releases (g : Nat) (x : TelemGroup) : (s.setTelem g x).releases = s.releases := rfl
@[simp] theorem State.setTelem_turns (g : Nat) (x : TelemGroup) : (s.setTelem g x).turns = s.turns := rfl
@[simp] theorem State.setTelem_pending (g : Nat) (x : TelemGroup) : (s.setTelem g x).pending = s.pending := rfl

/-! `State.bump` changes `obj` alone. -/

@[simp] theorem State.bump_now (i b n : Nat) : (s.bump i b n).now = s.now := by
  unfold State.bump; split <;> rfl
@[simp] theorem State.bump_pace (i b n : Nat) : (s.bump i b n).pace = s.pace := by
  unfold State.bump; split <;> rfl
@[simp] theorem State.bump_cal (i b n : Nat) : (s.bump i b n).cal = s.cal := by
  unfold State.bump; split <;> rfl
@[simp] theorem State.bump_windows (i b n : Nat) : (s.bump i b n).windows = s.windows := by
  unfold State.bump; split <;> rfl
@[simp] theorem State.bump_windowMark (i b n : Nat) : (s.bump i b n).windowMark = s.windowMark := by
  unfold State.bump; split <;> rfl
@[simp] theorem State.bump_queues (i b n : Nat) : (s.bump i b n).queues = s.queues := by
  unfold State.bump; split <;> rfl
@[simp] theorem State.bump_cmds (i b n : Nat) : (s.bump i b n).cmds = s.cmds := by
  unfold State.bump; split <;> rfl
@[simp] theorem State.bump_abortWaits (i b n : Nat) : (s.bump i b n).abortWaits = s.abortWaits := by
  unfold State.bump; split <;> rfl
@[simp] theorem State.bump_notices (i b n : Nat) : (s.bump i b n).notices = s.notices := by
  unfold State.bump; split <;> rfl
@[simp] theorem State.bump_ctxs (i b n : Nat) : (s.bump i b n).ctxs = s.ctxs := by
  unfold State.bump; split <;> rfl
@[simp] theorem State.bump_sync (i b n : Nat) : (s.bump i b n).sync = s.sync := by
  unfold State.bump; split <;> rfl
@[simp] theorem State.bump_samples (i b n : Nat) : (s.bump i b n).samples = s.samples := by
  unfold State.bump; split <;> rfl
@[simp] theorem State.bump_stands (i b n : Nat) : (s.bump i b n).stands = s.stands := by
  unfold State.bump; split <;> rfl
@[simp] theorem State.bump_acc (i b n : Nat) : (s.bump i b n).acc = s.acc := by
  unfold State.bump; split <;> rfl
@[simp] theorem State.bump_core (i b n : Nat) : (s.bump i b n).core = s.core := by
  unfold State.bump; split <;> rfl
@[simp] theorem State.bump_feeder (i b n : Nat) : (s.bump i b n).feeder = s.feeder := by
  unfold State.bump; split <;> rfl
@[simp] theorem State.bump_versions (i b n : Nat) : (s.bump i b n).versions = s.versions := by
  unfold State.bump; split <;> rfl
@[simp] theorem State.bump_tables (i b n : Nat) : (s.bump i b n).tables = s.tables := by
  unfold State.bump; split <;> rfl
@[simp] theorem State.bump_batches (i b n : Nat) : (s.bump i b n).batches = s.batches := by
  unfold State.bump; split <;> rfl
@[simp] theorem State.bump_asks (i b n : Nat) : (s.bump i b n).asks = s.asks := by
  unfold State.bump; split <;> rfl
@[simp] theorem State.bump_remoteHolds (i b n : Nat) : (s.bump i b n).remoteHolds = s.remoteHolds := by
  unfold State.bump; split <;> rfl
@[simp] theorem State.bump_regions (i b n : Nat) : (s.bump i b n).regions = s.regions := by
  unfold State.bump; split <;> rfl
@[simp] theorem State.bump_undo (i b n : Nat) : (s.bump i b n).undo = s.undo := by
  unfold State.bump; split <;> rfl
@[simp] theorem State.bump_tapDone (i b n : Nat) : (s.bump i b n).tapDone = s.tapDone := by
  unfold State.bump; split <;> rfl
@[simp] theorem State.bump_fetches (i b n : Nat) : (s.bump i b n).fetches = s.fetches := by
  unfold State.bump; split <;> rfl
@[simp] theorem State.bump_scheds (i b n : Nat) : (s.bump i b n).scheds = s.scheds := by
  unfold State.bump; split <;> rfl
@[simp] theorem State.bump_mem (i b n : Nat) : (s.bump i b n).mem = s.mem := by
  unfold State.bump; split <;> rfl
@[simp] theorem State.bump_host (i b n : Nat) : (s.bump i b n).host = s.host := by
  unfold State.bump; split <;> rfl
@[simp] theorem State.bump_pool (i b n : Nat) : (s.bump i b n).pool = s.pool := by
  unfold State.bump; split <;> rfl
@[simp] theorem State.bump_ports (i b n : Nat) : (s.bump i b n).ports = s.ports := by
  unfold State.bump; split <;> rfl
@[simp] theorem State.bump_inbox (i b n : Nat) : (s.bump i b n).inbox = s.inbox := by
  unfold State.bump; split <;> rfl
@[simp] theorem State.bump_waiting (i b n : Nat) : (s.bump i b n).waiting = s.waiting := by
  unfold State.bump; split <;> rfl
@[simp] theorem State.bump_backlog (i b n : Nat) : (s.bump i b n).backlog = s.backlog := by
  unfold State.bump; split <;> rfl
@[simp] theorem State.bump_routes (i b n : Nat) : (s.bump i b n).routes = s.routes := by
  unfold State.bump; split <;> rfl
@[simp] theorem State.bump_hostWait (i b n : Nat) : (s.bump i b n).hostWait = s.hostWait := by
  unfold State.bump; split <;> rfl
@[simp] theorem State.bump_membership (i b n : Nat) : (s.bump i b n).membership = s.membership := by
  unfold State.bump; split <;> rfl
@[simp] theorem State.bump_colls (i b n : Nat) : (s.bump i b n).colls = s.colls := by
  unfold State.bump; split <;> rfl
@[simp] theorem State.bump_seqs (i b n : Nat) : (s.bump i b n).seqs = s.seqs := by
  unfold State.bump; split <;> rfl
@[simp] theorem State.bump_links (i b n : Nat) : (s.bump i b n).links = s.links := by
  unfold State.bump; split <;> rfl
@[simp] theorem State.bump_funcs (i b n : Nat) : (s.bump i b n).funcs = s.funcs := by
  unfold State.bump; split <;> rfl
@[simp] theorem State.bump_tdis (i b n : Nat) : (s.bump i b n).tdis = s.tdis := by
  unfold State.bump; split <;> rfl
@[simp] theorem State.bump_trust (i b n : Nat) : (s.bump i b n).trust = s.trust := by
  unfold State.bump; split <;> rfl
@[simp] theorem State.bump_power (i b n : Nat) : (s.bump i b n).power = s.power := by
  unfold State.bump; split <;> rfl
@[simp] theorem State.bump_dom (i b n : Nat) : (s.bump i b n).dom = s.dom := by
  unfold State.bump; split <;> rfl
@[simp] theorem State.bump_buses (i b n : Nat) : (s.bump i b n).buses = s.buses := by
  unfold State.bump; split <;> rfl
@[simp] theorem State.bump_server (i b n : Nat) : (s.bump i b n).server = s.server := by
  unfold State.bump; split <;> rfl
@[simp] theorem State.bump_recorder (i b n : Nat) : (s.bump i b n).recorder = s.recorder := by
  unfold State.bump; split <;> rfl
@[simp] theorem State.bump_mgmt (i b n : Nat) : (s.bump i b n).mgmt = s.mgmt := by
  unfold State.bump; split <;> rfl
@[simp] theorem State.bump_pins (i b n : Nat) : (s.bump i b n).pins = s.pins := by
  unfold State.bump; split <;> rfl
@[simp] theorem State.bump_out (i b n : Nat) : (s.bump i b n).out = s.out := by
  unfold State.bump; split <;> rfl
@[simp] theorem State.bump_free (i b n : Nat) : (s.bump i b n).free = s.free := by
  unfold State.bump; split <;> rfl
@[simp] theorem State.bump_draws (i b n : Nat) : (s.bump i b n).draws = s.draws := by
  unfold State.bump; split <;> rfl
@[simp] theorem State.bump_nextTag (i b n : Nat) : (s.bump i b n).nextTag = s.nextTag := by
  unfold State.bump; split <;> rfl
@[simp] theorem State.bump_releases (i b n : Nat) : (s.bump i b n).releases = s.releases := by
  unfold State.bump; split <;> rfl
@[simp] theorem State.bump_turns (i b n : Nat) : (s.bump i b n).turns = s.turns := by
  unfold State.bump; split <;> rfl
@[simp] theorem State.bump_pending (i b n : Nat) : (s.bump i b n).pending = s.pending := by
  unfold State.bump; split <;> rfl

/-! `State.took` changes `turns` alone. -/

@[simp] theorem State.took_now (c : Cmd) : (s.took c).now = s.now := by
  unfold State.took; split <;> rfl
@[simp] theorem State.took_pace (c : Cmd) : (s.took c).pace = s.pace := by
  unfold State.took; split <;> rfl
@[simp] theorem State.took_cal (c : Cmd) : (s.took c).cal = s.cal := by
  unfold State.took; split <;> rfl
@[simp] theorem State.took_windows (c : Cmd) : (s.took c).windows = s.windows := by
  unfold State.took; split <;> rfl
@[simp] theorem State.took_windowMark (c : Cmd) : (s.took c).windowMark = s.windowMark := by
  unfold State.took; split <;> rfl
@[simp] theorem State.took_queues (c : Cmd) : (s.took c).queues = s.queues := by
  unfold State.took; split <;> rfl
@[simp] theorem State.took_cmds (c : Cmd) : (s.took c).cmds = s.cmds := by
  unfold State.took; split <;> rfl
@[simp] theorem State.took_abortWaits (c : Cmd) : (s.took c).abortWaits = s.abortWaits := by
  unfold State.took; split <;> rfl
@[simp] theorem State.took_notices (c : Cmd) : (s.took c).notices = s.notices := by
  unfold State.took; split <;> rfl
@[simp] theorem State.took_ctxs (c : Cmd) : (s.took c).ctxs = s.ctxs := by
  unfold State.took; split <;> rfl
@[simp] theorem State.took_sync (c : Cmd) : (s.took c).sync = s.sync := by
  unfold State.took; split <;> rfl
@[simp] theorem State.took_samples (c : Cmd) : (s.took c).samples = s.samples := by
  unfold State.took; split <;> rfl
@[simp] theorem State.took_stands (c : Cmd) : (s.took c).stands = s.stands := by
  unfold State.took; split <;> rfl
@[simp] theorem State.took_acc (c : Cmd) : (s.took c).acc = s.acc := by
  unfold State.took; split <;> rfl
@[simp] theorem State.took_core (c : Cmd) : (s.took c).core = s.core := by
  unfold State.took; split <;> rfl
@[simp] theorem State.took_feeder (c : Cmd) : (s.took c).feeder = s.feeder := by
  unfold State.took; split <;> rfl
@[simp] theorem State.took_versions (c : Cmd) : (s.took c).versions = s.versions := by
  unfold State.took; split <;> rfl
@[simp] theorem State.took_tables (c : Cmd) : (s.took c).tables = s.tables := by
  unfold State.took; split <;> rfl
@[simp] theorem State.took_batches (c : Cmd) : (s.took c).batches = s.batches := by
  unfold State.took; split <;> rfl
@[simp] theorem State.took_asks (c : Cmd) : (s.took c).asks = s.asks := by
  unfold State.took; split <;> rfl
@[simp] theorem State.took_remoteHolds (c : Cmd) : (s.took c).remoteHolds = s.remoteHolds := by
  unfold State.took; split <;> rfl
@[simp] theorem State.took_regions (c : Cmd) : (s.took c).regions = s.regions := by
  unfold State.took; split <;> rfl
@[simp] theorem State.took_undo (c : Cmd) : (s.took c).undo = s.undo := by
  unfold State.took; split <;> rfl
@[simp] theorem State.took_tapDone (c : Cmd) : (s.took c).tapDone = s.tapDone := by
  unfold State.took; split <;> rfl
@[simp] theorem State.took_fetches (c : Cmd) : (s.took c).fetches = s.fetches := by
  unfold State.took; split <;> rfl
@[simp] theorem State.took_scheds (c : Cmd) : (s.took c).scheds = s.scheds := by
  unfold State.took; split <;> rfl
@[simp] theorem State.took_mem (c : Cmd) : (s.took c).mem = s.mem := by
  unfold State.took; split <;> rfl
@[simp] theorem State.took_host (c : Cmd) : (s.took c).host = s.host := by
  unfold State.took; split <;> rfl
@[simp] theorem State.took_pool (c : Cmd) : (s.took c).pool = s.pool := by
  unfold State.took; split <;> rfl
@[simp] theorem State.took_ports (c : Cmd) : (s.took c).ports = s.ports := by
  unfold State.took; split <;> rfl
@[simp] theorem State.took_inbox (c : Cmd) : (s.took c).inbox = s.inbox := by
  unfold State.took; split <;> rfl
@[simp] theorem State.took_waiting (c : Cmd) : (s.took c).waiting = s.waiting := by
  unfold State.took; split <;> rfl
@[simp] theorem State.took_backlog (c : Cmd) : (s.took c).backlog = s.backlog := by
  unfold State.took; split <;> rfl
@[simp] theorem State.took_routes (c : Cmd) : (s.took c).routes = s.routes := by
  unfold State.took; split <;> rfl
@[simp] theorem State.took_hostWait (c : Cmd) : (s.took c).hostWait = s.hostWait := by
  unfold State.took; split <;> rfl
@[simp] theorem State.took_membership (c : Cmd) : (s.took c).membership = s.membership := by
  unfold State.took; split <;> rfl
@[simp] theorem State.took_colls (c : Cmd) : (s.took c).colls = s.colls := by
  unfold State.took; split <;> rfl
@[simp] theorem State.took_seqs (c : Cmd) : (s.took c).seqs = s.seqs := by
  unfold State.took; split <;> rfl
@[simp] theorem State.took_links (c : Cmd) : (s.took c).links = s.links := by
  unfold State.took; split <;> rfl
@[simp] theorem State.took_funcs (c : Cmd) : (s.took c).funcs = s.funcs := by
  unfold State.took; split <;> rfl
@[simp] theorem State.took_tdis (c : Cmd) : (s.took c).tdis = s.tdis := by
  unfold State.took; split <;> rfl
@[simp] theorem State.took_trust (c : Cmd) : (s.took c).trust = s.trust := by
  unfold State.took; split <;> rfl
@[simp] theorem State.took_power (c : Cmd) : (s.took c).power = s.power := by
  unfold State.took; split <;> rfl
@[simp] theorem State.took_obj (c : Cmd) : (s.took c).obj = s.obj := by
  unfold State.took; split <;> rfl
@[simp] theorem State.took_dom (c : Cmd) : (s.took c).dom = s.dom := by
  unfold State.took; split <;> rfl
@[simp] theorem State.took_buses (c : Cmd) : (s.took c).buses = s.buses := by
  unfold State.took; split <;> rfl
@[simp] theorem State.took_server (c : Cmd) : (s.took c).server = s.server := by
  unfold State.took; split <;> rfl
@[simp] theorem State.took_recorder (c : Cmd) : (s.took c).recorder = s.recorder := by
  unfold State.took; split <;> rfl
@[simp] theorem State.took_mgmt (c : Cmd) : (s.took c).mgmt = s.mgmt := by
  unfold State.took; split <;> rfl
@[simp] theorem State.took_pins (c : Cmd) : (s.took c).pins = s.pins := by
  unfold State.took; split <;> rfl
@[simp] theorem State.took_out (c : Cmd) : (s.took c).out = s.out := by
  unfold State.took; split <;> rfl
@[simp] theorem State.took_free (c : Cmd) : (s.took c).free = s.free := by
  unfold State.took; split <;> rfl
@[simp] theorem State.took_draws (c : Cmd) : (s.took c).draws = s.draws := by
  unfold State.took; split <;> rfl
@[simp] theorem State.took_nextTag (c : Cmd) : (s.took c).nextTag = s.nextTag := by
  unfold State.took; split <;> rfl
@[simp] theorem State.took_releases (c : Cmd) : (s.took c).releases = s.releases := by
  unfold State.took; split <;> rfl
@[simp] theorem State.took_pending (c : Cmd) : (s.took c).pending = s.pending := by
  unfold State.took; split <;> rfl

end Sys2Proof.Machine
end

