-- ==== Sys2Proof/Laws/Tab.lean ====
section
/-! SUPPORT. The laws of the sparse map and of bytes in a store. -/

namespace Sys2Proof.Machine

variable {α : Type}

/-! ### Reading what was put -/

theorem Tab.get_put_ne [DecidableEq α] (d : α) (t : Tab α) (k j : Nat) (v : α) (h : j ≠ k) :
    Tab.get d (Tab.put d t k v) j = Tab.get d t j := by
  induction t with
  | nil =>
    simp only [Tab.put]
    split
    · rfl
    · simp [Tab.get, Ne.symm h]
  | cons p t ih =>
    obtain ⟨a, x⟩ := p
    simp only [Tab.put]
    split
    · split
      · rfl
      · simp [Tab.get, Ne.symm h]
    · split
      · rename_i h1 h2
        subst h2
        split <;> simp [Tab.get, Ne.symm h]
      · simp only [Tab.get]
        split
        · rfl
        · exact ih

theorem Tab.get_below [DecidableEq α] (d : α) (t : Tab α) (lo k : Nat) (hw : Tab.wfFrom d lo t = true)
    (hk : k < lo) : Tab.get d t k = d := by
  induction t generalizing lo with
  | nil => rfl
  | cons p t ih =>
    obtain ⟨a, x⟩ := p
    simp only [Tab.wfFrom, Bool.and_eq_true, decide_eq_true_eq] at hw
    simp only [Tab.get]
    rw [if_neg (by omega)]
    exact ih (a + 1) hw.2 (by omega)

theorem Tab.get_put_from [DecidableEq α] (d : α) (t : Tab α) (lo k : Nat) (v : α)
    (hw : Tab.wfFrom d lo t = true) : Tab.get d (Tab.put d t k v) k = v := by
  induction t generalizing lo with
  | nil =>
    simp only [Tab.put]
    split
    · next h => simp [Tab.get, h]
    · simp [Tab.get]
  | cons p t ih =>
    obtain ⟨a, x⟩ := p
    simp only [Tab.wfFrom, Bool.and_eq_true, decide_eq_true_eq] at hw
    simp only [Tab.put]
    split
    · next hk =>
      split
      · next h =>
        subst h
        simp only [Tab.get]
        rw [if_neg (by omega)]
        exact Tab.get_below _ t (a + 1) k hw.2 (by omega)
      · simp [Tab.get]
    · split
      · next h2 =>
        subst h2
        split
        · next h =>
          subst h
          exact Tab.get_below _ t (k + 1) k hw.2 (by omega)
        · simp [Tab.get]
      · simp only [Tab.get]
        rw [if_neg (by omega)]
        exact ih (a + 1) hw.2

theorem Tab.get_put_self [DecidableEq α] (d : α) (t : Tab α) (k : Nat) (v : α) (hw : Tab.wf d t = true) :
    Tab.get d (Tab.put d t k v) k = v := Tab.get_put_from d t 0 k v hw

theorem Tab.get_put [DecidableEq α] (d : α) (t : Tab α) (k j : Nat) (v : α) (hw : Tab.wf d t = true) :
    Tab.get d (Tab.put d t k v) j = if j = k then v else Tab.get d t j := by
  split
  · next h => subst h; exact Tab.get_put_self d t j v hw
  · next h => exact Tab.get_put_ne d t k j v h

/-! ### The canonical form is kept -/

theorem Tab.wfFrom_mono [DecidableEq α] (d : α) (t : Tab α) (lo lo' : Nat) (h : lo' ≤ lo)
    (hw : Tab.wfFrom d lo t = true) : Tab.wfFrom d lo' t = true := by
  cases t with
  | nil => rfl
  | cons p t =>
    obtain ⟨a, x⟩ := p
    simp only [Tab.wfFrom, Bool.and_eq_true, decide_eq_true_eq] at hw ⊢
    exact ⟨⟨by omega, hw.1.2⟩, hw.2⟩

theorem Tab.wfFrom_put [DecidableEq α] (d : α) (t : Tab α) (lo k : Nat) (v : α)
    (hw : Tab.wfFrom d lo t = true) (hk : lo ≤ k) : Tab.wfFrom d lo (Tab.put d t k v) = true := by
  induction t generalizing lo with
  | nil =>
    simp only [Tab.put]
    split
    · rfl
    · next h => simp [Tab.wfFrom, hk, h]
  | cons p t ih =>
    obtain ⟨a, x⟩ := p
    have hw' := hw
    simp only [Tab.wfFrom, Bool.and_eq_true, decide_eq_true_eq] at hw
    simp only [Tab.put]
    split
    · next hlt =>
      split
      · exact hw'
      · next h =>
        simp only [Tab.wfFrom, Bool.and_eq_true, decide_eq_true_eq]
        exact ⟨⟨hk, h⟩, ⟨by omega, hw.1.2⟩, hw.2⟩
    · split
      · next h2 =>
        subst h2
        split
        · exact Tab.wfFrom_mono d t (k + 1) lo (by omega) hw.2
        · next h =>
          simp only [Tab.wfFrom, Bool.and_eq_true, decide_eq_true_eq]
          exact ⟨⟨hk, h⟩, hw.2⟩
      · simp only [Tab.wfFrom, Bool.and_eq_true, decide_eq_true_eq]
        exact ⟨⟨hw.1.1, hw.1.2⟩, ih (a + 1) hw.2 (by omega)⟩

theorem Tab.wf_put [DecidableEq α] (d : α) (t : Tab α) (k : Nat) (v : α) (hw : Tab.wf d t = true) :
    Tab.wf d (Tab.put d t k v) = true := Tab.wfFrom_put d t 0 k v hw (Nat.zero_le _)

theorem Tab.wf_modify [DecidableEq α] (d : α) (t : Tab α) (k : Nat) (f : α → α) (hw : Tab.wf d t = true) :
    Tab.wf d (Tab.modify d t k f) = true := Tab.wf_put d t k _ hw

theorem Tab.wfFrom_filter [DecidableEq α] (d : α) (t : Tab α) (lo : Nat) (p : Nat × α → Bool)
    (hw : Tab.wfFrom d lo t = true) : Tab.wfFrom d lo (t.filter p) = true := by
  induction t generalizing lo with
  | nil => rfl
  | cons q t ih =>
    obtain ⟨a, x⟩ := q
    simp only [Tab.wfFrom, Bool.and_eq_true, decide_eq_true_eq] at hw
    simp only [List.filter]
    split
    · simp only [Tab.wfFrom, Bool.and_eq_true, decide_eq_true_eq]
      exact ⟨hw.1, ih (a + 1) hw.2⟩
    · exact Tab.wfFrom_mono d _ (a + 1) lo (by omega) (ih (a + 1) hw.2)

theorem Tab.wf_filter [DecidableEq α] (d : α) (t : Tab α) (p : Nat × α → Bool) (hw : Tab.wf d t = true) :
    Tab.wf d (t.filter p) = true := Tab.wfFrom_filter d t 0 p hw

theorem Tab.wf_clearRange [DecidableEq α] (d : α) (t : Tab α) (lo n : Nat) (hw : Tab.wf d t = true) :
    Tab.wf d (Tab.clearRange t lo n) = true := Tab.wf_filter d t _ hw

theorem Tab.wf_foldl_put [DecidableEq α] {β : Type} (d : α) (l : List β) (t : Tab α) (k : β → Nat) (v : β → α)
    (hw : Tab.wf d t = true) : Tab.wf d (l.foldl (fun t x => Tab.put d t (k x) (v x)) t) = true := by
  induction l generalizing t with
  | nil => exact hw
  | cons x l ih => exact ih _ (Tab.wf_put d t _ _ hw)

theorem Tab.wf_overlay [DecidableEq α] (d : α) (t : Tab α) (off : Nat) (u : Tab α) (hw : Tab.wf d t = true) :
    Tab.wf d (Tab.overlay d t off u) = true := Tab.wf_foldl_put d u t _ _ hw

theorem Tab.wf_nil [DecidableEq α] (d : α) : Tab.wf d ([] : Tab α) = true := rfl

/-! ### Bytes -/

theorem Mem.wf_write (m : Mem) (a : Nat) (l : List Byte) (hw : m.wf = true) : (m.write a l).wf = true := by
  induction l generalizing m a with
  | nil => exact hw
  | cons b l ih => exact ih _ _ (Tab.wf_put _ _ _ _ hw)

theorem Mem.byte_write_out (m : Mem) (a x : Nat) (l : List Byte) (h : x < a ∨ a + l.length ≤ x) :
    (m.write a l).byte x = m.byte x := by
  induction l generalizing m a with
  | nil => rfl
  | cons b l ih =>
    simp only [List.length_cons] at h
    rw [Mem.write, ih _ _ (by omega)]
    exact Tab.get_put_ne _ _ _ _ _ (by omega)

theorem Mem.byte_write_in (m : Mem) (a i : Nat) (l : List Byte) (hw : m.wf = true) (h : i < l.length) :
    (m.write a l).byte (a + i) = l.getD i 0 := by
  induction l generalizing m a i with
  | nil => simp at h
  | cons b l ih =>
    rw [Mem.write]
    cases i with
    | zero =>
      rw [Mem.byte_write_out _ _ _ _ (by omega)]
      exact Tab.get_put_self _ _ _ _ hw
    | succ i =>
      have := ih (Tab.put (0 : Byte) m a b) (a + 1) i (Tab.wf_put _ _ _ _ hw) (by simpa using h)
      rw [show a + (i + 1) = a + 1 + i by omega, this]
      simp

theorem Mem.length_read (m : Mem) (a n : Nat) : (m.read a n).length = n := by
  induction n generalizing a with
  | zero => rfl
  | succ n ih => simp [Mem.read, ih]

end Sys2Proof.Machine
end

