-- ==== Sys2Proof/Laws/Access.lean ====
section
/-! SUPPORT. Reading a table after one of its entries has been replaced. -/

namespace Sys2Proof.Machine

variable (s : State)

theorem State.syncObj_setSync (o j : Nat) (x : SyncObj) (h : Tab.wf SyncObj.clear s.sync = true) :
    (s.setSync o x).syncObj j = if j = o then x else s.syncObj j := Tab.get_put _ _ _ _ _ h

theorem State.syncObj_setSync_self (o : Nat) (x : SyncObj) (h : Tab.wf SyncObj.clear s.sync = true) :
    (s.setSync o x).syncObj o = x := Tab.get_put_self _ _ _ _ h

theorem State.syncObj_setSync_ne (o j : Nat) (x : SyncObj) (h : j ≠ o) : (s.setSync o x).syncObj j = s.syncObj j :=
  Tab.get_put_ne _ _ _ _ _ h

theorem State.ctx_setCtx (c j : Nat) (x : Ctx) (h : Tab.wf Ctx.off s.ctxs = true) :
    (s.setCtx c x).ctx j = if j = c then x else s.ctx j := Tab.get_put _ _ _ _ _ h

theorem State.ctx_setCtx_self (c : Nat) (x : Ctx) (h : Tab.wf Ctx.off s.ctxs = true) :
    (s.setCtx c x).ctx c = x := Tab.get_put_self _ _ _ _ h

theorem State.ctx_setCtx_ne (c j : Nat) (x : Ctx) (h : j ≠ c) : (s.setCtx c x).ctx j = s.ctx j :=
  Tab.get_put_ne _ _ _ _ _ h

theorem State.stand_setStand (k j : Nat) (x : Stand) (h : Tab.wf Stand.fresh s.stands = true) :
    (s.setStand k x).stand j = if j = k then x else s.stand j := Tab.get_put _ _ _ _ _ h

theorem State.stand_setStand_self (k : Nat) (x : Stand) (h : Tab.wf Stand.fresh s.stands = true) :
    (s.setStand k x).stand k = x := Tab.get_put_self _ _ _ _ h

theorem State.stand_setStand_ne (k j : Nat) (x : Stand) (h : j ≠ k) : (s.setStand k x).stand j = s.stand j :=
  Tab.get_put_ne _ _ _ _ _ h

theorem State.port_setPort (p j : Nat) (x : Port) (h : Tab.wf Port.down s.ports = true) :
    (s.setPort p x).port j = if j = p then x else s.port j := Tab.get_put _ _ _ _ _ h

theorem State.port_setPort_self (p : Nat) (x : Port) (h : Tab.wf Port.down s.ports = true) :
    (s.setPort p x).port p = x := Tab.get_put_self _ _ _ _ h

theorem State.port_setPort_ne (p j : Nat) (x : Port) (h : j ≠ p) : (s.setPort p x).port j = s.port j :=
  Tab.get_put_ne _ _ _ _ _ h

theorem State.seqSlot_setSeq (k j : Nat) (x : SeqSlot) (h : Tab.wf SeqSlot.unused s.seqs = true) :
    (s.setSeq k x).seqSlot j = if j = k then x else s.seqSlot j := Tab.get_put _ _ _ _ _ h

theorem State.seqSlot_setSeq_self (k : Nat) (x : SeqSlot) (h : Tab.wf SeqSlot.unused s.seqs = true) :
    (s.setSeq k x).seqSlot k = x := Tab.get_put_self _ _ _ _ h

theorem State.seqSlot_setSeq_ne (k j : Nat) (x : SeqSlot) (h : j ≠ k) : (s.setSeq k x).seqSlot j = s.seqSlot j :=
  Tab.get_put_ne _ _ _ _ _ h

theorem State.bus_setBus (b j : Nat) (x : Bus) (h : Tab.wf Bus.fresh s.buses = true) :
    (s.setBus b x).bus j = if j = b then x else s.bus j := Tab.get_put _ _ _ _ _ h

theorem State.bus_setBus_self (b : Nat) (x : Bus) (h : Tab.wf Bus.fresh s.buses = true) :
    (s.setBus b x).bus b = x := Tab.get_put_self _ _ _ _ h

theorem State.bus_setBus_ne (b j : Nat) (x : Bus) (h : j ≠ b) : (s.setBus b x).bus j = s.bus j :=
  Tab.get_put_ne _ _ _ _ _ h

theorem State.link_setLink (l j : Nat) (x : HostLink) (h : Tab.wf HostLink.down s.links = true) :
    (s.setLink l x).link j = if j = l then x else s.link j := Tab.get_put _ _ _ _ _ h

theorem State.link_setLink_self (l : Nat) (x : HostLink) (h : Tab.wf HostLink.down s.links = true) :
    (s.setLink l x).link l = x := Tab.get_put_self _ _ _ _ h

theorem State.link_setLink_ne (l j : Nat) (x : HostLink) (h : j ≠ l) : (s.setLink l x).link j = s.link j :=
  Tab.get_put_ne _ _ _ _ _ h

theorem State.tdi_setTdi (c j : Nat) (x : Tdi) (h : Tab.wf Tdi.absent s.tdis = true) :
    (s.setTdi c x).tdi j = if j = c then x else s.tdi j := Tab.get_put _ _ _ _ _ h

theorem State.tdi_setTdi_self (c : Nat) (x : Tdi) (h : Tab.wf Tdi.absent s.tdis = true) :
    (s.setTdi c x).tdi c = x := Tab.get_put_self _ _ _ _ h

theorem State.tdi_setTdi_ne (c j : Nat) (x : Tdi) (h : j ≠ c) : (s.setTdi c x).tdi j = s.tdi j :=
  Tab.get_put_ne _ _ _ _ _ h

theorem State.rail_setRail (r j : Nat) (x : Rail) (h : Tab.wf Rail.fresh s.power.rails = true) :
    (s.setRail r x).rail j = if j = r then x else s.rail j := Tab.get_put _ _ _ _ _ h

theorem State.rail_setRail_self (r : Nat) (x : Rail) (h : Tab.wf Rail.fresh s.power.rails = true) :
    (s.setRail r x).rail r = x := Tab.get_put_self _ _ _ _ h

theorem State.rail_setRail_ne (r j : Nat) (x : Rail) (h : j ≠ r) : (s.setRail r x).rail j = s.rail j :=
  Tab.get_put_ne _ _ _ _ _ h

theorem State.telem_setTelem (g j : Nat) (x : TelemGroup) (h : Tab.wf TelemGroup.fresh s.power.groups = true) :
    (s.setTelem g x).telem j = if j = g then x else s.telem j := Tab.get_put _ _ _ _ _ h

theorem State.telem_setTelem_self (g : Nat) (x : TelemGroup) (h : Tab.wf TelemGroup.fresh s.power.groups = true) :
    (s.setTelem g x).telem g = x := Tab.get_put_self _ _ _ _ h

theorem State.telem_setTelem_ne (g j : Nat) (x : TelemGroup) (h : j ≠ g) : (s.setTelem g x).telem j = s.telem j :=
  Tab.get_put_ne _ _ _ _ _ h

theorem State.dieOp_setDieOp (k j : Nat) (x : DieOp) (h : Tab.wf DieOp.fresh s.power.dies = true) :
    (s.setDieOp k x).dieOp j = if j = k then x else s.dieOp j := Tab.get_put _ _ _ _ _ h

theorem State.dieOp_setDieOp_self (k : Nat) (x : DieOp) (h : Tab.wf DieOp.fresh s.power.dies = true) :
    (s.setDieOp k x).dieOp k = x := Tab.get_put_self _ _ _ _ h

theorem State.dieOp_setDieOp_ne (k j : Nat) (x : DieOp) (h : j ≠ k) : (s.setDieOp k x).dieOp j = s.dieOp j :=
  Tab.get_put_ne _ _ _ _ _ h

theorem State.heatOf_setHeat (l j : Nat) (x : Heat) (h : Tab.wf Heat.fresh s.power.heat = true) :
    (s.setHeat l x).heatOf j = if j = l then x else s.heatOf j := Tab.get_put _ _ _ _ _ h

theorem State.heatOf_setHeat_self (l : Nat) (x : Heat) (h : Tab.wf Heat.fresh s.power.heat = true) :
    (s.setHeat l x).heatOf l = x := Tab.get_put_self _ _ _ _ h

theorem State.heatOf_setHeat_ne (l j : Nat) (x : Heat) (h : j ≠ l) : (s.setHeat l x).heatOf j = s.heatOf j :=
  Tab.get_put_ne _ _ _ _ _ h

theorem State.queue_setQueue_self (c q : Nat) (x : Queue) (h : Tab.wf Queue.off s.queues = true) :
    (s.setQueue c q x).queue c q = x := Tab.get_put_self _ _ _ _ h

theorem State.queue_setQueue_ne (c q i j : Nat) (x : Queue) (hb : q < 16) (hj : j < 16) (h : (i, j) ≠ (c, q)) :
    (s.setQueue c q x).queue i j = s.queue i j := by
  refine Tab.get_put_ne _ _ _ _ _ fun e => h ?_
  simp only [Prod.mk.injEq]
  omega

theorem State.func_setFunc_self (l f : Nat) (x : Func) (h : Tab.wf Func.fresh s.funcs = true) :
    (s.setFunc l f x).func l f = x := Tab.get_put_self _ _ _ _ h

theorem State.func_setFunc_ne (l f i j : Nat) (x : Func) (hb : f < 16) (hj : j < 16) (h : (i, j) ≠ (l, f)) :
    (s.setFunc l f x).func i j = s.func i j := by
  refine Tab.get_put_ne _ _ _ _ _ fun e => h ?_
  simp only [Prod.mk.injEq]
  omega

theorem State.sched_setSched_self (c k : Nat) (x : Sched) (h : Tab.wf Sched.empty s.scheds = true) :
    (s.setSched c k x).sched c k = x := Tab.get_put_self _ _ _ _ h

theorem State.sched_setSched_ne (c k i j : Nat) (x : Sched) (hb : k < 8) (hj : j < 8) (h : (i, j) ≠ (c, k)) :
    (s.setSched c k x).sched i j = s.sched i j := by
  refine Tab.get_put_ne _ _ _ _ _ fun e => h ?_
  simp only [Prod.mk.injEq]
  omega

theorem State.tableNum_setTable_self (c t : Nat) (x : TableNum) (h : Tab.wf TableNum.fresh s.tables = true) :
    (s.setTable c t x).tableNum c t = x := Tab.get_put_self _ _ _ _ h

theorem State.tableNum_setTable_ne (c t i j : Nat) (x : TableNum) (hb : t < 1024) (hj : j < 1024) (h : (i, j) ≠ (c, t)) :
    (s.setTable c t x).tableNum i j = s.tableNum i j := by
  refine Tab.get_put_ne _ _ _ _ _ fun e => h ?_
  simp only [Prod.mk.injEq]
  omega

/-! ### Stored objects -/

theorem State.objv_setObj_self (i b v : Nat) (h : Tab.wf none s.obj = true) : (s.setObj i b v).objv i b = v := by
  unfold State.objv State.setObj
  simp only
  rw [Tab.get_put_self _ _ _ _ h]
  split
  · next e => exact e.symm
  · rfl

theorem State.objv_setObj_ne (i b j c v : Nat) (h : objKey j c ≠ objKey i b) :
    (s.setObj i b v).objv j c = s.objv j c := by
  unfold State.objv State.setObj
  simp only
  rw [Tab.get_put_ne _ _ _ _ _ h]

end Sys2Proof.Machine
end

