-- ==== Sys2Proof/WellFormed.lean ====
section
/-! DEFINITION. Which commands are well-formed: every operand that names a unit, a port, a queue, a
link or an object lies in the range the spec gives it. -/

namespace Sys2Proof

/-- Credits a partner grants of classes 1 and 2: they share 65,280 with class 3, and each class has some (R267,
R282, R484). -/
def grantOk (g1 g2 : Nat) : Bool := decide (1 ≤ g1) && decide (1 ≤ g2) && decide (g1 + g2 < 65280)

/-- A command's identity names a context, a queue of it and a 32-bit sequence number (R316, R317,
R339). -/
def idOk (id : CmdId) : Bool :=
  decide (id.ctx < 64) && decide (id.queue < 16) && decide (id.seq < 4294967296)

/-- A channel names a bus and a client node-ID, or a host link, a function and a context (R353, R399,
R404). -/
def chanOk : Channel → Bool
  | .can b c => decide (b < 2) && decide (c < 128)
  | .mbx l f c => decide (l < 4) && decide (f < 9) && decide (c < 64)

/-- The command of a queue that a row names by its identity, where it names one. -/
def Instr.command : Instr → Option CmdId
  | .nop id | .abort id | .syncSet id | .ctxPreempt id | .ctrlSampleOpen id | .ctrlSampleAdvance id
  | .ctrlSampleClose id | .ctrlSampleRead id | .copy id | .fill id | .biasSet id | .keyRotate id
  | .standMatmul id | .standMatmulGen id | .standDrain id | .standAccZero id | .standAccRelease id
  | .vecElem id | .vecReduce id | .vecSoftmax id | .vecConvert id | .embTableInstall id | .embTableRemove id
  | .versionInstallTakesEffect id | .embAdmitOpen id | .embAdmit id | .embPrefetch id | .embGatherPool id
  | .embGradMerge id | .embGradCombine id | .embReplicaFetch id | .embBatchClose id | .tapInitCopy id
  | .tapInitImage id | .tapUpdate id | .tapUpdateResume id | .tapSchedInstall id | .tapSchedHostStep id
  | .scheduleInstallTakesEffect id | .tapVerify id | .tapSnapshot id | .collReduceScatter id
  | .collAllReduce id | .collGather id | .collPass id | .collPassLanding id _ | .collPermute id
  | .collListExchange id | .collectiveMatch id | .genSeqOpen id | .genSeqAppend id | .genSeqRead id
  | .genSeqClose id | .completionRecordWrite id | .safePointAbort id | .hostRequestFailure id _ => some id
  | _ => none

/-- A command is well-formed. -/
def wellFormed : Instr → Bool
  | .nop id => idOk id
  | .abort id => idOk id
  | .syncSet id => idOk id
  | .ctxPreempt id => idOk id
  | .ctrlSampleOpen id => idOk id
  | .ctrlSampleAdvance id => idOk id
  | .ctrlSampleClose id => idOk id
  | .ctrlSampleRead id => idOk id
  | .copy id => idOk id
  | .fill id => idOk id
  | .biasSet id => idOk id
  | .keyRotate id => idOk id
  | .standMatmul id => idOk id
  | .standMatmulGen id => idOk id
  | .standDrain id => idOk id
  | .standAccZero id => idOk id
  | .standAccRelease id => idOk id
  | .flip core => decide (core < 96)
  | .vecElem id => idOk id
  | .vecReduce id => idOk id
  | .vecSoftmax id => idOk id
  | .vecConvert id => idOk id
  | .embTableInstall id => idOk id
  | .embTableRemove id => idOk id
  | .versionInstallTakesEffect id => idOk id
  | .embAdmitOpen id => idOk id
  | .embAdmit id => idOk id
  | .embPrefetch id => idOk id
  | .embGatherPool id => idOk id
  | .embGradMerge id => idOk id
  | .embGradCombine id => idOk id
  | .embReplicaFetch id => idOk id
  | .embBatchClose id => idOk id
  | .versionRelease ctx table _ => decide (ctx < 64) && decide (table < 65536)
  | .tapInitCopy id => idOk id
  | .tapInitImage id => idOk id
  | .tapUpdate id => idOk id
  | .tapUpdateResume id => idOk id
  | .tapSchedInstall id => idOk id
  | .tapSchedHostStep id => idOk id
  | .scheduleInstallTakesEffect id => idOk id
  | .tapVerify id => idOk id
  | .tapSnapshot id => idOk id
  | .collReduceScatter id => idOk id
  | .collAllReduce id => idOk id
  | .collGather id => idOk id
  | .collPass id => idOk id
  | .collPassLanding id _ => idOk id
  | .collPermute id => idOk id
  | .collListExchange id => idOk id
  | .collectiveMatch id => idOk id
  | .genSeqOpen id => idOk id
  | .genSeqAppend id => idOk id
  | .genSeqRead id => idOk id
  | .genSeqClose id => idOk id
  | .doorbellWrite link fn ctx queue _ _ =>
    decide (link < 4) && decide (fn < 9) && decide (ctx < 64) && decide (queue < 16)
  | .descriptorAdmission ctx queue => decide (ctx < 64) && decide (queue < 16)
  | .commandRelease ctx queue => decide (ctx < 64) && decide (queue < 16)
  | .completionRecordWrite id => idOk id
  | .safePointAbort id => idOk id
  | .queueReload ch ctx _ => chanOk ch && decide (ctx < 64)
  | .queueTableWrite ch ctx _ => chanOk ch && decide (ctx < 64)
  | .contextResident ctx => decide (ctx < 64)
  | .contextEvict ctx => decide (ctx < 64)
  | .quantumExpiry ctx => decide (ctx < 64)
  | .contextLeave ctx => decide (ctx < 64)
  | .drainUsExpiry ctx => decide (ctx < 64)
  | .preemptionDeadline ctx => decide (ctx < 64)
  | .paceBoundary => true
  | .paceWord port _ => decide (port < 24)
  | .localGeneratorBoundary => true
  | .paceSourceLost => true
  | .paceSignalLost => true
  | .holdoverBoundary => true
  | .holdoverExpiry => true
  | .sourceAdoption source _ => decide (1 ≤ source ∧ source ≤ 3)
  | .strideCountWrite ch _ => chanOk ch
  | .maintenanceWindowOpen w => decide (w < 8)
  | .maintenanceWindowClose w => decide (w < 8)
  | .ppsInEdge => true
  | .calendarSecondWrite ch _ => chanOk ch
  | .strideStepSizePublish => true
  | .signal _ => true
  | .abortNotice _ => true
  | .preemptNotice _ => true
  | .rowRequest _ => true
  | .rowReply _ => true
  | .hold _ => true
  | .readRequest _ => true
  | .readReply _ => true
  | .fetchRequest _ => true
  | .fetchRows _ => true
  | .collective _ => true
  | .noRoute _ => true
  | .refusedFrame _ => true
  | .dataFragment port _ _ _ => decide (port < 24)
  | .nak port _ => decide (port < 24)
  | .replayTimeout port => decide (port < 24)
  | .hello port _ => decide (port < 24)
  | .helloTimer port => decide (port < 24)
  | .beacon port _ => decide (port < 24)
  | .echo port _ _ => decide (port < 24)
  | .lane port _ => decide (port < 24)
  | .laneWidthChange port => decide (port < 24)
  | .portTraining port r => decide (port < 24) && grantOk r.g1 r.g2
  | .portTrainingTimeout port r => decide (port < 24) && grantOk r.g1 r.g2
  | .laneErrorTrigger port x => decide (port < 24) && decide (x.lane < 8)
  | .routeWaitExpiry => true
  | .membershipRecordWrite ch _ => chanOk ch
  | .membershipEpochChange => true
  | .hostLinkTrained link _ _ => decide (link < 4)
  | .hostLinkDown link => decide (link < 4)
  | .hostRequestFailure id _ => idOk id
  | .hostCxlMemAccess link _ _ _ _ => decide (link < 4)
  | .perst die => decide (die < 2)
  | .hotReset link => decide (link < 4)
  | .flrFunction0 link => decide (link < 4)
  | .flrContextFunction link fn => decide (link < 4) && decide (fn < 9)
  | .ideIntegrityFailure link _ => decide (link < 4)
  | .kSetGo link fn _ _ => decide (link < 4) && decide (fn < 9)
  | .lockInterface link fn ctx _ => decide (link < 4) && decide (fn < 9) && decide (ctx < 64)
  | .getDeviceInterfaceReport link fn ctx _ =>
    decide (link < 4) && decide (fn < 9) && decide (ctx < 64)
  | .startInterface link fn ctx _ => decide (link < 4) && decide (fn < 9) && decide (ctx < 64)
  | .stopInterface link fn ctx _ => decide (link < 4) && decide (fn < 9) && decide (ctx < 64)
  | .forceUnbind ch ctx _ => chanOk ch && decide (ctx < 64)
  | .rotate ch ctx _ => chanOk ch && decide (ctx < 64)
  | .getVersion link fn _ => decide (link < 4) && decide (fn < 9)
  | .getCapabilities link fn _ => decide (link < 4) && decide (fn < 9)
  | .negotiateAlgorithms link fn _ => decide (link < 4) && decide (fn < 9)
  | .getDigests link fn _ => decide (link < 4) && decide (fn < 9)
  | .getCertificate link fn _ => decide (link < 4) && decide (fn < 9)
  | .challenge link fn _ => decide (link < 4) && decide (fn < 9)
  | .getMeasurements link fn _ => decide (link < 4) && decide (fn < 9)
  | .keyExchange link fn _ => decide (link < 4) && decide (fn < 9)
  | .finish link fn _ => decide (link < 4) && decide (fn < 9)
  | .keyUpdate link fn _ => decide (link < 4) && decide (fn < 9)
  | .heartbeatSpdm link fn _ => decide (link < 4) && decide (fn < 9)
  | .endSession link fn _ => decide (link < 4) && decide (fn < 9)
  | .getCsr link fn _ => decide (link < 4) && decide (fn < 9)
  | .setCertificate link fn _ => decide (link < 4) && decide (fn < 9)
  | .telemetryFrame group _ => decide (group < 16)
  | .telemetryGroupBlind group => decide (group < 16)
  | .avsPoll _ => true
  | .envelopeTick => true
  | .capCheck => true
  | .thermalCheck _ => true
  | .opTransitionStart => true
  | .phaseProfileWrite ch _ => chanOk ch
  | .phaseProfileTakesEffect => true
  | .profileEntry => true
  | .capOffsetWrite ch _ => chanOk ch
  | .slackRecordWrite => true
  | .wideMarginRequest ch _ => chanOk ch
  | .wideMarginSwitch => true
  | .usdoRequest seen client _ index sub _ =>
    decide (seen.bus < 2) && decide (seen.format < 4) && decide (seen.failure < 3) && decide (client < 128) &&
      decide (index < 65536) && decide (sub < 256)
  | .mailboxRequest link fn _ _ => decide (link < 4) && decide (fn < 9)
  | .nmtStart bus node => decide (bus < 2) && decide (node < 128)
  | .nmtStop bus node => decide (bus < 2) && decide (node < 128)
  | .nmtEnterPreOperational bus node => decide (bus < 2) && decide (node < 128)
  | .nmtResetNode bus node => decide (bus < 2) && decide (node < 128)
  | .nmtResetCommunication bus node => decide (bus < 2) && decide (node < 128)
  | .heartbeat bus => decide (bus < 2)
  | .busOff bus => decide (bus < 2)
  | .sessionOpen ch _ => chanOk ch
  | .sessionClose ch _ => chanOk ch
  | .sessionIdleTimeout ch => chanOk ch
  | .authorizationRecord ch _ => chanOk ch
  | .programData ch t _ => chanOk ch && decide (1 ≤ t ∧ t ≤ 5)
  | .programControlVerify ch t => chanOk ch && decide (1 ≤ t ∧ t ≤ 5)
  | .programControlDiscard ch t => chanOk ch && decide (1 ≤ t ∧ t ≤ 5)
  | .reloadDie ch d _ => chanOk ch && decide (1 ≤ d ∧ d ≤ 40)
  | .reloadComplete => true
  | .restoreDefaults ch _ => chanOk ch
  | .operatorKeyWrite ch slot _ => chanOk ch && decide (slot < 4)
  | .lifeCycleTransitionRequest ch _ => chanOk ch
  | .formatHealthReset ch _ => chanOk ch
  | .partitionWrite ch p sub _ => chanOk ch && decide (p < 16) && decide (sub < 256)
  | .marginScanStart ch _ => chanOk ch
  | .marginScanComplete _ _ => true
  | .selfTestStart ch _ => chanOk ch
  | .takeoverRequest ch _ => chanOk ch
  | .recorderClear ch _ => chanOk ch
  | .recorderRead ch => chanOk ch
  | .dictionaryWrite ch index sub _ => chanOk ch && decide (index < 65536) && decide (sub < 256)
  | .errorDetected _ _ x => x.line.all fun n => decide (n < 0x14000)
  | .selfTestVerdict _ _ => true
  | .migrationGrain _ => true
  | .migrationComplete => true
  | .patrolScrub _ => true
  | .sweepPage ctx => decide (ctx < 64)
  | .sweepComplete ctx => decide (ctx < 64)
  | .regulatorRefill stack => decide (stack < 20)
  | .calibrationDue _ _ => true
  | .calibrationStart _ _ => true
  | .managementHeartbeat => true
  | .managementTakeover _ => true
  | .powerOn => true
  | .resetNLow => true
  | .resetNRise _ => true
  | .powerLoss => true
  | .calibrationComplete _ _ _ => true
  | .fillControlFragment port _ => decide (port < 24)
  | .hostConfigurationRequest link fn _ _ => decide (link < 4) && decide (fn < 9)
  | .cxlTspLock link ctx => decide (link < 4) && decide (ctx < 64)
  | .ideKm link fn _ _ => decide (link < 4) && decide (fn < 9)
  | .blindGroupAvsbusRead group _ => decide (group < 16)

end Sys2Proof
end

