-- ==== Sys2Proof/Laws/PerInstr.lean ====
section
/-! SUPPORT. Facts about the commands as syntax, one lemma a constructor. -/

namespace Sys2Proof.Laws.Operands

/-- A well-formed command that names a command of a queue names a context, a queue and a sequence number in
their ranges. -/
def Statement (i : Instr) : Prop := wellFormed i = true → ∀ id, i.command = some id → idOk id = true

theorem nop (id : CmdId) : Statement (.nop id) :=
  fun h _ e => Option.some.inj e ▸ h
theorem abort (id : CmdId) : Statement (.abort id) :=
  fun h _ e => Option.some.inj e ▸ h
theorem syncSet (id : CmdId) : Statement (.syncSet id) :=
  fun h _ e => Option.some.inj e ▸ h
theorem ctxPreempt (id : CmdId) : Statement (.ctxPreempt id) :=
  fun h _ e => Option.some.inj e ▸ h
theorem ctrlSampleOpen (id : CmdId) : Statement (.ctrlSampleOpen id) :=
  fun h _ e => Option.some.inj e ▸ h
theorem ctrlSampleAdvance (id : CmdId) : Statement (.ctrlSampleAdvance id) :=
  fun h _ e => Option.some.inj e ▸ h
theorem ctrlSampleClose (id : CmdId) : Statement (.ctrlSampleClose id) :=
  fun h _ e => Option.some.inj e ▸ h
theorem ctrlSampleRead (id : CmdId) : Statement (.ctrlSampleRead id) :=
  fun h _ e => Option.some.inj e ▸ h
theorem copy (id : CmdId) : Statement (.copy id) :=
  fun h _ e => Option.some.inj e ▸ h
theorem fill (id : CmdId) : Statement (.fill id) :=
  fun h _ e => Option.some.inj e ▸ h
theorem biasSet (id : CmdId) : Statement (.biasSet id) :=
  fun h _ e => Option.some.inj e ▸ h
theorem keyRotate (id : CmdId) : Statement (.keyRotate id) :=
  fun h _ e => Option.some.inj e ▸ h
theorem standMatmul (id : CmdId) : Statement (.standMatmul id) :=
  fun h _ e => Option.some.inj e ▸ h
theorem standMatmulGen (id : CmdId) : Statement (.standMatmulGen id) :=
  fun h _ e => Option.some.inj e ▸ h
theorem standDrain (id : CmdId) : Statement (.standDrain id) :=
  fun h _ e => Option.some.inj e ▸ h
theorem standAccZero (id : CmdId) : Statement (.standAccZero id) :=
  fun h _ e => Option.some.inj e ▸ h
theorem standAccRelease (id : CmdId) : Statement (.standAccRelease id) :=
  fun h _ e => Option.some.inj e ▸ h
theorem flip (core : Nat) : Statement (.flip core) :=
  fun _ _ e => nomatch e
theorem vecElem (id : CmdId) : Statement (.vecElem id) :=
  fun h _ e => Option.some.inj e ▸ h
theorem vecReduce (id : CmdId) : Statement (.vecReduce id) :=
  fun h _ e => Option.some.inj e ▸ h
theorem vecSoftmax (id : CmdId) : Statement (.vecSoftmax id) :=
  fun h _ e => Option.some.inj e ▸ h
theorem vecConvert (id : CmdId) : Statement (.vecConvert id) :=
  fun h _ e => Option.some.inj e ▸ h
theorem embTableInstall (id : CmdId) : Statement (.embTableInstall id) :=
  fun h _ e => Option.some.inj e ▸ h
theorem embTableRemove (id : CmdId) : Statement (.embTableRemove id) :=
  fun h _ e => Option.some.inj e ▸ h
theorem versionInstallTakesEffect (id : CmdId) : Statement (.versionInstallTakesEffect id) :=
  fun h _ e => Option.some.inj e ▸ h
theorem embAdmitOpen (id : CmdId) : Statement (.embAdmitOpen id) :=
  fun h _ e => Option.some.inj e ▸ h
theorem embAdmit (id : CmdId) : Statement (.embAdmit id) :=
  fun h _ e => Option.some.inj e ▸ h
theorem embPrefetch (id : CmdId) : Statement (.embPrefetch id) :=
  fun h _ e => Option.some.inj e ▸ h
theorem embGatherPool (id : CmdId) : Statement (.embGatherPool id) :=
  fun h _ e => Option.some.inj e ▸ h
theorem embGradMerge (id : CmdId) : Statement (.embGradMerge id) :=
  fun h _ e => Option.some.inj e ▸ h
theorem embGradCombine (id : CmdId) : Statement (.embGradCombine id) :=
  fun h _ e => Option.some.inj e ▸ h
theorem embReplicaFetch (id : CmdId) : Statement (.embReplicaFetch id) :=
  fun h _ e => Option.some.inj e ▸ h
theorem embBatchClose (id : CmdId) : Statement (.embBatchClose id) :=
  fun h _ e => Option.some.inj e ▸ h
theorem versionRelease (ctx table num : Nat) : Statement (.versionRelease ctx table num) :=
  fun _ _ e => nomatch e
theorem tapInitCopy (id : CmdId) : Statement (.tapInitCopy id) :=
  fun h _ e => Option.some.inj e ▸ h
theorem tapInitImage (id : CmdId) : Statement (.tapInitImage id) :=
  fun h _ e => Option.some.inj e ▸ h
theorem tapUpdate (id : CmdId) : Statement (.tapUpdate id) :=
  fun h _ e => Option.some.inj e ▸ h
theorem tapUpdateResume (id : CmdId) : Statement (.tapUpdateResume id) :=
  fun h _ e => Option.some.inj e ▸ h
theorem tapSchedInstall (id : CmdId) : Statement (.tapSchedInstall id) :=
  fun h _ e => Option.some.inj e ▸ h
theorem tapSchedHostStep (id : CmdId) : Statement (.tapSchedHostStep id) :=
  fun h _ e => Option.some.inj e ▸ h
theorem scheduleInstallTakesEffect (id : CmdId) : Statement (.scheduleInstallTakesEffect id) :=
  fun h _ e => Option.some.inj e ▸ h
theorem tapVerify (id : CmdId) : Statement (.tapVerify id) :=
  fun h _ e => Option.some.inj e ▸ h
theorem tapSnapshot (id : CmdId) : Statement (.tapSnapshot id) :=
  fun h _ e => Option.some.inj e ▸ h
theorem collReduceScatter (id : CmdId) : Statement (.collReduceScatter id) :=
  fun h _ e => Option.some.inj e ▸ h
theorem collAllReduce (id : CmdId) : Statement (.collAllReduce id) :=
  fun h _ e => Option.some.inj e ▸ h
theorem collGather (id : CmdId) : Statement (.collGather id) :=
  fun h _ e => Option.some.inj e ▸ h
theorem collPass (id : CmdId) : Statement (.collPass id) :=
  fun h _ e => Option.some.inj e ▸ h
theorem collPassLanding (id : CmdId) (step : Nat) : Statement (.collPassLanding id step) :=
  fun h _ e => Option.some.inj e ▸ h
theorem collPermute (id : CmdId) : Statement (.collPermute id) :=
  fun h _ e => Option.some.inj e ▸ h
theorem collListExchange (id : CmdId) : Statement (.collListExchange id) :=
  fun h _ e => Option.some.inj e ▸ h
theorem collectiveMatch (id : CmdId) : Statement (.collectiveMatch id) :=
  fun h _ e => Option.some.inj e ▸ h
theorem genSeqOpen (id : CmdId) : Statement (.genSeqOpen id) :=
  fun h _ e => Option.some.inj e ▸ h
theorem genSeqAppend (id : CmdId) : Statement (.genSeqAppend id) :=
  fun h _ e => Option.some.inj e ▸ h
theorem genSeqRead (id : CmdId) : Statement (.genSeqRead id) :=
  fun h _ e => Option.some.inj e ▸ h
theorem genSeqClose (id : CmdId) : Statement (.genSeqClose id) :=
  fun h _ e => Option.some.inj e ▸ h
theorem doorbellWrite (link fn ctx queue value : Nat) (secure : Bool) :
    Statement (.doorbellWrite link fn ctx queue value secure) :=
  fun _ _ e => nomatch e
theorem descriptorAdmission (ctx queue : Nat) : Statement (.descriptorAdmission ctx queue) :=
  fun _ _ e => nomatch e
theorem commandRelease (ctx queue : Nat) : Statement (.commandRelease ctx queue) :=
  fun _ _ e => nomatch e
theorem completionRecordWrite (id : CmdId) : Statement (.completionRecordWrite id) :=
  fun h _ e => Option.some.inj e ▸ h
theorem safePointAbort (id : CmdId) : Statement (.safePointAbort id) :=
  fun h _ e => Option.some.inj e ▸ h
theorem queueReload (ch : Channel) (ctx : Nat) (value : List Byte) : Statement (.queueReload ch ctx value) :=
  fun _ _ e => nomatch e
theorem queueTableWrite (ch : Channel) (ctx : Nat) (value : List Byte) :
    Statement (.queueTableWrite ch ctx value) :=
  fun _ _ e => nomatch e
theorem contextResident (ctx : Nat) : Statement (.contextResident ctx) :=
  fun _ _ e => nomatch e
theorem contextEvict (ctx : Nat) : Statement (.contextEvict ctx) :=
  fun _ _ e => nomatch e
theorem quantumExpiry (ctx : Nat) : Statement (.quantumExpiry ctx) :=
  fun _ _ e => nomatch e
theorem contextLeave (ctx : Nat) : Statement (.contextLeave ctx) :=
  fun _ _ e => nomatch e
theorem drainUsExpiry (ctx : Nat) : Statement (.drainUsExpiry ctx) :=
  fun _ _ e => nomatch e
theorem preemptionDeadline (ctx : Nat) : Statement (.preemptionDeadline ctx) :=
  fun _ _ e => nomatch e
theorem paceBoundary : Statement (.paceBoundary) :=
  fun _ _ e => nomatch e
theorem paceWord (port : Nat) (word : BitVec 128) : Statement (.paceWord port word) :=
  fun _ _ e => nomatch e
theorem localGeneratorBoundary : Statement (.localGeneratorBoundary) :=
  fun _ _ e => nomatch e
theorem paceSourceLost : Statement (.paceSourceLost) :=
  fun _ _ e => nomatch e
theorem paceSignalLost : Statement (.paceSignalLost) :=
  fun _ _ e => nomatch e
theorem holdoverBoundary : Statement (.holdoverBoundary) :=
  fun _ _ e => nomatch e
theorem holdoverExpiry : Statement (.holdoverExpiry) :=
  fun _ _ e => nomatch e
theorem sourceAdoption (source : Nat) (count : BitVec 32) : Statement (.sourceAdoption source count) :=
  fun _ _ e => nomatch e
theorem strideCountWrite (ch : Channel) (value : List Byte) : Statement (.strideCountWrite ch value) :=
  fun _ _ e => nomatch e
theorem maintenanceWindowOpen (w : Nat) : Statement (.maintenanceWindowOpen w) :=
  fun _ _ e => nomatch e
theorem maintenanceWindowClose (w : Nat) : Statement (.maintenanceWindowClose w) :=
  fun _ _ e => nomatch e
theorem ppsInEdge : Statement (.ppsInEdge) :=
  fun _ _ e => nomatch e
theorem calendarSecondWrite (ch : Channel) (value : List Byte) : Statement (.calendarSecondWrite ch value) :=
  fun _ _ e => nomatch e
theorem strideStepSizePublish : Statement (.strideStepSizePublish) :=
  fun _ _ e => nomatch e
theorem signal (k : Nat) : Statement (.signal k) :=
  fun _ _ e => nomatch e
theorem abortNotice (k : Nat) : Statement (.abortNotice k) :=
  fun _ _ e => nomatch e
theorem preemptNotice (k : Nat) : Statement (.preemptNotice k) :=
  fun _ _ e => nomatch e
theorem rowRequest (k : Nat) : Statement (.rowRequest k) :=
  fun _ _ e => nomatch e
theorem rowReply (k : Nat) : Statement (.rowReply k) :=
  fun _ _ e => nomatch e
theorem hold (k : Nat) : Statement (.hold k) :=
  fun _ _ e => nomatch e
theorem readRequest (k : Nat) : Statement (.readRequest k) :=
  fun _ _ e => nomatch e
theorem readReply (k : Nat) : Statement (.readReply k) :=
  fun _ _ e => nomatch e
theorem fetchRequest (k : Nat) : Statement (.fetchRequest k) :=
  fun _ _ e => nomatch e
theorem fetchRows (k : Nat) : Statement (.fetchRows k) :=
  fun _ _ e => nomatch e
theorem collective (k : Nat) : Statement (.collective k) :=
  fun _ _ e => nomatch e
theorem noRoute (k : Nat) : Statement (.noRoute k) :=
  fun _ _ e => nomatch e
theorem refusedFrame (k : Nat) : Statement (.refusedFrame k) :=
  fun _ _ e => nomatch e
theorem dataFragment (port : Nat) (hdr : BitVec 64) (payload : List Byte) (good : Bool) :
    Statement (.dataFragment port hdr payload good) :=
  fun _ _ e => nomatch e
theorem nak (port : Nat) (body : BitVec 128) : Statement (.nak port body) :=
  fun _ _ e => nomatch e
theorem replayTimeout (port : Nat) : Statement (.replayTimeout port) :=
  fun _ _ e => nomatch e
theorem hello (port : Nat) (body : BitVec 128) : Statement (.hello port body) :=
  fun _ _ e => nomatch e
theorem helloTimer (port : Nat) : Statement (.helloTimer port) :=
  fun _ _ e => nomatch e
theorem beacon (port : Nat) (body : BitVec 128) : Statement (.beacon port body) :=
  fun _ _ e => nomatch e
theorem echo (port : Nat) (reply : Bool) (body : BitVec 128) : Statement (.echo port reply body) :=
  fun _ _ e => nomatch e
theorem lane (port : Nat) (body : BitVec 128) : Statement (.lane port body) :=
  fun _ _ e => nomatch e
theorem laneWidthChange (port : Nat) : Statement (.laneWidthChange port) :=
  fun _ _ e => nomatch e
theorem portTraining (port : Nat) (result : Training) : Statement (.portTraining port result) :=
  fun _ _ e => nomatch e
theorem portTrainingTimeout (port : Nat) (result : Training) : Statement (.portTrainingTimeout port result) :=
  fun _ _ e => nomatch e
theorem laneErrorTrigger (port : Nat) (seen : LaneErrors) : Statement (.laneErrorTrigger port seen) :=
  fun _ _ e => nomatch e
theorem routeWaitExpiry : Statement (.routeWaitExpiry) :=
  fun _ _ e => nomatch e
theorem membershipRecordWrite (ch : Channel) (value : List Byte) :
    Statement (.membershipRecordWrite ch value) :=
  fun _ _ e => nomatch e
theorem membershipEpochChange : Statement (.membershipEpochChange) :=
  fun _ _ e => nomatch e
theorem hostLinkTrained (link rate width : Nat) : Statement (.hostLinkTrained link rate width) :=
  fun _ _ e => nomatch e
theorem hostLinkDown (link : Nat) : Statement (.hostLinkDown link) :=
  fun _ _ e => nomatch e
theorem hostRequestFailure (id : CmdId) (again : Bool) : Statement (.hostRequestFailure id again) :=
  fun h _ e => Option.some.inj e ▸ h
theorem hostCxlMemAccess (link addr : Nat) (write : Option (List Byte)) (len : Nat) (trusted : Bool) :
    Statement (.hostCxlMemAccess link addr write len trusted) :=
  fun _ _ e => nomatch e
theorem perst (die : Nat) : Statement (.perst die) :=
  fun _ _ e => nomatch e
theorem hotReset (link : Nat) : Statement (.hotReset link) :=
  fun _ _ e => nomatch e
theorem flrFunction0 (link : Nat) : Statement (.flrFunction0 link) :=
  fun _ _ e => nomatch e
theorem flrContextFunction (link fn : Nat) : Statement (.flrContextFunction link fn) :=
  fun _ _ e => nomatch e
theorem ideIntegrityFailure (link stream : Nat) : Statement (.ideIntegrityFailure link stream) :=
  fun _ _ e => nomatch e
theorem kSetGo (link fn stream set : Nat) : Statement (.kSetGo link fn stream set) :=
  fun _ _ e => nomatch e
theorem lockInterface (link fn ctx : Nat) (body : List Byte) : Statement (.lockInterface link fn ctx body) :=
  fun _ _ e => nomatch e
theorem getDeviceInterfaceReport (link fn ctx : Nat) (body : List Byte) :
    Statement (.getDeviceInterfaceReport link fn ctx body) :=
  fun _ _ e => nomatch e
theorem startInterface (link fn ctx : Nat) (body : List Byte) :
    Statement (.startInterface link fn ctx body) :=
  fun _ _ e => nomatch e
theorem stopInterface (link fn ctx : Nat) (body : List Byte) : Statement (.stopInterface link fn ctx body) :=
  fun _ _ e => nomatch e
theorem forceUnbind (ch : Channel) (ctx : Nat) (value : List Byte) : Statement (.forceUnbind ch ctx value) :=
  fun _ _ e => nomatch e
theorem rotate (ch : Channel) (ctx : Nat) (value : List Byte) : Statement (.rotate ch ctx value) :=
  fun _ _ e => nomatch e
theorem getVersion (link fn : Nat) (body : List Byte) : Statement (.getVersion link fn body) :=
  fun _ _ e => nomatch e
theorem getCapabilities (link fn : Nat) (body : List Byte) : Statement (.getCapabilities link fn body) :=
  fun _ _ e => nomatch e
theorem negotiateAlgorithms (link fn : Nat) (body : List Byte) :
    Statement (.negotiateAlgorithms link fn body) :=
  fun _ _ e => nomatch e
theorem getDigests (link fn : Nat) (body : List Byte) : Statement (.getDigests link fn body) :=
  fun _ _ e => nomatch e
theorem getCertificate (link fn : Nat) (body : List Byte) : Statement (.getCertificate link fn body) :=
  fun _ _ e => nomatch e
theorem challenge (link fn : Nat) (body : List Byte) : Statement (.challenge link fn body) :=
  fun _ _ e => nomatch e
theorem getMeasurements (link fn : Nat) (body : List Byte) : Statement (.getMeasurements link fn body) :=
  fun _ _ e => nomatch e
theorem keyExchange (link fn : Nat) (body : List Byte) : Statement (.keyExchange link fn body) :=
  fun _ _ e => nomatch e
theorem finish (link fn : Nat) (body : List Byte) : Statement (.finish link fn body) :=
  fun _ _ e => nomatch e
theorem keyUpdate (link fn : Nat) (body : List Byte) : Statement (.keyUpdate link fn body) :=
  fun _ _ e => nomatch e
theorem heartbeatSpdm (link fn : Nat) (body : List Byte) : Statement (.heartbeatSpdm link fn body) :=
  fun _ _ e => nomatch e
theorem endSession (link fn : Nat) (body : List Byte) : Statement (.endSession link fn body) :=
  fun _ _ e => nomatch e
theorem getCsr (link fn : Nat) (body : List Byte) : Statement (.getCsr link fn body) :=
  fun _ _ e => nomatch e
theorem setCertificate (link fn : Nat) (body : List Byte) : Statement (.setCertificate link fn body) :=
  fun _ _ e => nomatch e
theorem telemetryFrame (group : Nat) (seen : TelemSeen) : Statement (.telemetryFrame group seen) :=
  fun _ _ e => nomatch e
theorem telemetryGroupBlind (group : Nat) : Statement (.telemetryGroupBlind group) :=
  fun _ _ e => nomatch e
theorem avsPoll (readings : List Nat) : Statement (.avsPoll readings) :=
  fun _ _ e => nomatch e
theorem envelopeTick : Statement (.envelopeTick) :=
  fun _ _ e => nomatch e
theorem capCheck : Statement (.capCheck) :=
  fun _ _ e => nomatch e
theorem thermalCheck (readings : List Nat) : Statement (.thermalCheck readings) :=
  fun _ _ e => nomatch e
theorem opTransitionStart : Statement (.opTransitionStart) :=
  fun _ _ e => nomatch e
theorem phaseProfileWrite (ch : Channel) (value : List Byte) : Statement (.phaseProfileWrite ch value) :=
  fun _ _ e => nomatch e
theorem phaseProfileTakesEffect : Statement (.phaseProfileTakesEffect) :=
  fun _ _ e => nomatch e
theorem profileEntry : Statement (.profileEntry) :=
  fun _ _ e => nomatch e
theorem capOffsetWrite (ch : Channel) (value : List Byte) : Statement (.capOffsetWrite ch value) :=
  fun _ _ e => nomatch e
theorem slackRecordWrite : Statement (.slackRecordWrite) :=
  fun _ _ e => nomatch e
theorem wideMarginRequest (ch : Channel) (value : List Byte) : Statement (.wideMarginRequest ch value) :=
  fun _ _ e => nomatch e
theorem wideMarginSwitch : Statement (.wideMarginSwitch) :=
  fun _ _ e => nomatch e
theorem usdoRequest (seen : CanSeen) (client : Nat) (write : Bool) (index sub : Nat) (value : List Byte) :
    Statement (.usdoRequest seen client write index sub value) :=
  fun _ _ e => nomatch e
theorem mailboxRequest (link fn : Nat) (seen : MailSeen) (value : List Byte) :
    Statement (.mailboxRequest link fn seen value) :=
  fun _ _ e => nomatch e
theorem nmtStart (bus node : Nat) : Statement (.nmtStart bus node) :=
  fun _ _ e => nomatch e
theorem nmtStop (bus node : Nat) : Statement (.nmtStop bus node) :=
  fun _ _ e => nomatch e
theorem nmtEnterPreOperational (bus node : Nat) : Statement (.nmtEnterPreOperational bus node) :=
  fun _ _ e => nomatch e
theorem nmtResetNode (bus node : Nat) : Statement (.nmtResetNode bus node) :=
  fun _ _ e => nomatch e
theorem nmtResetCommunication (bus node : Nat) : Statement (.nmtResetCommunication bus node) :=
  fun _ _ e => nomatch e
theorem heartbeat (bus : Nat) : Statement (.heartbeat bus) :=
  fun _ _ e => nomatch e
theorem busOff (bus : Nat) : Statement (.busOff bus) :=
  fun _ _ e => nomatch e
theorem sessionOpen (ch : Channel) (value : List Byte) : Statement (.sessionOpen ch value) :=
  fun _ _ e => nomatch e
theorem sessionClose (ch : Channel) (value : List Byte) : Statement (.sessionClose ch value) :=
  fun _ _ e => nomatch e
theorem sessionIdleTimeout (ch : Channel) : Statement (.sessionIdleTimeout ch) :=
  fun _ _ e => nomatch e
theorem authorizationRecord (ch : Channel) (value : List Byte) : Statement (.authorizationRecord ch value) :=
  fun _ _ e => nomatch e
theorem programData (ch : Channel) (t : Nat) (value : List Byte) : Statement (.programData ch t value) :=
  fun _ _ e => nomatch e
theorem programControlVerify (ch : Channel) (t : Nat) : Statement (.programControlVerify ch t) :=
  fun _ _ e => nomatch e
theorem programControlDiscard (ch : Channel) (t : Nat) : Statement (.programControlDiscard ch t) :=
  fun _ _ e => nomatch e
theorem reloadDie (ch : Channel) (d : Nat) (value : List Byte) : Statement (.reloadDie ch d value) :=
  fun _ _ e => nomatch e
theorem reloadComplete : Statement (.reloadComplete) :=
  fun _ _ e => nomatch e
theorem restoreDefaults (ch : Channel) (value : List Byte) : Statement (.restoreDefaults ch value) :=
  fun _ _ e => nomatch e
theorem operatorKeyWrite (ch : Channel) (slot : Nat) (value : List Byte) :
    Statement (.operatorKeyWrite ch slot value) :=
  fun _ _ e => nomatch e
theorem lifeCycleTransitionRequest (ch : Channel) (value : List Byte) :
    Statement (.lifeCycleTransitionRequest ch value) :=
  fun _ _ e => nomatch e
theorem formatHealthReset (ch : Channel) (value : List Byte) : Statement (.formatHealthReset ch value) :=
  fun _ _ e => nomatch e
theorem partitionWrite (ch : Channel) (p sub : Nat) (value : List Byte) :
    Statement (.partitionWrite ch p sub value) :=
  fun _ _ e => nomatch e
theorem marginScanStart (ch : Channel) (value : List Byte) : Statement (.marginScanStart ch value) :=
  fun _ _ e => nomatch e
theorem marginScanComplete (below above : Nat) : Statement (.marginScanComplete below above) :=
  fun _ _ e => nomatch e
theorem selfTestStart (ch : Channel) (value : List Byte) : Statement (.selfTestStart ch value) :=
  fun _ _ e => nomatch e
theorem takeoverRequest (ch : Channel) (value : List Byte) : Statement (.takeoverRequest ch value) :=
  fun _ _ e => nomatch e
theorem recorderClear (ch : Channel) (value : List Byte) : Statement (.recorderClear ch value) :=
  fun _ _ e => nomatch e
theorem recorderRead (ch : Channel) : Statement (.recorderRead ch) :=
  fun _ _ e => nomatch e
theorem dictionaryWrite (ch : Channel) (index sub : Nat) (value : List Byte) :
    Statement (.dictionaryWrite ch index sub value) :=
  fun _ _ e => nomatch e
theorem errorDetected (unit : UnitId) (cmd : Option CmdId) (seen : ErrorSeen) :
    Statement (.errorDetected unit cmd seen) :=
  fun _ _ e => nomatch e
theorem selfTestVerdict (unit : UnitId) (pass : Bool) : Statement (.selfTestVerdict unit pass) :=
  fun _ _ e => nomatch e
theorem migrationGrain (readable : Bool) : Statement (.migrationGrain readable) :=
  fun _ _ e => nomatch e
theorem migrationComplete : Statement (.migrationComplete) :=
  fun _ _ e => nomatch e
theorem patrolScrub (finding : Nat) : Statement (.patrolScrub finding) :=
  fun _ _ e => nomatch e
theorem sweepPage (ctx : Nat) : Statement (.sweepPage ctx) :=
  fun _ _ e => nomatch e
theorem sweepComplete (ctx : Nat) : Statement (.sweepComplete ctx) :=
  fun _ _ e => nomatch e
theorem regulatorRefill (stack : Nat) : Statement (.regulatorRefill stack) :=
  fun _ _ e => nomatch e
theorem calibrationDue (cls : Nat) (unit : UnitId) : Statement (.calibrationDue cls unit) :=
  fun _ _ e => nomatch e
theorem calibrationStart (cls : Nat) (unit : UnitId) : Statement (.calibrationStart cls unit) :=
  fun _ _ e => nomatch e
theorem managementHeartbeat : Statement (.managementHeartbeat) :=
  fun _ _ e => nomatch e
theorem managementTakeover (cause : Nat) : Statement (.managementTakeover cause) :=
  fun _ _ e => nomatch e
theorem powerOn : Statement (.powerOn) :=
  fun _ _ e => nomatch e
theorem resetNLow : Statement (.resetNLow) :=
  fun _ _ e => nomatch e
theorem resetNRise (failedChannels : List Nat) : Statement (.resetNRise failedChannels) :=
  fun _ _ e => nomatch e
theorem powerLoss : Statement (.powerLoss) :=
  fun _ _ e => nomatch e
theorem calibrationComplete (cls : Nat) (unit : UnitId) (pass : Bool) :
    Statement (.calibrationComplete cls unit pass) :=
  fun _ _ e => nomatch e
theorem fillControlFragment (port : Nat) (hdr : BitVec 64) : Statement (.fillControlFragment port hdr) :=
  fun _ _ e => nomatch e
theorem hostConfigurationRequest (link fn reg : Nat) (word : HostWord) :
    Statement (.hostConfigurationRequest link fn reg word) :=
  fun _ _ e => nomatch e
theorem cxlTspLock (link ctx : Nat) : Statement (.cxlTspLock link ctx) :=
  fun _ _ e => nomatch e
theorem ideKm (link fn stream set : Nat) : Statement (.ideKm link fn stream set) :=
  fun _ _ e => nomatch e
theorem blindGroupAvsbusRead (group : Nat) (readings : List Nat) :
    Statement (.blindGroupAvsbusRead group readings) :=
  fun _ _ e => nomatch e

end Sys2Proof.Laws.Operands
end

