-- ==== Sys2Proof/Laws/Tables.lean ====
section
/-! SUPPORT. The canonical form of the stores and tables, one by one. -/

namespace Sys2Proof.Machine

variable {s : State}

theorem State.wf_sync (h : s.tabsOk = true) : Tab.wf SyncObj.clear s.sync = true := by
  simp only [State.tabsOk, Bool.and_eq_true] at h
  simp only [h]

theorem State.wf_ctxs (h : s.tabsOk = true) : Tab.wf Ctx.off s.ctxs = true := by
  simp only [State.tabsOk, Bool.and_eq_true] at h
  simp only [h]

theorem State.wf_queues (h : s.tabsOk = true) : Tab.wf Queue.off s.queues = true := by
  simp only [State.tabsOk, Bool.and_eq_true] at h
  simp only [h]

theorem State.wf_stands (h : s.tabsOk = true) : Tab.wf Stand.fresh s.stands = true := by
  simp only [State.tabsOk, Bool.and_eq_true] at h
  simp only [h]

theorem State.wf_obj (h : s.tabsOk = true) : Tab.wf none s.obj = true := by
  simp only [State.tabsOk, Bool.and_eq_true] at h
  simp only [h]

theorem State.wf_poison (h : s.tabsOk = true) : Tab.wf false s.pool.poison = true := by
  simp only [State.tabsOk, Bool.and_eq_true] at h
  simp only [h]

theorem State.wf_tags (h : s.tabsOk = true) : Tab.wf none s.pool.tags = true := by
  simp only [State.tabsOk, Bool.and_eq_true] at h
  simp only [h]

theorem State.wf_keys (h : s.tabsOk = true) : Tab.wf KeySlots.zeroed s.pool.keys = true := by
  simp only [State.tabsOk, Bool.and_eq_true] at h
  simp only [h]

theorem State.wf_sweeps (h : s.tabsOk = true) : Tab.wf Sweep.idle s.pool.sweeps = true := by
  simp only [State.tabsOk, Bool.and_eq_true] at h
  simp only [h]

theorem State.wf_reloc (h : s.tabsOk = true) : Tab.wf none s.pool.reloc = true := by
  simp only [State.tabsOk, Bool.and_eq_true] at h
  simp only [h]

theorem State.wf_buckets (h : s.tabsOk = true) : Tab.wf 0 s.pool.buckets = true := by
  simp only [State.tabsOk, Bool.and_eq_true] at h
  simp only [h]

theorem State.wf_seqs (h : s.tabsOk = true) : Tab.wf SeqSlot.unused s.seqs = true := by
  simp only [State.tabsOk, Bool.and_eq_true] at h
  simp only [h]

theorem State.wf_tdis (h : s.tabsOk = true) : Tab.wf Tdi.absent s.tdis = true := by
  simp only [State.tabsOk, Bool.and_eq_true] at h
  simp only [h]

theorem State.wf_bias (h : s.tabsOk = true) : Tab.wf false s.trust.bias = true := by
  simp only [State.tabsOk, Bool.and_eq_true] at h
  simp only [h]

theorem State.wf_ports (h : s.tabsOk = true) : Tab.wf Port.down s.ports = true := by
  simp only [State.tabsOk, Bool.and_eq_true] at h
  simp only [h]

theorem State.wf_links (h : s.tabsOk = true) : Tab.wf HostLink.down s.links = true := by
  simp only [State.tabsOk, Bool.and_eq_true] at h
  simp only [h]

theorem State.wf_funcs (h : s.tabsOk = true) : Tab.wf Func.fresh s.funcs = true := by
  simp only [State.tabsOk, Bool.and_eq_true] at h
  simp only [h]

theorem State.wf_scheds (h : s.tabsOk = true) : Tab.wf Sched.empty s.scheds = true := by
  simp only [State.tabsOk, Bool.and_eq_true] at h
  simp only [h]

theorem State.wf_buses (h : s.tabsOk = true) : Tab.wf Bus.fresh s.buses = true := by
  simp only [State.tabsOk, Bool.and_eq_true] at h
  simp only [h]

theorem State.wf_groups (h : s.tabsOk = true) : Tab.wf TelemGroup.fresh s.power.groups = true := by
  simp only [State.tabsOk, Bool.and_eq_true] at h
  simp only [h]

theorem State.wf_rails (h : s.tabsOk = true) : Tab.wf Rail.fresh s.power.rails = true := by
  simp only [State.tabsOk, Bool.and_eq_true] at h
  simp only [h]

theorem State.wf_dies (h : s.tabsOk = true) : Tab.wf DieOp.fresh s.power.dies = true := by
  simp only [State.tabsOk, Bool.and_eq_true] at h
  simp only [h]

theorem State.wf_heat (h : s.tabsOk = true) : Tab.wf Heat.fresh s.power.heat = true := by
  simp only [State.tabsOk, Bool.and_eq_true] at h
  simp only [h]

theorem State.wf_mem (h : s.memOk = true) : s.mem.wf = true := by
  simp only [State.memOk, Bool.and_eq_true] at h
  simp only [h]

theorem State.wf_host (h : s.memOk = true) : s.host.wf = true := by
  simp only [State.memOk, Bool.and_eq_true] at h
  simp only [h]

theorem State.wf_core (h : s.memOk = true) : s.core.wf = true := by
  simp only [State.memOk, Bool.and_eq_true] at h
  simp only [h]

theorem State.wf_acc (h : s.memOk = true) : s.acc.wf = true := by
  simp only [State.memOk, Bool.and_eq_true] at h
  simp only [h]

theorem State.wf_feeder (h : s.memOk = true) : s.feeder.wf = true := by
  simp only [State.memOk, Bool.and_eq_true] at h
  simp only [h]

end Sys2Proof.Machine
end

