-- ==== Sys2Proof/Laws/Work.lean ====
section
/-! SUPPORT. What the shared operations of the command rows do: a row's work on the released command it
names, the units it needs, the finish of a command. -/

namespace Sys2Proof.Machine

variable {s : State} {id : CmdId} {p : Desc → Bool} {c : Cmd}

/-! ### The released command a row names -/

theorem State.findCmd_of_runnable (h : s.runnable id p = some c) : s.findCmd id = some c := by
  unfold State.runnable at h
  rw [Option.filter_eq_some_iff] at h
  exact h.1

theorem State.released_of_runnable (h : s.runnable id p = some c) : c.phase = .released := by
  unfold State.runnable at h
  rw [Option.filter_eq_some_iff] at h
  simp at h
  exact h.2.1.1.1.1.1

theorem State.testing_of_runnable (h : s.runnable id p = some c) : c.testing = none := by
  unfold State.runnable at h
  rw [Option.filter_eq_some_iff] at h
  simp at h
  exact h.2.1.1.1.1.2

theorem State.fits_of_runnable (h : s.runnable id p = some c) : p c.desc = true := by
  unfold State.runnable at h
  rw [Option.filter_eq_some_iff] at h
  simp at h
  exact h.2.1.1.1.2

theorem State.id_of_findCmd (h : s.findCmd id = some c) : c.id = id := by
  unfold State.findCmd at h
  simpa using List.find?_some h

theorem State.mem_of_findCmd (h : s.findCmd id = some c) : c ∈ s.cmds := by
  unfold State.findCmd at h
  exact List.mem_of_find?_eq_some h

/-! ### Work -/

theorem State.run_ready (f : State → Cmd → State × Status) (h : s.runnable id p = some c) :
    s.run id p f = (f s c).1.finish id (f s c).2 := by
  simp [State.run, h]

theorem State.run_absent (f : State → Cmd → State × Status) (h : s.runnable id p = none) : s.run id p f = s := by
  simp [State.run, h]

theorem State.runOn_ready {units : State → Cmd → List UnitId} (f : State → Cmd → State × Status)
    (h : s.readyAt id p units c) :
    s.runOn id p units f = (f (s.took c) c).1.finish id (f (s.took c) c).2 := by
  simp [State.runOn, h.1, h.2.1, h.2.2]

theorem State.runOn_retired {units : State → Cmd → List UnitId} (f : State → Cmd → State × Status)
    (h : s.runnable id p = some c) (hu : (units s c).any s.retired = true) :
    s.runOn id p units f = s.finish id .unitRetired := by
  simp [State.runOn, h, State.unitsAre, hu]

theorem State.workOn_ready {units : State → Cmd → List UnitId} (f : State → Cmd → State × Option Status)
    (h : s.readyAt id p units c) : s.workOn id p units f = State.ended (f (s.took c) c) id := by
  simp only [State.workOn, h.1, h.2.1, h.2.2, State.ended, if_true]
  rcases f (s.took c) c with ⟨t, _ | st⟩ <;> rfl

theorem State.workOn_retired {units : State → Cmd → List UnitId} (f : State → Cmd → State × Option Status)
    (h : s.runnable id p = some c) (hu : (units s c).any s.retired = true) :
    s.workOn id p units f = s.finish id .unitRetired := by
  simp [State.workOn, h, State.unitsAre, hu]

/-- Work over extents that meets no poison is the work. -/
theorem State.withPoison_clean {reads writes : List Extent} (work : State → State × Status)
    (hr : s.regionsBad reads = false) (hw : s.regionsWriteBad writes = false) :
    s.withPoison reads writes work = work s := by
  simp [State.withPoison, hr, hw]

/-- A command that took its unit left everything but the turns as it was. -/
theorem State.took_eq (s : State) (c : Cmd) : s.took c = { s with turns := (s.took c).turns } := by
  unfold State.took
  split <;> rfl

end Sys2Proof.Machine
end

