-- ==== Sys2Proof/Tests/Slice0.lean ====
section
/-! SUPPORT. The model's own tests: ill-formed commands refused, a state that meets the hypotheses of every
statement, and single steps on small states. -/

open Sys2Proof Sys2Proof.Machine

namespace Sys2Proof.Tests

set_option Elab.async false

/-! ### Small states -/

/-- A descriptor from the values of its fields, each with the place of its lowest bit. -/
def dsc (l : List (Nat × Nat)) : Desc := BitVec.ofNat 512 (l.foldl (fun n p => n + p.2 * 2 ^ p.1) 0)

/-- The first command of queue 0 of context 0. -/
def id0 : CmdId := ⟨0, 0, 0⟩

/-- A released command with a descriptor's fields. -/
def cmd (l : List (Nat × Nat)) : Cmd :=
  { id := id0, desc := dsc l, phase := .released, retries := 0, abortReq := false, testing := none,
    failed := false, suspect := false, needs := [], errors := 0, tag := 1, rank := 1, latch := Latch.empty,
    verifying := false, onTime := false, half := none, spoilt := false, fillSpoilt := false, filled := false,
    mem := [], owed := [], admitted := true }

/-- The device in operation, with one command. -/
def dev (l : List (Nat × Nat)) : State :=
  { State.reset with
    cmds := [cmd l]
    pins := ⟨true, true, true, 1⟩ }

/-- A number written in stack memory. -/
def poke (s : State) (a n v : Nat) : State := { s with mem := s.mem.write a (toBytes n v) }

/-- Numbers written in stack memory: address, bytes, value. -/
def pokes (s : State) (l : List (Nat × Nat × Nat)) : State := l.foldl (fun t x => poke t x.1 x.2.1 x.2.2) s

/-- A number from the values of its fields, each with the place of its lowest bit. -/
def rcd (l : List (Nat × Nat)) : Nat := l.foldl (fun n p => n + p.2 * 2 ^ p.1) 0

/-! ### Well-formed commands -/

/-- A command of each check that breaks it. -/
def illFormed : List Instr :=
  [.nop ⟨64, 0, 0⟩, .copy ⟨0, 16, 0⟩, .tapUpdate ⟨0, 0, 2 ^ 32⟩, .flip 96, .versionRelease 64 0 0,
    .versionRelease 0 65536 0, .doorbellWrite 4 0 0 0 0 false, .doorbellWrite 0 9 0 0 0 false,
    .doorbellWrite 0 0 64 0 0 false, .doorbellWrite 0 0 0 16 0 false, .descriptorAdmission 64 0,
    .commandRelease 0 16, .contextResident 64,
    .paceWord 24 0, .sourceAdoption 0 0, .sourceAdoption 4 0, .maintenanceWindowOpen 8, .dataFragment 24 0 [] true,
    .laneErrorTrigger 24 ⟨0, 0, false⟩, .laneErrorTrigger 0 ⟨8, 0, true⟩,
    .errorDetected (.vector 0) none ⟨0x1002, some 0x14000⟩] ++
  [.hostLinkTrained 4 0 0, .perst 2, .flrContextFunction 4 1, .flrContextFunction 0 9, .lockInterface 4 0 0 [],
    .lockInterface 0 9 0 [], .lockInterface 0 0 64 [], .getVersion 4 0 [], .telemetryFrame 16 ⟨0, true⟩, .nmtStart 2 0,
    .nmtStart 0 128, .heartbeat 2, .sweepPage 64, .regulatorRefill 20, .cxlTspLock 4 0, .cxlTspLock 0 64] ++
  [.usdoRequest ⟨2, 0, 0⟩ 0 true 0 0 [], .usdoRequest ⟨0, 0, 0⟩ 128 true 0 0 [],
    .usdoRequest ⟨0, 0, 0⟩ 0 true 65536 0 [], .usdoRequest ⟨0, 0, 0⟩ 0 true 0 256 [],
    .usdoRequest ⟨0, 4, 0⟩ 0 true 0 0 [], .usdoRequest ⟨0, 0, 3⟩ 0 true 0 0 [], .recorderRead (.can 2 0),
    .recorderRead (.can 0 128), .recorderRead (.mbx 4 0 0),
    .recorderRead (.mbx 0 9 0), .recorderRead (.mbx 0 0 64), .programData (.can 0 0) 0 [],
    .programControlVerify (.can 0 0) 6, .reloadDie (.can 0 0) 0 [], .reloadDie (.can 0 0) 41 [],
    .operatorKeyWrite (.can 0 0) 4 [], .partitionWrite (.can 0 0) 16 0 [], .partitionWrite (.can 0 0) 0 256 [],
    .dictionaryWrite (.can 0 0) 65536 0 [], .dictionaryWrite (.can 0 0) 0 256 [], .queueReload (.can 0 0) 64 []]

theorem test_ill_formed_commands_are_refused : (illFormed.all fun i => !wellFormed i) = true := by decide +kernel

theorem test_well_formed_commands_pass :
    ([.nop id0, .flip 95, .sourceAdoption 3 0, .partitionWrite (.can 1 127) 15 255 [],
      .operatorKeyWrite (.mbx 3 8 63) 3 []].all wellFormed) = true := by decide +kernel

theorem test_no_word_spells_a_command : decodeTableWord 8 0 = none := rfl
/-! ### Hypotheses met: the machine as a whole -/

theorem witness_idle : State.reset.pending = [] ∧ State.reset.server.transition = none := by decide +kernel

theorem witness_stores :
    (dev [(0, 0)]).memOk = true ∧ (dev [(0, 0)]).tabsOk = true ∧ step (dev [(0, 0)]) = .next (dev [(0, 0)]).tick :=
  ⟨by decide +kernel, by decide +kernel, rfl⟩

/-- A device whose core 3 is retired. -/
def worn : State := { dev [(0, 0)] with
  recorder := { Recorder.reset with dead := [⟨.stand 3, 0, 0⟩] } }

theorem witness_retired :
    (UnitId.stand 3).loc < 40 ∧ worn.retired (.stand 3) = true ∧ step worn = .next worn.tick :=
  ⟨by decide, by decide +kernel, rfl⟩

theorem witness_checks :
    Checks.first ⟨true, true, true, true⟩ true = some .invalid ∧
    Checks.first ⟨false, true, true, true⟩ true = some .accessDenied ∧
    Checks.first ⟨false, false, true, true⟩ true = some .paceLost ∧
    Checks.first ⟨false, false, true, true⟩ false = some .keyBusy ∧
    Checks.first ⟨false, false, false, true⟩ false = some .busy ∧
    Checks.first ⟨false, false, false, false⟩ false = none := by decide

theorem witness_interleave :
    (256 : Nat) < 2 ^ 40 ∧ (511 : Nat) < 2 ^ 40 ∧ State.reset.homeOf 256 = State.reset.homeOf 511 ∧
    327680 * (0 + 1) ≤ 2 ^ 40 ∧ (State.reset.homeOf (327680 * 0 + 256 * 7)).1 =
      (State.reset.homeOf (327680 * 0 + 256 * 7 + 255)).1 := by decide +kernel

/-- A device with a poisoned sector at 64. -/
def spoilt : State := { dev [(0, 0)] with pool := { Pool.reset with poison := [(2, true)] } }

theorem witness_write :
    spoilt.memOk = true ∧ spoilt.tabsOk = true ∧ oneSide 40 60 = true ∧ spoilt.keyed 40 60 = true ∧
    wholeSector 40 60 2 = true ∧ spoilt.poisoned ((40 + 0) / 32) = false ∧ (99 : Nat) < 40 + 60 ∧
    oneSide (hostBase - 4) 4 = true ∧ oneSide hostBase 4 = true ∧ oneSide (hostBase - 1) 2 = false := by
  decide +kernel

theorem test_whole_sector_clears_poison :
    Tab.get false (spoilt.devWrite 64 (List.replicate 32 7)).pool.poison 2 = false ∧
    Tab.get false (spoilt.devWrite 64 (List.replicate 31 7)).pool.poison 2 = true := by decide +kernel

/-! ### Hypotheses met: control commands -/

theorem witness_nop : (dev [(0, 0x00)]).runnable id0 (isOp 0x00) = some (cmd [(0, 0x00)]) := by decide +kernel

theorem witness_sync_set :
    (dev [(0, 0x02), (192, 5), (224, 9)]).tabsOk = true ∧
    (dev [(0, 0x02), (192, 5), (224, 9)]).runnable id0 (isOp 0x02) = some (cmd [(0, 0x02), (192, 5), (224, 9)]) ∧
    (dev [(0, 0x02), (192, 5), (224, 9)]).syncDead (fld (cmd [(0, 0x02), (192, 5), (224, 9)]).desc 207 192) = false ∧
    ({ dev [(0, 0x02)] with
        recorder := { Recorder.reset with dead := [⟨.die 0, 0, 0⟩] } }).syncDead 8191 = true := by decide +kernel

/-- ABORT of sequence number n of queue 1, released when that queue's producer index was 2. -/
def abortCmd (n : Nat) : Cmd :=
  { cmd [(0, 0x01), (192, n), (256, 1), (261, 0xFFFF)] with latch := { Latch.empty with range := 2 } }

/-- A device with that ABORT, the queue's producer index 2. -/
def aborting (n : Nat) : State :=
  let t := dev []
  let t := t.setQueue 0 1 { Queue.off with
    enabled := true
    producer := 2
    next := 1 }
  { t with cmds := [abortCmd n] }

theorem witness_abort (n : Nat) (hn : n = 0 ∨ n = 1 ∨ n = 2) :
    (aborting n).runnable id0 (isOp 0x01) = some (abortCmd n) ∧ (∀ w ∈ (aborting n).abortWaits, w.id ≠ id0) ∧
    (aborting n).isSelf (fld (abortCmd n).desc 276 261) = true ∧
    (aborting n).abortSet 0 1 n (abortCmd n).latch.range false (some id0) =
      (if n = 0 then .already else if n = 1 then .targets [⟨0, 1, 1⟩] else .invalid) := by
  rcases hn with rfl | rfl | rfl <;> decide +kernel

/-- CTX_PREEMPT of the issuing context at an angle. -/
def preempting : State := dev [(0, 0x03), (192, 65536), (240, 0xFFFF)]

theorem witness_preempt :
    preempting.tabsOk = true ∧
    preempting.runnable id0 (isOp 0x03) = some (cmd [(0, 0x03), (192, 65536), (240, 0xFFFF)]) ∧
    preempting.isSelf (fld (cmd [(0, 0x03), (192, 65536), (240, 0xFFFF)]).desc 255 240) = true ∧
    preempting.resident 0 = true ∧ (preempting.ctx 0).leaving = false := by decide +kernel

/-- CTRL_SAMPLE of OP op on group 3 with COUNT n and STATE st, with the list at address 4096 and a sample that
the group holds. -/
def sampling (op n st : Nat) : State :=
  { dev [(0, 0x04), (192, 4096), (245, n), (261, 3), (269, op), (271, st)] with
    samples := [⟨0, 3, 77, 1, 0, 0, 0⟩]
    obj := [(objKey 0x6000 10, some 2)] }

def sampleCmd (op n st : Nat) : Cmd := cmd [(0, 0x04), (192, 4096), (245, n), (261, 3), (269, op), (271, st)]

theorem witness_sample_open :
    (sampling 0 1 0).runnable id0 (sampleOp 0) = some (sampleCmd 0 1 0) ∧
    (sampling 0 1 0).devReadBad (fld (sampleCmd 0 1 0).desc 239 192) (8 * fld (sampleCmd 0 1 0).desc 260 245) = false ∧
    (sampling 0 1 0).samples.length + fld (sampleCmd 0 1 0).desc 260 245 ≤ 32768 ∧
    ((sampling 0 1 0).samples.filter fun x => decide (x.ctx = id0.ctx)).length + 1 ≤
      (sampling 0 1 0).objv (0x6000 + 0) 10 ∧
    (sampling 0 2 0).objv (0x6000 + 0) 10 <
      ((sampling 0 2 0).samples.filter fun x => decide (x.ctx = id0.ctx)).length + fld (sampleCmd 0 2 0).desc 260 245 := by
  decide +kernel

theorem witness_sample_rest :
    (sampling 1 0 2).runnable id0 (sampleOp 1) = some (sampleCmd 1 0 2) ∧
    (∀ x ∈ (sampling 1 0 2).groupOf 0 3, x.st < fld (sampleCmd 1 0 2).desc 273 271) ∧
    (∃ x ∈ (sampling 1 0 1).groupOf 0 3, fld (sampleCmd 1 0 1).desc 273 271 ≤ x.st) ∧
    (sampling 2 0 0).runnable id0 (sampleOp 2) = some (sampleCmd 2 0 0) ∧
    (sampling 3 1 0).runnable id0 (sampleOp 3) = some (sampleCmd 3 1 0) ∧
    ((sampling 3 1 0).groupOf 0 3).length ≤ fld (sampleCmd 3 1 0).desc 260 245 ∧
    (sampling 3 1 0).devWriteBad (fld (sampleCmd 3 1 0).desc 239 192) (32 * 1) = false ∧
    fld (sampleCmd 3 0 0).desc 260 245 < ((sampling 3 0 0).groupOf 0 3).length := by decide +kernel

theorem test_sample_open_lands :
    (match exec (.ctrlSampleOpen id0) (poke (sampling 0 1 0) 4096 8 99) with
      | .next t => t.samples.map fun x => (x.sid, x.st)
      | _ => []) = [(77, 1), (99, 1)] := by decide +kernel

/-! ### Hypotheses met: copies -/

/-- A COPY of two rows of 4 bytes from 1024 to 4096 by host die 0's engine. -/
def copyFields : List (Nat × Nat) :=
  [(0, 0x20), (192, 1024), (240, 4096), (288, 4), (328, 1), (344, 16), (376, 8)]

/-- A FILL of two rows of 4 bytes at 4096. -/
def fillFields : List (Nat × Nat) := [(0, 0x21), (192, 4096), (240, 4), (280, 1), (296, 8), (328, 0x04030201)]

theorem witness_copy :
    let s := dev copyFields
    let c := cmd copyFields
    let b := copyBody c.desc
    s.readyAt id0 (isOp 0x20) (fun s c => s.copyUnits (copyBody c.desc)) c ∧
    (∀ l ∈ s.copyLinks b, s.linkSecure l = true ∧ s.requestsFail 0 l = false) ∧
    s.regionsBad (b.src.map b.extent).toList = false ∧
    s.regionsWriteBad [b.extent b.dst] = false ∧ (b.src.map b.extent).toList.any (b.extent b.dst).meets = false ∧
    s.memOk = true ∧ s.tabsOk = true ∧ s.findCmd id0 = some c ∧
    (∀ i, i < b.rows → oneSide (b.dst.addr + i * b.dst.pitch) b.len = true ∧
      s.keyed (b.dst.addr + i * b.dst.pitch) b.len = true) ∧
    (b.extent b.dst).holds .dev 4103 = false ∧ (b.extent b.dst).holds .dev 4104 = true := by
  refine ⟨⟨?_, ?_, ?_⟩, ?_⟩ <;> decide +kernel

theorem witness_fill :
    let s := dev fillFields
    let c := cmd fillFields
    let b := fillBody c.desc
    s.readyAt id0 (isOp 0x21) (fun s c => s.copyUnits (fillBody c.desc)) c ∧
    (∀ l ∈ s.copyLinks b, s.linkSecure l = true ∧ s.requestsFail 0 l = false) ∧
    s.regionsWriteBad [b.extent b.dst] = false := by
  refine ⟨⟨?_, ?_, ?_⟩, ?_⟩ <;> decide +kernel

theorem test_fill_pattern :
    (match exec (.fill id0) (dev fillFields) with
      | .next t => t.devNum 4104 4
      | _ => 0) = 0x04030201 := by decide +kernel

theorem test_copy_rows :
    (match exec (.copy id0) (poke (dev copyFields) 1040 4 0xDDCCBBAA) with
      | .next t => t.devNum 4104 4
      | _ => 0) = 0xDDCCBBAA := by decide +kernel

theorem witness_bias :
    (dev [(0, 0x22), (192, 8192), (264, 1)]).tabsOk = true ∧
    (dev [(0, 0x22), (192, 8192), (264, 1)]).runnable id0 (isOp 0x22) =
      some (cmd [(0, 0x22), (192, 8192), (264, 1)]) ∧
    (dev [(0, 0x22), (192, 8192), (264, 1)]).mayFlush (dsc [(0, 0x22), (192, 8192), (264, 1)]) = true ∧
    ({ dev [(0, 0x22), (192, 8192), (264, 1)] with
        obj := [(objKey 0x2302 2, some 1), (objKey 0x6300 1, some 1)]
        links := [(0, { HostLink.down with up := true })] }).mayFlush (dsc [(0, 0x22), (192, 8192), (264, 1)]) =
      false := by decide +kernel

theorem witness_rotate :
    (dev [(0, 0x23)]).tabsOk = true ∧ (dev [(0, 0x23)]).runnable id0 (isOp 0x23) = some (cmd [(0, 0x23)]) ∧
    (dev [(0, 0x23)]).rotating 0 = false ∧ ((dev [(0, 0x23)]).keySlots 0).current ≤ 1 ∧
    ({ dev [(0, 0x23)] with pool := { Pool.reset with sweeps := [(0, ⟨true, 1, 0, none⟩)] } }).rotating 0 = true := by
  decide +kernel

/-! ### Hypotheses met: stands -/

/-- STAND_MATMUL of one BF16 row on core 0. -/
def matFields : List (Nat × Nat) := [(0, 0x40), (202, 2), (206, 2), (224, 1)]

/-- STAND_MATMUL_GEN of one BF16 row, its record at 64. -/
def genFields : List (Nat × Nat) := [(0, 0x41), (202, 2), (206, 2), (224, 1), (320, 64), (217, 1)]

/-- A device whose generator record at 64 has one tap of two bytes. -/
def genDev : State := { dev genFields with core := Mem.write [] 64 (toBytes 64 (rcd [(48, 2), (0, 1024)])) }

theorem witness_matmul :
    (dev matFields).standReady id0 (isOp 0x40) (cmd matFields) ∧ (dev matFields).tabsOk = true ∧
    (dev matFields).memOk = true ∧ (dev matFields).flipWaits (standCore (cmd matFields).desc) = none ∧
    (matBody (cmd matFields).desc).any (fun b => !b.flip && !b.gen) = true := by
  refine ⟨⟨?_, ?_, ?_, ?_⟩, ?_⟩ <;> decide +kernel

theorem witness_matmul_gen :
    genDev.standReady id0 (isOp 0x41) (cmd genFields) ∧ genDev.tabsOk = true ∧ genDev.memOk = true ∧
    genDev.flipWaits (standCore (cmd genFields).desc) = none ∧
    (matBody (cmd genFields).desc).any
      (fun b => b.flip && b.gen && (genDev.genRecord b).ok b.m b.k b.fm.bits) = true := by
  refine ⟨⟨?_, ?_, ?_, ?_⟩, ?_⟩ <;> decide +kernel

/-- STAND_ACC zeroing of one row, and a release, on core 0. -/
def zeroFields : List (Nat × Nat) := [(0, 0x43), (208, 1)]
def releaseFields : List (Nat × Nat) := [(0, 0x43), (202, 1)]

theorem witness_active_set :
    (dev zeroFields).findCmd id0 = some (cmd zeroFields) ∧
    ((dev zeroFields).stand (standCore (cmd zeroFields).desc)).half ≤ 1 ∧
    (matBody (cmd zeroFields).desc).all
      (fun b => decide (256 * b.accOff + b.m * b.w * accBytes b.fmtAcc ≤ 2 ^ 20)) = true ∧
    256 * fld (cmd zeroFields).desc 235 224 + fld (cmd zeroFields).desc 220 208 *
      standWidth (cmd zeroFields).desc * accBytes (fld (cmd zeroFields).desc 241 240) ≤ 2 ^ 20 ∧
    (0, 1) ≠ (standCore (cmd zeroFields).desc, ((dev zeroFields).stand (standCore (cmd zeroFields).desc)).half) := by
  decide +kernel

theorem witness_acc :
    (dev zeroFields).memOk = true ∧ (dev zeroFields).tabsOk = true ∧
    (dev zeroFields).standReady id0 (fun d => isOp 0x43 d && decide (fld d 203 202 = 0)) (cmd zeroFields) ∧
    (dev zeroFields).flipWaits (standCore (cmd zeroFields).desc) = none ∧
    (dev releaseFields).standReady id0 (fun d => isOp 0x43 d && decide (fld d 203 202 = 1)) (cmd releaseFields) ∧
    (dev releaseFields).drainsDone (cmd releaseFields) = true := by
  refine ⟨?_, ?_, ⟨?_, ?_, ?_, ?_⟩, ?_, ⟨?_, ?_, ?_, ?_⟩, ?_⟩ <;> decide +kernel

/-- A stand whose instruction waits for its flip, the shadow set released or not, in service or not. -/
def flipping (released retired : Bool) : State :=
  { dev matFields with
    stands := [(0, { Stand.fresh with
      flipPending := some id0
      released := released })]
    recorder := { Recorder.reset with dead := if retired then [⟨.stand 0, 0, 0⟩] else [] } }

theorem witness_flip (released : Bool) :
    (flipping released false).tabsOk = true ∧ (flipping released false).flipWaits 0 = some (cmd matFields) ∧
    (cmd matFields).testing = none ∧ (cmd matFields).suspect = false ∧ (cmd matFields).spoilt = false ∧
    (flipping released false).retired (.stand 0) = false ∧ ((flipping released false).stand 0).released = released ∧
    (flipping released false).power.clocksStopped = false ∧ (flipping released false).reloading (.stand 0) = false ∧
    (flipping released true).tabsOk = true ∧ (flipping released true).flipWaits 0 = some (cmd matFields) ∧
    (flipping released true).flipWaits 1 = none ∧
    (flipping released true).retired (.stand 0) = true := by
  cases released <;> decide +kernel

/-- STAND_DRAIN of one row of core 0 to 4096 in FP32. -/
def drainFields : List (Nat × Nat) := [(0, 0x42), (208, 1), (216, 1), (256, 4096), (304, 512)]

/-- A stand whose shadow set has been flipped in. -/
def drainDev : State := { dev drainFields with stands := [(0, { Stand.fresh with
  flipped := true
  released := false })] }

theorem witness_drain :
    drainDev.standReady id0 (fun d => isOp 0x42 d && (drainBody d).isSome) (cmd drainFields) ∧
    (drainDev.stand (standCore (cmd drainFields).desc)).flipped = true ∧
    (drainBody (cmd drainFields).desc).any (fun b => !b.rescale && !b.resEn && !drainDev.regionsWriteBad b.writes) =
      true ∧
    ((drainBody (cmd (drainFields ++ [(212, 1), (215, 1)])).desc).any fun b => b.rescale && b.resEn &&
      !rescaleBad (drainDev.num (.core b.core) b.rescaleAddr 32) &&
      !drainDev.regionsBad [.flat b.resPlace b.res (2 * b.m * b.w)]) = true ∧
    (drainBody (cmd (drainFields ++ [(256, 4)])).desc).any
      (fun b => ({ drainDev with pool := { Pool.reset with poison := [(128,
      true)] } }).regionsWriteBad b.writes) = true := by
  refine ⟨⟨?_, ?_, ?_, ?_⟩, ?_⟩ <;> decide +kernel

/-- A device whose stand 0 has lost a column group. -/
def narrow (l : List (Nat × Nat)) : State :=
  { dev l with recorder := { Recorder.reset with dead := [⟨.group 0 3, 0, 0⟩] } }

theorem witness_width (l : List (Nat × Nat))
    (h : l ∈ [matFields, genFields, drainFields, zeroFields, releaseFields]) :
    (narrow l).takesUnit (cmd l) = true ∧
    (narrow l).width (standCore (cmd l).desc) ≠ standWidth (cmd l).desc ∧
    (narrow l).runnable id0 (fun _ => true) = some (cmd l) ∧
    (narrow l).flipWaits (standCore (cmd l).desc) = none := by
  simp only [List.mem_cons, List.not_mem_nil, or_false] at h
  rcases h with rfl | rfl | rfl | rfl | rfl <;> decide +kernel

/-! ### Hypotheses met: vector engines -/

/-- The four vector commands on one element of core 0, FP32 to FP32. -/
def vecFields (op : Nat) : List (Nat × Nat) := [(0, op), (207, 1), (220, 1), (237, 1024), (384, 2048), (408, 4)]

theorem witness_vector (op : Nat) (h : op = 0x60 ∨ op = 0x61 ∨ op = 0x62 ∨ op = 0x63) :
    (dev (vecFields op)).readyAt id0 (isOp op) (fun _ c => [UnitId.vector (standCore c.desc)]) (cmd (vecFields op)) ∧
    (elemBody (cmd (vecFields 0x60)).desc).isSome = true ∧ (reduceBody (cmd (vecFields 0x61)).desc).isSome = true ∧
    (softBody (cmd (vecFields 0x62)).desc).isSome = true ∧ (convertBody (cmd (vecFields 0x63)).desc).isSome = true := by
  rcases h with rfl | rfl | rfl | rfl <;> exact ⟨⟨by decide +kernel, by decide +kernel, by decide +kernel⟩,
    by decide +kernel⟩

/-- A device whose vector engine 0 is retired. -/
def noVector (op : Nat) : State :=
  { dev (vecFields op) with recorder := { Recorder.reset with dead := [⟨.vector 0, 0, 0⟩] } }

theorem witness_retired_vector (op : Nat) (h : op = 0x60 ∨ op = 0x61 ∨ op = 0x62 ∨ op = 0x63) :
    (noVector op).retired (.vector (standCore (cmd (vecFields op)).desc)) = true ∧
    (noVector op).runnable id0 (isOp op) = some (cmd (vecFields op)) ∧
    (noVector op).retired (.stand (standCore (cmd (vecFields op)).desc)) = false := by
  rcases h with rfl | rfl | rfl | rfl <;> decide +kernel

theorem test_vec_elem_copies :
    ((elemBody (cmd (vecFields 0x60)).desc).bind fun b =>
      ({ dev (vecFields 0x60) with core := Mem.write [] 1024 (toBytes 4 0x3F800000) }).elemAt b 0 0) =
      some ⟨0x3F800000, false, false, false⟩ := by decide +kernel

/-! ### Hypotheses met: embedding engines -/

/-- A table record: rows rows of 32 bytes of FP32 at 65536, its reader object 7. -/
def tableRec (rows : Nat) : Nat := rcd [(224, 7), (176, 32), (96, rows), (0, 65536)]

/-- An installed current version of table 3 of context 0. -/
def ver (num : Nat) (current : Bool) : Version := ⟨0, 3, num, tableRec 4, current, if current then none else some 9⟩

/-- EMB_TABLE_INSTALL of table 3, its record at 4096, its release object 9. -/
def installFields (remove gated : Nat) : List (Nat × Nat) :=
  [(0, 0x80), (17, gated), (192, 4096), (240, 3), (250, remove), (256, 9)]

def installDev (gated : Nat) : State := poke (dev (installFields 0 gated)) 4096 64 (tableRec 4)

theorem witness_install :
    (installDev 0).tabsOk = true ∧
    (installDev 0).runnable id0 (fun d => isOp 0x80 d && !flag d 250) = some (cmd (installFields 0 0)) ∧
    ((installDev 0).install (cmd (installFields 0 0))).2 = .ok ∧ (installDev 0).versions = [] := by decide +kernel

/-- The same install gated, admitted and not released, its angle come. -/
def dueDev : State :=
  let t := installDev 1
  { t with
    cmds := [{ cmd (installFields 0 1) with
      phase := Phase.admitted
      onTime := true }]
    pace := { t.pace with mode := .locked } }

theorem witness_install_due :
    dueDev.tabsOk = true ∧
    (dueDev.cmds.any fun c => decide (dueDev.findCmd id0 = some c) && isOp 0x80 c.desc && !flag c.desc 250 &&
      dueDev.installDue c && dueDev.mayAct (notBefore c.desc, 2) && !dueDev.objectGone c.desc &&
      !dueDev.waitFault c.desc && decide ((dueDev.install c).2 = .ok)) = true := by decide +kernel

def removeDev : State := { dev (installFields 1 0) with versions := [ver 1 true] }

theorem witness_remove :
    removeDev.runnable id0 (fun d => isOp 0x80 d && flag d 250) = some (cmd (installFields 1 0)) ∧
    removeDev.currentVersion 0 (fld (cmd (installFields 1 0)).desc 249 240) = some (ver 1 true) ∧
    removeDev.versionsFull 0 (fld (cmd (installFields 1 0)).desc 249 240) = false ∧
    removeDev.isReader (fld (cmd (installFields 1 0)).desc 271 256) = false ∧
    (removeDev.setSync 7 ⟨1, false⟩).syncObj (ver 1 true).reader = ⟨1, false⟩ := by decide +kernel

def oldDev : State := { dev [(0, 0)] with versions := [ver 1 false] }

theorem witness_release_version :
    oldDev.tabsOk = true ∧ oldDev.findVersion 0 3 1 = some (ver 1 false) ∧ (ver 1 false).current = false ∧
    (ver 1 false).release = some 9 ∧ (oldDev.syncObj (ver 1 false).reader).value = 0 ∧
    oldDev.reloadingDie (9 / 8192) = false := by decide +kernel

/-- An admission pass of table 3: one bag of two entries, rows 2 and 2, of batch 5. -/
def admitFields (openPass : Nat) : List (Nat × Nat) :=
  [(0, 0x81), (192, 8192), (240, 8256), (336, 12288), (384, 8320), (432, 2), (453, 1), (474, openPass), (481, 5),
    (489, 3), (503, openPass)]

def admitDev (openPass : Nat) : State :=
  let t := pokes (dev (admitFields openPass)) [(8192, 8, 2), (8200, 8, 2), (8260, 4, 2), (8320, 2, 3)]
  { t with
    versions := [ver 1 true]
    batches := if openPass = 1 then [] else [⟨0, 5, [(3, 1)], [], 0, []⟩] }

theorem witness_admit_open :
    (admitDev 1).readyAt id0 (fun d => isOp 0x81 d && flag d 503) embUnits (cmd (admitFields 1)) ∧
    (admitDev 1).installsDue 0 = false ∧
    ((admitDev 1).took (cmd (admitFields 1))).openChecks 0 (admitBody (cmd (admitFields 1)).desc) = none ∧
    ((admitDev 1).took (cmd (admitFields 1))).holdsNeeded 0 (admitBody (cmd (admitFields 1)).desc) = [] ∧
    (admitDev 1).asksOf id0 = [] ∧ (admitDev 1).currentVersion 0 3 = some (ver 1 true) := by
  refine ⟨⟨?_, ?_, ?_⟩, ?_⟩ <;> decide +kernel

theorem witness_admit :
    (admitDev 0).readyAt id0 (fun d => isOp 0x81 d && !flag d 503) embUnits (cmd (admitFields 0)) ∧
    (admitDev 0).batch 0 5 = some ⟨0, 5, [(3, 1)], [], 0, []⟩ ∧
    (admitDev 0).boundVersion ⟨0, 5, [(3, 1)], [], 0, []⟩ 3 = some (ver 1 true) ∧
    (admitDev 0).devReadBad 8256 8 = false ∧ (admitDev 0).offsetsOk (admitBody (cmd (admitFields 0)).desc) = true ∧
    ((admitDev 0).reachChecks 0 ((admitDev 0).admitExtents (admitBody (cmd (admitFields 0)).desc)
      (ver 1 true).desc)).first false = none := by
  refine ⟨⟨?_, ?_, ?_⟩, ?_⟩ <;> decide +kernel

/-- EMB_BATCH_CLOSE of batch 5. -/
def closeDev : State := { dev [(0, 0x87), (192, 5)] with
  versions := [ver 1 true]
  batches := [⟨0, 5, [(3, 1)], [], 0, []⟩] }

theorem witness_batch_close :
    closeDev.readyAt id0 (isOp 0x87) (fun _ _ => []) (cmd [(0, 0x87), (192, 5)]) ∧
    closeDev.batchBusy (cmd [(0, 0x87), (192, 5)]) 5 = false ∧
    closeDev.batch 0 5 = some ⟨0, 5, [(3, 1)], [], 0, []⟩ := by
  refine ⟨⟨?_, ?_, ?_⟩, ?_⟩ <;> decide +kernel

/-- A completed pass of table 3 at 12288 with one bag of one entry, row 2. -/
def pass1 : Pass := ⟨3, 12288, 1, 1, false, true, false⟩

/-- A device with that pass in batch 5. -/
def passDev (l : List (Nat × Nat)) : State :=
  let t := pokes (dev l) [(12288, 4, 1), (12352, 16, 2 + 2 ^ 64), (12376, 4, 1)]
  { t with
    versions := [ver 1 true]
    batches := [⟨0, 5, [(3, 1)], [], 0, [pass1]⟩] }

def prefetchFields : List (Nat × Nat) := [(0, 0x82), (192, 16384), (261, 1), (282, 5), (290, 3)]
def gatherFields : List (Nat × Nat) :=
  [(0, 0x83), (192, 20480), (240, 32), (333, 1), (398, 1), (400, 1), (411, 5), (419, 3)]
def mergeFields : List (Nat × Nat) := [(0, 0x84), (192, 24576), (240, 32), (264, 28672), (360, 1), (362, 5), (370, 3)]
def combineFields : List (Nat × Nat) := [(0, 0x85), (192, 32768), (240, 36864)]

theorem witness_prefetch :
    (passDev prefetchFields).readyAt id0 (isOp 0x82) embUnits (cmd prefetchFields) ∧
    (passDev prefetchFields).passOf 0 (cmd prefetchFields).desc = some (ver 1 true, pass1) ∧
    ((passDev prefetchFields).prefetchLate 0 (cmd prefetchFields).desc (ver 1 true) pass1).first false = none ∧
    (prefetchRange (cmd prefetchFields).desc).filter (fun u => ((passDev prefetchFields).entry pass1 u).remote) = [] ∧
    (passDev prefetchFields).asksOf id0 = [] := by
  refine ⟨⟨?_, ?_, ?_⟩, ?_⟩ <;> decide +kernel

theorem witness_gather :
    (passDev gatherFields).readyAt id0 (isOp 0x83) embUnits (cmd gatherFields) ∧
    (passDev gatherFields).passOf 0 (cmd gatherFields).desc = some (ver 1 true, pass1) ∧
    (gatherBody (cmd gatherFields).desc).any (fun g =>
      decide (((passDev gatherFields).gatherLate 0 g (ver 1 true) pass1).first false = none) &&
        decide ((passDev gatherFields).gatherNeeds g pass1 = [0])) = true ∧
    ((passDev gatherFields).entry pass1 0).remote = false := by
  refine ⟨⟨?_, ?_, ?_⟩, ?_⟩ <;> decide +kernel

theorem witness_merge :
    (passDev mergeFields).readyAt id0 (isOp 0x84) embUnits (cmd mergeFields) ∧
    (passDev mergeFields).passOf 0 (cmd mergeFields).desc = some (ver 1 true, pass1) ∧
    (mergeBody (cmd mergeFields).desc).any (fun m =>
      decide (((passDev mergeFields).mergeLate 0 m (ver 1 true) pass1).first false = none) &&
        !(passDev mergeFields).regionsBad (State.mergeReads m pass1 (ver 1 true).desc.elems) &&
        !(passDev mergeFields).regionsWriteBad [(passDev mergeFields).mergeExtent m pass1 (ver 1 true).desc.elems]) =
      true := by
  refine ⟨⟨?_, ?_, ?_⟩, ?_⟩ <;> decide +kernel

/-- One empty merged list of table 3 at 40960, named at 32768. -/
def combineDev : State := pokes (dev combineFields) [(32768, 8, 40960), (40960, 64, rcd [(32, 8), (64, 3), (80, 1)])]

theorem witness_combine :
    combineDev.readyAt id0 (isOp 0x85) embUnits (cmd combineFields) ∧
    FC.ofCode (fld (cmd combineFields).desc 331 328) = some .fp32 ∧
    (Checks.all [combineDev.combineHeads (cmd combineFields).desc .fp32,
      combineDev.stackRegion 0 (combineDev.combineExtent (cmd combineFields).desc .fp32).addr
        (combineDev.combineExtent (cmd combineFields).desc .fp32).n 64,
      combineDev.combineSizes 0 (cmd combineFields).desc]).first false = none ∧
    combineDev.combineLists (cmd combineFields).desc = [40960] ∧
    combineDev.regionsBad [.flat .dev 32768 8, .flat .dev 40960 (combineDev.listHead 40960).size] = false ∧
    combineDev.regionsWriteBad [combineDev.combineExtent (cmd combineFields).desc .fp32] = false := by
  refine ⟨⟨?_, ?_, ?_⟩, ?_⟩ <;> decide +kernel

/-- A replica of table 3 of member 2, and a fetch of the rows of the list at 40960: row 1. -/
def replica : Version := { ver 1 true with raw := tableRec 4 + rcd [(212, 2), (240, 2)] }
def fetchFields : List (Nat × Nat) := [(0, 0x86), (192, 40960), (272, 3)]
def fetchDev (l : List Ask) : State :=
  let t := pokes (dev fetchFields) [(40960, 64, rcd [(0, 1), (32, 8), (64, 3), (80, 1)]), (41024, 16, 1 + 2 ^ 64)]
  { t with
    versions := [replica]
    membership := { t.membership with
      self := 1
      members := [1, 2] }
    asks := l }

/-- The owner's answer: its epoch, the fingerprint of its rows, and row 1. -/
def fetched : Ask := ⟨id0, 1, 2, 0, 1, [1], true, some (.ok, toBytes 16 (fpSum 0 0
  ((List.range 8).map fun k => (8 + k, 0)) * 2 ^ 64) ++ toBytes 32 0)⟩

theorem witness_fetch (l : List Ask) (h : l = [] ∨ l = [fetched]) :
    (fetchDev l).readyAt id0 (isOp 0x86) embUnits (cmd fetchFields) ∧
    (fetchDev l).currentVersion 0 3 = some replica ∧ replica.desc.kind = 2 ∧
    ((Checks.inv ((fetchDev l).listHead 40960).format.isNone).and
      ((fetchDev l).stackRegion 0 40960 ((fetchDev l).listHead 40960).size 1)).first false = none ∧
    (fetchDev l).devReadBad 40960 ((fetchDev l).listHead 40960).size = false ∧
    (fetchDev l).memberLost replica.desc.owner = false ∧ (fetchDev l).fetchList replica 40960 = [1] ∧
    (fetchDev l).asksOf id0 = l ∧
    ((fetchDev l).reachChecks 0 [.flat .dev (replica.desc.rowAddr 1) replica.desc.rowBytes]).first false = none := by
  rcases h with rfl | rfl <;> exact ⟨⟨by decide +kernel, by decide +kernel, by decide +kernel⟩, by decide +kernel⟩

theorem witness_fetch_ends :
    let s1 := (fetchDev [fetched]).took (cmd fetchFields)
    let t := (s1.landRows replica fetched).noteNeeds id0
    (((t.asksOf id0).filter fun x => decide (x.turn = fetched.turn)).head?.any fun x =>
      decide (x.print = t.turnPrint (cmd fetchFields) replica fetched.turn)) = true ∧ fetched.turn < 4 := by
  decide +kernel

/-! ### Hypotheses met: the taproot -/

/-- A region record in mode 0 of one FP32 parameter: header at 8192, state at 65536, working copy at 131072. -/
def regionRec : Nat := rcd [(96, 1), (328, 8192), (48, 131072), (0, 65536), (232, 0x322BCC77)]

/-- A device with that region at 4096, prepared, the flags of its header given. -/
def tapDev (l : List (Nat × Nat)) (flags : Nat) : State :=
  let t := pokes (dev l) [(4096, 64, regionRec), (8192, 64, flags + rcd [(128, fpSum 0 0 [(0, 0)])])]
  { t with regions := [⟨0, 8192, 4096, none⟩] }

def initFields (kind : Nat) : List (Nat × Nat) := [(0, 0xA0), (192, 4096), (240, 262144), (320, kind)]
def updFields (resume : Nat) : List (Nat × Nat) :=
  [(0, 0xA1), (192, 4096), (240, 262144), (384, 0x3F800000), (416, 0x3F800000), (452, resume)]
def verifyFields : List (Nat × Nat) := [(0, 0xA3), (192, 4096)]
def snapFields : List (Nat × Nat) := [(0, 0xA4), (192, 4096), (240, 262144)]

theorem witness_tap_init (kind : Nat) (h : kind = 0 ∨ kind = 1) :
    (tapDev (initFields kind) 0).tapReady id0 (fun d => isOp 0xA0 d && decide (fld d 321 320 = kind))
      (cmd (initFields kind)) ∧
    (match (tapDev (initFields kind) 0).initGeo (cmd (initFields kind)) with
      | .ok g => (tapDev (initFields kind) 0).enginesFree g (List.range g.grains)
      | .error _ => false) = true := by
  rcases h with rfl | rfl <;> exact ⟨⟨by decide +kernel, by decide +kernel⟩, by decide +kernel⟩

theorem witness_tap_update :
    (tapDev (updFields 0) 0).tapReady id0 (fun d => isOp 0xA1 d && decide (flag d 452 = false)) (cmd (updFields 0)) ∧
    (match (tapDev (updFields 0) 0).updJob (cmd (updFields 0)) with
      | .ok (some j) => (tapDev (updFields 0) 0).enginesFree j.g (j.cover.map (·.1)) &&
        !(tapDev (updFields 0) 0).jobBad (cmd (updFields 0)) j &&
        !(tapDev (updFields 0) 0).journalFull j.g (j.cover.map (·.1))
      | _ => false) = true := ⟨⟨by decide +kernel, by decide +kernel⟩, by decide +kernel⟩

theorem witness_tap_resume :
    (tapDev (updFields 1) (2 ^ 256)).tapReady id0 (fun d => isOp 0xA1 d && decide (flag d 452 = true))
      (cmd (updFields 1)) ∧
    (match (tapDev (updFields 1) (2 ^ 256)).updJob (cmd (updFields 1)) with
      | .ok (some j) => (tapDev (updFields 1) (2 ^ 256)).enginesFree j.g (j.cover.map (·.1)) &&
        !(tapDev (updFields 1) (2 ^ 256)).jobBad (cmd (updFields 1)) j &&
        !(tapDev (updFields 1) (2 ^ 256)).journalFull j.g (j.cover.map (·.1))
      | _ => false) = true := ⟨⟨by decide +kernel, by decide +kernel⟩, by decide +kernel⟩

theorem witness_tap_verify :
    (tapDev verifyFields 0).tapReady id0 (isOp 0xA3) (cmd verifyFields) ∧ (cmd verifyFields).verifying = false ∧
    (match (tapDev verifyFields 0).openTap (cmd verifyFields) (fun h => if hdrPending h then some .busy else none) with
      | .yes g h => !g.r.isTable &&
        (tapDev verifyFields 0).enginesFree g ((g.cover ((tapDev verifyFields 0).verifyParams g 0)).map (·.1)) &&
        !(((tapDev verifyFields 0).verifyParams g 0).any fun n => (tapDev verifyFields 0).devReadBad (g.workAt n) g.size) &&
        decide ((tapDev verifyFields 0).printOf g (hdrEpoch h) ((tapDev verifyFields 0).verifyParams g 0) = hdrPrint h)
      | _ => false) = true := ⟨⟨by decide +kernel, by decide +kernel⟩, by decide +kernel⟩

theorem witness_tap_snapshot :
    let s := tapDev snapFields (2 ^ 259)
    let g := s.snapGeo (cmd snapFields)
    s.runnable id0 (isOp 0xA4) = some (cmd snapFields) ∧ s.tapFull (cmd snapFields) = false ∧
    s.enginesFree g (List.range g.grains) = true ∧ s.snapLost g = false ∧ hdrLost (s.tapHeader g.r.hdr) = false ∧
    s.regionsBad g.workExtents = false := by decide +kernel

/-- TAP_SCHED of a record at 4096 for slot 2, released or gated and due. -/
def schedFields (op gated : Nat) : List (Nat × Nat) :=
  [(0, 0xA2), (17, gated), (192, if op = 0 then 4096 else 0), (240, if op = 0 then 0 else 5), (304, 2), (307, op)]

/-- An installing command, released or due, with the record that was read at its fetch. -/
def schedCmd (gated : Nat) : Cmd :=
  { cmd (schedFields 0 gated) with
    latch := { Latch.empty with record := some 77 }
    phase := if gated = 1 then Phase.admitted else .released
    onTime := decide (gated = 1) }

def schedNow : State := { dev (schedFields 0 0) with cmds := [schedCmd 0] }

def schedDue : State :=
  let t := dev (schedFields 0 1)
  { t with
    cmds := [schedCmd 1]
    pace := { t.pace with mode := .locked } }

theorem witness_sched_install :
    schedNow.runnable id0 (schedOp 0) = some (schedCmd 0) ∧ schedNow.tapFull (schedCmd 0) = false ∧
    schedNow.pace.mode.lost = false ∧ schedNow.tabsOk = true ∧ (schedCmd 0).latch.record = some 77 ∧
    schedDue.tabsOk = true ∧ schedDue.findCmd id0 = some (schedCmd 1) ∧ schedOp 0 (schedCmd 1).desc = true ∧
    schedDue.installDue (schedCmd 1) = true ∧ schedDue.mayAct (notBefore (schedCmd 1).desc, 3) = true ∧
    notBefore (schedCmd 1).desc = strideAngle schedDue.pace.stride ∧ schedDue.objectGone (schedCmd 1).desc = false ∧
    schedDue.waitFault (schedCmd 1).desc = false ∧ (schedCmd 1).latch.record = some 77 := by decide +kernel

/-- A host step for stride 5, at an angle. -/
def hostStep (stride : Nat) : State :=
  let t := dev (schedFields 1 0)
  { t with pace := { t.pace with
    mode := .locked
    stride := stride } }

theorem witness_host_step :
    (hostStep 4).runnable id0 (schedOp 1) = some (cmd (schedFields 1 0)) ∧ (hostStep 4).pace.mode.lost = false ∧
    (hostStep 4).tapFull (cmd (schedFields 1 0)) = false ∧ (hostStep 4).mayAct (strideAngle (hostStep 4).pace.stride,
    4) = true ∧
    atOrAfter (hostStep 4).angle (mkAngle (5 + 2 ^ 32 - 1) 0x8000) = false ∧
    (mkAngle 5 0 - (hostStep 4).angle).toNat ≤ 2 ^ 40 ∧
    ((((hostStep 4).sched 0 2).host.filter fun h => decide (h.1 ≠ 5)).filter
      fun h => !reached32 (hostStep 4).pace.stride h.1).length < 16 ∧
    (hostStep 5).runnable id0 (schedOp 1) = some (cmd (schedFields 1 0)) ∧
    atOrAfter (hostStep 5).angle (mkAngle (5 + 2 ^ 32 - 1) 0x8000) = true ∧
    (hostStep 4).pace.mode ≠ .unlocked ∧ (hostStep 4).tabsOk = true := by decide +kernel

theorem test_publish_fixes_the_step :
    (match exec .strideStepSizePublish ((hostStep 5).setSched 0 2 ⟨[], none, [(5, 77), (6, 88)]⟩) with
      | .next t => (t.sched 0 2).latched
      | _ => none) = some (5, 77) := by decide +kernel

/-! ### Hypotheses met: collectives and sequences -/

/-- A collective of context 0 and tag 9, begun or not, with the parts it has. -/
def coll (begun : Bool) (ps : List CollPart) : Coll := ⟨some id0, 0, 9, 0, begun, 0, 0, ps, false, [], [], (0, 0)⟩

def collFields (op mode : Nat) : List (Nat × Nat) := [(0, op), (192, 9), (496, mode)]

def collDev (op mode : Nat) (begun : Bool) : State := { dev (collFields op mode) with colls := [coll begun []] }

theorem witness_collective (op mode : Nat)
    (h : (op, mode) ∈ [(0xC0, 0), (0xC0, 1), (0xC1, 0), (0xC2, 0), (0xC3, 0), (0xC4, 0)]) :
    (collDev op mode true).collReady id0 (fun d => isOp op d && (decide (op ≠ 0xC0) || decide (flag d 496 = (mode == 1))))
      (cmd (collFields op mode)) (coll true []) ∧
    (collDev op mode true).groupLost (cmd (collFields op mode)).desc = false ∧
    (collDev op mode true).collGone (cmd (collFields op mode)).desc = false ∧
    (collDev op mode false).runnable id0 isCollective = some (cmd (collFields op mode)) ∧
    (collDev op mode false).groupLost (cmd (collFields op mode)).desc = false ∧
    (collDev op mode false).collGone (cmd (collFields op mode)).desc = false ∧
    (collDev op mode false).collOf id0 = some (coll false []) := by
  simp only [List.mem_cons, List.not_mem_nil, or_false, Prod.mk.injEq] at h
  rcases h with ⟨rfl, rfl⟩ | ⟨rfl, rfl⟩ | ⟨rfl, rfl⟩ | ⟨rfl, rfl⟩ | ⟨rfl, rfl⟩ | ⟨rfl, rfl⟩ <;>
    exact ⟨⟨by decide +kernel, by decide +kernel, rfl⟩, by decide +kernel⟩

/-- A pass of one step of 8 bytes from member 1 to slot 4096, its data received. -/
def passFields : List (Nat × Nat) := [(0, 0xC2), (192, 9), (264, 16), (344, 8), (416, 0xFFFF), (432, 1), (480, 1)]
def landed : CollPart := ⟨1, 0, 0, true, 0, toBytes 16 0xABCD⟩

theorem witness_landing :
    ({ dev passFields with colls := [coll true [landed]] }).collReady id0 (isOp 0xC2) (cmd passFields)
      (coll true [landed]) ∧
    ({ dev passFields with colls := [coll true [landed]] }).groupLost (cmd passFields).desc = false ∧
    ({ dev passFields with colls := [coll true [landed]] }).collGone (cmd passFields).desc = false ∧
    (coll true [landed]).step < (passBody (cmd passFields).desc).steps ∧
    (dev passFields).mayLand (cmd passFields) (coll true [landed]) (passBody (cmd passFields).desc) = true ∧
    (coll true [landed]).stepData (passBody (cmd passFields).desc).recv 0 = some (toBytes 16 0xABCD) :=
  ⟨⟨by decide +kernel, by decide +kernel, rfl⟩, by decide +kernel⟩

/-- GEN_SEQ on slot 6: one row of 32 bytes from or to address 256 of core 0. -/
def seqFields (op : Nat) : List (Nat × Nat) := [(0, 0xC5), (199, 256), (223, 1), (236, 6), (249, op)]

/-- A slot of context 0 with room for four rows whose page list at 4096 names 131072, two rows in it. -/
def slot6 : SeqSlot := ⟨true, 0, 2, 4, 32, 4096⟩
def seqDev (op : Nat) (opened : Bool) : State :=
  let t := poke (dev (seqFields op)) 4096 8 131072
  if opened then { t with seqs := [(6, slot6)] } else t

theorem witness_sequence (op : Nat) (opened : Bool) (h : op = 0 ∨ op = 1 ∨ op = 2 ∨ op = 3) :
    (seqDev op opened).readyAt id0 (seqOp op) (fun _ _ => []) (cmd (seqFields op)) ∧
    (seqDev op opened).seqBusy (cmd (seqFields op)) = false ∧
    ((seqDev op opened).seqSlot (seqOf (cmd (seqFields op)).desc)).opened = opened := by
  rcases h with rfl | rfl | rfl | rfl <;> cases opened <;>
    exact ⟨⟨by decide +kernel, by decide +kernel, by decide +kernel⟩, by decide +kernel⟩

theorem witness_sequence_rows :
    (seqDev 1 true).regionsBad [slot6.entries 2 1] = false ∧ (seqDev 2 true).regionsBad [slot6.entries 0 1] = false ∧
    ((seqDev 1 true).seqChecks 0 slot6 2 1 4 256).first false = none ∧
    (seqDev 1 true).regionsWriteBad ((seqDev 1 true).seqExtents slot6 2 1) = false ∧
    ((seqDev 2 true).seqChecks 0 slot6 0 1 2 256).first false = none ∧
    (seqDev 2 true).regionsBad ((seqDev 2 true).seqExtents slot6 0 1) = false ∧
    (seqDev 2 true).regionsWriteBad [.flat (.core 0) 256 32] = false ∧
    ({ slot6 with ctx := 1 } : SeqSlot).ctx ≠ id0.ctx := by decide +kernel

theorem test_sequence_append_moves_position :
    (match exec (.genSeqAppend id0) (seqDev 1 true) with
      | .next t => (t.seqSlot 6).pos
      | _ => 0) = 3 := by decide +kernel

/-! ### Hypotheses met: from doorbell to record -/

/-- A device whose queue 0 of context 0 is in use with its rings at 4096 and 8192, on link 0's function 1. -/
def queueDev : State :=
  let t := { dev [] with
    cmds := []
    links := [(0, { HostLink.down with up := true })] }
  t.setQueue 0 0 { Queue.off with
    enabled := true
    ringBase := 4096
    compBase := 8192
    cqHead := 12288
    producer := 1 }

/-- The same while a die is reloaded. -/
def paused (die : Nat) : State := { queueDev with server := { queueDev.server with reload := some die } }

theorem witness_signal :
    queueDev.tabsOk = true ∧ queueDev.reloadingDie (5 / 8192) = false ∧ queueDev.linkServes 0 = true ∧
    queueDev.reloadingDie (16 + 0 / 2) = false ∧ (paused 0).reloadingDie (5 / 8192) = true ∧
    (paused 16).linkServes 0 = true ∧ (paused 16).reloadingDie (16 + 0 / 2) = true ∧
    queueDev.doorbellOk (queueDev.boundTo 0).1 (queueDev.boundTo 0).2 0 false = true ∧ (queueDev.boundTo 0).1 = 0 ∧
    queueDev.doorbellOk 0 8 0 false = false ∧ (queueDev.queue 0 0).enabled = true ∧ (queueDev.queue 0 0).dbKind = 0 ∧
    reached32 (1 % 2 ^ 32) (queueDev.queue 0 0).producer = true ∧
    reached32 ((1 + 2 ^ 31 - 1) % 2 ^ 32) (queueDev.queue 0 0).producer = true ∧
    reached32 ((1 + 2 ^ 31) % 2 ^ 32) (queueDev.queue 0 0).producer = false := by decide +kernel

theorem witness_admission :
    queueDev.tabsOk = true ∧ queueDev.mayFetch 0 0 = true ∧ queueDev.devReadBad 4096 64 = false ∧
    queueDev.admits ⟨0, 0, 0⟩ (BitVec.ofNat 512 (queueDev.devNum 4096 64)) = some .invalid ∧
    (poke queueDev 4096 64 (rcd [(176, 0xFFFF)])).admits ⟨0, 0, 0⟩ (dsc [(176, 0xFFFF)]) = none ∧
    queueDev.doomed ⟨0, 0, 0⟩ = false ∧
    ({ queueDev with abortWaits := [⟨⟨0, 1, 0⟩, [⟨0, 0, 0⟩], false, none, 0⟩] }).doomed ⟨0, 0, 0⟩ = true := by
  decide +kernel

/-- A queue's first command, admitted, with a wait on object 5 for value 1, the object's state given. -/
def waitFields : List (Nat × Nat) := [(18, 1), (80, 5), (96, 1), (176, 0xFFFF)]
def headDev (value : Nat) (fault : Bool) : State :=
  let t := queueDev.setSync 5 ⟨value, fault⟩
  { t with cmds := [{ cmd waitFields with
    phase := Phase.admitted
    rank := 0 }] }

theorem witness_head (value : Nat) (fault : Bool) (h : value = 0 ∨ value = 1) :
    let s := headDev value fault
    let c : Cmd := { cmd waitFields with
      phase := Phase.admitted
      rank := 0 }
    s.head 0 0 = some c ∧ s.takesWork = true ∧ s.mgmt.stopped = false ∧ s.releases? 0 = true ∧
    s.objectGone c.desc = false ∧ s.gateOpen c.desc = true ∧ s.waitMet c.desc = decide (value = 1) ∧
    s.waitFault c.desc = fault ∧ s.inTurn c = true ∧ s.releasePaused c.desc = false ∧
    (paused 0).releasePaused (dsc matFields) = true ∧
    ({ s with recorder := { s.recorder with dead := [⟨.die 0, 0, 0⟩] } }).objectGone c.desc = true := by
  rcases h with rfl | rfl <;> cases fault <;> decide +kernel

/-- A finished command of that queue. -/
def doneDev : State := { queueDev with cmds := [{ cmd [(176, 0xFFFF)] with phase := Phase.finished .ok }] }

theorem witness_record :
    doneDev.tabsOk = true ∧ doneDev.findCmd id0 = some { cmd [(176, 0xFFFF)] with phase := Phase.finished .ok } ∧
    doneDev.pins.ready = true ∧ doneDev.mgmt.stopped = false ∧ doneDev.recordFree 0 0 = true ∧
    doneDev.framesHeld { cmd [(176, 0xFFFF)] with phase := Phase.finished .ok } = false ∧
    id0.queue < 16 ∧ (doneDev.queue 0 0).phase ≤ 1 := by decide +kernel

theorem test_record_bytes :
    ofBytes (doneDev.recordOf { cmd [(176, 0xFFFF)] with retries := 300 } .retriedOk) =
      2 ^ 32 + Status.retriedOk.code * 2 ^ 56 + 255 * 2 ^ 64 := by decide +kernel

/-- A device whose copy engines are retired. -/
def copyUnitsGone : State :=
  { dev [] with recorder := { Recorder.reset with dead := [⟨.copyEngine 0, 0, 0⟩, ⟨.copyEngine 1, 0, 0⟩] } }

theorem witness_safe_point (op : Nat) (h : op = 0x20 ∨ op = 0x22) :
    let c : Cmd := { cmd [(0, op)] with abortReq := true }
    let s : State := { dev [] with cmds := [c] }
    s.findCmd id0 = some c ∧ c.abortReq = true ∧ c.phase = .released ∧ noSafePoint c.desc = decide (op = 0x22) ∧
    c.testing = none ∧ s.tapIdle c = false ∧ s.pastSafe c = false ∧ (s.unitsFor c).any s.retired = false ∧
    s.collGone c.desc = false ∧ s.tapStop c = none ∧ c.needs.any s.memberGone = false ∧ c.suspect = false ∧
    ({ c with needs := [7] } : Cmd).needs.any s.memberGone = true ∧
    (copyUnitsGone.unitsFor c).any copyUnitsGone.retired = decide (op = 0x20) := by
  rcases h with rfl | rfl <;> decide +kernel

/-- An update by the angle, its pace lost, that is to stop. -/
def lostUpdate : Cmd :=
  { cmd (updFields 0) with
    desc := dsc [(0, 0xA1), (192, 4096), (240, 262144), (416, 0x3F800000)]
    latch := { Latch.empty with lost := true }
    abortReq := true }

theorem witness_safe_point_pace_lost :
    let s : State := { tapDev (updFields 0) 0 with cmds := [lostUpdate] }
    s.findCmd id0 = some lostUpdate ∧ lostUpdate.phase = .released ∧ lostUpdate.testing = none ∧
    noSafePoint lostUpdate.desc = false ∧ s.pastSafe lostUpdate = false ∧
    (s.unitsFor lostUpdate).any s.retired = false ∧ s.collGone lostUpdate.desc = false ∧
    s.tapStop lostUpdate = some .paceLost := by decide +kernel

/-- A finished command whose record is held, no room being left in its ring. -/
def heldDev : State :=
  let t := poke doneDev 12288 4 0
  { t.setQueue 0 0 { t.queue 0 0 with slot := 16 } with
    cmds := [{ cmd [(176, 0xFFFF)] with
      phase := Phase.finished .ok
      abortReq := true }] }

theorem witness_held_record :
    (heldDev.findCmd id0).map (fun c => (c.abortReq, c.phase, c.rank)) = some (true, .finished .ok, 1) ∧
    heldDev.recordFree 0 0 = false ∧ doneDev.recordFree 0 0 = true := by decide +kernel

/-! ### Hypotheses met: contexts -/

/-- Context 1 defined, with a command, not resident; context 0 leaves or stays. -/
def ctxDev (leaving : Bool) : State :=
  { dev [] with
    now := 10 ^ 9
    cmds := [{ cmd [] with
      id := ⟨1, 0, 0⟩
      phase := Phase.admitted }]
    ctxs := [(0, { Ctx.off with
      slot := some 0
      leaving := leaving
      yieldAt := [0] })]
    obj := [(objKey 0x6000 8, some 5), (objKey 0x6001 3, some 1), (objKey 0x6001 4, some 4096)] }

/-- The same with no context resident. -/
def enterDev : State := { ctxDev false with ctxs := [] }

theorem witness_enter :
    enterDev.tabsOk = true ∧ enterDev.freeSlots = [0, 1, 2, 3, 4, 5, 6, 7] ∧ enterDev.isWaiting 1 = true ∧
    enterDev.mayEnter 1 = true ∧ (enterDev.earlier 1).any enterDev.mayEnter = false := by decide +kernel

theorem witness_leave :
    (ctxDev false).resident 0 = true ∧ (ctxDev false).objv (0x6000 + 0) 8 ≠ 0 ∧
    ((ctxDev false).ctx 0).since + 1000 * (ctxDev false).objv (0x6000 + 0) 8 ≤ (ctxDev false).now ∧
    0 ∈ ((ctxDev false).ctx 0).yieldAt ∧ ((ctxDev false).ctx 0).leaving = false ∧
    (ctxDev false).pace.mode.running = false ∧ (ctxDev true).tabsOk = true ∧ (ctxDev true).resident 0 = true ∧
    ((ctxDev true).ctx 0).leaving = true ∧ (ctxDev true).stillRuns 0 = false ∧ (ctxDev true).grantTested 0 = false ∧
    ((ctxDev true).ctx 0).leaveAt + 1000 * (ctxDev true).objv 0x6101 1 ≤ (ctxDev true).now := by decide +kernel

/-- Context 0 holds its slot without work while context 1 waits for the same cores. -/
theorem witness_evict :
    0 ∈ (ctxDev false).evictions ∧ ((ctxDev false).ctx 0).leaving = false ∧ (ctxDev false).tabsOk = true := by
  decide +kernel

/-! ### Hypotheses met: the stride angle -/

/-- The pace locked to a source, a period of 1,000 ns, a phase late or early in it. -/
def locked (source t : Nat) : State :=
  { dev [] with
    now := 5000 + t
    pace := { Pace.reset with
      mode := .locked
      source := source
      stride := 41
      t64 := 64 * t
      that := 1000
      lastEdge := 5000 }
    ports := [(2, { Port.down with up := true })]
    obj := [(objKey 0x5100 1, some 1), (objKey 0x5100 2, some 2), (objKey 0x5100 3, some 3)] }

theorem witness_boundary (source : Nat) (h : source = 1 ∨ source = 2 ∨ source = 3) :
    (locked source 1000).pins.resetN = true ∧ (locked source 1000).pace.mode = .locked ∧
    (locked source 1000).pace.pendCount = none ∧ (locked source 1000).pace.source = source ∧
    3 ∈ (locked source 1000).sourceList ∧ (locked source 1000).portUp 2 = true ∧
    bits ((42 : BitVec 128) <<< 96).toNat 71 68 ≤ 8 ∧
    (locked source 1000).pace.lastWord ≠ some (bits ((42 : BitVec 128) <<< 96).toNat 127 96) ∧
    0xF000 ≤ (locked source 1000).pace.phase ∧
    16 * ((locked source 1000).now - 0 - (locked source 1000).pace.lastEdge) ≤ 17 * (locked source 1000).pace.that ∧
    (locked source 100).pace.phase < 0xF000 ∧ (locked source 100).pace.glitchRun ≠ 3 ∧
    (locked source 100).pace.lastEdge ≠ (locked source 100).now - 0 := by
  rcases h with rfl | rfl | rfl <;> decide +kernel

theorem test_pace_boundary_steps :
    (match exec .paceBoundary (locked 1 1000) with
      | .next t => t.angle
      | _ => 0) = mkAngle 42 0 := by decide +kernel

theorem witness_generator_locks :
    let s : State := { locked 3 0 with pace := Pace.reset }
    3 ∈ s.sourceList ∧ s.pins.resetN = true ∧ s.pace.mode = .unlocked ∧ s.pace.pendCount = none ∧
    ∀ b ∈ s.sourceList, s.outranks b 3 = true → s.sourceLive b = false := by decide +kernel

/-- A boundary taken from the word 0 that port 5 brought over eight hops. -/
def wordDev : State := { locked 2 0 with
  pace := { (locked 2 0).pace with
    lastWord := some 0
    hop := 8
    port := 5
    cand := [(2, [5000])] } }

theorem witness_pace_word :
    (locked 2 0).portUp 3 = false ∧ wordDev.portUp 2 = true ∧
    8 < bits ((9 : BitVec 128) <<< 68).toNat 71 68 ∧ bits ((8 : BitVec 128) <<< 68).toNat 71 68 ≤ 8 ∧
    wordDev.pace.lastWord = some (bits ((8 : BitVec 128) <<< 68).toNat 127 96) ∧
    (bits ((8 : BitVec 128) <<< 68).toNat 71 68 = wordDev.pace.hop ∧ 2 < wordDev.pace.port) ∧
    ¬ (8 < wordDev.pace.hop ∨ (8 = wordDev.pace.hop ∧ 6 < wordDev.pace.port)) ∧ wordDev.pace.source = 2 ∧
    wordDev.pace.mode = .locked ∧ (wordDev.pace.times 2).getLast? = some wordDev.pace.lastEdge := by
  decide +kernel

/-- Holdover 900 ns after the last edge, source 1 lost, three good boundaries of source 2 noted. -/
def holding (t : Nat) : State :=
  let s := locked 1 t
  { s with pace := { s.pace with
    mode := .holdover
    cand := [(2, [5000 + t - 3000, 5000 + t - 2000, 5000 + t - 1000])] } }

theorem witness_holdover :
    (locked 1 1063).pace.mode = .locked ∧
    17 * (locked 1 1063).pace.that ≤ 16 * ((locked 1 1063).now - (locked 1 1063).pace.lastEdge) ∧
    (locked 1 0).pace.source = 1 ∧ (holding 1000).pace.mode = .holdover ∧ 0 < (holding 1000).pace.that ∧
    64 * (holding 1000).pace.that ≤ (holding 1000).pace.t64 ∧
    (let s := ({ holding 0 with pace := { (holding 0).pace with stride := 41 + 1 + (holding 0).objv 0x5104 0 } } : State)
     atOrAfter s.angle (strideAngle (s.pace.lastStride + 1 + s.objv 0x5104 0)) = true) ∧
    (holding 1000).pins.resetN = true ∧ 2 ∈ (holding 1000).sourceList ∧ 2 ≠ (holding 1000).pace.source ∧
    ({ holding 1000 with pace := (holding 1000).pace.note 2 (holding 1000).now } : State).highestSource 2 = true ∧
    (42 : BitVec 32).toNat = (holding 1000).pace.nearStride 0 ∧ ((holding 1000).pace.offset 0).natAbs ≤ 2000 := by
  decide +kernel

/-- Window 0 from angle 0, one stride long, and the calendar at a time. -/
def windowDev (stride ns rejects : Nat) (pend : Option Nat) : State :=
  { locked 1 0 with
    pace := { (locked 1 0).pace with stride := stride }
    obj := [(objKey 0x5110 2, some 65536), (objKey 0x5110 4, some 1)]
    cal := { Calendar.reset with
      ns := ns
      rejects := rejects
      pend := pend } }

/-- The same with the window open. -/
def openWindow (stride : Nat) : State :=
  { windowDev stride 0 0 none with windows := [true, false, false, false, false, false, false, false] }

theorem witness_window :
    let s := windowDev 0 0 0 none
    let t := openWindow 1
    0 < s.windows.length ∧ s.pace.mode.running = true ∧ s.inWindow 0 = true ∧
    s.mayAct (s.windowStart 0 (s.windowTurn 0), 9) = true ∧ 0 < t.windows.length ∧ t.inWindow 0 = false ∧
    t.windows[0]? = some true ∧ t.mayAct (t.windowEnd 0, 8) = true := by decide +kernel

theorem witness_pps :
    let off := fun (s : State) =>
      let near := (s.cal.ns + 500000000) / 1000000000 * 1000000000
      (s.cal.ns - near) + (near - s.cal.ns)
    (windowDev 0 0 0 (some 7)).cal.pend = some 7 ∧ (windowDev 0 100000 0 none).cal.pend = none ∧
    off (windowDev 0 100000 0 none) ≤ 100000 ∧ 100000 < off (windowDev 0 100001 2 none) ∧
    (windowDev 0 100001 2 none).cal.rejects < 3 ∧ 3 ≤ (windowDev 0 100001 3 none).cal.rejects := by decide +kernel

/-! ### Hypotheses met: frames -/

/-- A frame of a kind from member 5, of context 0. -/
def frm (kind addr : Nat) (body : List Byte) : Frame :=
  { kind := kind, ctx := 0, ttl := 16, tag := 7, src := 5, dst := 3, epoch := 1, addr := addr, cls := 1,
    port := 0, frags := 0, body := body }

/-- The device as member 3 with a frame in its inbox, block 0 of the objects owned by context 0. -/
def inDev (f : Frame) : State :=
  { dev [] with
    inbox := [f]
    queues := [(0, { Queue.off with
      enabled := true
      ringLog2 := 4
      next := 1
      producer := 1 })]
    obj := [(objKey 0x6100 1, some 0), (objKey 0x6100 2, some 1)]
    membership := { Membership.reset with
      epoch := 1
      self := 3
      members := [3, 5] } }

theorem witness_signal_frame :
    (inDev (frm 0x01 0 [])).inbox[0]? = some (frm 0x01 0 []) ∧ (inDev (frm 0x01 0 [])).owner 0 = 0 ∧
    (inDev (frm 0x01 0 [])).syncDead 0 = false ∧ (inDev (frm 0x01 256 [])).owner 256 ≠ 0 ∧
    ({ inDev (frm 0x01 0 []) with recorder := { Recorder.reset with dead := [⟨.die 0, 0,
    0⟩] } }).syncDead 0 = true := by
  decide +kernel

theorem witness_abort_notice :
    (inDev (frm 0x02 0 [])).isDefined 0 = true ∧ bits (ofBytes (([] : List Byte).take 8)) 39 32 < 16 ∧
    (inDev (frm 0x02 0 [])).abortSet 0 0 0 ((inDev (frm 0x02 0 [])).queue 0 0).producer false none = .targets [⟨0, 0,
    0⟩] := by decide +kernel

theorem witness_read_request :
    let s := inDev (frm 0x12 0 (toBytes 4 64))
    s.inStack 0 64 = true ∧ s.ctxMem 0 0 64 = true ∧ s.devReadBad 0 64 = false ∧ s.devWriteBad 0 4 = false ∧
    ofBytes (toBytes 4 64) ≤ frameRoom ∧ frameRoom < frameRoom + 1 := by decide +kernel

theorem test_hold_and_rows_leave_the_inbox :
    (match exec (.preemptNotice 0) (inDev (frm 0x03 0 (toBytes 8 0))) with
      | .next t => t.inbox.length
      | _ => 9) = 0 := by decide +kernel

/-- A request of the command sent to member 5. -/
def sentAsk : Ask :=
  { cmd := id0, tag := 7, member := 5, engine := 0, turn := 0, rows := [], sent := true, reply := none }

/-- An abort sent there. -/
def sentAbort : AbortWait := { id := id0, targets := [], took := false, remote := some 5, tag := 9 }

/-- A device with both, and a frame that has come. -/
def askDev (f : Frame) : State :=
  { inDev f with
    asks := [sentAsk]
    abortWaits := [sentAbort] }

theorem witness_answers :
    let a := sentAsk
    let w := sentAbort
    let f := frm 0x34 0 (toBytes 4 7 ++ toBytes 1 Status.invalid.code)
    let g := frm 0x34 0 (toBytes 4 9 ++ toBytes 1 Status.invalid.code)
    a ∈ (askDev f).asks ∧ a.sent = true ∧ a.reply = none ∧ a.member = f.src ∧ a.tag = f.tag ∧
    Status.ofCode (bits (ofBytes (f.body.take 5)) 39 32) = some .invalid ∧
    a.tag = bits (ofBytes (f.body.take 5)) 31 0 ∧ (∀ b ∈ (askDev g).asks, b.tag ≠ w.tag) ∧
    w.tag = bits (ofBytes (g.body.take 5)) 31 0 ∧
    (askDev g).abortWaits.find? (fun y => decide (y.tag = w.tag ∧ y.remote = some g.src)) = some w := by
  decide +kernel

/-- A frame that cancels a released collective of another form. -/
def cancelFrame : Frame := frm 0x20 0 (toBytes 32 (2 ^ 96))

theorem witness_collective_frame :
    (({ inDev cancelFrame with colls := [⟨some id0, 0, 7, 1, true, 0, 0, [], false, [], [], (0, 0)⟩] }).takeColl
      cancelFrame).isSome = true := by decide +kernel

/-! ### Hypotheses met: Carust links -/

/-- The frame of a signal to this device, and its one fragment with the next SEQ. -/
def sig : Frame := { frm 0x01 0 (toBytes 8 1) with
  cls := 1
  port := 2
  ttl := 16 }

/-- That fragment. -/
def frag (last : Bool) : Frag :=
  { ((fragsOf sig).headD ⟨0, none, 0, 0, 0, true, true, []⟩) with last := last }

/-- The header of that fragment. -/
def fragHdr (last : Bool) : BitVec 64 := BitVec.ofNat 64 (dataHeader (frag last) 0 0 0)

/-- Port 2 in service, its partner member 5, one fragment held for replay. -/
def portDev : State :=
  { inDev (frm 0x01 0 []) with
    inbox := []
    ports := [(2, { Port.down with
      up := true
      mask := 0xFF
      trained := 0xFF
      replay := [frag true]
      echo := some 1
      partner := some ⟨5, 9, 0, 0, 1, 0xFF⟩
      codewords := 12
      split := [4, 4, 4]
      changes := [⟨0x7F, 12, true⟩] })] }

theorem witness_fragment (last : Bool) :
    portDev.tabsOk = true ∧ portDev.portUp 2 = true ∧ portDev.portUsable 2 = true ∧
    headerOk (fragHdr last).toNat = true ∧ (fragHdr last).toNat.testBit 11 = false ∧
    (frag last).payload.length = 16 * (bits (fragHdr last).toNat 15 12 + 1) ∧ portDev.backlog = [] ∧
    bits (fragHdr last).toNat 63 52 = (portDev.port 2).recvSeq ∧
    (fragHdr last).toNat.testBit 16 = last ∧ (fragHdr last).toNat.testBit 17 = true ∧
    parseFrame 1 2 (frag last).payload = some sig ∧ sig.dst = portDev.membership.self ∧
    (kindClass sig.kind).isSome = true ∧ portDev.acceptsFrame sig = true ∧
    headerOk ((fragHdr last).toNat + 2 ^ 52) = false ∧
    (portDev.port 2).replay.findIdx? (fun f => decide (f.seq = bits (0 : BitVec 128).toNat 11 0)) = some 0 := by
  cases last <;> decide +kernel

theorem test_fragment_arrives :
    (match exec (.dataFragment 2 (fragHdr true) (frag true).payload true) portDev with
      | .next t => t.inbox
      | _ => []) = [{ sig with frags := 1 }] := by decide +kernel

theorem witness_control_header :
    let h := BitVec.ofNat 64 ((portDev.port 2).controlHeader 0x06)
    headerOk h.toNat = true ∧ h.toNat.testBit 11 = true ∧ bits h.toNat 59 52 ≤ 0x06 ∧ headerOk (h.toNat + 1) = false ∧
    0x06 < bits (BitVec.ofNat 64 ((portDev.port 2).controlHeader 0x07)).toNat 59 52 ∧
    headerOk (BitVec.ofNat 64 ((portDev.port 2).controlHeader 0x07)).toNat = true := by decide +kernel

theorem witness_port_control :
    portDev.waiting = [] ∧ portDev.backlog = [] ∧ portDev.laneDue 2 = some 0 ∧
    (portDev.port 2).changes[0]? = some ⟨0x7F, 12, true⟩ ∧ { portDev with ports := [] }.laneDue 2 = none ∧
    (portDev.port 2).ready = none ∧ (0 : BitVec 128).toNat.testBit 18 = false ∧
    (2 ^ 18 : BitVec 128).toNat.testBit 18 = true ∧
    4 ≤ laneCount (0x7F &&& portDev.goodLanes 2) ∧ portDev.portOpen 2 = true ∧
    (portDev.port 2).echo = some (bits (2 ^ 96 : BitVec 128).toNat 127 96) ∧
    (let b := (2 ^ 96 + 1 * 2 ^ 64 + 5 * 2 ^ 48 : BitVec 128).toNat
     bits b 127 96 = portDev.membership.epoch ∧ bits b 95 64 ≠ portDev.membership.digest ∧
      bits b 63 48 ∉ portDev.membership.split) := by decide +kernel

/-- Port 2 has detected a signal 500 ms ago. -/
def trainDev : State := { dev [] with
  now := 500000007
  ports := [(2, { Port.down with trainStart := some 7 })] }

/-- Port 2 whose lanes have trained, its ECHO sent at time 7. -/
def echoDev : State := { trainDev with
  ports := [(2, { Port.down with
    trainStart := some 7
    echo := some 7
    ready := some ⟨0xFF, 100, 200⟩ })] }

theorem witness_echo_answer :
    echoDev.tabsOk = true ∧ echoDev.mayTrain 2 = true ∧ (echoDev.port 2).ready = some ⟨0xFF, 100, 200⟩ ∧
    (echoDev.port 2).echo = some (bits (7 * 2 ^ 96 : BitVec 128).toNat 127 96) ∧
    ((echoDev.port 2).trainStart.any fun t => decide (t + 500000000 ≤ echoDev.now)) = true := by decide +kernel

theorem witness_training (lanes : BitVec 8) (h : lanes = 0xFF ∨ lanes = 0x0F ∨ lanes = 0x07) :
    trainDev.tabsOk = true ∧ trainDev.mayTrain 2 = true ∧
    (∃ t ∈ (trainDev.port 2).trainStart, t + 500000000 ≤ trainDev.now) ∧
    (lanes.toNat &&& trainDev.goodLanes 2 = trainDev.goodLanes 2 ↔ lanes = 0xFF) ∧
    (4 ≤ laneCount (lanes.toNat &&& trainDev.goodLanes 2) ↔ lanes ≠ 0x07) ∧ (trainDev.port 2).ready = none ∧
    ((trainDev.port 2).trainStart.all fun t => decide (t ≤ trainDev.now)) = true ∧
    trainDev.objv 0x5208 4 + trainDev.objv 0x5208 5 + trainDev.objv 0x5208 6 = 65280 ∧
    portDev.tabsOk = true ∧ portDev.mayTrain 2 = false := by
  refine ⟨by decide +kernel, by decide +kernel, ⟨7, rfl, by decide +kernel⟩, ?_⟩
  rcases h with rfl | rfl | rfl <;> decide +kernel

/-- Port 2 with lane 0 triggered three times in the last hour. -/
def errDev : State := { portDev with
  now := 3600000000000
  ports := [(2, { portDev.port 2 with triggers := [(0, [1, 2, 3])] })] }

theorem witness_lane_trigger :
    errDev.tabsOk = true ∧ errDev.portUp 2 = true ∧ errDev.retired (.lane 2 0) = false ∧
    errDev.retired (.lane 2 1) = false ∧ (errDev.port 2).mask.testBit 0 = true ∧ (errDev.port 2).mask.testBit 1 = true ∧
    (errDev.port 2).maskAhead.testBit 1 = true ∧ 0 ≤ errDev.objv 0x5209 1 ∧
    errDev.objv 0x5209 1 < errDev.objv 0x5209 1 + 1 ∧
    4 ≤ (((Tab.get [] (errDev.port 2).triggers 0).filter fun t => decide (errDev.now < t + 3600000000000)) ++
      [errDev.now]).length ∧
    (((Tab.get [] (errDev.port 2).triggers 1).filter fun t => decide (errDev.now < t + 3600000000000)) ++
      [errDev.now]).length < 4 := by decide +kernel

/-- A frame of this device that has waited 10 ms. -/
def waitDev : State := { portDev with
  now := 10000000
  waiting := [({ sig with src := 3, dst := 5 }, 0)] }

theorem witness_route_wait :
    waitDev.waiting ≠ [] ∧ ∀ w ∈ waitDev.waiting, w.2 + 10000000 ≤ waitDev.now ∧ w.1.src = waitDev.membership.self := by
  decide +kernel

/-- A membership record pending for stride 40, the pace running or lost. -/
def epochDev (m : PaceMode) : State :=
  { locked 1 0 with
    pace := { (locked 1 0).pace with mode := m }
    membership := { Membership.reset with pending := some ⟨2, 40, 3, [3, 5]⟩ } }

theorem witness_epoch (m : PaceMode) (h : m = .locked ∨ m = .expired) :
    (epochDev m).membership.pending = some ⟨2, 40, 3, [3, 5]⟩ ∧
    atOrAfter (epochDev m).angle (strideAngle 40) = true ∧ (epochDev m).mayAct (strideAngle 40, 1) = true ∧
    (epochDev m).pace.mode.running = decide (m = .locked) ∧
    (epochDev m).pace.mode.lost = decide (m = .expired) := by
  rcases h with rfl | rfl <;> decide +kernel

theorem test_round_robin_by_weight :
    drrTurn (fun _ => some 256) (fun c => if c = 1 then 4 else 2) 4 3 [0, 0, 0, 0] = some (1, [0, 768, 0, 0]) ∧
    drrTurn (fun c => if c = 1 then none else some 256) (fun _ => 2) 4 1 [0, 512, 0, 0] = some (2, [0, 0, 256, 0]) := by
  decide +kernel
/-! ### Hypotheses met: host links -/

/-- READY, host link 0 up at 64 GT/s ×16 with CXL, its cache stream secure, a secured SPDM session on it in a
state, and key set 1 loaded for stream 1; GiB 0 of the window is link 0's, of context 0. -/
def hostDev (spdm : Nat) : State :=
  { dev [] with
    links := [(0, { HostLink.down with
      rate := 64
      width := 16
      cxl := 7
      up := true
      cacheSecure := true
      loaded := [(1, 1)] })]
    funcs := [(0, { Func.fresh with
      spdm := spdm
      lastSeq := 1 }), (1, { Func.fresh with
      spdm := spdm
      lastSeq := 1 })]
    tdis := [(0, { Tdi.absent with
      state := .locked
      fn := 1 })]
    obj := [(objKey 0x2302 2, some 1), (objKey 0x6200 2, some 1)] }

theorem witness_link_up :
    let s := dev []
    s.tabsOk = true ∧ s.linkExists 0 = true ∧ s.pins.resetN = true ∧ s.retired (.die (16 + 0 / 2)) = false ∧
    (s.link 0).up = false ∧ s.lanesFree 0 = true ∧ 64 ∈ linkRates ∧ s.widthFits 0 16 = true ∧
    s.widthFits 0 8 = true ∧ s.widthFits 0 (2 * 8) = true ∧ s.looping 0 = false := by decide +kernel

theorem witness_link_down : (hostDev 5).tabsOk = true ∧ ((hostDev 5).link 0).up = true ∧ 0 < 4 := by decide +kernel

theorem witness_function_reset :
    (hostDev 5).boundTo 0 = (0, 1) ∧ (hostDev 5).resident 0 = true ∧
    (match exec (.flrContextFunction 0 1) (hostDev 5) with
      | .next t => t.resident 0
      | _ => false) = true := by decide +kernel

theorem witness_configuration (ready : Bool) :
    let s : State := { hostDev 5 with pins := ⟨true, true, ready, 1⟩ }
    (s.link 0).up = true ∧ funcOk 0 0 = true ∧ s.linkSecure 0 = true ∧ s.pins.ready = ready ∧
    guardedWord 1 0x10000 = true ∧ s.tdiTakes 0 1 false = true ∧
    guardedWord 1 0 = false := by cases ready <;> decide +kernel

theorem witness_window_access (write : Option (List Byte)) (h : write = none ∨ write = some [1]) :
    let s : State := { hostDev 5 with trust := { Trust.reset with bias := [(0, true)] } }
    let n := match write with
      | some l => l.length
      | none => 1
    s.tabsOk = true ∧ s.windowOpen 0 0 n = true ∧ s.reloadingDie (16 + 0 / 2) = false ∧ s.grainWaits 0 n = false ∧
    s.confidential (s.objv 0x2302 5) = false ∧
    ({ s with server := { s.server with reload := some 16 } } : State).windowOpen 0 0 n = true ∧
    ({ s with server := { s.server with reload := some 16 } } : State).reloadingDie (16 + 0 / 2) = true := by
  rcases h with rfl | rfl <;> decide +kernel

theorem test_window_access_flips_the_page :
    (match exec (.hostCxlMemAccess 0 0 (some [1]) 0 false)
        { hostDev 5 with trust := { Trust.reset with bias := [(0, true)] } } with
      | .next t => (t.trust.bias, t.mem)
      | _ => ([], [])) = ([], [(0, 1)]) := by decide +kernel

/-- A COPY from the host's memory that has failed once. -/
def hostCopy : State :=
  { hostDev 5 with cmds := [{ cmd [(0, 0x20), (192, 2 ^ 47)] with retries := 1 }] }

theorem witness_host_failure :
    hostCopy.runnable id0 (fun d => isOp 0x20 d || isOp 0x21 d) =
      some { cmd [(0, 0x20), (192, 2 ^ 47)] with retries := 1 } ∧
    (copyBody (cmd [(0, 0x20), (192, 2 ^ 47)]).desc).ends.filter CopyEnd.host ≠ [] := by decide +kernel

theorem witness_streams :
    (hostDev 5).mayKey 0 0 1 = true ∧ (hostDev 5).mayKey 0 0 0 = true ∧ (1, 1) ∈ ((hostDev 5).link 0).loaded ∧
    streamOk 0 1 = true ∧ (hostDev 5).linkServes 0 = true ∧ ((hostDev 5).link 0).cacheSecure = true ∧
    ((hostDev 5).tdi ((hostDev 5).objv 0x2302 5)).state = .locked := by decide +kernel

/-! ### Hypotheses met: the dictionary and its channels -/

/-- Buses in Operational, an operator's session on bus 0 with client 1, one mailbox request asked or not. -/
def dictDev (asked : Bool) : State :=
  { hostDev 5 with
    tdis := []
    buses := [(0, ⟨.operational, 1, 0, none, none⟩), (1, ⟨.operational, 1, 0, none, none⟩)]
    funcs := [(0, { Func.fresh with
      spdm := 1
      asked := if asked then some (1, []) else none })]
    server := { Server.reset with sessions := [⟨.can 0 1, 2, 0⟩] } }

/-- A membership record of members 3 and 5, and a profile of one entry. -/
def memberRec : List Byte := toBytes 4 2 ++ toBytes 4 9 ++ toBytes 2 3 ++ toBytes 2 2 ++ toBytes 4 0 ++
  toBytes 2 3 ++ toBytes 2 5

/-- A profile record. -/
def profileRec : List Byte := toBytes 4 9 ++ toBytes 1 1 ++ toBytes 3 0 ++ toBytes 2 0 ++ toBytes 2 3 ++
  toBytes 2 10 ++ toBytes 2 2000

theorem witness_writes :
    (dictDev false).serverUp = true ∧ (dictDev false).busServes 0 = true ∧ (dictDev false).server.mramFault = none ∧
    ∀ x ∈ ([(0x5103, 0, toBytes 4 7), (0x5120, 1, toBytes 8 7), (0x5220, 1, memberRec),
        (0x3100, 1, profileRec), (0x3101, 1, toBytes 4 7), (0x3000, 1, toBytes 1 0), (0x6200, 7, toBytes 1 1),
        (0x6400, 3, toBytes 1 1), (0x2200, 1, toBytes 1 1), (0x4101, 2, toBytes 2 7), (0x4300, 3, toBytes 1 1),
        (0x9020, 1, toBytes 1 1), (0x1F51, 2, toBytes 1 2)] : List (Nat × Nat × List Byte)),
      ((dictDev false).touch (.can 0 1)).writeRefusal (.can 0 1) (((dictDev false).touch (.can 0 1)).role (.can 0 1))
        x.1 x.2.1 x.2.2 = none ∧ ((dictDev false).writeDone (.can 0 1) x.1 x.2.1 x.2.2).2 = Reply.done := by
  decide +kernel

theorem witness_effects (m : PaceMode) (h : m = .locked ∨ m = .unlocked) :
    let s : State := { dictDev false with pace := { Pace.reset with mode := m } }
    s.tabsOk = true ∧ s.pace.mode.running = decide (m = .locked) ∧ s.blockedOpens (.can 0 1) = false ∧
    fieldOf (toBytes 1 2) 0 1 = 2 ∧ valOf (toBytes 1 1) = 1 := by
  rcases h with rfl | rfl <;> decide +kernel

theorem witness_requests (asked : Bool) :
    let s := dictDev asked
    let hdr : BitVec 256 := 5
    s.onBus 0 = true ∧ s.busServes 0 = true ∧ s.serverUp = true ∧
    ({ s with mgmt := { s.mgmt with takeover := true } } : State).serverUp = false ∧
    ({ s with mgmt := { s.mgmt with takeover := true } } : State).onBus 0 = true ∧ s.tdiTakes 0 0 false = true ∧
    bits (1 : BitVec 256).toNat 31 0 = 1 ∧ s.mailboxOpen 0 0 = true ∧ bits hdr.toNat 31 0 ≠ (s.func 0 0).lastSeq ∧
    (s.func 0 0).asked.isSome = asked ∧ s.mailboxOpen 3 0 = false := by cases asked <;> decide +kernel

theorem test_read_is_answered :
    (match exec (.usdoRequest ⟨0, 0, 0⟩ 1 false 0x1018 2 []) (dictDev false) with
      | .next t => t.out.any fun x =>
        match x with
        | .usdo b canId client code value _ =>
          decide (b = 0 ∧ canId = 0x581 ∧ client = 1 ∧ code = 0 ∧ value = toBytes 4 0x0820)
        | _ => false
      | _ => false) = true := by decide +kernel

theorem witness_buses :
    (dictDev false).tabsOk = true ∧ (dictDev false).nmtHears 0 1 = true ∧
    ((dictDev false).bus 0).nmt ≠ .initialisation ∧ (dictDev false).nodeFor 0 ≠ 0 ∧
    (dictDev false).objv 0x1017 0 ≠ 0 ∧
    (∀ t, ((dictDev false).bus 0).lastBeat = some t → t + 1000000 * (dictDev false).objv 0x1017 0 ≤ (dictDev false).now) ∧
    (dictDev false).session (.can 1 1) = none := by
  refine ⟨by decide +kernel, by decide +kernel, by decide +kernel, by decide +kernel, by decide +kernel, ?_,
    by decide +kernel⟩
  intro t h
  simp [dictDev, State.bus, Tab.get] at h

/-- Die 3 under reload, or a takeover called for with a standby or without. -/
def mgmtDev (standby takeover : Bool) (cause : Nat) : State :=
  { dev [] with
    now := 100000
    server := { Server.reset with reload := some 3 }
    mgmt := ⟨0, standby, 0, takeover, cause, false⟩ }

theorem witness_takeover (standby takeover : Bool) (cause : Nat) :
    let s := mgmtDev standby takeover cause
    s.quiet ∧ s.pins.resetN = true ∧ s.mgmt.stopped = false ∧ s.server.reload = some 3 ∧
    s.recorder.tests = [] ∧ s.mgmt.takeover = takeover ∧ s.mgmt.cause = cause ∧ s.mgmt.standby = standby ∧
    s.mgmt.lastBeat + 100000 ≤ s.now :=
  ⟨⟨fun _ _ => rfl, rfl, rfl⟩, rfl, rfl, rfl, rfl, rfl, rfl, rfl, by simp [mgmtDev]⟩

/-! ### Hypotheses met: attestation and confidential admission -/

/-- The same device with an operator's session on the mailbox of function 0, PROVISIONED. -/
def provDev (spdm : Nat) : State :=
  { hostDev spdm with server := { Server.reset with sessions := [⟨.mbx 0 0 0, 2, 0⟩] } }

theorem witness_spdm (n : Nat) (h : n ≤ 5) :
    (provDev n).tabsOk = true ∧ (provDev n).doeUp 0 0 = true ∧ ((provDev n).func 0 0).spdm = n ∧
    (provDev n).mayProvision 0 0 = decide (n = 5) ∧ (provDev n).server.life = 1 ∧
    fieldOf (toBytes 2 1) 0 1 % 16 = 1 := by
  match n, h with
  | 0, _ | 1, _ | 2, _ | 3, _ | 4, _ | 5, _ => decide +kernel
  | k + 6, h => omega

/-- An interface of context 0 in a state, its function's stream secure and its memory encrypted; OPERATIONAL. -/
def tdiDev (st : TdiState) : State :=
  { hostDev 5 with
    ctxs := []
    links := [(0, { (hostDev 5).link 0 with selSecure := [1] })]
    server := { Server.reset with life := 2 }
    tdis := if st = .none then [] else [(0, { Tdi.absent with
      state := st
      fn := 1 })]
    obj := [(objKey 0x2302 2, some 1), (objKey 0x4100 3, some 1), (objKey 0x4100 4, some 0), (objKey 0x6200 2,
    some 1)] }

theorem witness_tdisp (st : TdiState) :
    (tdiDev st).tabsOk = true ∧ (tdiDev st).doeUp 0 1 = true ∧ (tdiDev st).tdiHears 0 1 0 = true ∧
    ((tdiDev st).tdi 0).state = st ∧ (tdiDev st).lockOk 0 1 0 = true := by cases st <;> decide +kernel
/-! ### Hypotheses met: power and heat -/

/-- A frame of a group with SEQ 4 and its check. -/
def telemFrame (group : Nat) : BitVec 128 :=
  let x := group * 2 ^ 124 + 4 * 2 ^ 120 + 100 * 2 ^ 20 + 1500 * 2 ^ 8
  BitVec.ofNat 128 (x + crc8 (toBytes 15 (x / 256)).reverse)

/-- One second in, group 0 blind or not, its next SEQ 4; die 0 with understory 3, power of 3 kW drawn or none. -/
def powerDev (blind : Bool) (draws : Nat) : State :=
  { dev [] with
    now := 10 ^ 9
    power := { Power.reset with
      wide := false
      groups := [(0, ⟨5, 0, blind, 0⟩)]
      rails := [(0, { Rail.fresh with samples := [(10 ^ 9, draws, 7500)] })]
      dies := [(0, ⟨0, 560, 0, 10, 3, 0, 0, 0⟩)] } }

theorem witness_telemetry :
    (powerDev false 0).tabsOk = true ∧ (powerDev false 0).pins.resetN = true ∧ frameCrcOk (telemFrame 0) = true ∧
    bits (telemFrame 0).toNat 127 124 = 0 ∧
    bits (telemFrame 0).toNat 123 120 + 1 = ((powerDev false 0).telem 0).seq ∧ ((powerDev false 0).telem 1).seq = 0 ∧
    bits (telemFrame 0).toNat 127 124 ≠ 1 ∧ frameCrcOk (telemFrame 0 + 1) = false ∧
    ((powerDev false 0).telem 0).blind = false ∧ ((powerDev true 0).telem 0).blind = true ∧
    ((powerDev false 0).telem 0).lastValid + 8000 ≤ (powerDev false 0).now ∧
    (powerDev false 0).power.lastAvs + 1000000 ≤ (powerDev false 0).now ∧ (powerDev false 0).pins.powered = true ∧
    critical 0 ≤ toSigned 32 1100 := by
  decide +kernel

theorem test_frame_is_taken_in :
    (match exec (.telemetryFrame 0 ⟨telemFrame 0, true⟩) (powerDev false 0) with
      | .next t => ((t.telem 0).seq, (t.rail 0).samples.length)
      | _ => (0, 0)) = (6, 2) := by decide +kernel

theorem witness_points :
    (powerDev false 0).tabsOk = true ∧ ((powerDev false 0).dieOp 0).duty ≤ 16 ∧ 0 < ((powerDev false 0).dieOp 0).duty ∧
    (powerDev false 40000000).powerAbove (powerDev false 40000000).effectiveCap = true ∧
    (dev []).effectiveCap ≤ 2900 ∧ (dev []).power.wide = true := by decide +kernel

/-- Die 0 with its ceiling lowered, the mean power 100 W below the cap for 1 ms. -/
def coolDev : State :=
  { powerDev false 0 with power := { (powerDev false 0).power with
    lowSince := some 0
    dies := [(0, ⟨0, 560, 0, 10, 0, 1, 0, 0⟩)] } }

theorem witness_cap :
    coolDev.tabsOk = true ∧ coolDev.pins.resetN = true ∧ coolDev.power.lowSince = some 0 ∧
    0 + 1000000 ≤ coolDev.now ∧ coolDev.powerAbove coolDev.effectiveCap = false ∧
    coolDev.powerBelow (coolDev.effectiveCap - 100) = true ∧
    0 < (coolDev.dieOp 0).ceilCap ∧ (∀ k, k < 8 → (coolDev.dieOp k).duty = 0) := by
  refine ⟨by decide +kernel, by decide +kernel, by decide +kernel, by decide +kernel, by decide +kernel,
    by decide +kernel, by decide +kernel, ?_⟩
  intro k hk
  match k, hk with
  | 0, _ | 1, _ | 2, _ | 3, _ | 4, _ | 5, _ | 6, _ | 7, _ => decide +kernel
  | k + 8, hk => omega

/-- The same with the angle known, the profile following it, a second profile pending for stride 40, a change of
mode asked for in stride 7, and a slack record to be written. -/
def profileDev : State :=
  { locked 1 0 with
    power := { (powerDev false 0).power with
      profile := [[0, 3, 0, 2900]]
      profPending := some ([[0, 0, 0, 2000]], 40)
      wideReq := true
      wideAt := some 7
      ended := some Barrier.idle }
    pace := { (locked 1 0).pace with profileFollows := true } }

/-- The same without a profile pending, with or without a CAP_OFFSET written in stride 40. -/
def calmDev (cap : Option (Int × Nat)) : State :=
  { profileDev with power := { profileDev.power with
    profPending := none
    capWritten := cap } }

theorem witness_profile :
    profileDev.tabsOk = true ∧ profileDev.follows = true ∧ profileDev.power.wide = false ∧
    atOrAfter profileDev.angle (strideAngle 40) = true ∧ profileDev.pace.mode.running = true ∧
    profileDev.mayAct (strideAngle 40, 5) = true ∧ 7 ≠ profileDev.pace.stride ∧
    (calmDev (some (5, 40))).pace.mode.running = true ∧
    (calmDev (some (5, 40))).mayAct ((calmDev (some (5, 40))).entryAngle, 6) = true ∧
    (calmDev (some (5, 40))).power.profPending = none ∧ 40 ≠ (calmDev (some (5, 40))).pace.stride ∧
    (calmDev (some (5, 40))).follows = true ∧
    (calmDev none).mayAct (strideAngle (calmDev none).pace.stride, 7) = true ∧ (calmDev none).power.wideAt = some 7 ∧
    profileDev.power.wideReq ≠ profileDev.power.wide ∧
    profileDev.ctxMem (profileDev.objv 0x3120 3) (profileDev.objv 0x3120 2) 32 = true ∧
    profileDev.inStack (profileDev.objv 0x3120 2) 32 = true := by decide +kernel

/-! ### Hypotheses met: faults, repair, start-up -/

/-- A vector command, a calibration of stand 0 due or running, and a test of vector engine 1 under way. -/
def faultDev (running : Bool) : State :=
  { dev [(0, 0x60)] with
    now := 86400000000000
    pins := ⟨true, true, true, 1⟩
    recorder := { Recorder.reset with
      calibs := [⟨0, .stand 0, 0, running⟩]
      tests := [⟨.vector 1, none, 0, true, 0x1002, false⟩] } }

theorem witness_error :
    errorFits 0x1002 (.vector 0) = true ∧ (faultDev false).retired (.vector 0) = false ∧
    (UnitId.vector 0).kind ≠ 0x10 ∧ (faultDev false).findCmd id0 = some (cmd [(0, 0x60)]) ∧
    (faultDev false).errorMeets (.vector 0) 0x1002 (cmd [(0, 0x60)]) = true ∧
    (cmd (vecFields 0x60)).errors < 3 ∧ (dev (vecFields 0x60)).usesLine (cmd (vecFields 0x60)) 16 = true ∧
    (dev (vecFields 0x60)).usesLine (cmd (vecFields 0x60)) 17 = false ∧ (cmd [(0, 0x60)]).errors < 3 ∧
    (cmd [(0, 0x60)]).testing = none ∧
    (faultDev false).startTests.recorder.tests.findIdx? (fun t => decide (t.unit = .vector 1) && t.running) = some 0 ∧
    (faultDev false).mgmt.takeover = false ∧ (faultDev false).mgmt.stopped = false ∧
    (faultDev false).pins.resetN = true := by decide +kernel

theorem witness_calibration :
    calUnit 1 (.embedding 0) = .embedding 0 ∧ calUnit 0 (.stand 0) = .stand 0 ∧ (faultDev false).pins.ready = true ∧
    (UnitId.embedding 0).real = true ∧ (UnitId.embedding 0).kind = calKind 1 ∧
    (faultDev false).retired (.embedding 0) = false ∧ (faultDev false).calDue 1 (.embedding 0) = true ∧
    (∀ c ∈ (faultDev false).recorder.calibs, c.unit ≠ .embedding 0) ∧
    (faultDev false).recorder.calibs.find? (fun c => decide (c.unit = .stand 0 ∧
    c.cls = 0)) = some ⟨0, .stand 0, 0, false⟩ ∧
    (faultDev false).underTest (.stand 0) = false ∧ (faultDev false).quietNow 0 0 = true ∧
    (faultDev true).recorder.calibs.find? (fun c => decide (c.unit = .stand 0 ∧
    c.cls = 0)) = some ⟨0, .stand 0, 0, true⟩ ∧
    (∀ d ∈ (faultDev true).recorder.calibs, d.unit = .stand 0 → d = ⟨0, .stand 0, 0, true⟩) := by decide +kernel

theorem test_error_puts_the_unit_under_test :
    (match exec (.errorDetected (.vector 0) (some id0) ⟨0x1002, none⟩) (faultDev false) with
      | .next t => (t.findCmd id0).map (·.testing)
      | _ => none) = some (some (.vector 0)) := by decide +kernel

/-- Pseudo-channel 0 retired, with slot next to be moved; context 0 sweeping partition 0 from a page on. -/
def upkeepDev (next page scan : Nat) : State :=
  { dev [] with
    pool := { Pool.reset with
      migrations := [⟨0, next, .readable, 0⟩]
      sweeps := [(0, ⟨true, 0, page, none⟩)]
      keys := [(0, ⟨1, some 1, some 2⟩)]
      scrub := sectorsPerPc }
    obj := [(objKey 0x4100 3, some 1), (objKey 0x4100 4, some 0), (objKey 0x4300 6, some scan)]
    recorder := { Recorder.reset with dead := [⟨.pc 0, 0, 0⟩] } }

theorem witness_migration :
    (upkeepDev 0 0 2).tabsOk = true ∧ (upkeepDev 0 0 2).nextGrain ⟨0, 0, .readable, 0⟩ = some 0 ∧
    (upkeepDev 0 0 2).slicedGrain 0 = false ∧ (upkeepDev 0 0 2).spare = some 1 ∧ slotsPerPc ≤ slotsPerPc ∧
    (upkeepDev slotsPerPc 0 2).nextGrain ⟨0, slotsPerPc, .readable, 0⟩ = none ∧
    (upkeepDev 0 0 2).bucketOwed (19 * 16 + 15) = false ∧ (upkeepDev 0 0 2).hostWait = [] ∧
    (upkeepDev 0 0 2).pool.scan.1 < 1280 ∧ (upkeepDev 0 0 2).grainWaits 0 4096 = false ∧
    (upkeepDev 0 0 2).reloadingDie 20 = false := by decide +kernel

theorem witness_upkeep :
    (upkeepDev 0 0 2).pins.ready = true ∧ (upkeepDev 0 0 2).retired (.pc ((upkeepDev 0 0 2).pool.scrub / sectorsPerPc % 1280)) = false ∧
    (Tab.get Sweep.idle (upkeepDev 0 0 2).pool.sweeps 0).active = true ∧ (upkeepDev 0 0 2).sweepNext 0 = some 0 ∧
    (upkeepDev 0 247463936 2).sweepNext 0 = none ∧ (upkeepDev 0 0 2).objv 0x4300 6 = 2 ∧
    (upkeepDev 0 0 1).objv 0x4300 6 = 1 ∧ (upkeepDev 0 0 1).scanMayRun = true := by decide +kernel

theorem witness_pins :
    ({ State.reset with pins := ⟨false, false, false, 1⟩ } : State).pins.powered = false ∧
    (dev []).pins.powered = true ∧ (dev []).pins.resetN = true ∧ State.reset.pins.powered = true ∧
    State.reset.pins.resetN = false ∧ State.reset.retired (.mgmt 0) = false := by decide +kernel

theorem test_low_reset_takes_the_commands :
    (match exec .resetNLow (dev [(0, 0x60)]) with
      | .next t => (t.cmds.length, t.pins.ready)
      | _ => (9, true)) = (0, false) := by decide +kernel

/-! ### Steps -/

theorem test_step_takes_the_front :
    (match step { dev [] with pending := [.nop id0, .paceBoundary] } with
      | .next t => t.pending
      | _ => []) = [.paceBoundary] := by decide +kernel

theorem test_idle_step_is_a_nanosecond :
    (match step (dev []) with
      | .next t => t.now
      | _ => 0) = 1 := by decide +kernel

end Sys2Proof.Tests
end

section
/-! The order of the admission checks (R12): one equation of `Checks.first` for each check that can be the first to
fail, and one for a descriptor that fails none. -/

namespace Sys2Proof.Machine

variable {x : Checks} {lost : Bool}

theorem Checks.first_of_invalid (hi : x.invalid = true) : x.first lost = some .invalid := by
  simp [Checks.first, hi]

theorem Checks.first_of_denied (hi : x.invalid = false) (hd : x.denied = true) :
    x.first lost = some .accessDenied := by
  simp [Checks.first, hi, hd]

theorem Checks.first_of_paceLost (hi : x.invalid = false) (hd : x.denied = false) :
    x.first true = some .paceLost := by
  simp [Checks.first, hi, hd]

theorem Checks.first_of_keyBusy (hi : x.invalid = false) (hd : x.denied = false) (hk : x.keyBusy = true) :
    x.first false = some .keyBusy := by
  simp [Checks.first, hi, hd, hk]

theorem Checks.first_of_busy (hi : x.invalid = false) (hd : x.denied = false) (hk : x.keyBusy = false)
    (hb : x.busy = true) : x.first false = some .busy := by
  simp [Checks.first, hi, hd, hk, hb]

@[simp] theorem Checks.first_pass : Checks.pass.first false = none := rfl

/-- Settles O8: each clause is the equation of `Checks.first` for the check that fails first. -/
theorem firstFailingCheck : Obligations.FirstFailingCheck := by
  intro x lost
  refine ⟨Checks.first_of_invalid, Checks.first_of_denied, ?paceLost, ?keyBusy, ?busy, ?pass⟩
  case paceLost =>
    rintro hi hd rfl
    exact Checks.first_of_paceLost hi hd
  case keyBusy =>
    rintro hi hd rfl hk
    exact Checks.first_of_keyBusy hi hd hk
  case busy =>
    rintro hi hd rfl hk hb
    exact Checks.first_of_busy hi hd hk hb
  case pass =>
    rintro rfl rfl
    exact Checks.first_pass

end Sys2Proof.Machine
end

section
/-! What the shared operations of the recorder, the counters and the pace unit change of the state: one equation
each, every other field as it was. -/

namespace Sys2Proof.Machine

variable (s : State)

theorem State.emcyOn_frame (b event seq : Nat) :
    ∃ bs o, s.emcyOn b event seq = { s with buses := bs, out := o } := by
  unfold State.emcyOn
  dsimp only
  split
  · exact ⟨_, _, rfl⟩
  · split <;> exact ⟨_, _, rfl⟩

theorem State.appendEvent_frame (e : EventIn) :
    ∃ r bs o, s.appendEvent e = { s with recorder := r, buses := bs, out := o } := by
  unfold State.appendEvent
  dsimp only
  split
  · generalize hr : Recorder.mk .. = r
    obtain ⟨b0, o0, h0⟩ := State.emcyOn_frame { s with recorder := r } 0 e.event (s.newEvent e).seq
    rw [h0]
    obtain ⟨b1, o1, h1⟩ :=
      State.emcyOn_frame { s with recorder := r, buses := b0, out := o0 } 1 e.event (s.newEvent e).seq
    exact ⟨_, _, _, h1⟩
  · exact ⟨_, _, _, rfl⟩

theorem State.recordEvent_frame (e : EventIn) :
    ∃ r bs o, s.recordEvent e = { s with recorder := r, buses := bs, out := o } := by
  unfold State.recordEvent
  dsimp only
  split
  · split
    · exact ⟨_, _, _, rfl⟩
    · exact s.appendEvent_frame e
  · exact s.appendEvent_frame e

@[simp] theorem State.recordEvent_pace (e : EventIn) : (s.recordEvent e).pace = s.pace := by
  obtain ⟨_, _, _, h⟩ := s.recordEvent_frame e
  rw [h]

@[simp] theorem State.recordEvent_cal (e : EventIn) : (s.recordEvent e).cal = s.cal := by
  obtain ⟨_, _, _, h⟩ := s.recordEvent_frame e
  rw [h]

theorem State.bump_frame (i b n : Nat) : ∃ o, s.bump i b n = { s with obj := o } := by
  unfold State.bump
  split <;> exact ⟨_, rfl⟩

theorem State.tally_frame (c i b n : Nat) : ∃ r o, s.tally c i b n = { s with trust := r, obj := o } := by
  unfold State.tally
  split
  · exact ⟨_, _, rfl⟩
  · obtain ⟨o, h⟩ := s.bump_frame i b n
    exact ⟨_, o, h⟩

/-- Commands that fail change nothing but the commands and the counters. -/
theorem State.failWhere_frame (p : Cmd → Bool) :
    ∃ cs r o, s.failWhere p = { s with cmds := cs, trust := r, obj := o } := by
  unfold State.failWhere
  dsimp only
  refine List.foldlRecOn (motive := fun t : State => ∃ cs r o, t = { s with cmds := cs, trust := r, obj := o })
    _ _ ⟨s.cmds, s.trust, s.obj, rfl⟩ ?_
  rintro _ ⟨cs, r, o, rfl⟩ c -
  split
  · obtain ⟨r', o', h⟩ := State.tally_frame
      (({ s with cmds := cs, trust := r, obj := o } : State).finish c.id .membershipChanged) c.id.ctx 0x7140 25 1
    exact ⟨_, _, _, h⟩
  · exact ⟨_, _, _, rfl⟩

theorem State.dropUnreachable_frame :
    ∃ cs r o, s.dropUnreachable = { s with cmds := cs, trust := r, obj := o } := s.failWhere_frame _

@[simp] theorem State.dropUnreachable_pace : s.dropUnreachable.pace = s.pace := by
  obtain ⟨_, _, _, h⟩ := s.dropUnreachable_frame
  rw [h]

@[simp] theorem State.dropUnreachable_mem : s.dropUnreachable.mem = s.mem := by
  obtain ⟨_, _, _, h⟩ := s.dropUnreachable_frame
  rw [h]

/-- Pace words touch the ports and the outputs alone. -/
theorem State.sendPaceWords_frame (late : Nat) :
    ∃ ps o, s.sendPaceWords late = { s with ports := ps, out := o } := by
  unfold State.sendPaceWords
  dsimp only
  split
  · exact ⟨_, _, rfl⟩
  · refine List.foldlRecOn (motive := fun t : State => ∃ ps o, t = { s with ports := ps, out := o }) _ _
      ⟨s.ports, s.out, rfl⟩ ?_
    rintro _ ⟨ps, o, rfl⟩ q -
    exact ⟨_, _, rfl⟩

@[simp] theorem State.sendPaceWords_pace (late : Nat) : (s.sendPaceWords late).pace = s.pace := by
  obtain ⟨_, _, h⟩ := s.sendPaceWords_frame late
  rw [h]

@[simp] theorem State.sendPaceWords_mem (late : Nat) : (s.sendPaceWords late).mem = s.mem := by
  obtain ⟨_, _, h⟩ := s.sendPaceWords_frame late
  rw [h]

/-- The angle's move marks installs and follows the windows, and touches nothing else. -/
theorem State.angleMoved_frame (old : State) :
    ∃ m, s.angleMoved old = { s with cmds := (s.latchInstalls old).cmds, windowMark := m } := by
  unfold State.angleMoved
  dsimp only
  split <;> exact ⟨_, rfl⟩

@[simp] theorem State.angleMoved_pace (old : State) : (s.angleMoved old).pace = s.pace := by
  obtain ⟨_, h⟩ := s.angleMoved_frame old
  rw [h]

@[simp] theorem State.angleMoved_mem (old : State) : (s.angleMoved old).mem = s.mem := by
  obtain ⟨_, h⟩ := s.angleMoved_frame old
  rw [h]

@[simp] theorem State.deferredChecks_pace : s.deferredChecks.pace = s.pace := by
  unfold State.deferredChecks
  dsimp only
  repeat' split
  all_goals simp

end Sys2Proof.Machine
end

section
/-! A boundary of the source in use (R36): the angle steps, or it is a glitch; what follows it, the installs marked,
the pace words sent and the commands of unreachable members ended, leaves the pace unit as the boundary set it. -/

namespace Sys2Proof.Machine

variable {s : State} {src late : Nat} {count : Option Nat}

/-! ### What a boundary does -/

/-- What the pace unit makes of a boundary, one of the source in use or of another, and the angle's move. -/
def State.boundaryTaken (s : State) (src : Nat) (count : Option Nat) (late : Nat) : State :=
  (if (s.pace.mode = .locked ∨ s.pace.mode = .countPending) ∧ src = s.pace.source then s.activeBoundary src late
    else s.otherBoundary src count late).angleMoved s

theorem State.boundaryTaken_active (hm : s.pace.mode = .locked) :
    s.boundaryTaken s.pace.source count late = (s.activeBoundary s.pace.source late).angleMoved s := by
  simp [State.boundaryTaken, hm]

theorem State.boundaryTaken_unlocked (hm : s.pace.mode = .unlocked) :
    s.boundaryTaken src count late = (s.otherBoundary src count late).angleMoved s := by
  simp [State.boundaryTaken, hm]

/-- A boundary that does not time the angle is all that the pace unit makes of it. -/
theorem State.boundary_untimed (hr : s.pins.resetN = true)
    (he : (s.boundaryTaken src count late).pace.lastEdge ≠ s.now - late) :
    s.boundary src count late = s.boundaryTaken src count late := by
  unfold State.boundary
  rw [hr]
  exact if_pos he

/-- A boundary out of reset is what the pace unit makes of it, and at one that times the angle the pace words are
sent and the commands that need an unreachable member end. -/
theorem State.boundary_cases (hr : s.pins.resetN = true) :
    let t := s.boundaryTaken src count late
    s.boundary src count late = t ∨ s.boundary src count late = t.dropUnreachable ∨
      s.boundary src count late = (t.sendPaceWords late).dropUnreachable := by
  intro t
  by_cases he : t.pace.lastEdge = s.now - late
  · have hb : s.boundary src count late =
        if t.pace.mode = .locked then (t.sendPaceWords late).dropUnreachable
        else if t.pace.mode = .countPending then t.dropUnreachable else t := by
      unfold State.boundary
      rw [hr]
      exact if_neg (not_not_intro he)
    rw [hb]
    split
    · exact .inr (.inr rfl)
    · split
      · exact .inr (.inl rfl)
      · exact .inl rfl
  · exact .inl (State.boundary_untimed hr he)

theorem State.boundary_pace (hr : s.pins.resetN = true) :
    (s.boundary src count late).pace = (s.boundaryTaken src count late).pace := by
  rcases State.boundary_cases (src := src) (count := count) (late := late) hr with h | h | h <;> rw [h] <;> simp

theorem State.boundary_mem (hr : s.pins.resetN = true) :
    (s.boundary src count late).mem = (s.boundaryTaken src count late).mem := by
  rcases State.boundary_cases (src := src) (count := count) (late := late) hr with h | h | h <;> rw [h] <;> simp

/-! ### A boundary of the source in use -/

theorem mkAngle_mod (n k : Nat) : mkAngle (n % 2 ^ 32) k = mkAngle n k := by
  simp [mkAngle]

theorem Pace.phase_of_t64_zero {p : Pace} (h : p.t64 = 0) : p.phase = 0 := by
  simp [Pace.phase, h]

/-- The angle in LOCKED at the very boundary. -/
theorem State.angle_of_locked (hm : s.pace.mode = .locked) (ht : s.pace.t64 = 0) :
    s.angle = mkAngle s.pace.stride 0 := by
  simp [State.angle, hm, Pace.phase_of_t64_zero ht]

/-- A boundary at or above phase 0xF000 and in time is accepted (R36). -/
theorem State.activeBoundary_inTime (hp : 0xF000 ≤ s.pace.phase)
    (ht : 16 * (s.now - late - s.pace.lastEdge) ≤ 17 * s.pace.that) :
    s.activeBoundary src late = ({ s with pace := s.pace.note src (s.now - late) } : State).acceptBoundary late := by
  simp [State.activeBoundary, Nat.not_lt.mpr hp, ht]

/-- An accepted boundary in LOCKED with no count written for it begins the next stride (R36, R39). -/
theorem State.acceptBoundary_locked (hm : s.pace.mode = .locked) (hc : s.pace.pendCount = none) :
    ∃ per, s.acceptBoundary late = { s with pace := { s.pace with
      stride := (s.pace.stride + 1) % 2 ^ 32, t64 := 64 * late, periods := per, that := meanPeriod per,
      lastEdge := s.now - late, held := false, glitchRun := 0, lastStride := (s.pace.stride + 1) % 2 ^ 32,
      pendCount := none, slew64 := 0, profileFollows := true } } := by
  refine ⟨(s.pace.periods ++ [s.now - late - s.pace.lastEdge]).drop (s.pace.periods.length + 1 - 16), ?_⟩
  simp [State.acceptBoundary, hm, hc]

/-- A boundary below phase 0xF000 that is not the fourth in a row only counts (R36). -/
theorem State.activeBoundary_glitch (hp : s.pace.phase < 0xF000) (hg : s.pace.glitchRun ≠ 3) :
    s.activeBoundary src late = { s with pace := { s.pace with
      glitches := s.pace.glitches + 1, glitchRun := s.pace.glitchRun + 1 } } := by
  simp [State.activeBoundary, State.glitch, hp, hg]

/-- No install is marked while no gate opens. -/
theorem State.latchInstalls_of_gate {old : State} (h : ∀ d, s.gateOpen d = old.gateOpen d) :
    (s.latchInstalls old).cmds = s.cmds := by
  have hshut : ∀ c, s.opensOnTime old c = false := fun c => by
    cases hg : old.gateOpen c.desc <;> simp [State.opensOnTime, h, hg]
  simp [State.latchInstalls, hshut]

/-- The rows by which a boundary of the source in use comes, `late` ns before now: an edge on the pins, a pace word on
a port in service that is the first of its boundary, or the local generator's period. -/
def State.activeRow (s : State) (row : Instr) (late : Nat) : Prop :=
  (row = .paceBoundary ∧ s.pace.source = 1 ∧ late = 0) ∨
    (∃ port word, row = .paceWord port word ∧ s.pace.source = 2 ∧ s.portUp port = true ∧
      bits word.toNat 71 68 ≤ 8 ∧ s.pace.lastWord ≠ some (bits word.toNat 127 96) ∧
      late = bits word.toNat 95 72 + (Tab.get Port.down s.ports port).delay) ∨
    (row = .localGeneratorBoundary ∧ s.pace.source = 3 ∧ 3 ∈ s.sourceList ∧ late = 0)

/-- Each of these rows is a boundary of the source in use; before it the row notes only the signal, the generator's
count and the word it has brought. -/
theorem State.exec_activeRow {row : Instr} (h : s.activeRow row late) (hm : s.pace.mode = .locked) :
    ∃ count sig gen lw hop port origin, exec row s = .next
      (({ s with pace := { s.pace with
        signal := sig, genCount := gen, lastWord := lw, hop := hop, port := port, origin := origin } } : State).boundary
        s.pace.source count late) := by
  rcases h with ⟨rfl, hs, rfl⟩ | ⟨port, word, rfl, hs, hup, hhop, hlw, rfl⟩ | ⟨rfl, hs, hl, rfl⟩
  · rw [hs]
    exact ⟨none, true, _, _, _, _, _, rfl⟩
  · rw [hs]
    refine ⟨some (bits word.toNat 127 96), s.pace.signal, s.pace.genCount, some (bits word.toNat 127 96),
      bits word.toNat 71 68, port, bits word.toNat 15 0, ?_⟩
    show execPaceWord port word s = _
    unfold execPaceWord
    dsimp only
    rw [if_neg (by simp [hup, hhop]), if_pos hlw]
    rfl
  · rw [hs]
    refine ⟨some s.pace.genCount, s.pace.signal, (s.pace.genCount + 1) % 2 ^ 32, s.pace.lastWord, s.pace.hop,
      s.pace.port, s.pace.origin, ?_⟩
    show execLocalGeneratorBoundary s = _
    simp [execLocalGeneratorBoundary, hl, hm]

/-- A boundary of the source in use that comes in time: phase 0 of the next stride, `late` ns ago. -/
theorem State.boundary_steps (hr : s.pins.resetN = true) (hm : s.pace.mode = .locked) (hc : s.pace.pendCount = none)
    (hp : 0xF000 ≤ s.pace.phase) (ht : 16 * (s.now - late - s.pace.lastEdge) ≤ 17 * s.pace.that) :
    let t := s.boundary s.pace.source count late
    t.pace.mode = .locked ∧ t.pace.stride = (s.pace.stride + 1) % 2 ^ 32 ∧ t.pace.t64 = 64 * late ∧
      t.pace.lastEdge = s.now - late ∧ t.pace.glitchRun = 0 ∧
      (late = 0 → t.angle = mkAngle (s.pace.stride + 1) 0) ∧ t.mem = s.mem := by
  intro t
  obtain ⟨per, hacc⟩ := State.acceptBoundary_locked (late := late)
    (s := { s with pace := s.pace.note s.pace.source (s.now - late) }) hm hc
  have htaken : s.boundaryTaken s.pace.source count late =
      (({ s with pace := s.pace.note s.pace.source (s.now - late) } : State).acceptBoundary late).angleMoved s := by
    rw [State.boundaryTaken_active hm, State.activeBoundary_inTime hp ht]
  have hpace := State.boundary_pace (src := s.pace.source) (count := count) (late := late) hr
  have hmem := State.boundary_mem (src := s.pace.source) (count := count) (late := late) hr
  rw [htaken, hacc, State.angleMoved_pace] at hpace
  rw [htaken, hacc, State.angleMoved_mem] at hmem
  have hmode : t.pace.mode = .locked := by rw [hpace]; exact hm
  have hstride : t.pace.stride = (s.pace.stride + 1) % 2 ^ 32 := by rw [hpace]; rfl
  have ht64 : t.pace.t64 = 64 * late := by rw [hpace]
  refine ⟨hmode, hstride, ht64, by rw [hpace], by rw [hpace], ?_, hmem⟩
  rintro rfl
  rw [State.angle_of_locked hmode ht64, hstride, mkAngle_mod]

/-- A boundary of the source in use that comes early and is not the fourth such in a row is counted and changes
neither the angle nor the commands. -/
theorem State.boundary_ignored (hr : s.pins.resetN = true) (hm : s.pace.mode = .locked)
    (hp : s.pace.phase < 0xF000) (hg : s.pace.glitchRun ≠ 3) (he : s.pace.lastEdge ≠ s.now - late) :
    let t := s.boundary s.pace.source count late
    t.angle = s.angle ∧ t.pace.mode = .locked ∧ t.pace.glitches = s.pace.glitches + 1 ∧
      t.pace.glitchRun = s.pace.glitchRun + 1 ∧ t.cmds = s.cmds := by
  intro t
  set u : State := { s with pace := { s.pace with
    glitches := s.pace.glitches + 1, glitchRun := s.pace.glitchRun + 1 } } with hu
  have htaken : s.boundaryTaken s.pace.source count late = u.angleMoved s := by
    rw [State.boundaryTaken_active hm, State.activeBoundary_glitch hp hg]
  have ht : t = u.angleMoved s := by
    rw [← htaken]
    exact State.boundary_untimed hr (by rw [htaken, State.angleMoved_pace]; exact he)
  obtain ⟨m, hmoved⟩ := u.angleMoved_frame s
  have hcmds : (u.latchInstalls s).cmds = u.cmds := State.latchInstalls_of_gate fun _ => rfl
  rw [ht, hmoved, hcmds]
  exact ⟨rfl, hm, rfl, rfl, rfl⟩

/-- Settles O37: each of the rows is a boundary of the source in use, which steps the angle in time and is ignored
early. -/
theorem activeBoundaryStepsTheAngle : Obligations.ActiveBoundaryStepsTheAngle := by
  intro s row late hrow hr hm hc
  obtain ⟨count, sig, gen, lw, hop, port, origin, hexec⟩ := State.exec_activeRow hrow hm
  set u : State := { s with pace := { s.pace with
    signal := sig, genCount := gen, lastWord := lw, hop := hop, port := port, origin := origin } }
  refine ⟨fun hp ht => ⟨_, hexec, ?steps⟩, fun hp hg he => ⟨_, hexec, ?glitch⟩⟩
  case steps => exact State.boundary_steps (s := u) hr hm hc hp ht
  case glitch => exact State.boundary_ignored (s := u) hr hm hp hg he

end Sys2Proof.Machine
end

section
/-! The lock of the local generator (R33, R35, R455), and the choice among the pace words of one boundary (R37,
R281). -/

namespace Sys2Proof.Machine

variable {s : State} {src late : Nat} {count : Option Nat}

/-! ### What noting one source's boundary leaves of the others -/

theorem mem_addOnce {α : Type} [DecidableEq α] {l : List α} {x y : α} :
    y ∈ addOnce l x ↔ y ∈ l ∨ y = x := by
  unfold addOnce
  split
  · next hx => exact ⟨.inl, fun h => h.elim id fun e => e ▸ hx⟩
  · simp

theorem Pace.times_note_ne (p : Pace) {b t : Nat} (h : b ≠ src) : (p.note src t).times b = p.times b :=
  Tab.get_put_ne _ _ _ _ _ h

theorem Pace.mean4_note_ne (p : Pace) {b t : Nat} (h : b ≠ src) : (p.note src t).mean4 b = p.mean4 b := by
  simp [Pace.mean4, p.times_note_ne h]

theorem Pace.mem_valid_note_ne (p : Pace) {b t : Nat} (h : b ≠ src) : b ∈ (p.note src t).valid ↔ b ∈ p.valid := by
  unfold Pace.note
  dsimp only
  split
  · simp [mem_addOnce, h]
  · simp [h]

theorem State.sourceLive_note_ne {b t : Nat} (h : b ≠ src) :
    ({ s with pace := s.pace.note src t } : State).sourceLive b = s.sourceLive b := by
  simp only [State.sourceLive, s.pace.times_note_ne h, s.pace.mean4_note_ne h, s.pace.mem_valid_note_ne h]
  rfl

/-- The local generator, which is always valid, is the source to follow where none above it is (R33). -/
theorem State.highestSource_generator {t : Nat} (hl : 3 ∈ s.sourceList)
    (hb : ∀ b ∈ s.sourceList, s.outranks b 3 = true → s.sourceLive b = false) :
    ({ s with pace := s.pace.note 3 t } : State).highestSource 3 = true := by
  have hlive : ({ s with pace := s.pace.note 3 t } : State).sourceLive 3 = true := by
    have hlist : 3 ∈ ({ s with pace := s.pace.note 3 t } : State).sourceList := hl
    simp [State.sourceLive, hlist]
  have hbelow : ∀ b ∈ s.sourceList,
      (!(s.outranks b 3 && ({ s with pace := s.pace.note 3 t } : State).sourceLive b)) = true := by
    intro b hbl
    cases hout : s.outranks b 3 with
    | false => rfl
    | true =>
      have hne : b ≠ 3 := by
        rintro rfl
        simp [State.outranks] at hout
      rw [State.sourceLive_note_ne hne, hb b hbl hout]
      rfl
  unfold State.highestSource
  rw [hlive, Bool.true_and]
  exact List.all_eq_true.mpr hbelow

/-! ### The first lock -/

@[simp] theorem State.firstLock_counted_pace (c : Nat) :
    (s.firstLock src (some c) late).pace = (s.lockAt src c late .locked).pace :=
  State.deferredChecks_pace _

/-- From UNLOCKED the boundary of the source to follow is the first lock (R35). -/
theorem State.otherBoundary_unlocked (hm : s.pace.mode = .unlocked)
    (hh : ({ s with pace := s.pace.note src (s.now - late) } : State).highestSource src = true) :
    s.otherBoundary src count late =
      ({ s with pace := s.pace.note src (s.now - late) } : State).firstLock src count late := by
  have hn : (s.pace.note src (s.now - late)).mode = .unlocked := hm
  unfold State.otherBoundary
  dsimp only
  rw [hh, hn]
  rfl

/-- The first lock to a source that gives its count: LOCKED, at the count, `late` ns into its stride (R35). -/
theorem State.boundary_locks {c : Nat} (hr : s.pins.resetN = true) (hm : s.pace.mode = .unlocked)
    (hh : ({ s with pace := s.pace.note src (s.now - late) } : State).highestSource src = true) :
    let t := s.boundary src (some c) late
    t.pace.mode = .locked ∧ t.pace.source = src ∧ t.pace.stride = c % 2 ^ 32 ∧ t.pace.t64 = 64 * late ∧
      t.pace.genCount = s.pace.genCount := by
  intro t
  have hpace : t.pace =
      (({ s with pace := s.pace.note src (s.now - late) } : State).lockAt src c late .locked).pace := by
    rw [State.boundary_pace hr, State.boundaryTaken_unlocked hm, State.angleMoved_pace,
      State.otherBoundary_unlocked hm hh, State.firstLock_counted_pace]
  rw [hpace]
  exact ⟨rfl, rfl, rfl, rfl, rfl⟩

theorem execLocalGeneratorBoundary_unlocked (hl : 3 ∈ s.sourceList) (hm : s.pace.mode = .unlocked)
    (hc : s.pace.pendCount = none) : exec .localGeneratorBoundary s = .next
      (({ s with pace := { s.pace with genCount := (s.pace.genCount + 1) % 2 ^ 32 } } : State).boundary 3
        (some s.pace.genCount) 0) := by
  show execLocalGeneratorBoundary s = _
  simp [execLocalGeneratorBoundary, hl, hm, hc]

/-! ### The words of one boundary -/

theorem State.reselect_keeps :
    let t := s.reselect late
    t.pace.hop = s.pace.hop ∧ t.pace.port = s.pace.port ∧ t.pace.origin = s.pace.origin ∧
      t.pace.stride = s.pace.stride ∧ t.pace.mode = s.pace.mode := by
  intro t
  unfold t State.reselect
  split
  · exact ⟨rfl, rfl, rfl, rfl, rfl⟩
  · dsimp only
    split
    · rw [State.sendPaceWords_pace, State.angleMoved_pace]
      exact ⟨rfl, rfl, rfl, rfl, rfl⟩
    · exact ⟨rfl, rfl, rfl, rfl, rfl⟩

/-- A better word of the boundary that the angle was last timed by times it (R37). -/
theorem State.reselect_times (hs : s.pace.source = 2) (hm : s.pace.mode = .locked)
    (hl : (s.pace.times 2).getLast? = some s.pace.lastEdge) :
    (s.reselect late).pace.lastEdge = s.now - late := by
  unfold State.reselect
  rw [hl]
  dsimp only
  rw [if_pos ⟨hs, hm, rfl⟩, State.sendPaceWords_pace, State.angleMoved_pace]
  rfl

variable {port : Nat} {word : BitVec 128}

/-- A word that no port in service brought, or of more than eight hops, is ignored. -/
theorem exec_paceWord_ignored (h : s.portUp port = false ∨ 8 < bits word.toNat 71 68) :
    exec (.paceWord port word) s = .next s :=
  if_pos (by simpa using h)

/-- A second word of a boundary is ignored where it is no better than the one selected. -/
theorem exec_paceWord_notBetter (hw : s.pace.lastWord = some (bits word.toNat 127 96))
    (hb : ¬(bits word.toNat 71 68 < s.pace.hop ∨ (bits word.toNat 71 68 = s.pace.hop ∧ port < s.pace.port))) :
    exec (.paceWord port word) s = .next s := by
  show execPaceWord port word s = _
  unfold execPaceWord
  dsimp only
  rw [if_neg (not_not_intro hw), if_neg hb, ite_self]

/-- A better word of the same boundary is the one selected. -/
theorem exec_paceWord_better (hup : s.portUp port = true) (hhop : bits word.toNat 71 68 ≤ 8)
    (hw : s.pace.lastWord = some (bits word.toNat 127 96))
    (hb : bits word.toNat 71 68 < s.pace.hop ∨ (bits word.toNat 71 68 = s.pace.hop ∧ port < s.pace.port)) :
    exec (.paceWord port word) s = .next
      (({ s with pace := { s.pace with
        lastWord := some (bits word.toNat 127 96), hop := bits word.toNat 71 68, port := port,
        origin := bits word.toNat 15 0 } } : State).reselect (bits word.toNat 95 72 + (s.port port).delay)) := by
  show execPaceWord port word s = _
  unfold execPaceWord
  dsimp only
  rw [if_neg (by simp [hup, hhop]), if_neg (not_not_intro hw), if_pos hb]

/-- Settles O38: the generator's boundary is the first lock at its count; a word is ignored, no better, or
selected. -/
theorem localGeneratorAndPaceWords : Obligations.LocalGeneratorAndPaceWords := by
  refine ⟨?generator, fun s port word => ⟨exec_paceWord_ignored, fun hup hhop hw =>
    ⟨exec_paceWord_notBetter hw, fun hb => ⟨_, exec_paceWord_better hup hhop hw hb, ?better⟩⟩⟩⟩
  case generator =>
    intro s hl hr hm hc hb
    obtain ⟨hmode, hsource, hstride, ht64, hgen⟩ := State.boundary_locks (late := 0) (c := s.pace.genCount)
      (s := { s with pace := { s.pace with genCount := (s.pace.genCount + 1) % 2 ^ 32 } }) hr hm
      (State.highestSource_generator hl hb)
    refine ⟨_, execLocalGeneratorBoundary_unlocked hl hm hc, hmode, hsource, hstride, hgen, ?_⟩
    rw [State.angle_of_locked hmode ht64, hstride, mkAngle_mod]
  case better =>
    obtain ⟨hhops, hport, horigin, hstride, hmode⟩ := State.reselect_keeps
      (late := bits word.toNat 95 72 + (s.port port).delay)
      (s := { s with pace := { s.pace with
        lastWord := some (bits word.toNat 127 96), hop := bits word.toNat 71 68, port := port,
        origin := bits word.toNat 15 0 } })
    exact ⟨hhops, hport, horigin, hstride, hmode, fun hs hm hlast => State.reselect_times hs hm hlast⟩

end Sys2Proof.Machine
end

section
/-! Maintenance windows (R42, R43) and the calendar's edges (R44). -/

namespace Sys2Proof.Machine

variable {s : State}

/-! ### One place of a list -/

theorem getElem?_setAt_self {α : Type} {l : List α} {n : Nat} (v : α) (h : n < l.length) :
    (setAt l n v)[n]? = some v := by
  induction l generalizing n with
  | nil => simp at h
  | cons x l ih =>
    cases n with
    | zero => rfl
    | succ n => simpa [setAt] using ih (by simpa using h)

theorem getElem?_setAt_ne {α : Type} (l : List α) {n k : Nat} (v : α) (h : k ≠ n) : (setAt l n v)[k]? = l[k]? := by
  induction l generalizing n k with
  | nil => rfl
  | cons x l ih =>
    cases n with
    | zero =>
      obtain ⟨k, rfl⟩ := Nat.exists_eq_succ_of_ne_zero h
      rfl
    | succ n =>
      cases k with
      | zero => rfl
      | succ k => simpa [setAt] using ih (by simpa using h)

/-! ### Windows -/

theorem exec_windowOpen {w : Nat} (hw : w < 8) (hr : s.pace.mode.running = true) (hi : s.inWindow w = true)
    (ha : s.mayAct (s.windowStart w (s.windowTurn w), 9) = true) :
    exec (.maintenanceWindowOpen w) s = .next { s with windows := setAt s.windows w true } :=
  if_pos (by simp [hr, hw, hi, ha])

theorem exec_windowClose {w : Nat} (hi : s.inWindow w = false) (ho : s.windows[w]? = some true)
    (ha : s.mayAct (s.windowEnd w, 8) = true) :
    exec (.maintenanceWindowClose w) s = .next { s with
      windows := setAt s.windows w false
      windowMark := setAt s.windowMark w (some (s.windowStart w (s.windowTurn w))) } :=
  if_neg (by simp [hi, ha, List.getD, ho])

/-! ### The calendar -/

/-- The whole second nearest the calendar, in ns. -/
def Calendar.nearest (c : Calendar) : Nat := (c.ns + 1000000000 / 2) / 1000000000 * 1000000000

/-- How far the calendar is from it. -/
def Calendar.off (c : Calendar) : Nat := (c.ns - c.nearest) + (c.nearest - c.ns)

/-- The calendar stepped by an edge to a time. -/
def Calendar.stepped (c : Calendar) (n : Nat) : Calendar := { c with ns := n % 2 ^ 64, rejects := 0, ppsSeen := true }

theorem exec_ppsInEdge_loaded {v : Nat} (h : s.cal.pend = some v) :
    exec .ppsInEdge s =
      .next { s with cal := { s.cal.stepped (v * 1000000000) with pend := none, free := false } } := by
  show execPpsInEdge s = _
  unfold execPpsInEdge
  rw [h]
  rfl

/-- Without a loaded second an edge steps the calendar where it is near, or after three rejects, and is rejected and
counted else (R44, log entry 82). -/
theorem exec_ppsInEdge_free (h : s.cal.pend = none) :
    exec .ppsInEdge s =
      if s.cal.off ≤ 100000 then .next { s with cal := s.cal.stepped s.cal.nearest }
      else if 3 ≤ s.cal.rejects then
        let t := { s with cal := s.cal.stepped s.cal.nearest }
        .next (t.recordEvent (t.info 0x6005 0 0))
      else .next (({ s with cal := { s.cal with rejects := s.cal.rejects + 1 } } : State).bump 0x5120 3 1) := by
  show execPpsInEdge s = _
  unfold execPpsInEdge
  rw [h]
  rfl

/-- Settles O40: the rows' own equations, each in its case. -/
theorem windowsAndCalendarEdges : Obligations.WindowsAndCalendarEdges := by
  refine ⟨fun s w hlen hw => ⟨fun hr hi ha => ?opens, fun hi ho ha => ?closes⟩,
    fun s => ⟨fun v hv => ?loaded, fun hp hoff => ?near, fun hp hoff hrej => ?rejected,
      fun hp hoff hrej => ?newReference⟩⟩
  case opens =>
    exact ⟨_, exec_windowOpen hw hr hi ha, rfl, getElem?_setAt_self _ hlen, fun v hv => getElem?_setAt_ne _ _ hv⟩
  case closes =>
    exact ⟨_, exec_windowClose hi ho ha, rfl, getElem?_setAt_self _ hlen, fun v hv => getElem?_setAt_ne _ _ hv,
      fun v hv => getElem?_setAt_ne _ _ hv⟩
  case loaded => exact ⟨_, exec_ppsInEdge_loaded hv, rfl, rfl, rfl, rfl⟩
  case near => exact ⟨_, (exec_ppsInEdge_free hp).trans (if_pos hoff), rfl, rfl, rfl⟩
  case rejected =>
    exact ⟨_, (exec_ppsInEdge_free hp).trans ((if_neg (Nat.not_le.mpr hoff)).trans (if_neg (Nat.not_le.mpr hrej))),
      State.bump_cal _ _ _ _⟩
  case newReference =>
    refine ⟨_, (exec_ppsInEdge_free hp).trans ((if_neg (Nat.not_le.mpr hoff)).trans (if_pos hrej)), ?_⟩
    rw [State.recordEvent_cal]
    exact ⟨rfl, rfl⟩

end Sys2Proof.Machine
end

section
/-! The idle step (log entry 1), the reset state (R21, R32, R446, R447) and the order of angles (R30). -/

namespace Sys2Proof.Machine

variable {s : State}

/-! ### The idle step -/

/-- Marking installs keeps each command at its place, and marks only gated installs not released (R480). -/
theorem State.latchInstalls_getElem? {old : State} {k : Nat} {c : Cmd} (h : s.cmds[k]? = some c) :
    (s.latchInstalls old).cmds[k]? = some c ∨
      (isInstall c.desc = true ∧ gated c.desc = true ∧ c.phase = .admitted ∧
        (s.latchInstalls old).cmds[k]? = some { c with onTime := true }) := by
  have hk : (s.latchInstalls old).cmds[k]? = some (if s.opensOnTime old c then { c with onTime := true } else c) := by
    simp [State.latchInstalls, h]
  rw [hk]
  split
  · next ho =>
    simp only [State.opensOnTime, Bool.and_eq_true, decide_eq_true_eq] at ho
    obtain ⟨⟨⟨⟨⟨⟨hphase, hgated⟩, hinstall⟩, -⟩, -⟩, -⟩, -⟩ := ho
    exact .inr ⟨hinstall, hgated, hphase, rfl⟩
  · exact .inl rfl

/-- Measuring the waits on the barrier object touches the power manager alone. -/
theorem State.passStride_frame (s : State) : ∃ p, s.passStride = { s with power := p } := by
  unfold State.passStride
  dsimp only
  split <;> exact ⟨_, rfl⟩

theorem State.markEnergy_frame (s : State) : ∃ p, s.markEnergy = { s with power := p } := by
  unfold State.markEnergy
  split <;> exact ⟨_, rfl⟩

/-- A nanosecond of the clocks: the clocks of `clockOn`, the angle's move from the state before, and what the power
manager measures. -/
theorem State.powerTick_frame (s : State) :
    ∃ m p, s.powerTick =
      { s.clockOn with cmds := (s.clockOn.latchInstalls s).cmds, windowMark := m, power := p } := by
  obtain ⟨m, hmoved⟩ := s.clockOn.angleMoved_frame s
  obtain ⟨p, hpass⟩ := s.clockTick.passStride_frame
  obtain ⟨q, hmark⟩ := s.clockTick.passStride.countWaits.markEnergy_frame
  refine ⟨m, q, ?_⟩
  unfold State.powerTick
  rw [hmark, hpass]
  unfold State.clockTick
  rw [hmoved]
  rfl

theorem State.settle_of_no_transition (h : s.server.transition = none) : s.settle = s := by
  simp [State.settle, State.transitionDue, h]

theorem step_idle (hp : s.pending = []) : step s = .next s.tick := by
  simp [step, hp]

/-- Settles O2: the step is the clocks' nanosecond, with no transition to commit. -/
theorem idleStepIsOneNanosecond : Obligations.IdleStepIsOneNanosecond := by
  intro s hp hs
  obtain ⟨m, p, htick⟩ := s.powerTick_frame
  have hstep : step s = .next s.powerTick := by
    rw [step_idle hp, State.tick, State.settle_of_no_transition]
    rw [htick]
    exact hs
  rw [htick] at hstep
  exact ⟨_, hstep, rfl, rfl, rfl, by simp [State.latchInstalls, State.clockOn],
    fun k c hk => State.latchInstalls_getElem? (s := s.clockOn) hk⟩

/-! ### The reset state -/

/-- In reset context 0 alone holds a slot. -/
theorem State.resident_reset (c : Nat) : State.reset.resident c = decide (c = 0) := by
  by_cases h : c = 0
  · subst h
    rfl
  · have hoff : State.reset.ctx c = Ctx.off := if_neg (Ne.symm h)
    simp [State.resident, hoff, h, Ctx.off]

/-- Settles O4: each field as reset holds it, and its tables, each empty or with one entry, in canonical form. -/
theorem resetStateIsCanonicalAndAsTheSpecSays : Obligations.ResetStateIsCanonicalAndAsTheSpecSays := by
  refine ⟨⟨rfl, rfl, rfl, rfl, rfl, rfl, rfl, rfl, State.resident_reset, ?sync, ?objects, ?units⟩, ?canonical⟩
  case sync => exact fun _ => rfl
  case objects => exact fun _ _ => rfl
  case units => exact fun _ => rfl
  case canonical => decide

/-! ### The order of angles -/

/-- The difference of two angles is taken modulo 2^48. -/
theorem toNat_angle_sub (a b : Angle) : ((a - b).toNat : Int) = ((a.toNat : Int) - b.toNat) % 2 ^ 48 := by
  have ha := a.isLt
  have hb := b.isLt
  rw [BitVec.toNat_sub]
  omega

/-- Settles O7: `atOrAfter` bounds the difference of the words, which is the difference modulo 2^48. -/
theorem angleOrder : Obligations.AngleOrder := by
  intro a b
  rw [← toNat_angle_sub, atOrAfter, decide_eq_true_eq]
  omega

end Sys2Proof.Machine
end

section
/-! Release (R41, R42, R318, R323, R333), and the stop of a command at its safe point (R13, R326 to R328). -/

namespace Sys2Proof.Machine

variable {s : State} {c : Cmd}

/-! ### Release -/

/-- The release of the command at the head of a queue of a context that releases commands. -/
theorem exec_commandRelease_head {ctx queue : Nat} (hc : s.head ctx queue = some c) (hw : s.takesWork = true)
    (hs : s.mgmt.stopped = false) (hr : s.releases? ctx = true) :
    exec (.commandRelease ctx queue) s =
      if s.objectGone c.desc then .next (s.finish c.id .unitRetired)
      else if !s.gateOpen c.desc || !s.waitMet c.desc || !s.inTurn c || s.releasePaused c.desc then .next s
      else if s.waitFault c.desc then .next ((s.cancelPeers c).finish c.id .aborted)
      else .next (s.released c) := by
  show execCommandRelease ctx queue s = _
  simp [execCommandRelease, hc, hw, hs, hr]

/-! ### What a command that stops ends with -/

/-- A unit, an object or a slice that it needs is retired. -/
def State.stopGone (s : State) (c : Cmd) : Prop :=
  (s.unitsFor c).any s.retired = true ∨ s.collGone c.desc = true ∨ s.tapStop c = some .unitRetired

/-- Data that it used is not to be trusted. -/
def State.stopBad (s : State) (c : Cmd) : Prop := c.suspect = true ∨ s.tapStop c = some .dataSuspect

theorem State.stopStatus_gone (h : s.stopGone c) : s.stopStatus c = .unitRetired :=
  if_pos (by simpa [State.stopGone, or_assoc] using h)

/-- Past the first condition of R13 the others are taken in their order. -/
theorem State.stopStatus_not_gone (h : ¬s.stopGone c) :
    s.stopStatus c =
      if s.tapStop c = some .paceLost then .paceLost
      else if c.needs.any s.memberGone then .membershipChanged
      else if c.suspect || decide (s.tapStop c = some .dataSuspect) then .dataSuspect
      else .aborted :=
  if_neg (by simpa [State.stopGone, or_assoc] using h)

theorem State.stopStatus_paceLost (hg : ¬s.stopGone c) (hp : s.tapStop c = some .paceLost) :
    s.stopStatus c = .paceLost :=
  (State.stopStatus_not_gone hg).trans (if_pos hp)

theorem State.stopStatus_membershipChanged (hg : ¬s.stopGone c) (hp : s.tapStop c ≠ some .paceLost)
    (hl : c.needs.any s.memberGone = true) : s.stopStatus c = .membershipChanged :=
  (State.stopStatus_not_gone hg).trans ((if_neg hp).trans (if_pos hl))

theorem State.stopStatus_dataSuspect (hg : ¬s.stopGone c) (hp : s.tapStop c ≠ some .paceLost)
    (hl : ¬c.needs.any s.memberGone = true) (hb : s.stopBad c) : s.stopStatus c = .dataSuspect :=
  (State.stopStatus_not_gone hg).trans ((if_neg hp).trans ((if_neg hl).trans
    (if_pos (by simpa [State.stopBad] using hb))))

theorem State.stopStatus_aborted (hg : ¬s.stopGone c) (hp : s.tapStop c ≠ some .paceLost)
    (hl : ¬c.needs.any s.memberGone = true) (hb : ¬s.stopBad c) : s.stopStatus c = .aborted :=
  (State.stopStatus_not_gone hg).trans ((if_neg hp).trans ((if_neg hl).trans
    (if_neg (by simpa [State.stopBad] using hb))))

/-! ### The safe point -/

/-- A command ended with a status, no test of its own left. -/
def State.stopWith (s : State) (id : CmdId) (st : Status) : State :=
  s.updCmd id fun x => { x with phase := Phase.finished st, testing := none }

variable {id : CmdId}

/-- A released command goes on though it is to stop: it waits for no test and has begun, and it has no safe point or is
past its last (R82, R328). -/
def State.goesOn (s : State) (c : Cmd) : Bool :=
  c.testing.isNone && !s.tapIdle c && (noSafePoint c.desc || s.pastSafe c)

theorem State.goesOn_eq_true : s.goesOn c = true ↔
    c.testing = none ∧ s.tapIdle c = false ∧ (noSafePoint c.desc = true ∨ s.pastSafe c = true) := by
  simp [State.goesOn, and_assoc]

theorem State.goesOn_eq_false : s.goesOn c = false ↔
    c.testing ≠ none ∨ s.tapIdle c = true ∨ (noSafePoint c.desc = false ∧ s.pastSafe c = false) := by
  rw [← Bool.not_eq_true, State.goesOn_eq_true]
  simp [imp_iff_not_or]

theorem exec_safePointAbort_released (hf : s.findCmd id = some c) (ha : c.abortReq = true) (hp : c.phase = .released) :
    exec (.safePointAbort id) s =
      if s.goesOn c then .next s
      else
        let t := (s.stopWork c).stopWith id (s.stopStatus c)
        .next (if isCollective c.desc ∧ s.stopStatus c = .membershipChanged then t.tally id.ctx 0x7140 25 1
          else t) := by
  show execSafePointAbort id s = _
  unfold execSafePointAbort
  rw [hf]
  dsimp only
  rw [ha, hp]
  rfl

/-- A command that stops with MEMBERSHIP_CHANGED is counted where it is a collective (R315). -/
theorem exec_safePointAbort_membershipChanged (hf : s.findCmd id = some c) (ha : c.abortReq = true)
    (hp : c.phase = .released) (hs : s.goesOn c = false) (hst : s.stopStatus c = .membershipChanged) :
    exec (.safePointAbort id) s = .next
      (if isCollective c.desc then ((s.stopWork c).stopWith id .membershipChanged).tally id.ctx 0x7140 25 1
        else (s.stopWork c).stopWith id .membershipChanged) := by
  rw [exec_safePointAbort_released hf ha hp, hs, hst]
  simp

/-- A command that stops with another status is not counted. -/
theorem exec_safePointAbort_stops {st : Status} (hf : s.findCmd id = some c) (ha : c.abortReq = true)
    (hp : c.phase = .released) (hs : s.goesOn c = false) (hst : s.stopStatus c = st) (hne : st ≠ .membershipChanged) :
    exec (.safePointAbort id) s = .next ((s.stopWork c).stopWith id st) := by
  rw [exec_safePointAbort_released hf ha hp, hs, hst]
  simp [hne]

/-- A finished command that is to stop: its record is held or free, and it has worked or not. -/
theorem exec_safePointAbort_finished {st : Status} (hf : s.findCmd id = some c) (ha : c.abortReq = true)
    (hp : c.phase = .finished st) :
    exec (.safePointAbort id) s =
      if st = .aborted ∨ s.recordFree id.ctx id.queue = true then .next s
      else if c.rank = 0 then .next (s.stopWith id .aborted)
      else
        let t := ((s.cancelPeers c).tapUndone id).seqUndone c
        .next ((t.scrambleAll (t.outputs c)).stopWith id .aborted) := by
  show execSafePointAbort id s = _
  unfold execSafePointAbort
  rw [hf]
  dsimp only
  rw [ha, hp]
  rfl

/-- A command that stops ends with the first of the conditions of R13 that holds at its safe point. -/
theorem exec_safePointAbort_firstCondition (hf : s.findCmd id = some c) (ha : c.abortReq = true)
    (hp : c.phase = .released) (hs : s.goesOn c = false) :
    (s.stopGone c → exec (.safePointAbort id) s = .next ((s.stopWork c).stopWith id .unitRetired)) ∧
    (¬s.stopGone c → s.tapStop c = some .paceLost →
      exec (.safePointAbort id) s = .next ((s.stopWork c).stopWith id .paceLost)) ∧
    (¬s.stopGone c → s.tapStop c ≠ some .paceLost → c.needs.any s.memberGone = true →
      ∃ t, exec (.safePointAbort id) s = .next t ∧ t =
        (if isCollective c.desc then ((s.stopWork c).stopWith id .membershipChanged).tally id.ctx 0x7140 25 1
          else (s.stopWork c).stopWith id .membershipChanged)) ∧
    (¬s.stopGone c → s.tapStop c ≠ some .paceLost → ¬c.needs.any s.memberGone = true → s.stopBad c →
      exec (.safePointAbort id) s = .next ((s.stopWork c).stopWith id .dataSuspect)) ∧
    (¬s.stopGone c → s.tapStop c ≠ some .paceLost → ¬c.needs.any s.memberGone = true → ¬s.stopBad c →
      exec (.safePointAbort id) s = .next ((s.stopWork c).stopWith id .aborted)) := by
  have stops {st : Status} := exec_safePointAbort_stops (st := st) hf ha hp hs
  refine ⟨fun hg => ?_, fun hg ht => ?_, fun hg ht hl => ?_, fun hg ht hl hb => ?_, fun hg ht hl hb => ?_⟩
  · exact stops (State.stopStatus_gone hg) (by decide)
  · exact stops (State.stopStatus_paceLost hg ht) (by decide)
  · exact ⟨_, exec_safePointAbort_membershipChanged hf ha hp hs (State.stopStatus_membershipChanged hg ht hl), rfl⟩
  · exact stops (State.stopStatus_dataSuspect hg ht hl hb) (by decide)
  · exact stops (State.stopStatus_aborted hg ht hl hb) (by decide)

/-- Settles O34: the equations of the two rows, in each case that they distinguish. -/
theorem releaseFollowsGateWaitAndSafePoint : Obligations.ReleaseFollowsGateWaitAndSafePoint := by
  constructor
  · intro s ctx queue c hc hw hs hr
    rw [exec_commandRelease_head hc hw hs hr]
    refine ⟨fun hg => if_pos hg, fun hg => ⟨fun hwait => ?waits,
      fun ho hm ht hp => ⟨fun hf => ?faults, fun hf => ?released⟩⟩⟩
    case waits =>
      rw [if_neg (by simp [hg]), if_pos (by simpa [or_assoc] using hwait)]
    case faults =>
      rw [if_neg (by simp [hg]), if_neg (by simp [ho, hm, ht, hp]), if_pos hf]
    case released =>
      rw [if_neg (by simp [hg]), if_neg (by simp [ho, hm, ht, hp]), if_neg (by simp [hf])]
  · intro s id c hf ha stop tap gone lost bad
    refine ⟨fun hp => ⟨fun ht hi hn => ?goesOn, fun hs => ?stops⟩,
      fun st hp hne => ⟨fun hfree => ?free, fun hheld h0 => ?unreleased, fun hheld h0 => ?undone⟩⟩
    case goesOn =>
      rw [exec_safePointAbort_released hf ha hp, if_pos (State.goesOn_eq_true.mpr ⟨ht, hi, hn⟩)]
    case stops => exact exec_safePointAbort_firstCondition hf ha hp (State.goesOn_eq_false.mpr hs)
    case free => rw [exec_safePointAbort_finished hf ha hp, if_pos (.inr hfree)]
    case unreleased =>
      rw [exec_safePointAbort_finished hf ha hp, if_neg (by simp [hne, hheld]), if_pos h0]
      rfl
    case undone =>
      rw [exec_safePointAbort_finished hf ha hp, if_neg (by simp [hne, hheld]), if_neg (by omega)]
      rfl

end Sys2Proof.Machine
end

section
/-! Bytes written to a store and read back, and numbers of n bytes laid end to end (R5). -/

namespace Sys2Proof.Machine

theorem length_toBytes (n x : Nat) : (toBytes n x).length = n := by
  induction n generalizing x with
  | zero => rfl
  | succ n ih => simp [toBytes, ih]

theorem ofBytes_toBytes (n x : Nat) : ofBytes (toBytes n x) = x % 2 ^ (8 * n) := by
  induction n generalizing x with
  | zero => simp [toBytes, ofBytes, Nat.mod_one]
  | succ n ih =>
    rw [toBytes, ofBytes, ih, BitVec.toNat_ofNat, Nat.mul_succ, Nat.add_comm (8 * n), pow_add, Nat.mod_mul]
    rfl

/-- A run of the bytes just written reads back. -/
theorem Mem.read_write {m : Mem} {a off n : Nat} {l : List Byte} (hw : m.wf = true) (h : off + n ≤ l.length) :
    (m.write a l).read (a + off) n = (l.drop off).take n := by
  induction n generalizing off with
  | zero => simp [Mem.read]
  | succ n ih =>
    have hoff : off < l.length := by omega
    rw [Mem.read, Mem.byte_write_in m a off l hw hoff, Nat.add_assoc, ih (by omega), List.drop_eq_getElem_cons hoff,
      List.take_succ_cons, List.getD_eq_getElem _ _ hoff]

/-- Of lists of one length laid end to end, the k-th is cut out again. -/
theorem take_drop_flatten {α : Type} {L : List (List α)} {n k : Nat} (hl : ∀ l ∈ L, l.length = n)
    (hk : k < L.length) : (L.flatten.drop (k * n)).take n = L[k] := by
  induction L generalizing k with
  | nil => simp at hk
  | cons x L ih =>
    have hx : x.length = n := hl x (by simp)
    cases k with
    | zero => simp [← hx]
    | succ k =>
      have hskip : (x ++ L.flatten).drop ((k + 1) * n) = L.flatten.drop (k * n) := by
        rw [Nat.succ_mul, Nat.add_comm, ← hx, List.drop_length_add_append]
      rw [List.flatten_cons, hskip, List.getElem_cons_succ]
      exact ih (fun l h => hl l (by simp [h])) (by simpa using hk)

/-- A table of rows of w entries laid end to end holds entry (i, j) at place i × w + j. -/
theorem getElem?_table {α : Type} {m w i j : Nat} (g : Nat → Nat → α) (hi : i < m) (hj : j < w) :
    (((List.range m).map fun i => (List.range w).map (g i)).flatten)[i * w + j]? = some (g i j) := by
  have hrow := take_drop_flatten (n := w) (k := i) (L := (List.range m).map fun i => (List.range w).map (g i))
    (by simp) (by simpa using hi)
  rw [← List.getElem?_drop, ← List.getElem?_take_of_lt hj, hrow]
  simp [hj]

end Sys2Proof.Machine
end

section
/-! Stand rows (R72, R78): what a row does by its command's readiness, and a command found after it has been
changed. -/

namespace Sys2Proof.Machine

variable {s : State} {id : CmdId} {c : Cmd}

/-! ### A command after a change -/

theorem State.findCmd_updCmd (s : State) {f : Cmd → Cmd} (hf : ∀ x, (f x).id = x.id) (h : s.findCmd id = some c) :
    (s.updCmd id f).findCmd id = some (f c) := by
  have hp : ((fun x : Cmd => decide (x.id = id)) ∘ fun x => if x.id = id then f x else x) =
      fun x => decide (x.id = id) := by
    funext x
    by_cases hx : x.id = id <;> simp [hx, hf]
  unfold State.findCmd at h ⊢
  simp only [State.updCmd, List.find?_map, hp, h, Option.map_some, Option.some.injEq]
  exact if_pos (by simpa using List.find?_some h)

theorem State.findCmd_finish {st : Status} (h : s.findCmd id = some c) :
    (s.finish id st).findCmd id = some { c with phase := .finished (c.earn st) } :=
  s.findCmd_updCmd (fun _ => rfl) h

/-! ### The rows of drains, zeroings and releases -/

variable {p : Desc → Bool} {ready : State → Cmd → Bool} {f : State → Cmd → State × Status}

theorem State.runStand_otherWidth (h : s.runnable id p = some c) (ht : s.takesUnit c = true)
    (hw : s.width (standCore c.desc) ≠ standWidth c.desc) : s.runStand id p ready f = s.finish id .unitRetired := by
  simp [State.runStand, h, ht, hw]

/-- A stand row leaves the state, ends its command with UNIT_RETIRED or does its work. -/
theorem State.runStand_cases (h : s.findCmd id = some c) :
    s.runStand id p ready f = s ∨ s.runStand id p ready f = s.finish id .unitRetired ∨
      s.runStand id p ready f = (f (s.took c) c).1.finish id (f (s.took c) c).2 := by
  unfold State.runStand
  split
  · exact .inl rfl
  · next x hx =>
    obtain rfl : c = x := Option.some.inj (h.symm.trans (State.findCmd_of_runnable hx))
    dsimp only
    split
    · exact .inl rfl
    · split
      · exact .inr (.inl rfl)
      · split
        · exact .inl rfl
        · exact .inr (.inr rfl)

/-! ### The rows of matrix instructions -/

variable {b : MatBody} {op : Nat} {moving : State → MatBody → List (List FVal)}

/-- A matrix instruction's work, and what of it a command that has met it or a spoilt generator record makes
undefined. -/
def State.matDone (s : State) (c : Cmd) (b : MatBody) (rows : List (List FVal)) : State :=
  (s.matmul c b rows).spoilMat { c with
    filled := (s.heldTile b).isNone
    spoilt := c.spoilt || (b.gen && !(s.genRecord b).ok b.m b.k b.fm.bits) } b (s.accExtent b)

/-- What the row leaves where the instruction works: its end too, unless its flip is still due. -/
def State.matRun (s : State) (c : Cmd) (b : MatBody) (rows : List (List FVal)) : State :=
  if b.flip then s.matDone c b rows else (s.matDone c b rows).finish c.id .ok

/-! A row that works takes its stand first, which is no part of what the work reads. -/

@[simp] theorem State.stand_took (k : Nat) : (s.took c).stand k = s.stand k := by
  rw [State.took_eq]
  rfl

@[simp] theorem State.heldTile_took : (s.took c).heldTile b = s.heldTile b := by
  rw [State.took_eq]
  rfl

@[simp] theorem State.tileFor_took : (s.took c).tileFor b = s.tileFor b := by
  rw [State.took_eq]
  rfl

@[simp] theorem State.genRecord_took : (s.took c).genRecord b = s.genRecord b := by
  rw [State.took_eq]
  rfl

@[simp] theorem State.accExtent_took : (s.took c).accExtent b = s.accExtent b := by
  rw [State.took_eq]
  rfl

@[simp] theorem State.findCmd_took : (s.took c).findCmd id = s.findCmd id := by
  rw [State.took_eq]
  rfl

theorem matBody_core {d : Desc} (h : matBody d = some b) : b.core = standCore d ∧ b.w = standWidth d := by
  simp only [matBody, Option.bind_eq_bind, Option.bind_eq_some_iff] at h
  obtain ⟨_, _, _, _, _, _, h⟩ := h
  obtain rfl := Option.some.inj h
  exact ⟨rfl, rfl⟩

theorem State.runMat_ready (h : s.standReady id (isOp op) c) (hb : matBody c.desc = some b)
    (hf : s.flipWaits b.core = none) : s.runMat id op moving = (s.took c).matRun c b (moving s b) := by
  obtain ⟨hrun, hturn, hwidth, hfree⟩ := h
  obtain ⟨hcore, hw⟩ := matBody_core hb
  rw [← hcore, ← hw] at hwidth
  rw [← hcore] at hfree
  have hid : c.id = id := State.id_of_findCmd (State.findCmd_of_runnable hrun)
  simp [State.runMat, State.matRun, State.matDone, hrun, hb, hturn, hwidth, hfree, hf, hid]

theorem State.runMat_otherWidth (h : s.runnable id (isOp op) = some c) (hb : matBody c.desc = some b)
    (ht : s.takesUnit c = true) (hf : s.flipWaits (standCore c.desc) = none)
    (hw : s.width (standCore c.desc) ≠ standWidth c.desc) : s.runMat id op moving = s.finish id .unitRetired := by
  obtain ⟨hcore, hwidth⟩ := matBody_core hb
  rw [← hcore] at hf
  rw [← hcore, ← hwidth] at hw
  simp [State.runMat, h, hb, ht, hf, hw]

/-- A matrix row leaves the state, ends its instruction with UNIT_RETIRED or has it work. -/
theorem State.runMat_cases (h : s.findCmd id = some c) :
    s.runMat id op moving = s ∨ s.runMat id op moving = s.finish id .unitRetired ∨
      ∃ b, matBody c.desc = some b ∧ s.runMat id op moving = (s.took c).matRun c b (moving s b) := by
  cases hx : s.runnable id (isOp op) with
  | none => exact .inl (by simp [State.runMat, hx])
  | some x =>
    obtain rfl : c = x := Option.some.inj (h.symm.trans (State.findCmd_of_runnable hx))
    cases hb : matBody c.desc with
    | none => exact .inl (by simp [State.runMat, hx, hb])
    | some b =>
      have hid : c.id = id := State.id_of_findCmd h
      have hrow : s.runMat id op moving =
          if !s.takesUnit c || (s.flipWaits b.core).isSome then s
          else if s.width b.core ≠ b.w then s.finish id .unitRetired
          else if s.blocked (.stand b.core) then s
          else (s.took c).matRun c b (moving s b) := by
        simp only [State.runMat, hx, hb, State.matRun, State.matDone, hid, State.heldTile_took, State.genRecord_took,
          State.accExtent_took]
      rw [hrow]
      split
      · exact .inl rfl
      · split
        · exact .inr (.inl rfl)
        · split
          · exact .inl rfl
          · exact .inr (.inr ⟨b, rfl, rfl⟩)

/-- Settles O19: once the turn has come the width is compared first, before anything the row waits for. -/
theorem widthMismatchEndsUnitRetired : Obligations.WidthMismatchEndsUnitRetired := by
  intro s id c ht hw
  exact ⟨fun hrun => congrArg Host.Outcome.next (State.runStand_otherWidth hrun ht hw),
    fun hrun => congrArg Host.Outcome.next (State.runStand_otherWidth hrun ht hw),
    fun hrun => congrArg Host.Outcome.next (State.runStand_otherWidth hrun ht hw),
    fun b hb hf => ⟨fun hrun => congrArg Host.Outcome.next (State.runMat_otherWidth hrun hb ht hf hw),
      fun hrun => congrArg Host.Outcome.next (State.runMat_otherWidth hrun hb ht hf hw)⟩⟩

end Sys2Proof.Machine
end

section
/-! A matrix instruction's work (R55, R59, R60, R102): what each of its operations changes of the state, the values it
writes, and where they stand. -/

namespace Sys2Proof.Machine

variable (s : State) (c : Cmd) (b : MatBody) (rows : List (List FVal))

/-! ### Counting -/

/-- A state that differs from another in the counters and the free values used alone. -/
def State.counted (s t : State) : Prop := ∃ r o f, t = { s with trust := r, obj := o, free := f }

theorem State.counted.trans {s t u : State} (h : s.counted t) (h' : t.counted u) : s.counted u := by
  obtain ⟨_, _, _, rfl⟩ := h
  obtain ⟨_, _, _, rfl⟩ := h'
  exact ⟨_, _, _, rfl⟩

theorem State.counted_tally (x i y n : Nat) : s.counted (s.tally x i y n) := by
  obtain ⟨r, o, h⟩ := s.tally_frame x i y n
  exact ⟨r, o, _, h⟩

theorem State.counted_tallyIf (p : Bool) (x i y n : Nat) : s.counted (if p then s.tally x i y n else s) := by
  split
  · exact s.counted_tally x i y n
  · exact ⟨_, _, _, rfl⟩

theorem State.counted_countRows (x core m : Nat) (fill flipWait : Bool) :
    s.counted (s.countRows x core m fill flipWait) :=
  ((((s.counted_tally _ _ _ _).trans (State.counted_tally _ _ _ _ _)).trans
    (State.counted_tallyIf _ fill _ _ _ _)).trans (State.counted_tallyIf _ flipWait _ _ _ _)).trans ⟨_, _, _, rfl⟩

theorem State.counted_health (x group f : Nat) (l : List Conv) : s.counted (s.health x group f l) :=
  (((s.counted_tally _ _ _ _).trans (State.counted_tally _ _ _ _ _)).trans (State.counted_tally _ _ _ _ _)).trans
    (State.counted_tally _ _ _ _ _)

/-! ### The work -/

/-- The bytes a matrix instruction writes, row by row. -/
def State.matBytes (s : State) (b : MatBody) (rows : List (List FVal)) : List Byte :=
  ((s.matWrites b (s.tileFor b).vals rows).map fun w => toBytes (accBytes b.fmtAcc) w.code).flatten

/-- Where the region of a matrix instruction begins in the store of accumulator bytes. -/
def State.matBase (s : State) (b : MatBody) : Nat := accBase b.core (s.stand b.core).half + 256 * b.accOff

@[simp] theorem State.matBase_took : (s.took c).matBase b = s.matBase b := by
  simp [State.matBase]

/-- The stand of a matrix instruction after its work. -/
def State.matStand (s : State) (c : Cmd) (b : MatBody) : Stand :=
  { s.stand b.core with
    tile := some (s.tileFor b), pendingTile := some (s.tileFor b),
    flipPending := if b.flip then some c.id else none }

/-- A matrix instruction writes its bytes, sets its stand, and notes the half and the fill with itself. -/
def State.matWritten (s : State) (c : Cmd) (b : MatBody) (rows : List (List FVal)) : State :=
  ((s.set (.acc b.core (s.stand b.core).half) (256 * b.accOff) (s.matBytes b rows)).setStand b.core
    (s.matStand c b)).updCmd c.id fun y => { y with
      half := some (s.stand b.core).half, filled := (s.heldTile b).isNone }

/-- What a matrix instruction does else is to count. -/
theorem State.counted_matmul : (s.matWritten c b rows).counted (s.matmul c b rows) := by
  unfold State.matmul
  exact (State.counted_countRows _ _ _ _ _ _).trans (State.counted_health _ _ _ _ _)

variable {s c b rows}

theorem State.matmul_stands :
    (s.matmul c b rows).stands = Tab.put Stand.fresh s.stands b.core (s.matStand c b) := by
  obtain ⟨_, _, _, h⟩ := s.counted_matmul c b rows
  rw [h]
  rfl

theorem State.stand_matmul_ne {k : Nat} (hk : k ≠ b.core) : (s.matmul c b rows).stand k = s.stand k := by
  rw [State.stand, State.matmul_stands]
  exact Tab.get_put_ne _ _ _ _ _ hk

theorem State.stand_matmul_self (ht : Tab.wf Stand.fresh s.stands = true) :
    (s.matmul c b rows).stand b.core = s.matStand c b := by
  rw [State.stand, State.matmul_stands]
  exact Tab.get_put_self _ _ _ _ ht

/-! ### What a command met leaves -/

theorem State.stand_spoilTile_ne {k : Nat} (hk : k ≠ b.core) : (s.spoilTile b).stand k = s.stand k :=
  Tab.get_put_ne _ _ _ _ _ hk

theorem State.stand_spoilTile_self (ht : Tab.wf Stand.fresh s.stands = true) :
    (s.spoilTile b).stand b.core =
      { s.stand b.core with tile := some (s.freeTile b), pendingTile := some (s.freeTile b) } :=
  Tab.get_put_self _ _ _ _ ht

variable (s c b rows)

theorem State.scrambleAll_acc (k h a n : Nat) : s.scrambleAll [.flat (.acc k h) a n] =
    { s with acc := s.acc.write (accBase k h + a) (s.freeBytes n), free := s.free + n } := by
  simp [State.scrambleAll, State.extentHere, Extent.flat, State.scrambleRows, State.scramble, State.set,
    State.usedFree, State.freeBytes, State.freeVal]

theorem State.length_freeBytes (n : Nat) : (s.freeBytes n).length = n := by
  simp [State.freeBytes]

theorem State.spoilMat_unmet (e : Extent) (hf : (c.fillSpoilt && c.filled) = false) (hs : c.spoilt = false) :
    s.spoilMat c b e = s := by
  simp [State.spoilMat, hf, hs]

/-- Where a command met what only the fill has read the tile is free values; where it met any operand the region of the
accumulator store is. -/
theorem State.spoilMat_frame (k h a n : Nat) : ∃ m f, s.spoilMat c b (.flat (.acc k h) a n) = { s with
      acc := m, free := f, stands := if c.fillSpoilt && c.filled then (s.spoilTile b).stands else s.stands } ∧
    ∀ i, i < accBase k h + a ∨ accBase k h + a + n ≤ i → m.byte i = s.acc.byte i := by
  have outside (t : State) (i : Nat) (hi : i < accBase k h + a ∨ accBase k h + a + n ≤ i) :
      (t.acc.write (accBase k h + a) (t.freeBytes n)).byte i = t.acc.byte i :=
    Mem.byte_write_out _ _ _ _ (by rwa [State.length_freeBytes])
  cases hfill : (c.fillSpoilt && c.filled) with
  | true =>
    have htile : s.spoilMat c b (.flat (.acc k h) a n) = (s.spoilTile b).scrambleAll [.flat (.acc k h) a n] := by
      simp [State.spoilMat, hfill]
    rw [htile, State.scrambleAll_acc]
    exact ⟨_, _, rfl, outside (s.spoilTile b)⟩
  | false =>
    cases hmet : c.spoilt with
    | true =>
      have hregion : s.spoilMat c b (.flat (.acc k h) a n) = s.scrambleAll [.flat (.acc k h) a n] := by
        simp [State.spoilMat, hfill, hmet]
      rw [hregion, State.scrambleAll_acc]
      exact ⟨_, _, rfl, outside s⟩
    | false =>
      rw [s.spoilMat_unmet c b _ hfill hmet]
      exact ⟨_, _, rfl, fun _ _ => rfl⟩

/-! ### The values written -/

theorem State.length_matBytes : (s.matBytes b rows).length = b.m * b.w * accBytes b.fmtAcc := by
  simp [State.matBytes, State.matWrites, List.length_flatten, Function.comp_def, length_toBytes]

variable {i j : Nat}

/-- The encoding of a result: the sum of its row and column, taken by the instruction's MODE. -/
def State.matCode (s : State) (b : MatBody) (rows : List (List FVal)) (i j : Nat) : Nat :=
  let n := accBytes b.fmtAcc
  (accWrite b.fmtAcc b.mode b.seed i j
    (accValue b.fmtAcc (ofBytes (s.acc.read (s.matBase b + (i * b.w + j) * n) n)))
    (standSum b.cls.p (rows.getD i []) (column (s.tileFor b).vals j)) true).code

@[simp] theorem State.matCode_took : (s.took c).matCode b rows i j = s.matCode b rows i j := by
  simp [State.matCode]

/-- Result (i, j) is write i × W + j; whether its row and column are clean is a matter of format health alone. -/
theorem State.matWrites_code (hi : i < b.m) (hj : j < b.w) :
    ((s.matWrites b (s.tileFor b).vals rows)[i * b.w + j]?).map (·.code) = some (s.matCode b rows i j) := by
  have hcol : ((List.range b.w).map (column (s.tileFor b).vals)).getD j [] = column (s.tileFor b).vals j := by
    simp [List.getD, hj]
  unfold State.matWrites
  dsimp only
  rw [getElem?_table _ hi hj, hcol, Option.map_some]
  simp only [State.matCode, State.matBase, Nat.add_assoc]
  rfl

/-- A result reads back from the bytes written. -/
theorem State.read_matBytes (hm : s.memOk = true) (hi : i < b.m) (hj : j < b.w) :
    let n := accBytes b.fmtAcc
    ofBytes ((s.acc.write (s.matBase b) (s.matBytes b rows)).read (s.matBase b + (i * b.w + j) * n) n) =
      s.matCode b rows i j % 2 ^ (8 * n) := by
  intro n
  have hcode := s.matWrites_code b rows hi hj
  obtain ⟨v, hv, hvcode⟩ := Option.map_eq_some_iff.mp hcode
  obtain ⟨hk, hget⟩ := List.getElem?_eq_some_iff.mp hv
  have hlast : i * b.w + j < b.m * b.w := by nlinarith
  have hbytes : (i * b.w + j) * n + n ≤ (s.matBytes b rows).length := by
    rw [State.length_matBytes, ← Nat.succ_mul]
    exact Nat.mul_le_mul_right n hlast
  rw [Mem.read_write (State.wf_acc hm) hbytes, State.matBytes,
    take_drop_flatten (by simp [length_toBytes, n]) (by simpa using hk), List.getElem_map, hget, hvcode,
    ofBytes_toBytes]

end Sys2Proof.Machine
end

section
/-! Matrix instructions and zeroings on their stands (R59, R67, R91): what the rows leave of the accumulator store, and
what a matrix instruction leaves of the stands and of itself. -/

namespace Sys2Proof.Machine

variable {s : State} {c : Cmd} {b : MatBody} {rows : List (List FVal)}

/-! ### The state a matrix instruction leaves -/

/-- Beside what it writes a matrix instruction changes the counters alone; of what it writes, its region and its tile
may have become undefined, and nothing outside its region changes of the accumulator store. -/
theorem State.matDone_frame (s : State) (c : Cmd) (b : MatBody) (rows : List (List FVal)) :
    ∃ m r o f, s.matDone c b rows = { s.matWritten c b rows with
      acc := m, trust := r, obj := o, free := f
      stands := if c.fillSpoilt && (s.heldTile b).isNone then ((s.matmul c b rows).spoilTile b).stands
        else (s.matmul c b rows).stands } ∧
    ∀ i, i < s.matBase b ∨ s.matBase b + b.m * b.w * accBytes b.fmtAcc ≤ i → m.byte i = s.acc.byte i := by
  obtain ⟨r, o, f, hmat⟩ := s.counted_matmul c b rows
  obtain ⟨m, f', hspoil, hout⟩ := State.spoilMat_frame (s.matmul c b rows)
    { c with
      filled := (s.heldTile b).isNone
      spoilt := c.spoilt || (b.gen && !(s.genRecord b).ok b.m b.k b.fm.bits) }
    b b.core (s.stand b.core).half (256 * b.accOff) (b.m * b.w * accBytes b.fmtAcc)
  refine ⟨m, r, o, f', hspoil.trans ?_, fun i hi => (hout i hi).trans ?_⟩
  · rw [hmat]
  · rw [hmat]
    exact Mem.byte_write_out _ _ _ _ (by rwa [State.length_matBytes])

/-- The instruction met by no command, with a generator record as admission checked it, leaves what it has written. -/
theorem State.matDone_acc (hs : c.spoilt = false) (hf : c.fillSpoilt = false)
    (hg : b.gen = true → (s.genRecord b).ok b.m b.k b.fm.bits = true) :
    (s.matDone c b rows).acc = s.acc.write (s.matBase b) (s.matBytes b rows) := by
  obtain ⟨r, o, f, hmat⟩ := s.counted_matmul c b rows
  have hgood : (b.gen && !(s.genRecord b).ok b.m b.k b.fm.bits) = false := by
    cases hb : b.gen <;> simp [hb, hg]
  rw [State.matDone, State.spoilMat_unmet _ _ _ _ (by simp [hf]) (by simp [hs, hgood]), hmat]
  rfl

/-- The stands are those it has set, its own tile undefined where a command has met its fill. -/
theorem State.stand_matDone (k : Nat) : (s.matDone c b rows).stand k =
    if c.fillSpoilt && (s.heldTile b).isNone then ((s.matmul c b rows).spoilTile b).stand k
    else (s.matmul c b rows).stand k := by
  obtain ⟨m, r, o, f, h, -⟩ := s.matDone_frame c b rows
  rw [State.stand, h]
  exact apply_ite (Tab.get Stand.fresh · k) _ _ _

theorem State.stand_matDone_ne {k : Nat} (hk : k ≠ b.core) : (s.matDone c b rows).stand k = s.stand k := by
  rw [State.stand_matDone, State.stand_spoilTile_ne hk, ite_self, State.stand_matmul_ne hk]

theorem State.stand_matDone_self (ht : Tab.wf Stand.fresh s.stands = true) :
    ∃ tile, (s.matDone c b rows).stand b.core = { s.matStand c b with tile := tile, pendingTile := tile } ∧
      (c.fillSpoilt = false → tile = some (s.tileFor b)) := by
  have hwf : Tab.wf Stand.fresh (s.matmul c b rows).stands = true := by
    rw [State.matmul_stands]
    exact Tab.wf_put _ _ _ _ ht
  rw [State.stand_matDone, State.stand_spoilTile_self hwf, State.stand_matmul_self ht]
  split
  · next hmet => exact ⟨_, rfl, fun hf => by simp [hf] at hmet⟩
  · exact ⟨some (s.tileFor b), rfl, fun _ => rfl⟩

/-! ### The end of the row -/

/-- The row leaves the work's state but for the instruction's end. -/
theorem State.matRun_eq : ∃ cs, s.matRun c b rows = { s.matDone c b rows with cmds := cs } := by
  unfold State.matRun
  split
  · exact ⟨_, rfl⟩
  · exact ⟨_, rfl⟩

theorem State.matRun_keeps :
    let t := s.matRun c b rows
    t.mem = s.mem ∧ t.host = s.host ∧ t.core = s.core ∧ t.feeder = s.feeder := by
  obtain ⟨cs, hrun⟩ := s.matRun_eq (c := c) (b := b) (rows := rows)
  obtain ⟨m, r, o, f, h, -⟩ := s.matDone_frame c b rows
  rw [hrun, h]
  exact ⟨rfl, rfl, rfl, rfl⟩

theorem State.stand_matRun (k : Nat) : (s.matRun c b rows).stand k = (s.matDone c b rows).stand k := by
  obtain ⟨cs, hrun⟩ := s.matRun_eq (c := c) (b := b) (rows := rows)
  rw [hrun]
  rfl

theorem State.acc_matRun : (s.matRun c b rows).acc = (s.matDone c b rows).acc := by
  obtain ⟨cs, hrun⟩ := s.matRun_eq (c := c) (b := b) (rows := rows)
  rw [hrun]

/-- A matrix instruction writes its region of the active set alone. -/
theorem State.matRun_acc_out {i : Nat}
    (hi : i < s.matBase b ∨ s.matBase b + b.m * b.w * accBytes b.fmtAcc ≤ i) :
    (s.matRun c b rows).acc.byte i = s.acc.byte i := by
  obtain ⟨m, r, o, f, h, hout⟩ := s.matDone_frame c b rows
  rw [State.acc_matRun, h]
  exact hout i hi

/-- An instruction whose flip is due stays released; any other has ended. -/
theorem State.phase_matRun {id : CmdId} (h : s.findCmd id = some c) (hp : c.phase = .released) :
    ((s.matRun c b rows).findCmd id).map (·.phase) =
      some (if b.flip then Phase.released else .finished (c.earn .ok)) := by
  obtain rfl : c.id = id := State.id_of_findCmd h
  obtain ⟨m, r, o, f, hdone, -⟩ := s.matDone_frame c b rows
  have hfound : (s.matDone c b rows).findCmd c.id =
      some { c with half := some (s.stand b.core).half, filled := (s.heldTile b).isNone } := by
    rw [hdone]
    exact s.findCmd_updCmd (f := fun y => { y with
      half := some (s.stand b.core).half, filled := (s.heldTile b).isNone }) (fun _ => rfl) h
  unfold State.matRun
  split
  · rw [hfound]
    exact congrArg some hp
  · rw [State.findCmd_finish hfound]
    rfl

/-! ### The instruction on a free stand -/

/-- Settles O16: the row is `matRun`, which the lemmas above take apart. -/
theorem matrixInstructionRuns : Obligations.MatrixInstructionRuns := by
  intro s id c b op row moving ht hm hrow hready hb hflip x tile n a rows
  have hfound : s.findCmd id = some c := State.findCmd_of_runnable hready.1
  have hid : c.id = id := State.id_of_findCmd hfound
  have hexec : exec row s = .next ((s.took c).matRun c b rows) := by
    rw [← State.runMat_ready hready hb hflip]
    rcases hrow with ⟨rfl, rfl, rfl⟩ | ⟨rfl, rfl, rfl⟩ <;> rfl
  have hbase : (s.took c).matBase b = a := by simp [State.matBase, a, x]
  obtain ⟨hmem, hhost, hcore, hfeeder⟩ := (s.took c).matRun_keeps (c := c) (b := b) (rows := rows)
  obtain ⟨held, hstand, hheld⟩ := (s.took c).stand_matDone_self (c := c) (b := b) (rows := rows)
    (by rw [State.took_stands]; exact State.wf_stands ht)
  rw [← State.stand_matRun] at hstand
  refine ⟨_, hexec, by simpa using hmem, by simpa using hhost, by simpa using hcore, by simpa using hfeeder, ?others,
    ?flip, ?half, ?phase, ?outside, fun hs hf hg => ⟨?tile, ?results⟩⟩
  case others =>
    intro k hk
    rw [State.stand_matRun, State.stand_matDone_ne hk, State.stand_took]
  case flip => simp [hstand, State.matStand, hid]
  case half => simp [hstand, State.matStand, x]
  case phase => exact State.phase_matRun (by simpa using hfound) (State.released_of_runnable hready.1)
  case outside =>
    intro i hi
    rw [State.matRun_acc_out (by rwa [hbase]), State.took_acc]
  case tile => simp [hstand, hheld hf, tile]
  case results =>
    intro i j hi hj
    rw [State.acc_matRun, State.matDone_acc hs hf (by simpa using hg), ← hbase,
      State.read_matBytes _ _ _ (by simpa [State.memOk] using hm) hi hj, State.matCode_took,
      State.matBase_took]
    rfl

/-! ### The other halves -/

/-- Halves of accumulator stores lie apart. -/
theorem accBase_apart {k h k' h' a lo n : Nat} (hh : h ≤ 1) (hh' : h' ≤ 1) (hne : (k, h) ≠ (k', h'))
    (ha : a < 2 ^ 20) (hn : lo + n ≤ 2 ^ 20) :
    accBase k h + a < accBase k' h' + lo ∨ accBase k' h' + lo + n ≤ accBase k h + a := by
  rw [ne_eq, Prod.mk.injEq, not_and_or] at hne
  unfold accBase
  omega

/-- A zeroing's row leaves the accumulator store or writes zeros to its region of the active half. -/
theorem execStandAccZero_acc {id : CmdId} (h : s.findCmd id = some c) :
    ∃ t, exec (.standAccZero id) s = .next t ∧ (t.acc = s.acc ∨ t.acc = s.acc.write
      (accBase (standCore c.desc) (s.stand (standCore c.desc)).half + 256 * fld c.desc 235 224)
      (List.replicate (fld c.desc 220 208 * standWidth c.desc * accBytes (fld c.desc 241 240)) 0)) := by
  refine ⟨_, rfl, ?_⟩
  rcases State.runStand_cases h with hrow | hrow | hrow <;> rw [hrow]
  · exact .inl rfl
  · exact .inl rfl
  · right
    simp [State.set]

/-- A matrix instruction's row leaves the accumulator store or has the instruction work. -/
theorem execStandMatrix_acc {id : CmdId} {row : Instr} (hrow : row = .standMatmul id ∨ row = .standMatmulGen id)
    (h : s.findCmd id = some c) : ∃ t, exec row s = .next t ∧ (t.acc = s.acc ∨
      ∃ b rows, matBody c.desc = some b ∧ t.acc = ((s.took c).matRun c b rows).acc) := by
  have works (op : Nat) (moving : State → MatBody → List (List FVal)) :
      (s.runMat id op moving).acc = s.acc ∨ ∃ b rows, matBody c.desc = some b ∧
        (s.runMat id op moving).acc = ((s.took c).matRun c b rows).acc := by
    rcases State.runMat_cases (op := op) (moving := moving) h with hr | hr | ⟨b, hb, hr⟩ <;> rw [hr]
    · exact .inl rfl
    · exact .inl rfl
    · exact .inr ⟨b, _, hb, rfl⟩
  rcases hrow with rfl | rfl
  · exact ⟨_, rfl, works _ _⟩
  · exact ⟨_, rfl, works _ _⟩

/-- Settles O17: either row leaves the store, or writes a region of the active half, which no other half meets. -/
theorem matrixWritesOnlyTheActiveSet : Obligations.MatrixWritesOnlyTheActiveSet := by
  intro s t id row c k h a hrow hc hhalf hmat hzero hexec hh ha hne
  rw [← or_assoc] at hrow
  rcases hrow with hrow | rfl
  · obtain ⟨u, hu, hacc⟩ := execStandMatrix_acc hrow hc
    obtain rfl : u = t := Host.Outcome.next.inj (hu.symm.trans hexec)
    rcases hacc with hacc | ⟨b, rows, hb, hacc⟩
    · rw [hacc]
    · rw [hacc, State.matRun_acc_out, State.took_acc]
      rw [State.matBase_took, State.matBase, (matBody_core hb).1]
      exact accBase_apart hh hhalf hne ha (hmat b hb)
  · obtain ⟨u, hu, hacc⟩ := execStandAccZero_acc hc
    obtain rfl : u = t := Host.Outcome.next.inj (hu.symm.trans hexec)
    rcases hacc with hacc | hacc
    · rw [hacc]
    · rw [hacc]
      refine Mem.byte_write_out _ _ _ _ ?_
      rw [List.length_replicate]
      exact accBase_apart hh hhalf hne ha hzero

end Sys2Proof.Machine
end

section
/-! FLIP of a stand (R67, R68): a flip that is due, and one whose instruction names another stand than the one that
waits for it. -/

namespace Sys2Proof.Machine

variable {s : State} {core : Nat} {c : Cmd} {b : MatBody}

/-- A stand's halves swapped: the shadow set holds what was the active one. -/
def State.swapped (s : State) (core : Nat) : State :=
  s.setStand core { s.stand core with
    half := 1 - (s.stand core).half, released := false, flipped := true, flipPending := none }

/-- A matrix instruction's flip that is due swaps the halves of the stand it waits at; what the instruction met makes
undefined the tile of the stand that its descriptor names. -/
theorem exec_flip_due (hw : s.flipWaits core = some c) (hb : matBody c.desc = some b)
    (hu : s.retired (.stand core) = false) (ht : c.testing = none) (hr : (s.stand core).released = true)
    (hc : s.power.clocksStopped = false) (hl : s.reloading (.stand core) = false) :
    exec (.flip core) s = .next
      ((((s.swapped core).spoilMat { c with spoilt := c.spoilt || c.suspect } b
        (b.region (s.stand core).half)).finish c.id .ok).updCmd c.id fun y => { y with suspect := false }) := by
  show execFlip core s = _
  simp [execFlip, State.swapped, hw, hb, hu, ht, hr, hc, hl]

/-- A flip whose instruction has had its fill met leaves free values as the tile of the stand that the instruction
names, whichever stand flips. -/
theorem exec_flip_tile (hs : s.tabsOk = true) (hw : s.flipWaits core = some c) (hb : matBody c.desc = some b)
    (hu : s.retired (.stand core) = false) (ht : c.testing = none) (hr : (s.stand core).released = true)
    (hc : s.power.clocksStopped = false) (hl : s.reloading (.stand core) = false)
    (hf : (c.fillSpoilt && c.filled) = true) :
    ∃ t, exec (.flip core) s = .next t ∧ (t.stand b.core).tile = some ((s.swapped core).freeTile b) := by
  refine ⟨_, exec_flip_due hw hb hu ht hr hc hl, ?_⟩
  obtain ⟨m, f, hspoil, -⟩ := State.spoilMat_frame (s.swapped core) { c with spoilt := c.spoilt || c.suspect } b
    b.core (s.stand core).half (256 * b.accOff) (b.m * b.w * accBytes b.fmtAcc)
  have hstands : ((s.swapped core).spoilMat { c with spoilt := c.spoilt || c.suspect } b
      (b.region (s.stand core).half)).stands = ((s.swapped core).spoilTile b).stands :=
    (congrArg State.stands hspoil).trans (if_pos hf)
  have htile := State.stand_spoilTile_self (b := b) (s := s.swapped core) (Tab.wf_put _ _ _ _ (State.wf_stands hs))
  rw [State.stand, State.updCmd_stands, State.finish_stands, hstands]
  exact congrArg Stand.tile htile

/-- A released STAND_MATMUL of one FP32 row for core 0 with FLIP_AFTER, whose fill another command has met. -/
def strayCmd : Cmd :=
  { id := ⟨0, 0, 0⟩, desc := 0x40#512 ||| 1#512 <<< 217 ||| 1#512 <<< 224, phase := .released, retries := 0,
    abortReq := false, testing := none, failed := false, suspect := false, needs := [], errors := 0, tag := 1,
    rank := 1, latch := Latch.empty, verifying := false, onTime := false, half := some 0, spoilt := false,
    fillSpoilt := true, filled := true, mem := [], owed := [], admitted := true }

/-- A device whose stand 1, not stand 0, waits for that instruction's flip. -/
def strayFlip : State :=
  { State.reset with cmds := [strayCmd], stands := [(1, { Stand.fresh with flipPending := some strayCmd.id })] }

/-- Refutes O18: no hypothesis says that the instruction a stand waits for names that stand. In `strayFlip` the flip of
stand 1 makes the tile of stand 0 undefined, where the FLIP clause has every other stand as it was. -/
theorem not_flipDrainZeroAndRelease : ¬ Obligations.FlipDrainZeroAndRelease := by
  rintro ⟨hflip, -⟩
  have htabs : strayFlip.tabsOk = true := by decide +kernel
  have hwaits : strayFlip.flipWaits 1 = some strayCmd := by decide +kernel
  have hretired : strayFlip.retired (.stand 1) = false := by decide +kernel
  have hloading : strayFlip.reloading (.stand 1) = false := by decide +kernel
  obtain ⟨b, hb⟩ : ∃ b, matBody strayCmd.desc = some b := Option.isSome_iff_exists.mp (by decide +kernel)
  have hcore : b.core = 0 := (matBody_core hb).1.trans (by decide +kernel)
  obtain ⟨hdue, -⟩ := (hflip strayFlip 1 htabs).1 strayCmd hwaits
  obtain ⟨t, ht, -, -, -, -, -, -, hothers, -⟩ := hdue hretired rfl rfl rfl hloading
  obtain ⟨u, hu, htile⟩ := exec_flip_tile htabs hwaits hb hretired rfl rfl rfl hloading rfl
  obtain rfl : t = u := Host.Outcome.next.inj (ht.symm.trans hu)
  have hfresh : (t.stand 0).tile = none := congrArg Stand.tile (hothers 0 (by decide))
  rw [hcore, hfresh] at htile
  exact nomatch htile

end Sys2Proof.Machine
end

section
/-! Vector rows (R121 to R123, R136, R143 to R146): what each row does on a free engine, and on a retired one. -/

namespace Sys2Proof.Machine

variable {s : State} {id : CmdId} {c : Cmd} {op : Nat}

/-! ### The engine a vector row runs on -/

/-- A vector command is ready: released, of the row's opcode, its core's vector engine free, its turn come. -/
def State.vecReady (s : State) (id : CmdId) (op : Nat) (c : Cmd) : Prop :=
  s.readyAt id (isOp op) (fun _ c => [UnitId.vector (standCore c.desc)]) c

/-- The end of a vector row that has done its work: what a stand command that met it leaves undefined, and OK. -/
def State.vecDone (t : State) (id : CmdId) (c : Cmd) : State := (t.spoil c (vectorOutputs c.desc)).finish id .ok

theorem State.id_of_vecReady (h : s.vecReady id op c) : c.id = id :=
  State.id_of_findCmd (State.findCmd_of_runnable h.1)

/-- On a free engine a vector row whose work is done ends as `State.vecDone` says. -/
theorem State.runVec_ready {f : State → Cmd → State × Status} {t : State} (h : s.vecReady id op c)
    (hf : f (s.took c) c = (t, .ok)) : s.runVec id op f = t.vecDone id c := by
  unfold State.runVec
  rw [State.runOn_ready _ h, hf]
  rfl

theorem State.runVec_retired (f : State → Cmd → State × Status) (h : s.runnable id (isOp op) = some c)
    (hu : s.retired (.vector (standCore c.desc)) = true) : s.runVec id op f = s.finish id .unitRetired :=
  State.runOn_retired _ h (by simp [hu])

@[simp] theorem State.finish_retired (st : Status) (u : UnitId) : (s.finish id st).retired u = s.retired u := rfl

/-! ### The four rows on a free engine -/

theorem exec_vecElem_ready {b : ElemBody} (h : s.vecReady id 0x60 c) (hb : elemBody c.desc = some b) :
    exec (.vecElem id) s = .next (((s.took c).writeTile id.ctx b.h ((List.range b.h.rows).map fun r =>
      (List.range b.h.cols).map ((s.took c).elemAt b r))).vecDone id c) :=
  congrArg Host.Outcome.next (State.runVec_ready h (by simp only [hb, State.id_of_vecReady h]))

theorem exec_vecReduce_ready {b : ReduceBody} (h : s.vecReady id 0x61 c) (hb : reduceBody c.desc = some b) :
    exec (.vecReduce id) s = .next (((s.took c).reduce id.ctx b).vecDone id c) :=
  congrArg Host.Outcome.next (State.runVec_ready h (by simp only [hb, State.id_of_vecReady h]))

theorem exec_vecSoftmax_ready {b : SoftBody} (h : s.vecReady id 0x62 c) (hb : softBody c.desc = some b) :
    exec (.vecSoftmax id) s = .next (((s.took c).softmax id.ctx b).vecDone id c) :=
  congrArg Host.Outcome.next (State.runVec_ready h (by simp only [hb, State.id_of_vecReady h]))

theorem exec_vecConvert_ready {b : ConvertBody} (h : s.vecReady id 0x63 c) (hb : convertBody c.desc = some b) :
    exec (.vecConvert id) s = .next (((s.took c).convert id.ctx b).vecDone id c) :=
  congrArg Host.Outcome.next (State.runVec_ready h (by simp only [hb, State.id_of_vecReady h]))

/-- Settles O20: each row on a free engine is its work on the body its descriptor holds, and its end. -/
theorem vectorCommandsRun : Obligations.VectorCommandsRun := by
  intro s id c
  exact ⟨fun _ => exec_vecElem_ready, fun _ => exec_vecReduce_ready, fun _ => exec_vecSoftmax_ready,
    fun _ => exec_vecConvert_ready⟩

/-! ### The four rows on a retired engine -/

/-- A vector row of any opcode at a retired engine ends its command with UNIT_RETIRED. -/
theorem exec_vec_retired {row : Instr} (hu : s.retired (.vector (standCore c.desc)) = true)
    (hrow : (op, row) ∈
      [(0x60, Instr.vecElem id), (0x61, .vecReduce id), (0x62, .vecSoftmax id), (0x63, .vecConvert id)])
    (h : s.runnable id (isOp op) = some c) : exec row s = .next (s.finish id .unitRetired) := by
  simp only [List.mem_cons, List.not_mem_nil, or_false, Prod.mk.injEq] at hrow
  obtain ⟨rfl, rfl⟩ | ⟨rfl, rfl⟩ | ⟨rfl, rfl⟩ | ⟨rfl, rfl⟩ := hrow
  all_goals exact congrArg Host.Outcome.next (State.runVec_retired _ h hu)

/-- Settles O21: the row only finishes its command, and which units are retired is no part of the commands. -/
theorem retiredVectorEngine : Obligations.RetiredVectorEngine := by
  intro s id c op row hu hrow h
  exact ⟨s.finish id .unitRetired, exec_vec_retired hu hrow h, rfl, fun hstand => by simpa using hstand,
    fun u => State.finish_retired .unitRetired u⟩

end Sys2Proof.Machine
end

section
/-! Multiplicities (R160, R162): the table of the rows an index list refers to is canonical, and it grows by one
count with each entry. -/

namespace Sys2Proof.Machine

variable {α : Type} [DecidableEq α] {d : α} {t : Tab α} {l : List (Option (Nat × Bool))}

/-! ### Tables in canonical form -/

/-- The keys of a canonical table rise strictly from its lower bound. -/
theorem Tab.keys_rise_of_wfFrom {lo : Nat} (h : Tab.wfFrom d lo t = true) :
    (∀ p ∈ t, lo ≤ p.1) ∧ t.Pairwise fun a b => a.1 < b.1 := by
  induction t generalizing lo with
  | nil => simp
  | cons p t ih =>
    simp only [Tab.wfFrom, Bool.and_eq_true, decide_eq_true_eq] at h
    obtain ⟨⟨hlo, -⟩, ht⟩ := h
    obtain ⟨hbound, hpair⟩ := ih ht
    refine ⟨?_, List.pairwise_cons.mpr ⟨fun q hq => hbound q hq, hpair⟩⟩
    rintro q (_ | ⟨_, hq⟩)
    · exact hlo
    · exact le_trans hlo (Nat.le_of_succ_le (hbound q hq))

/-- What a replacement lists is the new pair or was listed before. -/
theorem Tab.mem_put {k : Nat} {v : α} {p : Nat × α} (h : p ∈ Tab.put d t k v) : p = (k, v) ∨ p ∈ t := by
  induction t with
  | nil =>
    simp only [Tab.put] at h
    split at h
    · cases h
    · exact .inl (List.mem_singleton.mp h)
  | cons q t ih =>
    simp only [Tab.put] at h
    split_ifs at h
    · exact .inr h
    · exact List.mem_cons.mp h
    · exact .inr (List.mem_cons_of_mem _ h)
    · exact (List.mem_cons.mp h).imp_right (List.mem_cons_of_mem _)
    · rcases List.mem_cons.mp h with rfl | h
      · exact .inr List.mem_cons_self
      · exact (ih h).imp_right (List.mem_cons_of_mem _)

/-! ### One entry more -/

theorem multiplicities_concat_none : multiplicities (l ++ [none]) = multiplicities l := by
  simp [multiplicities]

theorem multiplicities_concat_some (r : Nat) (sub : Bool) : multiplicities (l ++ [some (r, sub)]) =
    Tab.modify (0, false) (multiplicities l) r fun v => (v.1 + 1, v.2 || sub) := by
  simp [multiplicities]

theorem wf_multiplicities (l : List (Option (Nat × Bool))) : Tab.wf (0, false) (multiplicities l) = true := by
  induction l using List.reverseRecOn with
  | nil => rfl
  | append_singleton l x ih =>
    cases x with
    | none => rwa [multiplicities_concat_none]
    | some q =>
      rw [multiplicities_concat_some]
      exact Tab.wf_modify _ _ _ _ ih

/-- The count of a row is the number of entries that refer to it. -/
theorem get_multiplicities (l : List (Option (Nat × Bool))) (r : Nat) :
    (Tab.get (0, false) (multiplicities l) r).1 = (l.filter fun x => decide (x.map (·.1) = some r)).length := by
  induction l using List.reverseRecOn with
  | nil => rfl
  | append_singleton l x ih =>
    rw [List.filter_append, List.length_append, ← ih]
    rcases x with _ | ⟨q, sub⟩
    · rw [multiplicities_concat_none]
      rfl
    · rw [multiplicities_concat_some, Tab.modify, Tab.get_put _ _ _ _ _ (wf_multiplicities l)]
      by_cases hq : r = q
      · subst hq
        simp [-Option.map_eq_some_iff]
      · simp [-Option.map_eq_some_iff, hq, Ne.symm hq]

/-- No row is listed that no entry refers to. -/
theorem multiplicity_pos (l : List (Option (Nat × Bool))) : ∀ p ∈ multiplicities l, 0 < p.2.1 := by
  induction l using List.reverseRecOn with
  | nil => simp [multiplicities]
  | append_singleton l x ih =>
    cases x with
    | none => rwa [multiplicities_concat_none]
    | some q =>
      intro p hp
      rw [multiplicities_concat_some] at hp
      rcases Tab.mem_put hp with rfl | hp
      · exact Nat.succ_pos _
      · exact ih p hp

/-- Settles O24: the table is canonical, counts each entry once, and lists only rows that it has counted. -/
theorem multiplicitiesCountTheRows : Obligations.MultiplicitiesCountTheRows := fun l =>
  ⟨(Tab.keys_rise_of_wfFrom (wf_multiplicities l)).2, get_multiplicities l,
    fun r m sub => multiplicity_pos l (r, m, sub)⟩

end Sys2Proof.Machine
end

section
/-! The versions of a table (R153, R155, R183): what an install, a remove and a release leave installed, and what
they do to the objects. -/

namespace Sys2Proof.Machine

variable {s : State} {id : CmdId} {c : Cmd} {v w : Version} {ctx table rel x : Nat}

/-! ### Looking a version up -/

theorem State.currentVersion_spec (h : s.currentVersion ctx table = some v) :
    v ∈ s.versions ∧ v.ctx = ctx ∧ v.table = table := by
  unfold State.currentVersion at h
  have hp := List.find?_some h
  simp only [Bool.and_eq_true, decide_eq_true_eq] at hp
  exact ⟨List.mem_of_find?_eq_some h, hp.1⟩

/-- A version installed under numbers that no other has is the one found under them. -/
theorem State.findVersion_of_unique (hv : v ∈ s.versions)
    (hu : ∀ w ∈ s.versions, w.ctx = v.ctx → w.table = v.table → w.num = v.num → w = v) :
    s.findVersion v.ctx v.table v.num = some v := by
  unfold State.findVersion
  cases hf : s.versions.find? fun w => decide (w.ctx = v.ctx ∧ w.table = v.table ∧ w.num = v.num) with
  | none => simpa using List.find?_eq_none.mp hf v hv
  | some w =>
    have hw := List.find?_some hf
    obtain ⟨hctx, htable, hnum⟩ := of_decide_eq_true hw
    rw [hu w (List.mem_of_find?_eq_some hf) hctx htable hnum]

theorem Version.same_iff : v.same w = true ↔ v.ctx = w.ctx ∧ v.table = w.table ∧ v.num = w.num := decide_eq_true_iff

theorem Version.same_eq_false_of_ne (h : ¬(v.ctx = w.ctx ∧ v.table = w.table ∧ v.num = w.num)) : v.same w = false :=
  decide_eq_false h

/-! ### Signals -/

@[simp] theorem State.signalObj_cmds (o n : Nat) (f : Bool) : (s.signalObj o n f).cmds = s.cmds := by
  unfold State.signalObj
  split <;> rfl

@[simp] theorem State.signalObj_versions (o n : Nat) (f : Bool) : (s.signalObj o n f).versions = s.versions := by
  unfold State.signalObj
  split <;> rfl

theorem State.syncObj_signalObj_ne {o p : Nat} (n : Nat) (f : Bool) (h : p ≠ o) :
    (s.signalObj o n f).syncObj p = s.syncObj p := by
  unfold State.signalObj
  split
  · rfl
  · exact State.syncObj_setSync_ne _ _ _ _ h

theorem State.syncObj_addObj_self (h : s.tabsOk = true) (o n : Nat) (f : Bool) : (s.addObj o n f).syncObj o =
    ⟨((s.syncObj o).value + n) % 2 ^ 32, (s.syncObj o).fault || f⟩ := State.syncObj_setSync_self _ _ _ (State.wf_sync h)

/-- The state with one version no longer installed. -/
def State.without (s : State) (v : Version) : State := { s with versions := s.versions.filter fun w => !v.same w }

/-! ### Supersession -/

/-- A version as its superseding leaves it. -/
def Version.superseded (v : Version) (rel : Nat) : Version := { v with current := false, release := some rel }

/-- The versions with one superseded. -/
def supersededIn (l : List Version) (v : Version) (rel : Nat) : List Version :=
  l.map fun w => if v.same w then v.superseded rel else w

theorem eq_superseded_of_mem {l : List Version} (hw : w ∈ supersededIn l v rel) (h : v.same w = true) :
    w = v.superseded rel := by
  obtain ⟨y, -, rfl⟩ := List.mem_map.mp hw
  split at h
  · next hy => exact if_pos hy
  · next hy => exact absurd h hy

theorem Version.same_superseded_self : v.same (v.superseded rel) = true := Version.same_iff.mpr ⟨rfl, rfl, rfl⟩

theorem mem_supersededIn_iff {l : List Version} (h : v.same w = false) : w ∈ supersededIn l v rel ↔ w ∈ l := by
  constructor
  · intro hw
    obtain ⟨y, hy, rfl⟩ := List.mem_map.mp hw
    split at h
    · exact absurd Version.same_superseded_self (ne_true_of_eq_false h)
    · next hne => rwa [if_neg hne]
  · exact fun hw => List.mem_map.mpr ⟨w, hw, by simp [h]⟩

/-- A superseded version stays while it has readers; without them it is gone, and its release object signalled. -/
theorem State.supersede_cases (s : State) (v : Version) (rel : Nat) :
    ((s.syncObj v.reader).value ≠ 0 ∧
      s.supersede v rel = { s with versions := supersededIn s.versions v rel }) ∨
    ((s.syncObj v.reader).value = 0 ∧ s.supersede v rel =
      (State.without { s with versions := supersededIn s.versions v rel } v).signalObj rel 1 false) := by
  by_cases h : (s.syncObj v.reader).value = 0
  · exact .inr ⟨h, if_pos h⟩
  · exact .inl ⟨h, if_neg h⟩

@[simp] theorem State.supersede_cmds : (s.supersede v rel).cmds = s.cmds := by
  rcases s.supersede_cases v rel with ⟨-, e⟩ | ⟨-, e⟩ <;> simp [e, State.without]

theorem State.syncObj_supersede_ne {p : Nat} (h : p ≠ rel) : (s.supersede v rel).syncObj p = s.syncObj p := by
  rcases s.supersede_cases v rel with ⟨-, e⟩ | ⟨-, e⟩ <;> rw [e]
  · rfl
  · exact State.syncObj_signalObj_ne 1 false h

theorem State.eq_superseded_of_mem_supersede (hw : w ∈ (s.supersede v rel).versions) (h : v.same w = true) :
    w = v.superseded rel := by
  rcases s.supersede_cases v rel with ⟨-, e⟩ | ⟨-, e⟩ <;> rw [e] at hw
  · exact eq_superseded_of_mem hw h
  · rw [State.signalObj_versions] at hw
    exact eq_superseded_of_mem (List.mem_filter.mp hw).1 h

theorem State.mem_supersede_iff (h : v.same w = false) : w ∈ (s.supersede v rel).versions ↔ w ∈ s.versions := by
  rcases s.supersede_cases v rel with ⟨-, e⟩ | ⟨-, e⟩ <;> rw [e]
  · exact mem_supersededIn_iff h
  · simp [State.without, h, mem_supersededIn_iff]

/-! ### Install -/

/-- The version that an install of a record makes (R150, R153). -/
def State.newVersion (s : State) (ctx table x : Nat) : Version :=
  ⟨ctx, table, (s.tableNum ctx table).last % 0xFFFF + 1, x, true, none⟩

@[simp] theorem State.addVersion_cmds : (s.addVersion ctx table x).cmds = s.cmds := rfl

@[simp] theorem State.addVersion_versions :
    (s.addVersion ctx table x).versions = s.versions ++ [s.newVersion ctx table x] := rfl

theorem State.syncObj_addVersion_reader (h : s.tabsOk = true) :
    (s.addVersion ctx table x).syncObj (bits x 239 224) = ⟨0, false⟩ :=
  State.syncObj_setSync_self _ _ _ (State.wf_sync h)

/-- The state with a record installed: the new version stands, the one that was current is superseded. -/
def State.installed (s : State) (ctx table x rel : Nat) : State :=
  (s.currentVersion ctx table).elim (s.addVersion ctx table x) fun v => (s.addVersion ctx table x).supersede v rel

theorem State.installed_cases (s : State) (ctx table x rel : Nat) :
    (s.currentVersion ctx table = none ∧ s.installed ctx table x rel = s.addVersion ctx table x) ∨
    ∃ v, s.currentVersion ctx table = some v ∧
      s.installed ctx table x rel = (s.addVersion ctx table x).supersede v rel := by
  unfold State.installed
  cases h : s.currentVersion ctx table with
  | none => exact .inl ⟨rfl, rfl⟩
  | some v => exact .inr ⟨v, rfl, rfl⟩

theorem State.installed_of_current (h : s.currentVersion ctx table = some v) :
    s.installed ctx table x rel = (s.addVersion ctx table x).supersede v rel := by
  simp [State.installed, h]

theorem Checks.first_ne_ok (k : Checks) (lost : Bool) : k.first lost ≠ some .ok := by
  unfold Checks.first
  split_ifs <;> simp

/-- An install that answers OK has made its record current. -/
theorem State.install_of_ok (h : (s.install c).2 = .ok) : (s.install c).1 =
    s.installed c.id.ctx (fld c.desc 249 240) (s.devNum (fld c.desc 239 192) 64) (fld c.desc 271 256) := by
  simp only [State.install] at h ⊢
  split at h
  · cases h
  next hbad =>
    rw [if_neg hbad]
    split at h
    · next st hst =>
      obtain rfl : st = .ok := h
      exact absurd hst (Checks.first_ne_ok _ _)
    · simp only [State.installed]
      cases s.currentVersion c.id.ctx (fld c.desc 249 240) <;> rfl

@[simp] theorem State.installed_cmds : (s.installed ctx table x rel).cmds = s.cmds := by
  rcases s.installed_cases ctx table x rel with ⟨-, e⟩ | ⟨v, -, e⟩ <;> simp [e]

theorem State.syncObj_installed_reader (hs : s.tabsOk = true) (h : rel ≠ bits x 239 224) :
    (s.installed ctx table x rel).syncObj (bits x 239 224) = ⟨0, false⟩ := by
  rcases s.installed_cases ctx table x rel with ⟨-, e⟩ | ⟨v, -, e⟩ <;> rw [e]
  · exact State.syncObj_addVersion_reader hs
  · rw [State.syncObj_supersede_ne h.symm, State.syncObj_addVersion_reader hs]

/-- But for the version that was current, an install leaves what was installed, and adds the new version. -/
theorem State.mem_installed_iff (h : ∀ v, s.currentVersion ctx table = some v → v.same w = false) :
    w ∈ (s.installed ctx table x rel).versions ↔ w ∈ s.versions ∨ w = s.newVersion ctx table x := by
  rcases s.installed_cases ctx table x rel with ⟨-, e⟩ | ⟨v, hv, e⟩ <;> rw [e]
  · simp
  · simp [State.mem_supersede_iff (h v hv)]

/-- Under a number that its table has not in use, the version installed is found. -/
theorem State.findVersion_installed (hnew : ∀ w ∈ s.versions, w.ctx = ctx → w.table = table →
      w.num ≠ (s.tableNum ctx table).last % 0xFFFF + 1) :
    (s.installed ctx table x rel).findVersion ctx table ((s.tableNum ctx table).last % 0xFFFF + 1) =
      some (s.newVersion ctx table x) := by
  have hother : ∀ w : Version, w.num = (s.newVersion ctx table x).num →
      ∀ v, s.currentVersion ctx table = some v → v.same w = false := by
    intro w hw v hv
    obtain ⟨hmem, hctx, htable⟩ := State.currentVersion_spec hv
    refine Version.same_eq_false_of_ne fun hsame => hnew v hmem hctx htable ?_
    exact hsame.2.2.trans hw
  refine State.findVersion_of_unique (v := s.newVersion ctx table x)
    ((State.mem_installed_iff (hother _ rfl)).mpr (.inr rfl)) fun w hw hctx htable hnum => ?_
  exact ((State.mem_installed_iff (hother w hnum)).mp hw).resolve_left fun hmem => hnew w hmem hctx htable hnum

/-! ### The rows -/

/-- Work that leaves the commands alone ends its own with the status it gives. -/
theorem State.endsIn_finish {t : State} {st : Status} (h : t.cmds = s.cmds) : s.endsIn (t.finish id st) id st := by
  simp only [State.endsIn, State.finish, State.updCmd, h]

/-- A row that installs: the released command's, or the gated one's at its angle. -/
def State.installRow (s : State) (id : CmdId) (c : Cmd) (row : Instr) : Prop :=
  (row = .embTableInstall id ∧ s.runnable id (fun d => isOp 0x80 d && !flag d 250) = some c) ∨
    (row = .versionInstallTakesEffect id ∧ s.findCmd id = some c ∧ isOp 0x80 c.desc = true ∧
      flag c.desc 250 = false ∧ s.installDue c = true ∧ s.mayAct (notBefore c.desc, 2) = true ∧
      s.objectGone c.desc = false ∧ s.waitFault c.desc = false)

theorem State.findCmd_of_installRow {row : Instr} (h : s.installRow id c row) : s.findCmd id = some c := by
  rcases h with ⟨-, h⟩ | ⟨-, h, -⟩
  · exact State.findCmd_of_runnable h
  · exact h

theorem exec_installRow {row : Instr} (h : s.installRow id c row) :
    exec row s = .next ((s.install c).1.finish id (s.install c).2) := by
  rcases h with ⟨rfl, h⟩ | ⟨rfl, hf, hop, hflag, hdue, hact, hgone, hfault⟩
  · exact congrArg Host.Outcome.next (State.run_ready _ h)
  · change execVersionInstallTakesEffect id s = _
    simp [execVersionInstallTakesEffect, hf, Option.filter, hop, hflag, hdue, hact, hgone, hfault]

/-- An install that takes effect ends its command with OK in the state with its record installed. -/
theorem exec_installRow_ok {row : Instr} (h : s.installRow id c row) (hok : (s.install c).2 = .ok) :
    exec row s = .next ((s.installed id.ctx (fld c.desc 249 240) (s.devNum (fld c.desc 239 192) 64)
      (fld c.desc 271 256)).finish id .ok) := by
  obtain rfl := State.id_of_findCmd (State.findCmd_of_installRow h)
  rw [exec_installRow h, State.install_of_ok hok, hok]

/-- A remove of a table's current version supersedes it, where the limits of R157 hold. -/
theorem exec_embTableRemove_ready (h : s.runnable id (fun d => isOp 0x80 d && flag d 250) = some c)
    (hv : s.currentVersion id.ctx (fld c.desc 249 240) = some v)
    (hfull : s.versionsFull id.ctx (fld c.desc 249 240) = false) (hrel : s.isReader (fld c.desc 271 256) = false) :
    exec (.embTableRemove id) s = .next ((s.supersede v (fld c.desc 271 256)).finish id .ok) := by
  obtain rfl := State.id_of_findCmd (State.findCmd_of_runnable h)
  refine congrArg Host.Outcome.next ((State.run_ready _ h).trans ?_)
  simp [State.remove, hv, hfull, hrel]

/-- A version without readers that is no longer current goes, and its release object is signalled once. -/
theorem exec_versionRelease_due {o : Nat} (hf : s.findVersion v.ctx v.table v.num = some v) (hc : v.current = false)
    (ho : v.release = some o) (hr : (s.syncObj v.reader).value = 0) (hd : s.reloadingDie (o / 8192) = false) :
    exec (.versionRelease v.ctx v.table v.num) s =
      .next ((s.without v).addObj o 1 false) := by
  change execVersionRelease v.ctx v.table v.num s = _
  have hd' : (s.without v).reloadingDie (o / 8192) = false := hd
  rw [State.without] at hd'
  simp [execVersionRelease, hf, hc, hr, State.releaseVersion, ho, State.signalObj, State.without, hd']

/-- Settles O23: an install leaves the state `installed`, a remove the state `supersede`, and a release drops the one
version and signals its object. -/
theorem versionsInstallRemoveAndRelease : Obligations.VersionsInstallRemoveAndRelease := by
  refine ⟨?install, ?remove, ?release⟩
  case install =>
    intro s id c row hs hrow hok table raw num hnew
    refine ⟨_, exec_installRow_ok hrow hok, ?_, ?_, State.syncObj_installed_reader hs, ?_, ?_⟩
    · exact State.endsIn_finish State.installed_cmds
    · exact congrArg (Option.map fun v : Version => (v.raw, v.current, v.release)) (State.findVersion_installed hnew)
    · intro v hv w hw hsame
      rw [State.finish_versions, State.installed_of_current hv] at hw
      rw [State.eq_superseded_of_mem_supersede hw hsame]
      exact ⟨rfl, rfl⟩
    · intro w hw hother
      refine (State.mem_installed_iff fun v hv => Version.same_eq_false_of_ne ?_).mpr (.inl hw)
      obtain ⟨-, hctx, htable⟩ := State.currentVersion_spec hv
      rintro ⟨hsctx, hstable, -⟩
      exact hother.elim (· (hsctx.symm.trans hctx)) (· (hstable.symm.trans htable))
  case remove =>
    intro s id c v h hv hfull hrel
    refine ⟨_, exec_embTableRemove_ready h hv hfull hrel, ?_, ?_, fun w hw hsame => ?_, fun hreaders => ?_⟩
    · exact State.endsIn_finish State.supersede_cmds
    · intro w hw hsame
      rw [State.eq_superseded_of_mem_supersede hw hsame]
      exact ⟨rfl, rfl⟩
    · exact (State.mem_supersede_iff hsame).mpr hw
    · rcases s.supersede_cases v (fld c.desc 271 256) with ⟨-, e⟩ | ⟨hnone, -⟩
      · rw [e]
        exact ⟨rfl, List.length_map _⟩
      · exact absurd hnone hreaders
  case release =>
    intro s v o hs hf hc ho hr hd
    refine ⟨_, exec_versionRelease_due hf hc ho hr hd, rfl, rfl, ?_, fun p hp => State.syncObj_setSync_ne _ _ _ _ hp⟩
    have hsync := State.syncObj_addObj_self (s := s.without v) hs o 1 false
    rwa [Bool.or_false] at hsync

end Sys2Proof.Machine
end

section
/-! What an embedding row reads once it has taken its engine: the turn it took is no part of it, so every reading is
that of the state before. -/

namespace Sys2Proof.Machine

variable {s : State} {c : Cmd}

/-- A reading that does not look at the turns is the same once the command has taken its unit. -/
theorem State.took_reads {α : Type} (f : State → α) (h : ∀ l, f { s with turns := l } = f s) : f (s.took c) = f s := by
  rw [State.took_eq]
  exact h _

/-! ### Memory and its checks -/

@[simp] theorem State.angle_took : (s.took c).angle = s.angle :=
  State.took_reads (·.angle) fun _ => rfl

@[simp] theorem State.devReadBad_took (a n : Nat) : (s.took c).devReadBad a n = s.devReadBad a n :=
  State.took_reads (·.devReadBad a n) fun _ => rfl

@[simp] theorem State.regionsBad_took (l : List Extent) : (s.took c).regionsBad l = s.regionsBad l :=
  State.took_reads (·.regionsBad l) fun _ => rfl

@[simp] theorem State.regionsWriteBad_took (l : List Extent) : (s.took c).regionsWriteBad l = s.regionsWriteBad l :=
  State.took_reads (·.regionsWriteBad l) fun _ => rfl

@[simp] theorem State.stackRegion_took (x a n align : Nat) :
    (s.took c).stackRegion x a n align = s.stackRegion x a n align :=
  State.took_reads (·.stackRegion x a n align) fun _ => rfl

@[simp] theorem State.reachChecks_took (x : Nat) (l : List Extent) : (s.took c).reachChecks x l = s.reachChecks x l :=
  State.took_reads (·.reachChecks x l) fun _ => rfl

/-! ### Versions, batches, requests -/

@[simp] theorem State.currentVersion_took (x table : Nat) :
    (s.took c).currentVersion x table = s.currentVersion x table :=
  State.took_reads (·.currentVersion x table) fun _ => rfl

@[simp] theorem State.installsDue_took (x : Nat) : (s.took c).installsDue x = s.installsDue x :=
  State.took_reads (·.installsDue x) fun _ => rfl

@[simp] theorem State.batch_took (x bid : Nat) : (s.took c).batch x bid = s.batch x bid :=
  State.took_reads (·.batch x bid) fun _ => rfl

@[simp] theorem State.boundVersion_took (b : Batch) (table : Nat) :
    (s.took c).boundVersion b table = s.boundVersion b table :=
  State.took_reads (·.boundVersion b table) fun _ => rfl

@[simp] theorem State.bindVersions_took (x : Nat) (b : AdmitBody) :
    (s.took c).bindVersions x b = s.bindVersions x b :=
  State.took_reads (·.bindVersions x b) fun _ => rfl

@[simp] theorem State.batchBusy_took (d : Cmd) (bid : Nat) : (s.took c).batchBusy d bid = s.batchBusy d bid :=
  State.took_reads (·.batchBusy d bid) fun _ => rfl

@[simp] theorem State.asksOf_took (id : CmdId) : (s.took c).asksOf id = s.asksOf id :=
  State.took_reads (·.asksOf id) fun _ => rfl

@[simp] theorem State.memberLost_took (m : Nat) : (s.took c).memberLost m = s.memberLost m :=
  State.took_reads (·.memberLost m) fun _ => rfl

/-! ### Passes -/

@[simp] theorem State.offsetsOk_took (b : AdmitBody) : (s.took c).offsetsOk b = s.offsetsOk b :=
  State.took_reads (·.offsetsOk b) fun _ => rfl

@[simp] theorem State.admitExtents_took (b : AdmitBody) (t : TableDesc) :
    (s.took c).admitExtents b t = s.admitExtents b t :=
  State.took_reads (·.admitExtents b t) fun _ => rfl

@[simp] theorem State.passOf_took (x : Nat) (d : Desc) : (s.took c).passOf x d = s.passOf x d :=
  State.took_reads (·.passOf x d) fun _ => rfl

@[simp] theorem State.prefetchLate_took (x : Nat) (d : Desc) (v : Version) (p : Pass) :
    (s.took c).prefetchLate x d v p = s.prefetchLate x d v p :=
  State.took_reads (·.prefetchLate x d v p) fun _ => rfl

@[simp] theorem State.gatherLate_took (x : Nat) (g : GatherBody) (v : Version) (p : Pass) :
    (s.took c).gatherLate x g v p = s.gatherLate x g v p :=
  State.took_reads (·.gatherLate x g v p) fun _ => rfl

@[simp] theorem State.gatherNeeds_took (g : GatherBody) (p : Pass) :
    (s.took c).gatherNeeds g p = s.gatherNeeds g p :=
  State.took_reads (·.gatherNeeds g p) fun _ => rfl

/-- The positions whose rows a command asks of other members. -/
def State.farRows (s : State) (p : Pass) (live : Bool) (us : List Nat) : List Nat :=
  us.filter fun u => (s.entry p u).remote && (live || !(s.entry p u).staged)

@[simp] theorem State.farRows_took (p : Pass) (live : Bool) (us : List Nat) :
    (s.took c).farRows p live us = s.farRows p live us :=
  State.took_reads (·.farRows p live us) fun _ => rfl

/-! ### Merged lists -/

@[simp] theorem State.mergeLate_took (x : Nat) (m : MergeBody) (v : Version) (p : Pass) :
    (s.took c).mergeLate x m v p = s.mergeLate x m v p :=
  State.took_reads (·.mergeLate x m v p) fun _ => rfl

@[simp] theorem State.mergeExtent_took (m : MergeBody) (p : Pass) (n : Nat) :
    (s.took c).mergeExtent m p n = s.mergeExtent m p n :=
  State.took_reads (·.mergeExtent m p n) fun _ => rfl

@[simp] theorem State.mergeItems_took (m : MergeBody) (p : Pass) (n : Nat) :
    (s.took c).mergeItems m p n = s.mergeItems m p n :=
  State.took_reads (·.mergeItems m p n) fun _ => rfl

@[simp] theorem State.listHead_took (a : Nat) : (s.took c).listHead a = s.listHead a :=
  State.took_reads (·.listHead a) fun _ => rfl

@[simp] theorem State.listItems_took (a : Nat) : (s.took c).listItems a = s.listItems a :=
  State.took_reads (·.listItems a) fun _ => rfl

@[simp] theorem State.combineLists_took (d : Desc) : (s.took c).combineLists d = s.combineLists d :=
  State.took_reads (·.combineLists d) fun _ => rfl

@[simp] theorem State.combineHeads_took (d : Desc) (f : FC) : (s.took c).combineHeads d f = s.combineHeads d f :=
  State.took_reads (·.combineHeads d f) fun _ => rfl

@[simp] theorem State.combineExtent_took (d : Desc) (f : FC) : (s.took c).combineExtent d f = s.combineExtent d f :=
  State.took_reads (·.combineExtent d f) fun _ => rfl

@[simp] theorem State.combineSizes_took (x : Nat) (d : Desc) : (s.took c).combineSizes x d = s.combineSizes x d :=
  State.took_reads (·.combineSizes x d) fun _ => rfl

@[simp] theorem State.fetchList_took (v : Version) (a : Nat) : (s.took c).fetchList v a = s.fetchList v a :=
  State.took_reads (·.fetchList v a) fun _ => rfl

end Sys2Proof.Machine
end

section
/-! The batches of the embedding engines (R154, R155, R174, R482): what an OPEN pass binds, a later pass works on and
a close frees. -/

namespace Sys2Proof.Machine

variable {s : State} {id : CmdId} {c : Cmd} {v : Version} {x : Batch}

/-! ### The list of batches -/

theorem State.batches_countReaders (l : List Version) (n : Nat) :
    (l.foldl (fun (t : State) v => t.addReaders v n) s).batches = s.batches := by
  induction l generalizing s with
  | nil => rfl
  | cons v l ih => exact ih

/-- An admitted batch stands last, with the current versions of its bind list. -/
theorem State.admitBatch_batches (ctx : Nat) (b : AdmitBody) (holds : List (Nat × Nat × Nat)) :
    (s.admitBatch ctx b holds).batches = s.batches ++
      [⟨ctx, b.bid, (s.bindVersions ctx b).map fun v => (v.table, v.num), holds, s.angle, []⟩] := by
  simp only [State.admitBatch, State.batches_countReaders]

theorem State.batch_spec {ctx bid : Nat} (h : s.batch ctx bid = some x) : x.ctx = ctx ∧ x.bid = bid := by
  unfold State.batch at h
  simpa using List.find?_some h

/-- A closed batch is gone. -/
theorem State.batch_closeBatch : (s.closeBatch x).batch x.ctx x.bid = none := by
  unfold State.batch
  refine List.find?_eq_none.mpr fun y hy => ?_
  exact ne_true_of_eq_false ((Bool.not_eq_true' _).mp (List.mem_filter.mp hy).2)

/-! ### The rows -/

/-- An OPEN pass that needs no remote hold admits its batch and does its work in the step. -/
theorem exec_embAdmitOpen_local (h : s.readyAt id (fun d => isOp 0x81 d && flag d 503) embUnits c)
    (hdue : s.installsDue id.ctx = false) (hchk : (s.took c).openChecks id.ctx (admitBody c.desc) = none)
    (hholds : (s.took c).holdsNeeded id.ctx (admitBody c.desc) = []) (hasks : s.asksOf id = [])
    (hv : s.currentVersion id.ctx (admitBody c.desc).table = some v) :
    let t := (((s.took c).dropAsks id).noteNeeds id).admitBatch id.ctx (admitBody c.desc) []
    exec (.embAdmitOpen id) s = .next ((t.passWork c (admitBody c.desc) v s.angle).1.finish id
      (t.passWork c (admitBody c.desc) v s.angle).2) := by
  refine congrArg Host.Outcome.next ((State.workOn_ready _ h).trans ?_)
  simp [hdue, hchk, hholds, hasks, hv, answered, refusalOf, State.ended]

/-- A pass of an open batch works on the version the batch has bound. -/
theorem exec_embAdmit_bound (h : s.readyAt id (fun d => isOp 0x81 d && !flag d 503) embUnits c)
    (hb : s.batch id.ctx (admitBody c.desc).bid = some x) (hv : s.boundVersion x (admitBody c.desc).table = some v)
    (hbad : s.devReadBad (admitBody c.desc).offsetAddr (4 * ((admitBody c.desc).bags + 1)) = false)
    (hoff : s.offsetsOk (admitBody c.desc) = true)
    (hreach : (s.reachChecks id.ctx (s.admitExtents (admitBody c.desc) v.desc)).first false = none) :
    exec (.embAdmit id) s = .next (((s.took c).passWork c (admitBody c.desc) v x.angle).1.finish id
      ((s.took c).passWork c (admitBody c.desc) v x.angle).2) := by
  refine congrArg Host.Outcome.next ((State.runOn_ready _ h).trans ?_)
  simp [hb, hv, hbad, hoff, hreach]

/-- A close whose batch has no earlier command left closes it. -/
theorem exec_embBatchClose_idle (h : s.readyAt id (isOp 0x87) (fun _ _ => []) c)
    (hbusy : s.batchBusy c (fld c.desc 199 192) = false) (hb : s.batch id.ctx (fld c.desc 199 192) = some x) :
    exec (.embBatchClose id) s = .next (((s.took c).closeBatch x).finish id .ok) := by
  refine congrArg Host.Outcome.next ((State.workOn_ready _ h).trans ?_)
  simp [hbusy, hb, State.ended]

/-- Settles O25: each row's work in the case the statement names, and what it leaves of the list of batches. -/
theorem batchOpensPassesAndCloses : Obligations.BatchOpensPassesAndCloses := by
  intro s id c
  refine ⟨fun v h hdue hchk hholds hasks hv => ⟨?_, exec_embAdmitOpen_local h hdue hchk hholds hasks hv⟩,
    fun x v h hb hv hbad hoff hreach => exec_embAdmit_bound h hb hv hbad hoff hreach,
    fun x h hbusy hb => ⟨exec_embBatchClose_idle h hbusy hb, ?_⟩⟩
  · rw [State.admitBatch_batches, ← State.bindVersions_took (s := s) (c := c), ← State.angle_took (s := s) (c := c),
      ← s.took_batches c]
    rfl
  · obtain ⟨hctx, hbid⟩ := State.batch_spec hb
    rw [← hctx, ← hbid]
    exact State.batch_closeBatch

end Sys2Proof.Machine
end

section
/-! Work on the rows of a pass (R163, R167, R169, R172): prefetch, gather and merge of rows held here, and the combine
of merged lists. -/

namespace Sys2Proof.Machine

variable {s : State} {id : CmdId} {c : Cmd} {v : Version} {p : Pass}

/-- Work that needs no row of another member is done in the step, with the poison its rows may hold. -/
theorem State.withRows_local {live : Bool} {us : List Nat} {outs : List Extent} (work : State → State × Status)
    (hasks : s.asksOf c.id = []) (hfar : s.farRows p live us = []) :
    s.withRows c p v live us outs work =
      let r := (s.noteNeeds c.id).withPoison (p.extent :: us.map (s.rowExtent p v live)) outs work
      (r.1.dropAsks c.id, some r.2) := by
  rw [State.farRows] at hfar
  simp only [State.withRows, hfar, hasks]
  rfl

/-- A prefetch of rows held here stages them. -/
theorem exec_embPrefetch_local (h : s.readyAt id (isOp 0x82) embUnits c) (hasks : s.asksOf id = [])
    (hp : s.passOf id.ctx c.desc = some (v, p)) (hchk : (s.prefetchLate id.ctx c.desc v p).first false = none)
    (hfar : s.farRows p true (prefetchRange c.desc) = []) :
    let r := ((s.took c).noteNeeds id).withPoison
      (p.extent :: (prefetchRange c.desc).map ((s.took c).rowExtent p v true))
      [prefetchExtent c.desc v.desc.rowBytes] fun s => s.stage c p v
    exec (.embPrefetch id) s = .next ((r.1.dropAsks id).finish id r.2) := by
  obtain rfl := State.id_of_findCmd (State.findCmd_of_runnable h.1)
  refine congrArg Host.Outcome.next ((State.workOn_ready _ h).trans ?_)
  simp only [State.passOf_took, State.prefetchLate_took, hp, hchk]
  rw [State.withRows_local _ (by simpa using hasks) (by simpa using hfar)]
  rfl

/-- A gather of rows held here pools them into its bags. -/
theorem exec_embGatherPool_local {g : GatherBody} (h : s.readyAt id (isOp 0x83) embUnits c) (hasks : s.asksOf id = [])
    (hg : gatherBody c.desc = some g) (hp : s.passOf id.ctx c.desc = some (v, p))
    (hchk : (s.gatherLate id.ctx g v p).first false = none)
    (hfar : s.farRows p g.live (s.gatherNeeds g p) = []) :
    let r := ((s.took c).noteNeeds id).withPoison
      (p.extent :: (s.gatherNeeds g p).map ((s.took c).rowExtent p v g.live))
      ((s.took c).gatherWrites g p v.desc.elems) fun s => s.gather c g p v
    exec (.embGatherPool id) s = .next ((r.1.dropAsks id).finish id r.2) := by
  obtain rfl := State.id_of_findCmd (State.findCmd_of_runnable h.1)
  refine congrArg Host.Outcome.next ((State.workOn_ready _ h).trans ?_)
  simp only [State.passOf_took, State.gatherLate_took, State.gatherNeeds_took, hg, hp, hchk]
  rw [State.withRows_local _ (by simpa using hasks) (by simpa using hfar)]
  rfl

/-- A merge that meets no poison writes the list of its pass's merged gradients. -/
theorem exec_embGradMerge_clean {m : MergeBody} (h : s.readyAt id (isOp 0x84) embUnits c)
    (hm : mergeBody c.desc = some m) (hp : s.passOf id.ctx c.desc = some (v, p))
    (hchk : (s.mergeLate id.ctx m v p).first false = none)
    (hr : s.regionsBad (State.mergeReads m p v.desc.elems) = false)
    (hw : s.regionsWriteBad [s.mergeExtent m p v.desc.elems] = false) :
    let r := listOf ⟨v.num, v.table, m.out.code, v.desc.elems, 0⟩ m.out m.seed (s.mergeItems m p v.desc.elems)
    exec (.embGradMerge id) s =
      .next ((((s.took c).devWrite m.dest r.1).health id.ctx m.tgroup m.out.code r.2).finish id .ok) := by
  refine congrArg Host.Outcome.next ((State.runOn_ready _ h).trans ?_)
  simp [hm, hp, hchk, State.withPoison_clean, hr, hw]

/-- A combine that meets no poison does its work. -/
theorem exec_embGradCombine_clean {f : FC} (h : s.readyAt id (isOp 0x85) embUnits c)
    (hf : FC.ofCode (fld c.desc 331 328) = some f)
    (hchk : (Checks.all [s.combineHeads c.desc f,
      s.stackRegion id.ctx (s.combineExtent c.desc f).addr (s.combineExtent c.desc f).n 64,
      s.combineSizes id.ctx c.desc]).first false = none)
    (hr : s.regionsBad (.flat .dev (fld c.desc 239 192) (8 * (s.combineLists c.desc).length) ::
      (s.combineLists c.desc).map fun a => Extent.flat .dev a (s.listHead a).size) = false)
    (hw : s.regionsWriteBad [s.combineExtent c.desc f] = false) :
    exec (.embGradCombine id) s = .next (((s.took c).combine id.ctx c.desc f).finish id .ok) := by
  refine congrArg Host.Outcome.next ((State.runOn_ready _ h).trans ?_)
  simp [hf, hchk, State.withPoison_clean, hr, hw]

/-- The work of a combine from its lists as they stand before it takes its engine. -/
theorem State.combine_took (x : Nat) (d : Desc) (f : FC) : (s.took c).combine x d f =
    let items := ((s.combineLists d).map s.listItems).flatten
    let r := listOf { ((s.combineLists d).head?.map s.listHead).getD ⟨0, 0, 0, 0, 0⟩ with fmt := f.code } f
      (fld d 319 288) (combineItems items)
    (((s.took c).devWrite (fld d 287 240) r.1).embCount x (engineOf d) 10 (saturatedSums items)).health x
      (fld d 327 320) f.code r.2 := by
  have hhead : (s.took c).listHead = s.listHead := funext fun _ => State.listHead_took _
  have hitems : (s.took c).listItems = s.listItems := funext fun _ => State.listItems_took _
  simp only [State.combine, State.combineLists_took, hhead, hitems]

/-- Settles O26: each row on a free engine, where nothing is asked of another member, is its work and its end. -/
theorem embeddingRowWorkRuns : Obligations.EmbeddingRowWorkRuns := by
  intro s id c v p hasks
  refine ⟨fun h hp hchk hfar => exec_embPrefetch_local h hasks hp hchk hfar,
    fun g h hg hp hchk hfar => exec_embGatherPool_local h hasks hg hp hchk hfar,
    fun m h hm hp hchk hr hw => exec_embGradMerge_clean h hm hp hchk hr hw,
    fun f h hf hchk hr hw => ⟨_, ?_, _, _, _, _, State.combine_took id.ctx c.desc f, rfl, rfl⟩⟩
  exact exec_embGradCombine_clean h hf hchk hr hw

end Sys2Proof.Machine
end

section
/-! Replica fetch (R173, R217): the row asks the owner first, and ends once the last rows of a turn have come and their
fingerprint matches. -/

namespace Sys2Proof.Machine

variable {s : State} {id : CmdId} {c : Cmd} {v : Version}

/-- What a replica fetch meets before it asks or lands rows lets it go on: its engine is free, a replica is current,
its list and the rows it names are in reach, and the owner is a member. -/
structure State.fetchReady (s : State) (id : CmdId) (c : Cmd) (v : Version) : Prop where
  ready : s.readyAt id (isOp 0x86) embUnits c
  current : s.currentVersion id.ctx (fld c.desc 281 272) = some v
  replica : v.desc.kind = 2
  list : ((Checks.inv (s.listHead (fld c.desc 239 192)).format.isNone).and
    (s.stackRegion id.ctx (fld c.desc 239 192) (s.listHead (fld c.desc 239 192)).size 1)).first false = none
  clean : s.devReadBad (fld c.desc 239 192) (s.listHead (fld c.desc 239 192)).size = false
  owner : s.memberLost v.desc.owner = false
  reach : (s.reachChecks id.ctx ((s.fetchList v (fld c.desc 239 192)).map fun r =>
    .flat .dev (v.desc.rowAddr r) v.desc.rowBytes)).first false = none

theorem State.fetchReady.id_eq (h : s.fetchReady id c v) : c.id = id :=
  State.id_of_findCmd (State.findCmd_of_runnable h.ready.1)

/-- A fetch that has asked for nothing asks for its first rows. -/
theorem exec_embReplicaFetch_asks (h : s.fetchReady id c v) (hasks : s.asksOf id = []) :
    exec (.embReplicaFetch id) s =
      .next ((s.took c).askFetch c v 1 false (s.fetchList v (fld c.desc 239 192))) := by
  refine congrArg Host.Outcome.next ((State.workOn_ready _ h.ready).trans ?_)
  simp [h.current, h.replica, h.list, h.clean, h.owner, h.reach, hasks, Option.filter, State.ended]

/-- A turn whose fingerprint matches ends the fetch, and the replica is no longer suspect. -/
theorem State.turnEnd_matches {turn : Nat} {rows : List Nat}
    (h : (((s.asksOf c.id).filter fun x => decide (x.turn = turn)).head?.any fun x =>
      decide (x.print = s.turnPrint c v turn)) = true) :
    s.turnEnd c v turn rows =
      ((s.endFetch c).markSuspect c.id.ctx v.table false, some (if turn = 1 then .ok else .retriedOk)) := if_pos h

/-- With the last answer of one of the first three turns the fetch lands its rows, and the turn ends. -/
theorem exec_embReplicaFetch_turnEnd {last : Ask} {l : List Byte} (h : s.fetchReady id c v)
    (hlast : (s.asksOf id).getLast? = some last) (hreply : last.reply = some (.ok, l)) (hturn : last.turn < 4)
    (hgot : (s.fetchList v (fld c.desc 239 192)).length ≤
      (((s.asksOf id).filter fun x => decide (x.turn = last.turn)).map (·.rows.length)).sum) :
    exec (.embReplicaFetch id) s = .next (State.ended ((((s.took c).landRows v last).noteNeeds id).turnEnd c v
      last.turn (s.fetchList v (fld c.desc 239 192))) id) := by
  refine congrArg Host.Outcome.next ((State.workOn_ready _ h.ready).trans ?_)
  simp [h.current, h.replica, h.list, h.clean, h.owner, h.reach, hlast, hreply, hturn.ne, hgot.not_gt, Option.filter]

/-- Settles O27: without requests the row asks; with the last answer it lands the rows and ends its turn, which a
matching fingerprint makes the end of the fetch. -/
theorem replicaFetchAsksAndVerifies : Obligations.ReplicaFetchAsksAndVerifies := by
  intro s id c v hready s1 a rows hcur hkind hlist hclean howner hreach
  have h : s.fetchReady id c v := ⟨hready, hcur, hkind, hlist, hclean, howner, hreach⟩
  refine ⟨exec_embReplicaFetch_asks h, fun last l hlast hreply hturn hgot hprint => ?_⟩
  obtain rfl := h.id_eq
  rw [exec_embReplicaFetch_turnEnd h hlast hreply hturn hgot, State.turnEnd_matches hprint]
  rfl

end Sys2Proof.Machine
end

section
/-! Schedules (R202 to R204): what an install leaves in its slot, how a host value is kept, and what a stride's start
fixes in every slot. -/

namespace Sys2Proof.Machine

variable {s : State} {id : CmdId} {c : Cmd} {x y : Sched} {k : Nat}

/-! ### A slot's step size -/

/-- A step size that is not published is not to be had from the host's values or the curve. -/
theorem Sched.etaFor_of_published_none (h : x.published k = none) : x.etaFor k = none := by
  unfold Sched.published at h
  split at h
  · split at h
    · cases h
    · exact h
  · exact h

/-- A slot that has latched what another publishes for a stride publishes the same; where the other publishes
nothing, it must have nothing of its own either. -/
theorem Sched.published_of_latched (hl : y.latched = (x.published k).map fun e => (k, e))
    (hn : x.published k = none → y.etaFor k = none) : y.published k = x.published k := by
  cases hx : x.published k <;> rw [hx] at hl
  case none => simp [Sched.published, hl, hn hx]
  case some e => simp [Sched.published, hl]

/-- A slot at the start of a stride: its step size fixed, the host values of past strides dropped (R203, R204). -/
def Sched.atStride (x : Sched) (k : Nat) : Sched :=
  { x.fixed k with host := x.host.filter fun h => !reached32 k h.1 }

theorem Sched.atStride_empty (k : Nat) : Sched.empty.atStride k = Sched.empty := rfl

theorem Sched.atStride_published : (x.atStride k).published k = x.published k := by
  refine Sched.published_of_latched rfl fun h => ?_
  have heta := Sched.etaFor_of_published_none h
  unfold Sched.etaFor at heta ⊢
  split at heta
  · cases heta
  next hhost =>
    have hkept : (x.atStride k).host.find? (fun v => decide (v.1 = k)) = none :=
      List.find?_eq_none.mpr fun v hv => List.find?_eq_none.mp hhost v (List.mem_filter.mp hv).1
    rw [hkept]
    exact heta

/-! ### Every slot at once -/

/-- A table whose values are all changed by a function that keeps the default reads the changed values. -/
theorem Tab.get_map_filter {α : Type} [DecidableEq α] {d : α} {f : α → α} (hf : f d = d) {t : Tab α} {lo : Nat}
    (hw : Tab.wfFrom d lo t = true) (k : Nat) :
    Tab.get d ((t.map fun p => (p.1, f p.2)).filter fun p => p.2 ≠ d) k = f (Tab.get d t k) := by
  induction t generalizing lo with
  | nil => exact hf.symm
  | cons p t ih =>
    obtain ⟨a, v⟩ := p
    simp only [Tab.wfFrom, Bool.and_eq_true, decide_eq_true_eq] at hw
    have ht := ih hw.2
    by_cases hv : f v = d
    · rw [List.map_cons, List.filter_cons_of_neg (by simpa using hv), ht]
      by_cases ha : a = k
      · subst ha
        simp [Tab.get, Tab.get_below d t _ _ hw.2 (Nat.lt_succ_self a), hf, hv]
      · simp [Tab.get, ha]
    · rw [List.map_cons, List.filter_cons_of_pos (by simpa using hv)]
      simp only [Tab.get, ht]
      split <;> rfl

/-- The state at the start of its stride, every slot's step size fixed. -/
def State.stepsFixed (s : State) : State :=
  { s with scheds := (s.scheds.map fun p => (p.1, p.2.atStride s.pace.stride)).filter fun p => p.2 ≠ Sched.empty }

theorem State.sched_stepsFixed (hs : s.tabsOk = true) (ctx slot : Nat) :
    s.stepsFixed.sched ctx slot = (s.sched ctx slot).atStride s.pace.stride :=
  Tab.get_map_filter (f := fun x : Sched => x.atStride s.pace.stride) (Sched.atStride_empty _) (State.wf_scheds hs) _

theorem exec_strideStepSizePublish_due (hm : s.pace.mode ≠ .unlocked)
    (hact : s.mayAct (strideAngle s.pace.stride, 4) = true) :
    exec .strideStepSizePublish s = .next s.stepsFixed := by
  change execStrideStepSizePublish s = _
  rw [execStrideStepSizePublish, if_neg (by simp [hm, hact])]
  rfl

/-! ### An install -/

/-- What an install finds in its slot: once the stride has begun under it, with the stride's step size fixed (R203). -/
def State.schedKept (s : State) (c : Cmd) : Sched :=
  if s.pace.mode = .unlocked ∨ (decide (gated c.desc) && decide (notBefore c.desc = strideAngle s.pace.stride)) = true
  then s.sched c.id.ctx (fld c.desc 306 304)
  else (s.sched c.id.ctx (fld c.desc 306 304)).fixed s.pace.stride

theorem State.installSched_read {r : Nat} (h : c.latch.record = some r) : s.installSched c =
    (s.setSched c.id.ctx (fld c.desc 306 304) { s.schedKept c with record := [r] }, .ok) := by
  simp only [State.installSched, h]
  rfl

theorem State.schedKept_host : (s.schedKept c).host = (s.sched c.id.ctx (fld c.desc 306 304)).host := by
  unfold State.schedKept
  split <;> rfl

theorem State.schedKept_inStride (hm : s.pace.mode ≠ .unlocked)
    (hs : gated c.desc = false ∨ notBefore c.desc ≠ strideAngle s.pace.stride) :
    s.schedKept c = (s.sched c.id.ctx (fld c.desc 306 304)).fixed s.pace.stride := by
  refine if_neg ?_
  rintro (h | h)
  · exact hm h
  · simp only [Bool.and_eq_true, decide_eq_true_eq] at h
    exact hs.elim (fun hg => by simp [hg] at h) (· h.2)

/-- A row that installs a schedule record: the released command's, or the gated one's at its angle. -/
def State.schedRow (s : State) (id : CmdId) (c : Cmd) (row : Instr) : Prop :=
  (row = .tapSchedInstall id ∧ s.runnable id (schedOp 0) = some c ∧ s.tapFull c = false ∧
      s.pace.mode.lost = false) ∨
    (row = .scheduleInstallTakesEffect id ∧ s.findCmd id = some c ∧ schedOp 0 c.desc = true ∧
      s.installDue c = true ∧ s.mayAct (notBefore c.desc, 3) = true ∧ s.objectGone c.desc = false ∧
      s.waitFault c.desc = false)

theorem State.findCmd_of_schedRow {row : Instr} (h : s.schedRow id c row) : s.findCmd id = some c := by
  rcases h with ⟨-, h, -⟩ | ⟨-, h, -⟩
  · exact State.findCmd_of_runnable h
  · exact h

theorem State.workNow_ready {p : Desc → Bool} (f : State → Cmd → State × Status) (h : s.runnable id p = some c)
    (hf : s.tapFull c = false) : s.workNow id p f = (f s c).1.finish id (f s c).2 := by
  simp [State.workNow, State.findCmd_of_runnable h, hf, State.run_ready f h]

theorem exec_schedRow {row : Instr} (h : s.schedRow id c row) :
    exec row s = .next ((s.installSched c).1.finish id (s.installSched c).2) := by
  rcases h with ⟨rfl, h, hfull, hlost⟩ | ⟨rfl, hf, hop, hdue, hact, hgone, hfault⟩
  · refine congrArg Host.Outcome.next ((State.workNow_ready _ h hfull).trans ?_)
    simp [hlost]
  · change execScheduleInstallTakesEffect id s = _
    simp [execScheduleInstallTakesEffect, hf, Option.filter, hop, hdue, hact, hgone, hfault]

/-! ### A host value -/

theorem exec_tapSchedHostStep_kept (h : s.runnable id (schedOp 1) = some c) (hfull : s.tapFull c = false)
    (hlost : s.pace.mode.lost = false)
    (htime : atOrAfter s.angle (mkAngle (fld c.desc 271 240 + 2 ^ 32 - 1) 0x8000) = false)
    (hahead : (mkAngle (fld c.desc 271 240) 0 - s.angle).toNat ≤ 2 ^ 40)
    (hroom : (((s.sched id.ctx (fld c.desc 306 304)).host.filter fun v => decide (v.1 ≠ fld c.desc 271 240)).filter
      fun v => !reached32 s.pace.stride v.1).length < 16) :
    exec (.tapSchedHostStep id) s = .next ((s.setSched id.ctx (fld c.desc 306 304)
      { s.sched id.ctx (fld c.desc 306 304) with
        host := ((s.sched id.ctx (fld c.desc 306 304)).host.filter fun v => decide (v.1 ≠ fld c.desc 271 240)) ++
          [(fld c.desc 271 240, fld c.desc 303 272)] }).finish id .ok) := by
  refine congrArg Host.Outcome.next ((State.workNow_ready _ h hfull).trans ?_)
  simp only [hlost, htime, hahead.not_gt, hroom.not_ge, if_false, Bool.false_eq_true]

theorem exec_tapSchedHostStep_late (h : s.runnable id (schedOp 1) = some c) (hfull : s.tapFull c = false)
    (hlost : s.pace.mode.lost = false)
    (htime : atOrAfter s.angle (mkAngle (fld c.desc 271 240 + 2 ^ 32 - 1) 0x8000) = true) :
    exec (.tapSchedHostStep id) s = .next ((s.tally id.ctx 0x7131 4 1).finish id .invalid) := by
  refine congrArg Host.Outcome.next ((State.workNow_ready _ h hfull).trans ?_)
  simp only [hlost, htime, if_true, if_false, Bool.false_eq_true]

/-- Settles O28: an install puts its record over the slot that `schedKept` fixes, a host value is appended to its
slot's, and a stride's start leaves every slot as `Sched.atStride` says. -/
theorem schedulesPublishStepSizes : Obligations.SchedulesPublishStepSizes := by
  intro s id c slot
  refine ⟨?install, ?hostValue, ?strideStart⟩
  case install =>
    intro row hs hrow r hr
    have hslot := State.sched_setSched_self s id.ctx slot { s.schedKept c with record := [r] } (State.wf_scheds hs)
    obtain rfl := State.id_of_findCmd (State.findCmd_of_schedRow hrow)
    have hexec := exec_schedRow hrow
    rw [State.installSched_read hr] at hexec
    refine ⟨_, hexec, State.endsIn_finish rfl, rfl, congrArg Sched.record hslot, ?_, fun hm hstart e he => ?_⟩
    · exact (congrArg Sched.host hslot).trans State.schedKept_host
    · refine (congrArg (Sched.published · _) hslot).trans ?_
      rw [State.schedKept_inStride hm hstart, ← he]
      exact Sched.published_of_latched rfl fun hnone => absurd (he.symm.trans hnone) (Option.some_ne_none e)
  case hostValue =>
    intro h hfull hlost k others
    exact ⟨exec_tapSchedHostStep_kept h hfull hlost, exec_tapSchedHostStep_late h hfull hlost⟩
  case strideStart =>
    intro hm hact hs
    refine ⟨_, exec_strideStepSizePublish_due hm hact, rfl, fun ctx k => ?_⟩
    rw [State.sched_stepsFixed hs]
    exact ⟨rfl, rfl, Sched.atStride_published⟩

end Sys2Proof.Machine
end

section
/-! The taproot commands (R212 to R223): what each row does once its command's turn on its region has come and the
engines of its grains are free. -/

namespace Sys2Proof.Machine

variable {s : State} {id : CmdId} {c : Cmd} {g : Geo}

/-! ### Turns and engines -/

theorem State.runTap_ready {p : Desc → Bool} (f : State → Cmd → State × Option Status) (h : s.tapReady id p c) :
    s.runTap id p f = State.ended (f s c) id := by
  simp only [State.runTap, h.1, h.2, State.ended]
  rcases f s c with ⟨t, _ | st⟩ <;> rfl

theorem State.enginesFor_of_free {qs : List Nat} (h : s.enginesFree g qs = true) :
    ∃ l, s.enginesFor g qs = some l ∧ (l.any fun e => s.blocked (.taproot e)) = false := by
  unfold State.enginesFree at h
  split at h
  · cases h
  · next l hl => exact ⟨l, hl, by simpa using h⟩

/-- Work on grains whose engines are free is the work. -/
theorem State.onEngines_free {qs : List Nat} (f : State → State × Option Status) (h : s.enginesFree g qs = true) :
    s.onEngines g qs f = f s := by
  obtain ⟨l, hl, hfree⟩ := State.enginesFor_of_free h
  simp [State.onEngines, hl, hfree]

/-! ### The rows -/

theorem State.runInit_ready {kind : Nat} (work : State → Cmd → Geo → State × Status)
    (h : s.tapReady id (fun d => isOp 0xA0 d && decide (fld d 321 320 = kind)) c) (hg : s.initGeo c = .ok g)
    (he : s.enginesFree g (List.range g.grains) = true) :
    s.runInit id kind work = (work (s.captureAll g) c g).1.finish id (work (s.captureAll g) c g).2 := by
  refine (State.runTap_ready _ h).trans ?_
  simp only [hg, State.onEngines_free _ he, State.ended]

theorem State.runUpd_ready {resume : Bool} {j : UpdJob} (work : State → Cmd → UpdJob → State × Status)
    (h : s.tapReady id (fun d => isOp 0xA1 d && decide (flag d 452 = resume)) c) (hj : s.updJob c = .ok (some j))
    (he : s.enginesFree j.g (j.cover.map (·.1)) = true) (hbad : s.jobBad c j = false)
    (hroom : s.journalFull j.g (j.cover.map (·.1)) = false) :
    s.runUpd id resume work = (work s c j).1.finish id (work s c j).2 := by
  refine (State.runTap_ready _ h).trans ?_
  simp [hj, State.onEngines_free _ he, hbad, hroom, State.ended]

/-- A verification whose list may be read and whose fingerprint is the header's ends with OK and changes nothing. -/
theorem exec_tapVerify_matches {h : Nat} (hready : s.tapReady id (isOp 0xA3) c) (hnew : c.verifying = false)
    (hopen : s.openTap c (fun h => if hdrPending h then some .busy else none) = .yes g h)
    (hlist : g.r.isTable = true → (s.tapListChecks id.ctx g (fld c.desc 287 240)).first false = none ∧
      s.devReadBad (fld c.desc 287 240) (s.listHead (fld c.desc 287 240)).size = false)
    (he : s.enginesFree g ((g.cover (s.verifyParams g (fld c.desc 287 240))).map (·.1)) = true)
    (hclean : ((s.verifyParams g (fld c.desc 287 240)).any fun n => s.devReadBad (g.workAt n) g.size) = false)
    (hprint : s.printOf g (hdrEpoch h) (s.verifyParams g (fld c.desc 287 240)) = hdrPrint h) :
    exec (.tapVerify id) s = .next (s.finish id .ok) := by
  refine congrArg Host.Outcome.next ((State.runTap_ready _ hready).trans ?_)
  have hchecks : (if g.r.isTable then s.tapListChecks id.ctx g (fld c.desc 287 240) else Checks.pass).first false =
      none := by
    split
    · next ht => exact (hlist ht).1
    · rfl
  have hread : (g.r.isTable && s.devReadBad (fld c.desc 287 240) (s.listHead (fld c.desc 287 240)).size) = false := by
    cases ht : g.r.isTable with
    | false => rfl
    | true => exact (hlist ht).2
  simp only [hopen, hchecks, hread, hnew, State.onEngines_free _ he, hclean, hprint, State.ended, if_true, if_false,
    Bool.false_eq_true]

/-- A snapshot of a region that can be read captures what it has not captured and clears SNAPSHOT. -/
theorem exec_tapSnapshot_captures (hrun : s.runnable id (isOp 0xA4) = some c) (hfull : s.tapFull c = false)
    (he : s.enginesFree (s.snapGeo c) (List.range (s.snapGeo c).grains) = true)
    (hsnap : s.snapLost (s.snapGeo c) = false) (hlost : hdrLost (s.tapHeader (s.snapGeo c).r.hdr) = false)
    (hclean : s.regionsBad (s.snapGeo c).workExtents = false) :
    let g := s.snapGeo c
    let h := s.tapHeader g.r.hdr
    let r := s.capture g c.desc (hdrParity h) ((List.range g.grains).filter (s.uncaptured g h))
    exec (.tapSnapshot id) s =
      .next ((r.1.setHeader g.r.hdr (setBits (r.1.tapHeader g.r.hdr) 259 259 0)).finish id
        (if r.2 then .dataSuspect else .ok)) := by
  intro g h r
  obtain ⟨l, hl, hfree⟩ := State.enginesFor_of_free he
  change execTapSnapshot id s = _
  simp [execTapSnapshot, hrun, hl, hfull, hfree, hsnap, hlost, hclean, g, h, r]

/-- Settles O29: each row is its work once the turns and the engines are out of the way. -/
theorem taprootCommandsRun : Obligations.TaprootCommandsRun := by
  intro s id c
  refine ⟨?init, ?update, ?verify, exec_tapSnapshot_captures⟩
  case init =>
    rintro kind row work g (⟨rfl, rfl, rfl⟩ | ⟨rfl, rfl, rfl⟩) h hg he <;>
      exact congrArg Host.Outcome.next (State.runInit_ready _ h hg he)
  case update =>
    rintro resume row work j (⟨rfl, rfl, rfl⟩ | ⟨rfl, rfl, rfl⟩) h hj he hbad hroom <;>
      exact congrArg Host.Outcome.next (State.runUpd_ready _ h hj he hbad hroom)
  case verify => exact fun g h => exec_tapVerify_matches

end Sys2Proof.Machine
end

section
/-! The map of grains to homes (R233, R234): within a slot it is a shift of the high digit and an XOR of the low
byte, which the same hash undoes, and a fixed order of the pseudo-channels. -/

namespace Sys2Proof.Machine

/-- The hash of a slot under the device's keys (R233). -/
def State.slotHash (s : State) (sl : Nat) : Nat :=
  ((List.range 11).map fun b => parityOf 22 (sl &&& s.pool.hashKeys.getD b 0) * 2 ^ b).sum

/-- λ of R233: where the hash puts the grain t of a slot's 1,280. -/
def hashLane (h t : Nat) : Nat := 256 * ((t / 256 + h / 256) % 5) + ((t % 256) ^^^ (h % 256))

/-- The grain of a slot that the hash puts at λ. -/
def hashGrain (h x : Nat) : Nat := 256 * ((x / 256 + 5 - h / 256 % 5) % 5) + ((x % 256) ^^^ (h % 256))

/-- The pseudo-channel of λ (R233). -/
def lanePc (x : Nat) : Nat := x % 20 * 64 + x / 20

/-- The grain number of an address (R233). -/
def grainOf (a : Nat) : Nat := bits a 39 8

theorem State.homeOf_eq (s : State) (a : Nat) :
    s.homeOf a = (lanePc (hashLane (s.slotHash (grainOf a / 1280)) (grainOf a % 1280)), grainOf a / 1280) := rfl

theorem grainOf_eq (a : Nat) : grainOf a = a / 256 % 2 ^ 32 := by
  simp [grainOf, bits, Nat.shiftRight_eq_div_pow]

theorem xor_byte_lt (x h : Nat) : (x % 256) ^^^ (h % 256) < 256 :=
  Nat.xor_lt_two_pow (n := 8) (Nat.mod_lt _ (by decide)) (Nat.mod_lt _ (by decide))

theorem hashLane_lt (h t : Nat) : hashLane h t < 1280 := by
  have := xor_byte_lt t h
  unfold hashLane
  omega

theorem hashGrain_lt (h x : Nat) : hashGrain h x < 1280 := by
  have := xor_byte_lt x h
  unfold hashGrain
  omega

theorem hashLane_div (h t : Nat) : hashLane h t / 256 = (t / 256 + h / 256) % 5 := by
  have := xor_byte_lt t h
  unfold hashLane
  omega

theorem hashLane_mod (h t : Nat) : hashLane h t % 256 = (t % 256) ^^^ (h % 256) := by
  rw [hashLane, Nat.mul_add_mod, Nat.mod_eq_of_lt (xor_byte_lt t h)]

theorem hashGrain_div (h x : Nat) : hashGrain h x / 256 = (x / 256 + 5 - h / 256 % 5) % 5 := by
  have := xor_byte_lt x h
  unfold hashGrain
  omega

theorem hashGrain_mod (h x : Nat) : hashGrain h x % 256 = (x % 256) ^^^ (h % 256) := by
  rw [hashGrain, Nat.mul_add_mod, Nat.mod_eq_of_lt (xor_byte_lt x h)]

theorem hashGrain_hashLane {h t : Nat} (ht : t < 1280) : hashGrain h (hashLane h t) = t := by
  rw [hashGrain, hashLane_div, hashLane_mod, Nat.xor_xor_cancel_right]
  omega

theorem hashLane_hashGrain {h x : Nat} (hx : x < 1280) : hashLane h (hashGrain h x) = x := by
  rw [hashLane, hashGrain_div, hashGrain_mod, Nat.xor_xor_cancel_right]
  omega

theorem hashLane_inj {h t u : Nat} (ht : t < 1280) (hu : u < 1280) (e : hashLane h t = hashLane h u) : t = u := by
  rw [← hashGrain_hashLane (h := h) ht, e, hashGrain_hashLane hu]

theorem lanePc_inj {x y : Nat} (hx : x < 1280) (hy : y < 1280) (e : lanePc x = lanePc y) : x = y := by
  unfold lanePc at e
  omega

theorem lanePc_surj {p : Nat} (hp : p < 1280) : lanePc (20 * (p % 64) + p / 64) = p := by
  unfold lanePc
  omega

/-- Two grains of one slot lie in one pseudo-channel only where they are one grain. -/
theorem lanePc_hashLane_inj {h t u : Nat} (ht : t < 1280) (hu : u < 1280)
    (e : lanePc (hashLane h t) = lanePc (hashLane h u)) : t = u :=
  hashLane_inj ht hu (lanePc_inj (hashLane_lt h t) (hashLane_lt h u) e)

theorem State.grainOf_eq_of_homeOf_eq {s : State} {a b : Nat} (e : s.homeOf a = s.homeOf b) :
    grainOf a = grainOf b := by
  simp only [State.homeOf_eq, Prod.mk.injEq] at e
  obtain ⟨hpc, hslot⟩ := e
  rw [hslot] at hpc
  have := lanePc_hashLane_inj (Nat.mod_lt _ (by decide)) (Nat.mod_lt _ (by decide)) hpc
  omega

/-- Grain k of the 320 KiB range m is the grain k of slot m. -/
theorem State.homeOf_range (s : State) {m k : Nat} (hm : 327680 * (m + 1) ≤ 2 ^ 40) (hk : k < 1280) :
    s.homeOf (327680 * m + 256 * k) = (lanePc (hashLane (s.slotHash m) k), m) := by
  have hg : grainOf (327680 * m + 256 * k) = 1280 * m + k := by
    rw [grainOf_eq]
    omega
  rw [State.homeOf_eq, hg, show (1280 * m + k) / 1280 = m by omega, show (1280 * m + k) % 1280 = k by omega]

/-- Settles O9: the hash of a slot is undone by `hashGrain`, so each slot's grains fill its pseudo-channels. -/
theorem interleaveIsOneToOne : Obligations.InterleaveIsOneToOne := by
  intro s
  refine ⟨?inj, ?spread, ?grain⟩
  case inj =>
    intro a b ha hb e
    have hg := State.grainOf_eq_of_homeOf_eq e
    rw [grainOf_eq, grainOf_eq] at hg
    omega
  case spread =>
    intro m p hm hp
    have hpc : lanePc (hashLane (s.slotHash m) (hashGrain (s.slotHash m) (20 * (p % 64) + p / 64))) = p := by
      rw [hashLane_hashGrain (by omega), lanePc_surj hp]
    have hk := hashGrain_lt (s.slotHash m) (20 * (p % 64) + p / 64)
    refine ⟨_, hk, by rw [s.homeOf_range hm hk, hpc], fun j hj e => ?_⟩
    rw [s.homeOf_range hm hj] at e
    exact lanePc_hashLane_inj hj hk (e.trans hpc.symm)
  case grain =>
    intro a
    rw [State.homeOf_eq, State.homeOf_eq, grainOf_eq a, grainOf_eq (a / 256 * 256),
      Nat.mul_div_cancel _ (by decide)]

end Sys2Proof.Machine
end

section
/-! A write of device memory (R237, R244, R252): the sectors it reaches, what becomes of their bytes, their tags and
their poison, and how the memory reads after it. -/

namespace Sys2Proof.Machine

/-! ### Sectors and stores -/

theorem mem_sectorsOf {a n k : Nat} : k ∈ sectorsOf a n ↔ 0 < n ∧ a / 32 ≤ k ∧ k ≤ (a + n - 1) / 32 := by
  unfold sectorsOf
  split
  · next h => simp [h]
  · next h =>
    simp only [List.mem_map, List.mem_range]
    constructor
    · rintro ⟨j, hj, rfl⟩
      omega
    · exact fun hk => ⟨k - a / 32, by omega, by omega⟩

theorem wholeSector_eq_true {a n k : Nat} : wholeSector a n k = true ↔ a ≤ 32 * k ∧ 32 * k + 32 ≤ a + n := by
  simp [wholeSector]

theorem mem_sectorsOf_of_wholeSector {a n k : Nat} (h : wholeSector a n k = true) : k ∈ sectorsOf a n := by
  rw [wholeSector_eq_true] at h
  rw [mem_sectorsOf]
  omega

/-- Reading a store into which values were put at the keys of a list. -/
theorem Tab.get_foldl_put {α : Type} [DecidableEq α] {d : α} {f : Nat → α} (l : List Nat) {t : Tab α}
    (ht : Tab.wf d t = true) (j : Nat) :
    Tab.get d (l.foldl (fun t k => Tab.put d t k (f k)) t) j = if j ∈ l then f j else Tab.get d t j := by
  induction l generalizing t with
  | nil => simp
  | cons k l ih =>
    rw [List.foldl_cons, ih (Tab.wf_put d t k _ ht), Tab.get_put d t k j _ ht]
    by_cases hj : j = k <;> simp [hj]

/-- Bytes written sector by sector: each listed sector holds the bytes given for it. -/
theorem Mem.byte_foldl_sectors (f : Nat → Byte) (l : List Nat) {m : Mem} (hm : m.wf = true) (x : Nat) :
    (l.foldl (fun m k => Mem.write m (32 * k) ((List.range 32).map fun i => f (32 * k + i))) m).byte x =
      if x / 32 ∈ l then f x else m.byte x := by
  induction l generalizing m with
  | nil => simp
  | cons k l ih =>
    rw [List.foldl_cons, ih (Mem.wf_write m _ _ hm)]
    by_cases hk : x / 32 = k
    · have hx : x = 32 * k + x % 32 := by omega
      have hlt : x % 32 < 32 := Nat.mod_lt _ (by decide)
      have hbyte := Mem.byte_write_in m (32 * k) (x % 32) ((List.range 32).map fun i => f (32 * k + i)) hm
        (by simpa using hlt)
      rw [← hx] at hbyte
      simp [hbyte, hk, hlt, ← hx]
    · rw [Mem.byte_write_out m _ x _ (by simp; omega)]
      simp [hk]

theorem Mem.wf_foldl_write (g : Nat → List Byte) (l : List Nat) {m : Mem} (hm : m.wf = true) :
    (l.foldl (fun m k => Mem.write m (32 * k) (g k)) m).wf = true := by
  induction l generalizing m with
  | nil => exact hm
  | cons k l ih => exact ih (Mem.wf_write m _ _ hm)

variable {drop : Nat → Bool} {m : Mem} {a x : Nat} {l : List Byte}

theorem byte_writeKept_out (h : x < a ∨ a + l.length ≤ x) : (writeKept drop m a l).byte x = m.byte x := by
  induction l generalizing m a with
  | nil => rfl
  | cons b l ih =>
    rw [List.length_cons] at h
    rw [writeKept, ih (by omega)]
    split
    · rfl
    · exact Tab.get_put_ne _ _ _ _ _ (by omega)

theorem byte_writeKept_in {i : Nat} (hm : m.wf = true) (hi : i < l.length) (hd : drop ((a + i) / 32) = false) :
    (writeKept drop m a l).byte (a + i) = l.getD i 0 := by
  induction l generalizing m a i with
  | nil => simp at hi
  | cons b l ih =>
    rw [writeKept]
    cases i with
    | zero =>
      rw [byte_writeKept_out (by omega), if_neg (by simpa using hd)]
      exact Tab.get_put_self _ _ _ _ hm
    | succ i =>
      rw [show a + (i + 1) = a + 1 + i by omega] at hd ⊢
      rw [ih ?wf (by simpa using hi) hd, List.getD_cons_succ]
      case wf =>
        split
        · exact hm
        · exact Tab.wf_put _ _ _ _ hm

/-! ### A write of stack memory -/

variable {s : State}

/-- The sectors that a write of a region changes: all it reaches but the poisoned ones it covers in part (R244). -/
def State.liveSectors (s : State) (a n : Nat) : List Nat :=
  (sectorsOf a n).filter fun k => !(s.poisoned k && !wholeSector a n k)

theorem State.mem_liveSectors {a n k : Nat} :
    k ∈ s.liveSectors a n ↔ k ∈ sectorsOf a n ∧ (s.poisoned k = false ∨ wholeSector a n k = true) := by
  simp [State.liveSectors]

theorem State.mem_mergeSectors {a n k : Nat} : k ∈ s.mergeSectors a n ↔
    k ∈ sectorsOf a n ∧ wholeSector a n k = false ∧ s.poisoned k = false ∧ s.tag k ≠ s.writeTag (32 * k) := by
  simp [State.mergeSectors, and_assoc]

theorem State.tag_stackWrite (hs : s.tabsOk = true) (k : Nat) : (s.stackWrite a l).tag k =
    if k ∈ s.liveSectors a l.length then s.writeTag (32 * k) else s.tag k :=
  Tab.get_foldl_put (f := fun k => s.writeTag (32 * k)) _ (State.wf_tags hs) k

theorem State.poison_stackWrite (hs : s.tabsOk = true) (k : Nat) :
    Tab.get false (s.stackWrite a l).pool.poison k =
      if k ∈ s.liveSectors a l.length then false else Tab.get false s.pool.poison k :=
  Tab.get_foldl_put (f := fun _ => false) _ (State.wf_poison hs) k

theorem State.byte_stackWrite_out (hm : s.memOk = true) (h : x < a ∨ a + l.length ≤ x) :
    (s.stackWrite a l).mem.byte x = if x / 32 ∈ s.mergeSectors a l.length then s.stackByte x else s.mem.byte x :=
  (byte_writeKept_out h).trans (Mem.byte_foldl_sectors s.stackByte _ (State.wf_mem hm) x)

theorem State.byte_stackWrite_in {i : Nat} (hm : s.memOk = true) (hi : i < l.length)
    (hd : s.poisoned ((a + i) / 32) = false ∨ wholeSector a l.length ((a + i) / 32) = true) :
    (s.stackWrite a l).mem.byte (a + i) = l.getD i 0 :=
  byte_writeKept_in (Mem.wf_foldl_write _ _ (State.wf_mem hm)) hi (by rcases hd with hd | hd <;> simp [hd])

/-! ### How memory reads after it -/

/-- The context of an address is that of its sector. -/
theorem State.encCtx_sector (s : State) (x : Nat) : s.encCtx (32 * (x / 32)) = s.encCtx x := by
  have : 32 * (x / 32) / gib = x / gib := by
    unfold gib
    omega
  rw [State.encCtx, this, State.encCtx]

/-- A sector under the tag of a write reads as its bytes, where its context holds the key. -/
theorem State.stackByte_of_writeTag {t : State} (ht : t.tag (x / 32) = t.writeTag x)
    (hk : ∀ c, t.encCtx x = some c → ((t.keySlots c).key (t.keySlots c).current).isSome = true) :
    t.stackByte x = t.mem.byte x := by
  have hr : t.readable x = true := by
    unfold State.readable
    rw [ht, State.writeTag]
    cases hc : t.encCtx x with
    | none => rfl
    | some c =>
      obtain ⟨key, hkey⟩ := Option.isSome_iff_exists.mp (hk c hc)
      simp [hkey]
  rw [State.stackByte, if_pos hr]

/-- A byte under the same tag, with the same value beneath, reads the same. -/
theorem State.stackByte_stackWrite_same (ht : (s.stackWrite a l).tag (x / 32) = s.tag (x / 32))
    (hb : (s.stackWrite a l).mem.byte x = s.mem.byte x) : (s.stackWrite a l).stackByte x = s.stackByte x := by
  unfold State.stackByte State.readable State.readTag
  rw [ht, hb]
  rfl

theorem State.key_of_keyed {n c : Nat} (h : s.keyed a n = true) (hx : x / 32 ∈ sectorsOf a n)
    (hc : s.encCtx x = some c) : ((s.keySlots c).key (s.keySlots c).current).isSome = true := by
  have := List.all_eq_true.mp h _ hx
  rwa [State.encCtx_sector, hc] at this

theorem State.writeTag_sector (s : State) (x : Nat) : s.writeTag (32 * (x / 32)) = s.writeTag x := by
  rw [State.writeTag, State.encCtx_sector, State.writeTag]

/-- A byte of a sector that a write changes reads as the byte beneath. -/
theorem State.stackByte_stackWrite_live (hs : s.tabsOk = true) (hk : s.keyed a l.length = true)
    (hx : x / 32 ∈ s.liveSectors a l.length) : (s.stackWrite a l).stackByte x = (s.stackWrite a l).mem.byte x := by
  refine State.stackByte_of_writeTag ?_ fun c hc => State.key_of_keyed hk (State.mem_liveSectors.mp hx).1 hc
  rw [State.tag_stackWrite hs, if_pos hx, State.writeTag_sector]
  rfl

theorem State.stackByte_stackWrite_in {i : Nat} (hm : s.memOk = true) (hs : s.tabsOk = true)
    (hk : s.keyed a l.length = true) (hi : i < l.length)
    (hd : s.poisoned ((a + i) / 32) = false ∨ wholeSector a l.length ((a + i) / 32) = true) :
    (s.stackWrite a l).stackByte (a + i) = l.getD i 0 := by
  have hx : (a + i) / 32 ∈ s.liveSectors a l.length :=
    State.mem_liveSectors.mpr ⟨mem_sectorsOf.mpr (by omega), hd⟩
  rw [State.stackByte_stackWrite_live hs hk hx, State.byte_stackWrite_in hm hi hd]

/-- A byte outside the region reads as before: its sector is merged with its old bytes where the write brings it under
a new tag, and stands as it did elsewhere. -/
theorem State.stackByte_stackWrite_out (hm : s.memOk = true) (hs : s.tabsOk = true) (hk : s.keyed a l.length = true)
    (h : x < a ∨ a + l.length ≤ x) : (s.stackWrite a l).stackByte x = s.stackByte x := by
  have hbyte := State.byte_stackWrite_out hm h
  have htag := State.tag_stackWrite (a := a) (l := l) hs (x / 32)
  have hpart : wholeSector a l.length (x / 32) = false := by
    rw [← Bool.not_eq_true, wholeSector_eq_true]
    omega
  by_cases hmerge : x / 32 ∈ s.mergeSectors a l.length
  · obtain ⟨hsec, -, hclean, -⟩ := State.mem_mergeSectors.mp hmerge
    rw [State.stackByte_stackWrite_live hs hk (State.mem_liveSectors.mpr ⟨hsec, .inl hclean⟩), hbyte, if_pos hmerge]
  · rw [if_neg hmerge] at hbyte
    refine State.stackByte_stackWrite_same (htag.trans ?_) hbyte
    split
    · next hlive =>
      obtain ⟨hsec, hclean⟩ := State.mem_liveSectors.mp hlive
      by_contra hne
      exact hmerge (State.mem_mergeSectors.mpr
        ⟨hsec, hpart, hclean.resolve_right (by simp [hpart]), fun e => hne e.symm⟩)
    · rfl

/-! ### A write at a device address -/

theorem State.devWrite_host (h : hostBase ≤ a) : s.devWrite a l = { s with host := s.host.write a l } := if_pos h

theorem State.devWrite_stack (h : a < hostBase) : s.devWrite a l = s.stackWrite a l := if_neg (by omega)

theorem State.devByte_devWrite_in {i : Nat} (hm : s.memOk = true) (hs : s.tabsOk = true)
    (hside : oneSide a l.length = true) (hk : s.keyed a l.length = true) (hi : i < l.length)
    (hd : hostBase ≤ a ∨ s.poisoned ((a + i) / 32) = false ∨ wholeSector a l.length ((a + i) / 32) = true) :
    (s.devWrite a l).devByte (a + i) = l.getD i 0 := by
  rcases Nat.lt_or_ge a hostBase with ha | ha
  · have htop : a + l.length ≤ hostBase := by simpa [oneSide, Nat.not_le.mpr ha] using hside
    rw [State.devWrite_stack ha, State.devByte, if_neg (by omega)]
    exact State.stackByte_stackWrite_in hm hs hk hi (hd.resolve_left (by omega))
  · rw [State.devWrite_host ha, State.devByte, if_pos (by omega)]
    exact Mem.byte_write_in _ _ _ _ (State.wf_host hm) hi

theorem State.devByte_devWrite_out (hm : s.memOk = true) (hs : s.tabsOk = true) (hk : s.keyed a l.length = true)
    (h : x < a ∨ a + l.length ≤ x) : (s.devWrite a l).devByte x = s.devByte x := by
  rcases Nat.lt_or_ge a hostBase with ha | ha
  · rw [State.devWrite_stack ha, State.devByte, State.devByte, State.stackByte_stackWrite_out hm hs hk h]
    rfl
  · rw [State.devWrite_host ha, State.devByte, State.devByte]
    split
    · exact Mem.byte_write_out _ _ _ _ h
    · rfl

theorem State.poison_devWrite (hs : s.tabsOk = true) (htop : a + l.length ≤ hostBase) (k : Nat) :
    Tab.get false (s.devWrite a l).pool.poison k =
      (Tab.get false s.pool.poison k && !(decide (0 < l.length) && wholeSector a l.length k)) := by
  rcases Nat.lt_or_ge a hostBase with ha | ha
  · rw [State.devWrite_stack ha, State.poison_stackWrite hs]
    cases hw : wholeSector a l.length k with
    | true =>
      have hsec := mem_sectorsOf_of_wholeSector hw
      simp [State.mem_liveSectors, hsec, hw, (mem_sectorsOf.mp hsec).1]
    | false =>
      split
      · next hlive =>
        have hclean : s.poisoned k = false := by simpa [hw] using (State.mem_liveSectors.mp hlive).2
        simp only [State.poisoned, Bool.or_eq_false_iff] at hclean
        simp [hclean.1]
      · simp
  · have hn : l.length = 0 := by omega
    rw [State.devWrite_host ha]
    simp [hn]

/-- Settles O10: a write is a write of the host's store or of stack memory, and both read back and keep the rest. -/
theorem deviceWritesReadBackAndClearPoison : Obligations.DeviceWritesReadBackAndClearPoison :=
  ⟨fun _ _ _ hm hs hside hk =>
      ⟨fun _ hi hd => State.devByte_devWrite_in hm hs hside hk hi hd,
        fun _ h => State.devByte_devWrite_out hm hs hk h⟩,
    fun _ _ _ k hs htop => State.poison_devWrite hs htop k⟩

end Sys2Proof.Machine
end

section
/-! What the memory's upkeep (R236 to R256) shares: the frames of the recorder, of the tests and of the host accesses
that waited, and stores changed at the keys of a list. -/

namespace Sys2Proof.Machine

variable {s t u : State}

/-! ### The recorder and the tests -/

@[simp] theorem State.recordEvent_mem (e : EventIn) : (s.recordEvent e).mem = s.mem := by
  obtain ⟨_, _, _, h⟩ := s.recordEvent_frame e
  rw [h]

@[simp] theorem State.recordEvent_cmds (e : EventIn) : (s.recordEvent e).cmds = s.cmds := by
  obtain ⟨_, _, _, h⟩ := s.recordEvent_frame e
  rw [h]

@[simp] theorem State.recordEvent_pool (e : EventIn) : (s.recordEvent e).pool = s.pool := by
  obtain ⟨_, _, _, h⟩ := s.recordEvent_frame e
  rw [h]

@[simp] theorem State.recordEvent_objv (e : EventIn) (i b : Nat) : (s.recordEvent e).objv i b = s.objv i b := by
  obtain ⟨_, _, _, h⟩ := s.recordEvent_frame e
  rw [h]
  rfl

theorem State.countMemory_frame (s : State) (event : Nat) (x : UnitId) :
    ∃ o, s.countMemory event x = { s with obj := o } := by
  unfold State.countMemory
  split
  · exact s.bump_frame _ _ _
  · split
    · exact s.bump_frame _ _ _
    · exact ⟨_, rfl⟩

/-- A list built up element by element, each with the mark of the one it stands for, has the marks of the list. -/
theorem map_foldl_concat {α β : Type} {g : List α → α → α} {f : α → β} (hg : ∀ acc x, f (g acc x) = f x)
    (l acc : List α) : (l.foldl (fun acc x => acc ++ [g acc x]) acc).map f = acc.map f ++ l.map f := by
  induction l generalizing acc with
  | nil => simp
  | cons x l ih =>
    rw [List.foldl_cons, ih]
    simp [hg]

/-- Tests that start are still tests of their units. -/
theorem map_unit_startTests (free : UnitId → Bool) (l : List Test) :
    (Machine.startTests free l).map Test.unit = l.map Test.unit := by
  refine (map_foldl_concat (fun acc x => ?_) l []).trans (List.nil_append _)
  split <;> rfl

theorem exists_mem_addTest (l : List Test) (x : Test) : ∃ y ∈ addTest l x, y.unit = x.unit := by
  unfold addTest
  dsimp only
  split
  · exact ⟨{ x with joined := true }, by simp, rfl⟩
  · exact ⟨x, by simp, rfl⟩

/-- A unit whose test was asked for has a test. -/
theorem State.exists_mem_askTest (s : State) (x : Test) : ∃ y ∈ (s.askTest x).recorder.tests, y.unit = x.unit := by
  obtain ⟨y, hy, hu⟩ := exists_mem_addTest s.recorder.tests x
  have hmem : x.unit ∈ (s.askTest x).recorder.tests.map Test.unit := by
    rw [show (s.askTest x).recorder.tests.map Test.unit = _ from map_unit_startTests _ _]
    exact List.mem_map.mpr ⟨y, hy, hu⟩
  exact List.mem_map.mp hmem

/-! ### Stored objects -/

theorem State.wf_rates (h : s.tabsOk = true) : Tab.wf (0, 0) s.pool.rates = true := by
  simp only [State.tabsOk, Bool.and_eq_true] at h
  simp only [h]

theorem State.wf_obj_setObj (i b v : Nat) (h : Tab.wf none s.obj = true) : Tab.wf none (s.setObj i b v).obj = true :=
  Tab.wf_put _ _ _ _ h

/-! ### Host accesses that waited -/

/-- What serving the host leaves alone: the commands, where the grains lie, and every stored object but the counters
of the host links and what follows them in the store. -/
structure State.HostServed (s t : State) : Prop where
  cmds : t.cmds = s.cmds
  reloc : t.pool.reloc = s.pool.reloc
  migrations : t.pool.migrations = s.pool.migrations
  obj_get : ∀ k, k < objKey 0x7600 0 → Tab.get none t.obj k = Tab.get none s.obj k
  obj_wf : Tab.wf none s.obj = true → Tab.wf none t.obj = true

theorem State.HostServed.refl (s : State) : s.HostServed s := ⟨rfl, rfl, rfl, fun _ _ => rfl, id⟩

theorem State.HostServed.trans (h : s.HostServed t) (h' : t.HostServed u) : s.HostServed u :=
  ⟨h'.cmds.trans h.cmds, h'.reloc.trans h.reloc, h'.migrations.trans h.migrations,
    fun k hk => (h'.obj_get k hk).trans (h.obj_get k hk), h'.obj_wf ∘ h.obj_wf⟩

theorem State.HostServed.objv {i b : Nat} (h : s.HostServed t) (hk : objKey i b < objKey 0x7600 0) :
    t.objv i b = s.objv i b := by
  rw [State.objv, h.obj_get _ hk, State.objv]

theorem State.hostServed_bump (s : State) (b n : Nat) : s.HostServed (s.bump 0x7600 b n) := by
  unfold State.bump
  split
  · exact .refl s
  · exact ⟨rfl, rfl, rfl, fun k hk => Tab.get_put_ne _ _ _ _ _ (by unfold objKey at hk ⊢; omega),
      State.wf_obj_setObj _ _ _⟩

theorem State.hostServed_tally (s : State) (c b n : Nat) : s.HostServed (s.tally c 0x7600 b n) := by
  unfold State.tally
  split
  · exact ⟨rfl, rfl, rfl, fun _ _ => rfl, id⟩
  · exact s.hostServed_bump b n

theorem State.hostServed_devWrite (s : State) (a : Nat) (l : List Byte) : s.HostServed (s.devWrite a l) := by
  unfold State.devWrite
  split <;> exact ⟨rfl, rfl, rfl, fun _ _ => rfl, id⟩

theorem State.HostServed.tally (h : s.HostServed t) (c b n : Nat) : s.HostServed (t.tally c 0x7600 b n) :=
  h.trans (t.hostServed_tally c b n)

theorem State.hostServed_flipPages (s : State) (c link a n : Nat) : s.HostServed (s.flipPages c link a n) := by
  unfold State.flipPages
  dsimp only
  refine State.HostServed.tally ?_ c (9 + link) _
  exact ⟨rfl, rfl, rfl, fun _ _ => rfl, id⟩

theorem State.hostServed_doorbell (s : State) (link fn ctx queue value : Nat) (secure : Bool) :
    s.HostServed (s.doorbell link fn ctx queue value secure) := by
  unfold State.doorbell
  dsimp only
  split
  · exact .refl s
  split
  · exact ⟨rfl, rfl, rfl, fun _ _ => rfl, id⟩
  split
  · exact s.hostServed_bump _ _
  split
  · exact ⟨rfl, rfl, rfl, fun _ _ => rfl, id⟩
  · exact .refl s

theorem State.hostServed_windowAccess (s : State) (link a : Nat) (w : Option (List Byte)) (len : Nat)
    (trusted : Bool) : s.HostServed (s.windowAccess link a w len trusted) := by
  unfold State.windowAccess
  dsimp only
  split
  · exact .refl s
  split
  · exact ⟨rfl, rfl, rfl, fun _ _ => rfl, id⟩
  split
  · exact ⟨rfl, rfl, rfl, fun _ _ => rfl, id⟩
  · have hflip := s.hostServed_flipPages (s.objv 0x2302 5) link a ((w.map (·.length)).getD len)
    cases w with
    | some l => exact hflip.trans (State.hostServed_devWrite _ a l)
    | none => exact hflip.trans ⟨rfl, rfl, rfl, fun _ _ => rfl, id⟩

theorem State.hostServed_serveHost (s : State) : s.HostServed s.serveHost := by
  unfold State.serveHost
  refine List.foldlRecOn (motive := s.HostServed) _ _ ⟨rfl, rfl, rfl, fun _ _ => rfl, id⟩ fun t ht x _ => ?_
  cases x with
  | doorbell => exact ht.trans (State.hostServed_doorbell ..)
  | window => exact ht.trans (State.hostServed_windowAccess ..)

theorem State.serveHost_mem (h : s.hostWait = []) : s.serveHost.mem = s.mem := by
  rw [State.serveHost, h]
  rfl

/-! ### A store changed at the keys of a list -/

/-- Reading a store after the values at distinct keys were changed, each by its own function. -/
theorem Tab.get_foldl_modify {α : Type} [DecidableEq α] {d : α} {key : Nat → Nat} (hkey : Function.Injective key)
    (f : Nat → α → α) {l : List Nat} (hl : l.Nodup) {t : Tab α} (ht : Tab.wf d t = true) (p : Nat) :
    Tab.get d (l.foldl (fun t q => Tab.modify d t (key q) (f q)) t) (key p) =
      if p ∈ l then f p (Tab.get d t (key p)) else Tab.get d t (key p) := by
  induction l generalizing t with
  | nil => simp
  | cons q l ih =>
    obtain ⟨hq, hl⟩ := List.nodup_cons.mp hl
    rw [List.foldl_cons, ih hl (Tab.wf_modify d t _ _ ht), Tab.modify, Tab.get_put d t _ _ _ ht]
    by_cases hp : p = q
    · simp [hp, hq]
    · simp [hp, hkey.ne hp]

end Sys2Proof.Machine
end

section
/-! The rows of the memory's upkeep (R236 to R256), each on the state alone. -/

namespace Sys2Proof.Machine

variable {s : State}

/-! ### Migration -/

theorem State.poisonGrain_frame (s : State) (a : Nat) :
    ∃ p o, s.poisonGrain a = { s with pool := { s.pool with poison := p }, obj := o } := by
  obtain ⟨o, h⟩ := State.bump_frame { s with pool := { s.pool with
    poison := (List.range 8).foldl (fun t k => Tab.put false t (a / 32 + k) true) s.pool.poison } } 0x4000 6 1
  exact ⟨_, o, h⟩

/-- The migration after one more grain, placed whole or poisoned. -/
def Migration.moved (m : Migration) (readable : Bool) : Migration :=
  { m with next := m.next + 1, lost := m.lost + b2n (!(readable && decide (m.from_ ≠ .unreadable))) }

/-- A grain moved: its place, the migration, poison and its count; then the host is served. -/
theorem State.moveGrain_frame (s : State) (m : Migration) (a goal : Nat) (readable : Bool) :
    ∃ p o, s.moveGrain m a goal readable = State.serveHost { s with
      obj := o
      pool := { s.pool with
        poison := p
        reloc := Tab.put none s.pool.reloc (a / 256) (some goal)
        migrations := m.moved readable :: s.pool.migrations.drop 1 } } := by
  unfold State.moveGrain
  dsimp only
  split
  · exact ⟨_, _, rfl⟩
  · obtain ⟨p, o, h⟩ := State.poisonGrain_frame
      { s with pool := { s.pool with reloc := Tab.put none s.pool.reloc (a / 256) (some goal) } } a
    rw [h]
    exact ⟨p, o, rfl⟩

theorem State.moveGrain_keeps {m : Migration} {rest : List Migration} {a p : Nat} {good : Bool} (hs : s.tabsOk = true)
    (hm : s.pool.migrations = m :: rest) :
    Tab.get none (s.moveGrain m a p good).pool.reloc (a / 256) = some p ∧
      (s.moveGrain m a p good).pool.migrations = m.moved good :: rest ∧
      (s.hostWait = [] → (s.moveGrain m a p good).mem = s.mem) := by
  obtain ⟨x, o, h⟩ := s.moveGrain_frame m a p good
  rw [h]
  refine ⟨?reloc, ?migrations, fun hw => State.serveHost_mem hw⟩
  case reloc =>
    rw [(State.hostServed_serveHost _).reloc]
    exact Tab.get_put_self _ _ _ _ (State.wf_reloc hs)
  case migrations =>
    rw [(State.hostServed_serveHost _).migrations, hm]
    rfl

theorem exec_migrationGrain_moves {m : Migration} {rest : List Migration} {a p : Nat} (good : Bool)
    (hm : s.pool.migrations = m :: rest) (hn : s.nextGrain m = some a) (ho : s.slicedGrain a = false)
    (hp : s.spare = some p) : exec (.migrationGrain good) s = .next (s.moveGrain m a p good) := by
  change execMigrationGrain good s = _
  simp [execMigrationGrain, hm, hn, ho, hp]

theorem exec_migrationComplete_ends {m : Migration} {rest : List Migration} (hm : s.pool.migrations = m :: rest)
    (hend : slotsPerPc ≤ m.next) (hn : s.nextGrain m = none) :
    ∃ t, exec .migrationComplete s = .next t ∧ t.pool = { s.pool with migrations := rest } ∧ t.mem = s.mem ∧
      t.cmds = s.cmds := by
  change ∃ t, execMigrationComplete s = _ ∧ _
  simp only [execMigrationComplete, hm, hn, Option.isSome_none, Bool.false_eq_true, or_false,
    if_neg (Nat.not_lt.mpr hend)]
  split <;> exact ⟨_, rfl, by simp, by simp, by simp⟩

/-! ### Scrub -/

/-- What the finding of a scrub leaves alone: the scrub's place, the bytes and the commands. -/
def State.scrubKeeps (s t : State) : Prop := t.pool.scrub = s.pool.scrub ∧ t.mem = s.mem ∧ t.cmds = s.cmds

/-- The scrub gone on to the next sector. -/
def State.scrubbed (s : State) : State :=
  { s with pool := { s.pool with scrub := (s.pool.scrub + 1) % (1280 * sectorsPerPc) } }

theorem State.scrubKeeps_counted (t : State) (n event : Nat) (x : UnitId) :
    t.scrubKeeps ((t.usedFree n).countMemory event x) := by
  obtain ⟨o, h⟩ := (t.usedFree n).countMemory_frame event x
  rw [h]
  exact ⟨rfl, rfl, rfl⟩

/-- The second read of an uncorrectable sector poisons it and is recorded, or changes nothing. -/
theorem State.scrubKeeps_reread (t : State) (failed : Prop) [Decidable failed] (o : Option Nat) (e : EventIn) :
    t.scrubKeeps (if failed then ((o.map t.poisonAt).getD t).recordEvent e else t) := by
  unfold State.scrubKeeps
  split
  · cases o <;> simp [State.poisonAt]
  · exact ⟨rfl, rfl, rfl⟩

theorem State.scrubKeeps.trans {s t u : State} (h : s.scrubKeeps t) (h' : t.scrubKeeps u) : s.scrubKeeps u :=
  ⟨h'.1.trans h.1, h'.2.1.trans h.2.1, h'.2.2.trans h.2.2⟩

theorem exec_patrolScrub_reads (finding : Nat) (hr : s.pins.ready = true)
    (hd : s.reloadingDie (20 + s.pool.scrub / sectorsPerPc % 1280 / 64) = false)
    (hu : s.retired (.pc (s.pool.scrub / sectorsPerPc % 1280)) = false) :
    ∃ t, exec (.patrolScrub finding) s = .next t ∧ s.scrubbed.scrubKeeps t ∧ (finding = 1 ∨ finding = 2 →
        ∃ row, ∃ x ∈ t.recorder.tests, x.unit = .memRow (s.pool.scrub / sectorsPerPc % 1280) row) := by
  change ∃ t, execPatrolScrub finding s = _ ∧ _
  unfold execPatrolScrub
  dsimp only
  rw [if_neg (by simp [hr, hd]), if_neg (by simp [hu])]
  split
  · exact ⟨_, rfl, s.scrubbed.scrubKeeps_counted _ _ _, fun _ => ⟨_, State.exists_mem_askTest _ _⟩⟩
  · exact ⟨_, rfl, (s.scrubbed.scrubKeeps_counted _ _ _).trans (State.scrubKeeps_reread _ _ _ _),
      fun _ => ⟨_, State.exists_mem_askTest _ _⟩⟩
  · next h1 h2 => exact ⟨_, rfl, ⟨rfl, rfl, rfl⟩, fun h => absurd h (not_or.mpr ⟨h1, h2⟩)⟩

/-! ### The sweep -/

theorem State.sweepSector_frame (s : State) (retiring k : Nat) :
    ∃ m p t, s.sweepSector retiring k = { s with mem := m, pool := { s.pool with poison := p, tags := t } } := by
  unfold State.sweepSector
  split <;> exact ⟨_, _, _, rfl⟩

/-- Sectors swept change the bytes, the poison and the tags alone. -/
theorem State.sweepSectors_frame (s : State) (retiring : Nat) (k : Nat → Nat) (l : List Nat) :
    ∃ m p t, l.foldl (fun (t : State) i => t.sweepSector retiring (k i)) s =
      { s with mem := m, pool := { s.pool with poison := p, tags := t } } := by
  refine List.foldlRecOn (motive := fun t : State => ∃ m p g, t =
    { s with mem := m, pool := { s.pool with poison := p, tags := g } }) _ _ ⟨_, _, _, rfl⟩ ?_
  rintro _ ⟨m, p, g, rfl⟩ i -
  exact State.sweepSector_frame _ _ _

theorem exec_sweepPage_rewrites {ctx p : Nat} {w : Sweep} {u : State}
    (hu : u = (List.range 128).foldl (fun (t : State) i => t.sweepSector w.retiring (128 * p + i)) s)
    (hw : Tab.get Sweep.idle s.pool.sweeps ctx = w) (ha : w.active = true) (hn : s.sweepNext ctx = some p)
    (hg : s.grainWaits (4096 * p) 4096 = false) :
    exec (.sweepPage ctx) s = .next { u with pool := { u.pool with
        sweeps := Tab.put Sweep.idle s.pool.sweeps ctx { w with next := p + 1 } } } ∧ u.pool.keys = s.pool.keys ∧
      u.cmds = s.cmds := by
  obtain ⟨m, x, g, hframe⟩ := s.sweepSectors_frame w.retiring (128 * p + ·) (List.range 128)
  rw [← hu] at hframe
  have hrow : exec (.sweepPage ctx) s = .next { u with pool := { u.pool with
      sweeps := Tab.put Sweep.idle u.pool.sweeps ctx { w with next := p + 1 } } } := by
    change execSweepPage ctx s = _
    simp only [execSweepPage, hn, hg, hw, ha, Bool.not_false, Bool.and_self, if_true, ← hu]
  have hsweeps : u.pool.sweeps = s.pool.sweeps := by rw [hframe]
  rw [hsweeps] at hrow
  exact ⟨hrow, by rw [hframe], by rw [hframe]⟩

@[simp] theorem State.signalObj_pool (o n : Nat) (f : Bool) : (s.signalObj o n f).pool = s.pool := by
  unfold State.signalObj
  split <;> rfl

@[simp] theorem State.signalObj_mem (o n : Nat) (f : Bool) : (s.signalObj o n f).mem = s.mem := by
  unfold State.signalObj
  split <;> rfl

/-- SWEEP_OBJ signalled, unless its die is retired, touches neither the pool nor the bytes. -/
theorem State.signalledIfLive_keeps (t : State) (o : Nat) :
    (if t.syncDead o then t else t.signalObj o 1 false).pool = t.pool ∧
      (if t.syncDead o then t else t.signalObj o 1 false).mem = t.mem := by
  split <;> simp

/-- The pool once a sweep is over: its retiring slot zeroed, no sweep left. -/
def State.sweptPool (s : State) (ctx : Nat) : Pool :=
  { s.pool with
    keys := Tab.put KeySlots.zeroed s.pool.keys ctx
      ((s.keySlots ctx).zero (Tab.get Sweep.idle s.pool.sweeps ctx).retiring)
    sweeps := Tab.put Sweep.idle s.pool.sweeps ctx Sweep.idle }

theorem exec_sweepComplete_pool {ctx : Nat} (ha : (Tab.get Sweep.idle s.pool.sweeps ctx).active = true)
    (hn : s.sweepNext ctx = none) :
    ∃ t, exec (.sweepComplete ctx) s = .next t ∧ t.pool = s.sweptPool ctx ∧ t.mem = s.mem := by
  change ∃ t, execSweepComplete ctx s = _ ∧ _
  unfold execSweepComplete
  dsimp only
  rw [if_pos (by simp [ha, hn])]
  split
  · obtain ⟨hpool, hmem⟩ := State.signalledIfLive_keeps _ _
    exact ⟨_, rfl, hpool.trans (State.recordEvent_pool _), hmem.trans (State.recordEvent_mem _)⟩
  · exact ⟨_, rfl, State.recordEvent_pool _, State.recordEvent_mem _⟩

theorem exec_sweepComplete_zeroes {ctx : Nat} (hs : s.tabsOk = true)
    (ha : (Tab.get Sweep.idle s.pool.sweeps ctx).active = true) (hn : s.sweepNext ctx = none) :
    ∃ t, exec (.sweepComplete ctx) s = .next t ∧
      t.keySlots ctx = (s.keySlots ctx).zero (Tab.get Sweep.idle s.pool.sweeps ctx).retiring ∧
      t.sweeping ctx = false ∧ t.mem = s.mem := by
  obtain ⟨t, ht, hpool, hmem⟩ := exec_sweepComplete_pool ha hn
  refine ⟨t, ht, ?keys, ?sweeps, hmem⟩
  case keys =>
    rw [State.keySlots, hpool]
    exact Tab.get_put_self _ _ _ _ (State.wf_keys hs)
  case sweeps =>
    rw [State.sweeping, hpool]
    exact congrArg Sweep.active (Tab.get_put_self Sweep.idle _ _ _ (State.wf_sweeps hs))

/-! ### Regulators -/

/-- A partition's rate and burst as they are written (R240). -/
def State.rateWritten (s : State) (p : Nat) : Nat × Nat := (s.objv (0x4100 + p) 5, s.objv (0x4100 + p) 6)

/-- What a bucket of a partition that holds n holds after a refill (R241). -/
def State.refilledTo (s : State) (p n : Nat) : Nat :=
  if (s.rateWritten p).1 = 0 then 0 else min (s.rateWritten p).2 (n + (s.rateWritten p).1)

/-- A stack's bucket of a partition refilled, before it pays. -/
def State.refilled (s : State) (stack p : Nat) : State :=
  { s with pool := { s.pool with
    buckets := Tab.modify 0 s.pool.buckets (stack * 16 + p) (s.refilledTo p)
    rates := Tab.modify (0, 0) s.pool.rates (stack * 16 + p) fun _ => s.rateWritten p } }

/-- A bucket for which no command waits pays nothing. -/
theorem State.refill_unowed {stack p : Nat} (h : s.bucketOwed (stack * 16 + p) = false) :
    s.refill stack p = s.refilled stack p := if_neg (Bool.eq_false_iff.mp h)

theorem State.refills_unowed {stack : Nat} {l : List Nat} (h : ∀ p ∈ l, s.bucketOwed (stack * 16 + p) = false) :
    l.foldl (fun t p => t.refill stack p) s = { s with pool := { s.pool with
      buckets := l.foldl (fun b p => Tab.modify 0 b (stack * 16 + p) (s.refilledTo p)) s.pool.buckets
      rates := l.foldl (fun r p => Tab.modify (0, 0) r (stack * 16 + p) fun _ => s.rateWritten p) s.pool.rates } } := by
  induction l generalizing s with
  | nil => rfl
  | cons p l ih =>
    have hrest : ∀ q ∈ l, (s.refilled stack p).bucketOwed (stack * 16 + q) = false :=
      fun q hq => h q (List.mem_cons_of_mem p hq)
    rw [List.foldl_cons, State.refill_unowed (h p List.mem_cons_self), ih hrest]
    rfl

theorem exec_regulatorRefill_refills {stack : Nat} (hs : s.tabsOk = true) (hstack : stack < 20)
    (h : ∀ p, p < 16 → s.bucketOwed (stack * 16 + p) = false) :
    ∃ t, exec (.regulatorRefill stack) s = .next t ∧
      t = { s with pool := { s.pool with buckets := t.pool.buckets, rates := t.pool.rates } } ∧ ∀ p, p < 16 →
        (Tab.get 0 t.pool.buckets (stack * 16 + p) = if s.partOn p = true then
          s.refilledTo p (Tab.get 0 s.pool.buckets (stack * 16 + p)) else Tab.get 0 s.pool.buckets (stack * 16 + p)) ∧
        (Tab.get (0, 0) t.pool.rates (stack * 16 + p) = if s.partOn p = true then s.rateWritten p
          else Tab.get (0, 0) s.pool.rates (stack * 16 + p)) := by
  have hkey : Function.Injective (stack * 16 + ·) := fun _ _ e => Nat.add_left_cancel e
  have hl : ((List.range 16).filter s.partOn).Nodup := List.nodup_range.filter _
  have hon {p : Nat} (hp : p < 16) : p ∈ (List.range 16).filter s.partOn ↔ s.partOn p = true := by simp [hp]
  refine ⟨_, congrArg Host.Outcome.next ((if_pos hstack).trans (State.refills_unowed fun p hp => h p ?_)), rfl,
    fun p hp => ⟨?buckets, ?rates⟩⟩
  · exact List.mem_range.mp (List.mem_filter.mp hp).1
  case buckets =>
    exact (Tab.get_foldl_modify hkey s.refilledTo hl (State.wf_buckets hs) p).trans (by simp only [hon hp])
  case rates =>
    exact (Tab.get_foldl_modify hkey (fun q _ => s.rateWritten q) hl (State.wf_rates hs) p).trans
      (by simp only [hon hp])

/-! ### Margin scans -/

theorem testBit_bit_cleared (n i : Nat) : (if n.testBit i then n - 2 ^ i else n).testBit i = false := by
  split
  · next h =>
    have hn := Nat.testBit_two_pow_add_eq (n - 2 ^ i) i
    rw [Nat.add_sub_cancel' (Nat.ge_two_pow_of_testBit h), h] at hn
    simpa using hn.symm
  · next h => simpa using h

theorem testBit_add_two_pow {n i : Nat} (h : n.testBit i = false) : (n + 2 ^ i).testBit i = true := by
  rw [Nat.add_comm, Nat.testBit_two_pow_add_eq, h]
  rfl

/-- A scan's result written and its state set to done (R256). -/
def State.scanReported (s : State) (below above : Nat) : State :=
  ((s.setObj 0x4300 4 below).setObj 0x4300 5 above).setObj 0x4300 6 3

theorem State.scanReported_objv (below above : Nat) (h : Tab.wf none s.obj = true) :
    (s.scanReported below above).objv 0x4300 4 = below ∧ (s.scanReported below above).objv 0x4300 5 = above ∧
      (s.scanReported below above).objv 0x4300 6 = 3 := by
  have h4 := State.wf_obj_setObj 0x4300 4 below h
  have h5 := State.wf_obj_setObj 0x4300 5 above h4
  refine ⟨?_, ?_, State.objv_setObj_self _ _ _ _ h5⟩
  · rw [State.scanReported, State.objv_setObj_ne _ _ _ _ _ _ (by decide), State.objv_setObj_ne _ _ _ _ _ _ (by decide),
      State.objv_setObj_self _ _ _ _ h]
  · rw [State.scanReported, State.objv_setObj_ne _ _ _ _ _ _ (by decide), State.objv_setObj_self _ _ _ _ h4]

/-- A pseudo-channel's mark in its stack's mask: set where a timing scan found it marginal, else cleared (R257). -/
def marked (mask pc : Nat) (marginal : Bool) : Nat :=
  let rest := if mask.testBit pc then mask - 2 ^ pc else mask
  if marginal then rest + 2 ^ pc else rest

theorem testBit_marked (mask pc : Nat) (marginal : Bool) : (marked mask pc marginal).testBit pc = marginal := by
  cases marginal with
  | false => exact testBit_bit_cleared mask pc
  | true => exact testBit_add_two_pow (testBit_bit_cleared mask pc)

/-- The most steps a scan of its kind reports on a side (R256). -/
def State.scanMost (s : State) : Nat := if s.pool.scan.2 = 2 then 30 else 32

/-- A scan's report with the host served. -/
def State.scanDone (s : State) (below above : Nat) : State :=
  (s.scanReported (min below s.scanMost) (min above s.scanMost)).serveHost

theorem State.scanDone_mem (below above : Nat) (h : s.hostWait = []) : (s.scanDone below above).mem = s.mem :=
  State.serveHost_mem h

theorem State.scanDone_cmds (below above : Nat) : (s.scanDone below above).cmds = s.cmds :=
  (State.hostServed_serveHost _).cmds

theorem State.wf_scanDone_obj (hs : s.tabsOk = true) (below above : Nat) :
    Tab.wf none (s.scanDone below above).obj = true :=
  (State.hostServed_serveHost _).obj_wf (State.wf_obj_setObj _ _ _ (State.wf_obj_setObj _ _ _
    (State.wf_obj_setObj _ _ _ (State.wf_obj hs))))

theorem State.scanDone_objv (hs : s.tabsOk = true) (below above : Nat) :
    (s.scanDone below above).objv 0x4300 4 = min below s.scanMost ∧
      (s.scanDone below above).objv 0x4300 5 = min above s.scanMost ∧ (s.scanDone below above).objv 0x4300 6 = 3 := by
  obtain ⟨hbelow, habove, hstate⟩ :=
    State.scanReported_objv (min below s.scanMost) (min above s.scanMost) (State.wf_obj hs)
  have hkept {b : Nat} (hb : b < 256) := (State.hostServed_serveHost
    (s.scanReported (min below s.scanMost) (min above s.scanMost))).objv (i := 0x4300) (b := b)
    (by unfold objKey; omega)
  exact ⟨(hkept (by decide)).trans hbelow, (hkept (by decide)).trans habove, (hkept (by decide)).trans hstate⟩

/-- A timing scan's mark made in the mask of the target's stack. -/
def State.scanMarked (s t : State) (marginal : Bool) : State :=
  t.setObj 0x4001 (21 + s.pool.scan.1 / 64)
    (marked (t.objv 0x4001 (21 + s.pool.scan.1 / 64)) (s.pool.scan.1 % 64) marginal)

theorem exec_marginScanComplete_interface {below above : Nat}
    (hrun : s.objv 0x4300 6 = 2 ∨ (s.objv 0x4300 6 = 1 ∧ s.scanMayRun = true)) (hkind : s.pool.scan.2 = 2) :
    exec (.marginScanComplete below above) s = .next (s.scanDone below above) := by
  change execMarginScanComplete below above s = _
  unfold execMarginScanComplete
  dsimp only
  rw [if_pos hrun, if_pos hkind]
  rfl

/-- A timing scan leaves its mark, and a record where it marks the pseudo-channel. -/
theorem exec_marginScanComplete_timing {below above : Nat}
    (hrun : s.objv 0x4300 6 = 2 ∨ (s.objv 0x4300 6 = 1 ∧ s.scanMayRun = true)) (hkind : s.pool.scan.2 ≠ 2) :
    exec (.marginScanComplete below above) s = .next (if below < 12 ∨ above < 12 then
      (s.scanMarked (s.scanDone below above) true).recordEvent
        (unitEvent 0x3009 (.pc (64 * (s.pool.scan.1 / 64) + s.pool.scan.1 % 64)) 0)
      else s.scanMarked (s.scanDone below above) false) :=
  (if_pos hrun).trans ((if_neg hkind).trans (apply_ite Host.Outcome.next (below < 12 ∨ above < 12) _ _).symm)

theorem exec_marginScanComplete_marks (below above : Nat)
    (hrun : s.objv 0x4300 6 = 2 ∨ (s.objv 0x4300 6 = 1 ∧ s.scanMayRun = true)) (hkind : s.pool.scan.2 ≠ 2) :
    let v := s.scanMarked (s.scanDone below above) (decide (below < 12 ∨ above < 12))
    ∃ t, exec (.marginScanComplete below above) s = .next t ∧ t.mem = v.mem ∧ t.cmds = v.cmds ∧
      ∀ j b, t.objv j b = v.objv j b := by
  intro v
  refine ⟨_, exec_marginScanComplete_timing hrun hkind, ?_⟩
  by_cases hm : below < 12 ∨ above < 12 <;> simp [hm, v]

theorem exec_marginScanComplete_reports {below above : Nat} (hs : s.tabsOk = true)
    (hrun : s.objv 0x4300 6 = 2 ∨ (s.objv 0x4300 6 = 1 ∧ s.scanMayRun = true)) (hpc : s.pool.scan.1 < 1280) :
    ∃ t, exec (.marginScanComplete below above) s = .next t ∧ t.objv 0x4300 6 = 3 ∧
      t.objv 0x4300 4 = min below s.scanMost ∧ t.objv 0x4300 5 = min above s.scanMost ∧ t.cmds = s.cmds ∧
      (s.hostWait = [] → t.mem = s.mem) ∧
      (s.pool.scan.2 ≠ 2 → (t.objv 0x4001 (21 + s.pool.scan.1 / 64)).testBit (s.pool.scan.1 % 64) =
        decide (below < 12 ∨ above < 12)) := by
  obtain ⟨hbelow, habove, hstate⟩ := State.scanDone_objv hs below above
  have hcmds := s.scanDone_cmds below above
  have hmem := s.scanDone_mem below above
  by_cases hkind : s.pool.scan.2 = 2
  · exact ⟨_, exec_marginScanComplete_interface hrun hkind, hstate, hbelow, habove, hcmds, hmem,
      fun h => absurd hkind h⟩
  · obtain ⟨t, ht, htmem, htcmds, hobjv⟩ := exec_marginScanComplete_marks below above hrun hkind
    have hkept (b : Nat) : t.objv 0x4300 b = (s.scanDone below above).objv 0x4300 b :=
      (hobjv _ _).trans (State.objv_setObj_ne _ _ _ _ _ _ (by unfold objKey; omega))
    refine ⟨t, ht, (hkept 6).trans hstate, (hkept 4).trans hbelow, (hkept 5).trans habove, htcmds.trans hcmds,
      fun hw => htmem.trans (hmem hw), fun _ => ?_⟩
    rw [hobjv, State.scanMarked, State.objv_setObj_self _ _ _ _ (State.wf_scanDone_obj hs below above), testBit_marked]

/-- Settles O59: each row's equation under its condition, with what its shared operations keep. -/
theorem memoryUpkeep : Obligations.MemoryUpkeep := by
  intro s hs
  refine ⟨?moves, fun _ _ => exec_migrationComplete_ends, ?scrub, ?sweep, ?refill,
    fun _ _ => exec_marginScanComplete_reports hs⟩
  case moves =>
    intro m rest a p good hm hn ho hp
    exact ⟨exec_migrationGrain_moves good hm hn ho hp, State.moveGrain_keeps hs hm⟩
  case scrub =>
    intro hr hd hu finding
    obtain ⟨t, ht, ⟨hplace, hmem, hcmds⟩, htest⟩ := exec_patrolScrub_reads finding hr hd hu
    exact ⟨t, ht, hplace, hmem, hcmds, htest⟩
  case sweep =>
    intro ctx p w u ha
    exact ⟨exec_sweepPage_rewrites rfl rfl ha, exec_sweepComplete_zeroes hs ha⟩
  case refill =>
    intro stack hstack hfree
    obtain ⟨t, ht, hframe, hvals⟩ := exec_regulatorRefill_refills hs hstack hfree
    refine ⟨t, ht, hframe, fun p hp => ?_⟩
    obtain ⟨hbucket, hrate⟩ := hvals p hp
    refine ⟨fun hon => ?on, fun hoff => ?off⟩
    case on =>
      rw [if_pos hon] at hbucket hrate
      exact ⟨hbucket, hrate⟩
    case off =>
      rw [if_neg (by simp [hoff])] at hbucket hrate
      exact ⟨hbucket, hrate⟩

end Sys2Proof.Machine
end

section
/-! What moves where a port sends (R263 to R268, R272, R275): a port's queues, credits and SEQ, the frames that wait
and the counters; what its link is, and the rest of the device, stay. -/

namespace Sys2Proof.Machine

/-! ### Folds that keep something -/

theorem foldl_keeps {σ α β : Type} {f : σ → α → σ} (g : σ → β) (h : ∀ s a, g (f s a) = g s) (l : List α) (s : σ) :
    g (l.foldl f s) = g s := by
  induction l generalizing s with
  | nil => rfl
  | cons a l ih => rw [List.foldl_cons, ih, h]

/-- A reflexive and transitive relation that every step of a fold keeps holds from its start to its end. -/
theorem foldl_relates {σ α : Type} {r : σ → σ → Prop} {f : σ → α → σ} (refl : ∀ s, r s s)
    (trans : ∀ {s t u}, r s t → r t u → r s u) (h : ∀ s a, r s (f s a)) (l : List α) (s : σ) : r s (l.foldl f s) := by
  induction l generalizing s with
  | nil => exact refl s
  | cons a l ih => exact trans (h s a) (ih _)

/-! ### The recorder under an event -/

/-- The recorder without its records: the deadwood list, the tests and the calibrations. -/
def Recorder.unwritten (r : Recorder) : Recorder :=
  { r with
    ring := []
    heartwood := []
    next := 0
    written := 0
    folded := 0
    emcy := none }

theorem Recorder.unwritten_with (r : Recorder) (ring heartwood : List Event) (next written folded : Nat)
    (emcy : Option Nat) :
    Recorder.unwritten { r with
      ring := ring
      heartwood := heartwood
      next := next
      written := written
      folded := folded
      emcy := emcy } = r.unwritten := rfl

variable {s t u : State} {p : Nat}

theorem State.emcyOn_recorder (s : State) (b event seq : Nat) : (s.emcyOn b event seq).recorder = s.recorder := by
  obtain ⟨_, _, h⟩ := s.emcyOn_frame b event seq
  rw [h]

theorem State.appendEvent_unwritten (s : State) (e : EventIn) :
    (s.appendEvent e).recorder.unwritten = s.recorder.unwritten := by
  unfold State.appendEvent
  dsimp only
  split
  · rw [State.emcyOn_recorder, State.emcyOn_recorder]
    exact Recorder.unwritten_with _ _ _ _ _ _ _
  · exact Recorder.unwritten_with _ _ _ _ _ _ _

theorem State.recordEvent_unwritten (s : State) (e : EventIn) :
    (s.recordEvent e).recorder.unwritten = s.recorder.unwritten := by
  unfold State.recordEvent
  dsimp only
  split
  · split
    · rfl
    · exact s.appendEvent_unwritten e
  · exact s.appendEvent_unwritten e

@[simp] theorem State.recordEvent_dead (s : State) (e : EventIn) :
    (s.recordEvent e).recorder.dead = s.recorder.dead :=
  (congrArg Recorder.dead (s.recordEvent_unwritten e) :)

@[simp] theorem State.recordEvent_retired (s : State) (e : EventIn) (x : UnitId) :
    (s.recordEvent e).retired x = s.retired x := by
  simp [State.retired]

@[simp] theorem State.recordEvent_ports (s : State) (e : EventIn) : (s.recordEvent e).ports = s.ports := by
  obtain ⟨_, _, _, h⟩ := s.recordEvent_frame e
  rw [h]

@[simp] theorem State.recordEvent_membership (s : State) (e : EventIn) :
    (s.recordEvent e).membership = s.membership := by
  obtain ⟨_, _, _, h⟩ := s.recordEvent_frame e
  rw [h]

@[simp] theorem State.recordEvent_inbox (s : State) (e : EventIn) : (s.recordEvent e).inbox = s.inbox := by
  obtain ⟨_, _, _, h⟩ := s.recordEvent_frame e
  rw [h]

@[simp] theorem State.recordEvent_waiting (s : State) (e : EventIn) : (s.recordEvent e).waiting = s.waiting := by
  obtain ⟨_, _, _, h⟩ := s.recordEvent_frame e
  rw [h]

@[simp] theorem State.lostSignal_membership (s : State) (c : Nat) : (s.lostSignal c).membership = s.membership := by
  simp [State.lostSignal]

@[simp] theorem State.lostSignal_inbox (s : State) (c : Nat) : (s.lostSignal c).inbox = s.inbox := by
  simp [State.lostSignal]

@[simp] theorem State.lostSignal_waiting (s : State) (c : Nat) : (s.lostSignal c).waiting = s.waiting := by
  simp [State.lostSignal]

/-! ### What one port sends -/

/-- A port without what sending moves: its queue and replay buffer, its SEQ, its credits and its turn. -/
def Port.link (x : Port) : Port :=
  { x with
    sendSeq := 0
    replay := []
    outq := []
    credits := []
    giveBack := []
    staged := []
    turn := 0 }

/-- The device without its ports, its outputs, its counters and the place among the free values. -/
def State.offWire (s : State) : State :=
  { s with
    ports := []
    out := []
    obj := []
    free := 0 }

/-- From s to t one port has sent: its link is as it was, and so are the other ports and the rest of the device. -/
structure State.SentOn (p : Nat) (s t : State) : Prop where
  rest : t.offWire = s.offWire
  wf : Tab.wf Port.down s.ports = true → Tab.wf Port.down t.ports = true
  link : Tab.wf Port.down s.ports = true → (t.port p).link = (s.port p).link
  others : ∀ q, q ≠ p → t.port q = s.port q

theorem State.SentOn.refl (p : Nat) (s : State) : s.SentOn p s := ⟨rfl, id, fun _ => rfl, fun _ _ => rfl⟩

theorem State.SentOn.trans (h : s.SentOn p t) (h' : t.SentOn p u) : s.SentOn p u :=
  ⟨h'.rest.trans h.rest, fun hw => h'.wf (h.wf hw), fun hw => (h'.link (h.wf hw)).trans (h.link hw),
    fun q hq => (h'.others q hq).trans (h.others q hq)⟩

/-- What leaves the ports alone has sent nothing on any of them. -/
theorem State.SentOn.of_ports (hr : t.offWire = s.offWire) (hp : t.ports = s.ports) : s.SentOn p t := by
  have hport : ∀ q, t.port q = s.port q := fun q => by rw [State.port, hp]; rfl
  exact ⟨hr, fun hw => hp ▸ hw, fun _ => by rw [hport], fun q _ => hport q⟩

theorem State.SentOn.setPort {x : Port} (h : s.SentOn p t) (hx : x.link = (t.port p).link) :
    s.SentOn p (t.setPort p x) :=
  h.trans ⟨rfl, Tab.wf_put _ _ _ _, fun hw => by rw [State.port_setPort_self t p x hw, hx],
    fun q hq => State.port_setPort_ne t p q x hq⟩

theorem State.SentOn.put {x : Port} (h : s.SentOn p t) (hx : x.link = (t.port p).link) (l : List Output) :
    s.SentOn p { t.setPort p x with out := l } :=
  (h.setPort hx).trans (.of_ports rfl rfl)

theorem State.SentOn.bump (h : s.SentOn p t) (i b n : Nat) : s.SentOn p (t.bump i b n) := by
  obtain ⟨o, ho⟩ := t.bump_frame i b n
  rw [ho]
  exact h.trans (.of_ports rfl rfl)

theorem State.SentOn.sendControl (h : s.SentOn p t) (ctype payload : Nat) :
    s.SentOn p (t.sendControl p ctype payload) :=
  h.put (x := (t.port p).creditsSent) rfl _

theorem State.sentOn_countPreempt (s : State) (p : Nat) (f : Frag) : s.SentOn p (s.countPreempt p f) := by
  unfold State.countPreempt
  dsimp only
  split
  · exact ((SentOn.refl p s).bump _ _ _).trans (.of_ports rfl rfl)
  · exact .refl p s

theorem State.sentOn_sendFrag (s : State) (p : Nat) (f : Frag) : s.SentOn p (s.sendFrag p f) := by
  refine (s.sentOn_countPreempt p f).trans ?_
  unfold State.sendFrag
  refine .bump (.put (.refl p _) ?_ _) _ _ _
  rfl

theorem State.sentOn_sendQueued (s : State) (p : Nat) (f : Frag) : s.SentOn p (s.sendQueued p f) :=
  (SentOn.setPort (.refl p s) (x := { s.port p with outq := (s.port p).outq.erase f }) rfl).trans
    (State.sentOn_sendFrag _ p f)

theorem State.sentOn_sendQueue (n c : Nat) (d : List Nat) (s : State) : s.SentOn p (State.sendQueue p n c d s) := by
  induction n generalizing c d s with
  | zero => exact (SentOn.refl p s).setPort rfl
  | succ n ih =>
    unfold State.sendQueue
    split
    · exact (s.sentOn_sendQueued p _).trans (ih _ _ _)
    · dsimp only
      split
      · exact (s.sentOn_sendQueued p _).trans (ih _ _ _)
      · exact (SentOn.refl p s).setPort rfl

theorem State.sentOn_flush (s : State) (p : Nat) : s.SentOn p (s.flush p) := State.sentOn_sendQueue _ _ _ s

theorem State.sentOn_unstage (s : State) (f : Frame) : s.SentOn f.port (s.unstage f) := by
  unfold State.unstage
  dsimp only
  split
  · exact .refl _ s
  · refine .sendControl (.setPort (.setPort (.refl _ s) ?_) ?_) _ _ <;> rfl

/-- A frame that leaves staging moves the ports and the outputs alone. -/
theorem State.unstage_frame (s : State) (f : Frame) : ∃ ps o, s.unstage f = { s with ports := ps, out := o } := by
  unfold State.unstage
  split
  · exact ⟨_, _, rfl⟩
  · simp only [State.sendFill, State.sendControl, State.oweCredits, State.setPort]
    exact ⟨_, _, rfl⟩

/-! ### What forwarding moves -/

/-- The device without what traffic moves: besides what sending does, the frames that have come or wait, the members
marked unreachable, the events recorded and the buses that carry their EMCY. -/
def State.unmoved (s : State) : State :=
  { s.offWire with
    inbox := []
    waiting := []
    backlog := []
    buses := []
    recorder := s.recorder.unwritten
    membership := { s.membership with unreachable := [] } }

/-- From s to t frames have been handed on: every port's link is as it was, and so is the rest of the device. -/
structure State.Relayed (s t : State) : Prop where
  rest : t.unmoved = s.unmoved
  wf : Tab.wf Port.down s.ports = true → Tab.wf Port.down t.ports = true
  link : Tab.wf Port.down s.ports = true → ∀ q, (t.port q).link = (s.port q).link

theorem State.Relayed.refl (s : State) : s.Relayed s := ⟨rfl, id, fun _ _ => rfl⟩

theorem State.Relayed.trans (h : s.Relayed t) (h' : t.Relayed u) : s.Relayed u :=
  ⟨h'.rest.trans h.rest, fun hw => h'.wf (h.wf hw), fun hw q => (h'.link (h.wf hw) q).trans (h.link hw q)⟩

theorem State.Relayed.of_ports (hr : t.unmoved = s.unmoved) (hp : t.ports = s.ports) : s.Relayed t :=
  ⟨hr, fun hw => hp ▸ hw, fun _ q => by rw [State.port, hp]; rfl⟩

theorem State.SentOn.relayed (h : s.SentOn p t) : s.Relayed t := by
  have hrest := congrArg State.unmoved h.rest
  refine ⟨hrest, h.wf, fun hw q => ?_⟩
  by_cases hq : q = p
  · rw [hq]
    exact h.link hw
  · rw [h.others q hq]

theorem State.Relayed.membership (h : s.Relayed t) :
    { t.membership with unreachable := [] } = { s.membership with unreachable := [] } :=
  congrArg State.membership h.rest

theorem State.Relayed.retired (h : s.Relayed t) (x : UnitId) : t.retired x = s.retired x := by
  have hdead : t.recorder.dead = s.recorder.dead := congrArg (·.recorder.dead) h.rest
  rw [State.retired, hdead, State.retired]

theorem State.relayed_recordEvent (s : State) (e : EventIn) : s.Relayed (s.recordEvent e) := by
  refine .of_ports ?_ (by simp)
  have hr := s.recordEvent_unwritten e
  obtain ⟨r, bs, o, h⟩ := s.recordEvent_frame e
  rw [h] at hr ⊢
  simp only [State.unmoved, hr]
  rfl

theorem State.relayed_lostSignal (s : State) (c : Nat) : s.Relayed (s.lostSignal c) :=
  ((SentOn.refl 0 s).bump _ _ _).relayed.trans (State.relayed_recordEvent _ _)

theorem State.relayed_undelivered (s : State) (f : Frame) : s.Relayed (s.undelivered f) := by
  have hmark : s.Relayed (s.markUnreachable f.dst) := .of_ports rfl rfl
  unfold State.undelivered
  dsimp only
  split
  · exact hmark.trans (State.relayed_lostSignal _ _)
  · exact hmark

theorem State.relayed_toPort (s : State) (f : Frame) (p : Nat) : s.Relayed (s.toPort f p) := by
  unfold State.toPort
  split
  · have hqueued := State.SentOn.setPort (.refl p (s.unstage f))
      (x := { (s.unstage f).port p with outq := ((s.unstage f).port p).outq ++ fragsOf f }) rfl
    exact (s.sentOn_unstage f).relayed.trans (hqueued.trans (State.sentOn_flush _ p)).relayed
  · exact .of_ports rfl rfl

theorem State.relayed_offer (s : State) (f : Frame) (since : Nat) : s.Relayed (s.offer f since).1 := by
  unfold State.offer
  dsimp only
  split
  · exact .of_ports rfl rfl
  · split
    · exact s.relayed_toPort f _
    · split
      · split
        · exact (s.sentOn_unstage f).relayed.trans (.of_ports rfl rfl)
        · exact .of_ports rfl rfl
      · exact .refl s

theorem State.relayed_sendFrame (s : State) (f : Frame) : s.Relayed (s.sendFrame f) := by
  have hoffer := s.relayed_offer f s.now
  unfold State.sendFrame
  dsimp only
  split
  · split
    · exact s.relayed_lostSignal _
    · exact .refl s
  · split
    · exact hoffer.trans (State.relayed_undelivered _ f)
    · exact hoffer

theorem State.relayed_forward (s : State) (f : Frame) (since : Nat) : s.Relayed (s.forward f since) := by
  have hoffer := s.relayed_offer f since
  unfold State.forward
  dsimp only
  split
  · exact hoffer
  · split
    · exact hoffer.trans (State.relayed_undelivered _ f)
    · exact (hoffer.trans (State.sentOn_unstage _ f).relayed).trans (State.relayed_sendFrame _ _)

/-- Frames handed on one after another. -/
theorem State.relayed_forwardAll {α : Type} (frame : α → Frame) (since : State → α → Nat) (l : List α) (s : State) :
    s.Relayed (l.foldl (fun t x => t.forward (frame x) (since t x)) s) :=
  foldl_relates State.Relayed.refl State.Relayed.trans (fun t x => t.relayed_forward (frame x) (since t x)) l s

theorem State.relayed_retryWaiting (s : State) : s.Relayed s.retryWaiting := by
  have hnone : s.Relayed { s with waiting := [] } := .of_ports rfl rfl
  have hwait : s.Relayed (s.waiting.foldl (fun t w => t.forward w.1 w.2) { s with waiting := [] }) :=
    hnone.trans (State.relayed_forwardAll Prod.fst (fun _ w => w.2) s.waiting _)
  unfold State.retryWaiting
  generalize s.waiting.foldl _ _ = t at hwait ⊢
  have hclear : t.Relayed { t with backlog := [] } := .of_ports rfl rfl
  exact (hwait.trans hclear).trans (State.relayed_forwardAll id (fun v _ => v.now) s.backlog _)

/-- With no frame waiting nothing is tried again. -/
theorem State.retryWaiting_none (hw : s.waiting = []) (hb : s.backlog = []) : s.retryWaiting = s := by
  simp only [State.retryWaiting, hw, hb, List.foldl_nil]
  rw [← hb, ← hw]

end Sys2Proof.Machine
end

section
/-! Membership (R275, R277 to R280): what a split, an epoch change and the end of a route wait make of the membership
record. -/

namespace Sys2Proof.Machine

variable {s : State}

/-! ### What leaves the membership alone -/

@[simp] theorem State.sendControl_membership (s : State) (p ctype payload : Nat) :
    (s.sendControl p ctype payload).membership = s.membership := rfl

@[simp] theorem State.failWhere_membership (s : State) (p : Cmd → Bool) :
    (s.failWhere p).membership = s.membership := by
  obtain ⟨_, _, _, h⟩ := s.failWhere_frame p
  rw [h]

@[simp] theorem State.failNeeds_membership (s : State) (lost : Nat → Bool) :
    (s.failNeeds lost).membership = s.membership := s.failWhere_membership _

@[simp] theorem State.dropFramesTo_membership (s : State) (m : Nat) :
    (s.dropFramesTo m).membership = s.membership := by
  unfold State.dropFramesTo
  dsimp only
  rw [foldl_keeps State.membership fun t f => t.lostSignal_membership _]
  dsimp only
  rw [foldl_keeps State.membership]
  intro t p
  split <;> rfl

@[simp] theorem State.dropHolds_membership (s : State) (gone : Nat → Bool) :
    (s.dropHolds gone).membership = s.membership := by
  unfold State.dropHolds
  dsimp only
  rw [foldl_keeps State.membership]
  intro t h
  split <;> rfl

/-! ### Beacons -/

/-- What one beacon that is kept does to the device: a member of this epoch with another digest is split. -/
def State.meetBeacon (s : State) (b : Beacon) : State :=
  if b.epoch = s.membership.epoch ∧ b.digest ≠ s.membership.digest ∧ b.member ∉ s.membership.split then
    let u := { s with membership := { s.membership with split := s.membership.split ++ [b.member] } }
    ((u.recordEvent ⟨0x4005, .port b.port, 8 + b.port / 3, 4, 0xFF, 0xFF, 0⟩).failNeeds
      fun x => decide (x = b.member)).dropFramesTo b.member
  else s

theorem State.meetBeacons_eq (s : State) : s.meetBeacons = s.membership.beacons.foldl State.meetBeacon s := rfl

/-- From m to m' members may have been split, and nothing else. -/
def Membership.splitsTo (m m' : Membership) : Prop :=
  { m' with split := m.split } = m ∧ ∀ x ∈ m.split, x ∈ m'.split

theorem Membership.splitsTo.trans {a b c : Membership} (h : a.splitsTo b) (h' : b.splitsTo c) : a.splitsTo c :=
  ⟨(congrArg (fun m => { m with split := a.split }) h'.1).trans h.1, fun x hx => h'.2 x (h.2 x hx)⟩

theorem State.meetBeacon_splits (s : State) (b : Beacon) : s.membership.splitsTo (s.meetBeacon b).membership := by
  unfold State.meetBeacon
  split
  · simp only [State.dropFramesTo_membership, State.failNeeds_membership, State.recordEvent_membership]
    exact ⟨rfl, fun x hx => List.mem_append_left _ hx⟩
  · exact ⟨rfl, fun x hx => hx⟩

theorem State.mem_split_meetBeacon {b : Beacon} (he : b.epoch = s.membership.epoch)
    (hd : b.digest ≠ s.membership.digest) : b.member ∈ (s.meetBeacon b).membership.split := by
  unfold State.meetBeacon
  split
  · simp
  · next h => exact Classical.not_not.mp fun hb => h ⟨he, hd, hb⟩

theorem State.foldl_meetBeacon_splits (l : List Beacon) (s : State) :
    s.membership.splitsTo (l.foldl State.meetBeacon s).membership :=
  foldl_relates (r := fun s t : State => s.membership.splitsTo t.membership) (fun _ => ⟨rfl, fun _ hx => hx⟩)
    Membership.splitsTo.trans State.meetBeacon_splits l s

theorem State.meetBeacons_splits (s : State) : s.membership.splitsTo s.meetBeacons.membership :=
  State.foldl_meetBeacon_splits _ s

theorem State.meetBeacons_epoch (s : State) : s.meetBeacons.membership.epoch = s.membership.epoch :=
  (congrArg Membership.epoch s.meetBeacons_splits.1 :)

/-! ### An epoch change -/

theorem State.retryWaiting_epoch (s : State) : s.retryWaiting.membership.epoch = s.membership.epoch :=
  (congrArg Membership.epoch s.relayed_retryWaiting.membership :)

theorem State.enterEpoch_epoch (s : State) (p : Pending) : (s.enterEpoch p).membership.epoch = p.epoch := by
  unfold State.enterEpoch
  dsimp only
  rw [State.retryWaiting_epoch, State.meetBeacons_epoch]
  simp only [State.failWhere_membership, State.failNeeds_membership, State.recordEvent_membership]
  rw [foldl_keeps State.membership fun t q => t.sendControl_membership q _ _, State.dropHolds_membership]

theorem exec_membershipEpochChange_due {p : Pending} (hp : s.membership.pending = some p)
    (hd : atOrAfter s.angle (strideAngle p.effective) = true) (hr : s.pace.mode.running = true)
    (ha : s.mayAct (strideAngle p.effective, 1) = true) : exec .membershipEpochChange s = .next (s.enterEpoch p) := by
  show execMembershipEpochChange s = _
  simp [execMembershipEpochChange, hp, hd, hr, ha]

theorem exec_membershipEpochChange_lost {p : Pending} (hp : s.membership.pending = some p)
    (hd : atOrAfter s.angle (strideAngle p.effective) = true) (hl : s.pace.mode.lost = true)
    (hr : s.pace.mode.running = false) :
    ∃ t, exec .membershipEpochChange s = .next t ∧
      t.membership = { s.membership with pending := none, outcome := 0x0B } := by
  show ∃ t, execMembershipEpochChange s = .next t ∧ _
  simp [execMembershipEpochChange, hp, hd, hr, hl]

/-! ### The end of a route wait -/

theorem State.undelivered_membership (s : State) (f : Frame) :
    (s.undelivered f).membership = (s.markUnreachable f.dst).membership := by
  unfold State.undelivered
  dsimp only
  split
  · exact State.lostSignal_membership _ _
  · rfl

theorem State.undelivered_waiting (s : State) (f : Frame) : (s.undelivered f).waiting = s.waiting := by
  unfold State.undelivered
  dsimp only
  split
  · exact State.lostSignal_waiting _ _
  · rfl

/-- The end of a wait of one frame: its source marks the destination, another device answers NO_ROUTE. -/
def State.waitEnds (s : State) (w : Frame × Nat) : State :=
  if w.1.src = s.membership.self then s.undelivered w.1 else s.sendNoRoute w.1

theorem State.waitEnds_own {w : Frame × Nat} (h : w.1.src = s.membership.self) : s.waitEnds w = s.undelivered w.1 :=
  if_pos h

/-- Where every frame is this device's own, each destination is marked. -/
theorem State.foldl_waitEnds_own (l : List (Frame × Nat)) (s : State) (h : ∀ w ∈ l, w.1.src = s.membership.self) :
    (l.foldl State.waitEnds s).waiting = s.waiting ∧
      (∀ m ∈ s.membership.unreachable, m ∈ (l.foldl State.waitEnds s).membership.unreachable) ∧
      ∀ w ∈ l, w.1.dst ∈ (l.foldl State.waitEnds s).membership.unreachable := by
  induction l generalizing s with
  | nil => exact ⟨rfl, fun _ hm => hm, fun _ hw => absurd hw List.not_mem_nil⟩
  | cons w l ih =>
    have hown : s.waitEnds w = s.undelivered w.1 := State.waitEnds_own (h w List.mem_cons_self)
    have hmem := s.undelivered_membership w.1
    obtain ⟨hwait, hkeep, hmark⟩ := ih (s.undelivered w.1) fun v hv => by
      rw [hmem]
      exact h v (List.mem_cons_of_mem _ hv)
    rw [hmem] at hkeep
    rw [List.foldl_cons, hown]
    have hadd : ∀ m, m ∈ (s.markUnreachable w.1.dst).membership.unreachable ↔
        m ∈ s.membership.unreachable ∨ m = w.1.dst := fun m => mem_addOnce
    refine ⟨hwait.trans (s.undelivered_waiting w.1), fun m hm => hkeep m ((hadd m).mpr (.inl hm)), ?_⟩
    intro v hv
    rcases List.mem_cons.mp hv with rfl | hv
    · exact hkeep _ ((hadd _).mpr (.inr rfl))
    · exact hmark v hv

theorem exec_routeWaitExpiry_own (h : ∀ w ∈ s.waiting, w.2 + 10000000 ≤ s.now ∧ w.1.src = s.membership.self) :
    ∃ t, exec .routeWaitExpiry s = .next t ∧ t.waiting = [] ∧
      ∀ w ∈ s.waiting, w.1.dst ∈ t.membership.unreachable := by
  have hold : (s.waiting.filter fun w => decide (w.2 + 10000000 ≤ s.now)) = s.waiting :=
    List.filter_eq_self.mpr fun w hw => by simp [(h w hw).1]
  have hnone : (s.waiting.filter fun w => decide (s.now < w.2 + 10000000)) = [] :=
    List.filter_eq_nil_iff.mpr fun w hw => by simp [(h w hw).1]
  obtain ⟨hwait, -, hmark⟩ :=
    State.foldl_waitEnds_own s.waiting { s with waiting := [] } fun w hw => (h w hw).2
  refine ⟨s.waiting.foldl State.waitEnds { s with waiting := [] }, ?_, hwait, hmark⟩
  show execRouteWaitExpiry s = _
  simp only [execRouteWaitExpiry, hold, hnone]
  rfl

/-- Settles O46: the wait's end marks each destination, and a due record enters its epoch or is discarded. -/
theorem routeWaitsAndEpochsEnd : Obligations.RouteWaitsAndEpochsEnd := by
  intro s
  refine ⟨fun _ h => exec_routeWaitExpiry_own h, fun p hp hd => ⟨?enters, ?lost, s.enterEpoch_epoch p⟩⟩
  case enters => exact exec_membershipEpochChange_due hp hd
  case lost => exact exec_membershipEpochChange_lost hp hd

end Sys2Proof.Machine
end

section
/-! Answers (R265, R275, R276, R300, R330): a frame that has come is taken from the inbox and its answer given to what
waits for it. -/

namespace Sys2Proof.Machine

variable {s : State} {k : Nat} {f : Frame}

/-! ### A frame taken from the inbox -/

/-- The state once the frame at a place has left the inbox and its credits have been given back. -/
def State.unboxed (s : State) (k : Nat) (f : Frame) : State := { s with inbox := dropAt s.inbox k }.unstage f

theorem State.unboxed_frame (s : State) (k : Nat) (f : Frame) :
    ∃ ps o, s.unboxed k f = { s with inbox := dropAt s.inbox k, ports := ps, out := o } :=
  State.unstage_frame _ f

@[simp] theorem State.unboxed_asks : (s.unboxed k f).asks = s.asks := by
  obtain ⟨_, _, h⟩ := s.unboxed_frame k f
  rw [h]

@[simp] theorem State.unboxed_abortWaits : (s.unboxed k f).abortWaits = s.abortWaits := by
  obtain ⟨_, _, h⟩ := s.unboxed_frame k f
  rw [h]

theorem State.takeFrame_at {kind : Nat} (hf : s.inbox[k]? = some f) (hk : f.kind = kind) :
    s.takeFrame k kind = some (f, s.unboxed k f) := by
  simp only [State.takeFrame, hf, hk, if_true]
  rfl

theorem State.onFrame_at {kind : Nat} (g : State → Frame → State) (hf : s.inbox[k]? = some f) (hk : f.kind = kind) :
    s.onFrame k kind g = g (s.unboxed k f) f := by
  rw [State.onFrame, State.takeFrame_at hf hk]

/-! ### Requests answered -/

/-- A request of this member that was sent and waits has its answer. -/
theorem State.mem_answerAsk {a : Ask} {tag member : Nat} {st : Status} {l : List Byte} (ha : a ∈ s.asks)
    (ht : a.tag = tag) (hs : a.sent = true) (hr : a.reply = none) (hm : a.member = member) :
    { a with reply := some (st, l) } ∈ (s.answerAsk tag member st l).asks := by
  refine List.mem_map.mpr ⟨a, ha, ?_⟩
  rw [if_pos ht]
  exact if_pos ⟨hm, hs, hr⟩

theorem exec_rowReply_answers (hf : s.inbox[k]? = some f) (hk : f.kind = 0x30) :
    exec (.rowReply k) s = .next ((s.unboxed k f).answerAsk f.tag f.src .ok f.body) :=
  congrArg Host.Outcome.next (State.onFrame_at _ hf hk)

theorem exec_fetchRows_answers (hf : s.inbox[k]? = some f) (hk : f.kind = 0x32) :
    exec (.fetchRows k) s = .next ((s.unboxed k f).answerAsk f.tag f.src .ok f.body) :=
  congrArg Host.Outcome.next (State.onFrame_at _ hf hk)

/-! ### Refusals -/

/-- The tag that a REFUSED frame names. -/
def Frame.refusedTag (f : Frame) : Nat := bits (ofBytes (f.body.take 5)) 31 0

/-- The status that a REFUSED frame carries, none where its code is reserved. -/
def Frame.refusedStatus (f : Frame) : Option Status := Status.ofCode (bits (ofBytes (f.body.take 5)) 39 32)

theorem exec_refusedFrame_ask {a : Ask} {st : Status} (hf : s.inbox[k]? = some f) (hk : f.kind = 0x34)
    (hst : f.refusedStatus = some st) (ht : a.tag = f.refusedTag) (ha : a ∈ s.asks) (hs : a.sent = true)
    (hr : a.reply = none) (hm : a.member = f.src) :
    exec (.refusedFrame k) s = .next ((s.unboxed k f).answerAsk f.refusedTag f.src
      (orDenied [.ok, .unitRetired, .busy, .invalid, .membershipChanged, .dataSuspect] st) []) := by
  have hany : ((s.unboxed k f).asks.any fun b =>
      decide (b.tag = f.refusedTag ∧ b.member = f.src) && b.sent && b.reply.isNone) = true :=
    List.any_eq_true.mpr ⟨a, by simpa using ha, by simp [ht, hm, hs, hr]⟩
  refine congrArg Host.Outcome.next ((State.onFrame_at _ hf hk).trans ?_)
  unfold Frame.refusedStatus at hst
  simp only [hst]
  exact if_pos hany

/-- The state once an abort that was sent is refused: it waits no more, and its command, where it is released, has
finished. -/
def State.abortRefused (s : State) (w : AbortWait) (st : Status) : State :=
  let t := { s with abortWaits := s.abortWaits.filter fun (y : AbortWait) => decide (y.id ≠ w.id) }
  if (s.findCmd w.id).any fun c => decide (c.phase = Phase.released) then
    t.finish w.id (orDenied [.ok, .alreadyComplete, .invalid, .membershipChanged] st)
  else t

theorem exec_refusedFrame_abort {w : AbortWait} {st : Status} (hf : s.inbox[k]? = some f) (hk : f.kind = 0x34)
    (hst : f.refusedStatus = some st) (ha : ∀ b ∈ s.asks, b.tag ≠ w.tag) (ht : w.tag = f.refusedTag)
    (hw : s.abortWaits.find? (fun z => decide (z.tag = w.tag ∧ z.remote = some f.src)) = some w) :
    exec (.refusedFrame k) s = .next ((s.unboxed k f).abortRefused w st) := by
  have hany : ((s.unboxed k f).asks.any fun b =>
      decide (b.tag = f.refusedTag ∧ b.member = f.src) && b.sent && b.reply.isNone) = false :=
    List.any_eq_false.mpr fun b hb => by simp [ht ▸ ha b (by simpa using hb)]
  have hfind : (s.unboxed k f).abortWaits.find? (fun z => decide (z.tag = f.refusedTag ∧ z.remote = some f.src)) =
      some w := by rw [← ht, State.unboxed_abortWaits, hw]
  refine congrArg Host.Outcome.next ((State.onFrame_at _ hf hk).trans ?_)
  unfold Frame.refusedStatus at hst
  unfold Frame.refusedTag at hany hfind
  simp only [hst, hany, hfind]
  rfl

theorem State.abortRefused_abortWaits (w : AbortWait) (st : Status) :
    ∀ z ∈ (s.abortRefused w st).abortWaits, z.id ≠ w.id := by
  have hz : ∀ z ∈ s.abortWaits.filter fun (y : AbortWait) => decide (y.id ≠ w.id), z.id ≠ w.id := fun z h => by
    simpa using (List.mem_filter.mp h).2
  unfold State.abortRefused
  dsimp only
  split <;> exact hz

theorem State.abortRefused_cmds (w : AbortWait) (st : Status) {c : Cmd} (hc : s.findCmd w.id = some c) :
    (c.phase = .released → s.endsIn (s.abortRefused w st) w.id
      (orDenied [.ok, .alreadyComplete, .invalid, .membershipChanged] st)) ∧
    (c.phase ≠ .released → (s.abortRefused w st).cmds = s.cmds) := by
  unfold State.abortRefused
  rw [hc]
  refine ⟨fun h => ?_, fun h => ?_⟩
  · simp only [Option.any_some, h, decide_true, if_true]
    rfl
  · simp [h]

/-! ### Frames of collectives, and NO_ROUTE -/

theorem exec_collective_taken {t : State} (hf : s.inbox[k]? = some f) (hk : f.kind = 0x20)
    (ht : (s.unboxed k f).takeColl f = some t) : exec (.collective k) s = .next t := by
  show execCollective k s = _
  simp [execCollective, State.takeFrame_at hf hk, ht]

theorem exec_collective_stays (hf : s.inbox[k]? = some f) (hk : f.kind = 0x20)
    (ht : (s.unboxed k f).takeColl f = none) : exec (.collective k) s = .next s := by
  show execCollective k s = _
  simp [execCollective, State.takeFrame_at hf hk, ht]

theorem exec_noRoute_marks (hf : s.inbox[k]? = some f) (hk : f.kind = 0x33) :
    ∃ t, exec (.noRoute k) s = .next t ∧ t.inbox = (s.unboxed k f).inbox ∧
      bits (ofBytes (f.body.take 6)) 47 32 ∈ t.membership.unreachable := by
  have hmark : bits (ofBytes (f.body.take 6)) 47 32 ∈
      ((s.unboxed k f).markUnreachable (bits (ofBytes (f.body.take 6)) 47 32)).membership.unreachable :=
    mem_addOnce.mpr (.inr rfl)
  refine ⟨_, congrArg Host.Outcome.next (State.onFrame_at _ hf hk), ?_⟩
  dsimp only
  split
  · exact ⟨rfl, hmark⟩
  · rw [State.lostSignal_inbox, State.lostSignal_membership]
    exact ⟨rfl, hmark⟩

/-- Settles O42: each kind of frame, taken from the inbox, reaches what waits for it. -/
theorem answerFramesReachTheirRequest : Obligations.AnswerFramesReachTheirRequest := by
  intro s k f a hf
  refine ⟨fun ht => ⟨fun hk => ?rows, fun hk => ?fetched⟩, ?request, ?abort, fun hk => ?collective,
    exec_noRoute_marks hf⟩
  case rows =>
    exact ⟨_, exec_rowReply_answers hf hk, rfl, fun ha => State.mem_answerAsk (by simpa using ha) ht⟩
  case fetched =>
    exact ⟨_, exec_fetchRows_answers hf hk, rfl, fun ha => State.mem_answerAsk (by simpa using ha) ht⟩
  case request =>
    intro st hk hst ht ha hs hr hm
    exact ⟨_, exec_refusedFrame_ask hf hk hst ht ha hs hr hm, rfl,
      fun ha => State.mem_answerAsk (by simpa using ha) ht⟩
  case abort =>
    intro st w hk hst ha ht hw
    obtain ⟨ps, o, hu⟩ := s.unboxed_frame k f
    refine ⟨_, exec_refusedFrame_abort hf hk hst ha ht hw, fun c hc => ?_, State.abortRefused_abortWaits w st⟩
    rw [hu]
    exact State.abortRefused_cmds w st hc
  case collective =>
    exact ⟨fun _ => exec_collective_taken hf hk, exec_collective_stays hf hk⟩

end Sys2Proof.Machine
end

section
/-! Fragments (R263, R264, R267, R268, R273): one that comes in order is taken, another is discarded with one NAK, and
what is held for replay is sent again. -/

namespace Sys2Proof.Machine

variable {s t : State} {port : Nat}

/-! ### The port after an update -/

theorem State.port_of_ports (h : t.ports = s.ports) (q : Nat) : t.port q = s.port q := by
  rw [State.port, h, State.port]

@[simp] theorem State.port_bump (s : State) (i b n q : Nat) : (s.bump i b n).port q = s.port q :=
  State.port_of_ports (s.bump_ports i b n) q

@[simp] theorem State.sendControl_out (s : State) (p ctype payload : Nat) :
    (s.sendControl p ctype payload).out = s.out ++ [.control p ctype [(s.port p).controlHeader ctype, payload]] := rfl

theorem Port.controlHeader_nakked (x : Port) (b : Bool) (ctype : Nat) :
    Port.controlHeader { x with nakked := b } ctype = x.controlHeader ctype := by
  simp only [Port.controlHeader, Port.creditCount, Port.creditClass, Port.ack]

theorem State.port_sendControl_self (hw : Tab.wf Port.down s.ports = true) (ctype payload : Nat) :
    (s.sendControl port ctype payload).port port = (s.port port).creditsSent :=
  State.port_setPort_self s port _ hw

theorem State.Relayed.recv (h : s.Relayed t) (hw : Tab.wf Port.down s.ports = true) :
    (t.port port).recvSeq = (s.port port).recvSeq ∧ (t.port port).nakked = (s.port port).nakked := by
  have hlink := h.link hw port
  exact ⟨(congrArg Port.recvSeq hlink :), (congrArg Port.nakked hlink :)⟩

theorem State.SentOn.inbox (h : s.SentOn port t) : t.inbox = s.inbox := (congrArg State.inbox h.rest :)

theorem State.SentOn.backlog (h : s.SentOn port t) : t.backlog = s.backlog := (congrArg State.backlog h.rest :)

theorem State.SentOn.waiting (h : s.SentOn port t) : t.waiting = s.waiting := (congrArg State.waiting h.rest :)

theorem State.SentOn.membership (h : s.SentOn port t) : t.membership = s.membership :=
  (congrArg State.membership h.rest :)

/-! ### A fragment discarded -/

/-- A fragment discarded is answered by a NAK where none is out, and leaves the SEQ expected as it was. -/
theorem State.discardFrag_naks (hw : Tab.wf Port.down s.ports = true) :
    let x := s.port port
    (s.discardFrag port).inbox = s.inbox ∧ ((s.discardFrag port).port port).recvSeq = x.recvSeq ∧
      ((s.discardFrag port).port port).nakked = true ∧
      (s.discardFrag port).out =
        s.out ++ (if x.nakked then [] else [.control port 0x03 [x.controlHeader 0x03, x.recvSeq]]) := by
  intro x
  have hx : (s.countDrop port).port port = x := s.port_bump _ _ _ port
  by_cases hn : x.nakked = true
  · have hd : s.discardFrag port = s.countDrop port := by
      simp only [State.discardFrag, hx, hn, if_true]
    rw [hd, hx, if_pos hn]
    exact ⟨s.bump_inbox _ _ _, rfl, hn, (s.bump_out _ _ _).trans (List.append_nil _).symm⟩
  · have hd : s.discardFrag port =
        ((s.countDrop port).setPort port { x with nakked := true }).sendControl port 0x03 x.recvSeq := by
      simp only [State.discardFrag, hx, if_neg hn]
    have hwd : Tab.wf Port.down (s.countDrop port).ports = true := by
      rw [State.countDrop, State.bump_ports]
      exact hw
    have hself : ((s.countDrop port).setPort port { x with nakked := true }).port port = { x with nakked := true } :=
      State.port_setPort_self _ _ _ hwd
    have hport := State.port_sendControl_self (s := (s.countDrop port).setPort port { x with nakked := true })
      (port := port) (Tab.wf_put _ _ _ _ hwd) 0x03 x.recvSeq
    rw [hself] at hport
    rw [hd, hport, if_neg hn]
    refine ⟨s.bump_inbox _ _ _, rfl, rfl, ?_⟩
    rw [State.sendControl_out, hself, Port.controlHeader_nakked, State.setPort_out, State.countDrop, State.bump_out]

/-! ### What a header brings -/

/-- A port once a header's acknowledgement has freed what it confirms and its credits have come. -/
def Port.acked (x : Port) (h : Nat) : Port :=
  { x with
    replay := match x.replay.findIdx? fun f => decide (f.seq = bits h 51 40) with
      | some i => x.replay.drop (i + 1)
      | none => x.replay
    credits := setAt x.credits (bits h 39 38) (x.credits.getD (bits h 39 38) 0 + bits h 37 28) }

theorem State.sentOn_acked (s : State) (p h : Nat) : s.SentOn p ((s.setPort p ((s.port p).acked h)).flush p) :=
  (SentOn.setPort (.refl p s) (x := (s.port p).acked h) rfl).trans (State.sentOn_flush _ p)

theorem State.applyHeader_eq (s : State) (p h : Nat) :
    s.applyHeader p h =
      if ((s.setPort p ((s.port p).acked h)).flush p).backlog = [] then (s.setPort p ((s.port p).acked h)).flush p
      else ((s.setPort p ((s.port p).acked h)).flush p).retryWaiting := rfl

/-- What a header brings hands frames on, and nothing else. -/
theorem State.relayed_applyHeader (s : State) (p h : Nat) : s.Relayed (s.applyHeader p h) := by
  rw [State.applyHeader_eq]
  split
  · exact (s.sentOn_acked p h).relayed
  · exact (s.sentOn_acked p h).relayed.trans (State.relayed_retryWaiting _)

/-- With no frame waiting for room it only sends on its port. -/
theorem State.sentOn_applyHeader (p h : Nat) (hb : s.backlog = []) : s.SentOn p (s.applyHeader p h) := by
  rw [State.applyHeader_eq, if_pos ((s.sentOn_acked p h).backlog.trans hb)]
  exact s.sentOn_acked p h

/-! ### A fragment taken -/

/-- The device once the first fragment of a frame has given back the credits of one left unfinished. -/
def State.reclaimed (s : State) (p cls key : Nat) (first : Bool) : State :=
  let x := s.port p
  let held := Tab.get ([], 0) x.partial_ key
  if first && decide (0 < held.2) then
    (s.setPort p { x with staged := setAt x.staged cls (x.staged.getD cls 0 - held.2) }).oweCredits p cls held.2
  else s

/-- What has come of the frame that a fragment goes on with: its bytes and the credits it holds. -/
def Port.begun (x : Port) (key : Nat) (first : Bool) : List Byte × Nat :=
  if first then ([], 0) else Tab.get ([], 0) x.partial_ key

theorem State.takeFrag_eq (s : State) (p cls key : Nat) (first : Bool) (payload : List Byte) :
    s.takeFrag p cls key first payload =
      let t := s.reclaimed p cls key first
      let x := t.port p
      let old := (s.port p).begun key first
      if t.holdsCredit p cls (old.1 ++ payload) then
        (t.setPort p { x with staged := setAt x.staged cls (x.staged.getD cls 0 + 1) }, old.1 ++ payload, old.2 + 1)
      else (t.oweCredits p cls 1, old.1 ++ payload, old.2) := rfl

theorem State.SentOn.oweCredits {p : Nat} (h : s.SentOn p t) (cls n : Nat) : s.SentOn p (t.oweCredits p cls n) := by
  refine h.setPort ?_
  rfl

theorem State.sentOn_reclaimed (s : State) (p cls key : Nat) (first : Bool) :
    s.SentOn p (s.reclaimed p cls key first) := by
  unfold State.reclaimed
  dsimp only
  split
  · refine .oweCredits (.setPort (.refl p s) ?_) _ _
    rfl
  · exact .refl p s

theorem State.sentOn_takeFrag (s : State) (p cls key : Nat) (first : Bool) (payload : List Byte) :
    s.SentOn p (s.takeFrag p cls key first payload).1 := by
  have hfirst := s.sentOn_reclaimed p cls key first
  rw [State.takeFrag_eq]
  generalize s.reclaimed p cls key first = t at hfirst ⊢
  dsimp only
  split
  · refine hfirst.setPort ?_
    rfl
  · exact hfirst.oweCredits _ _

theorem State.takeFrag_bytes (s : State) (p cls key : Nat) (first : Bool) (payload : List Byte) :
    (s.takeFrag p cls key first payload).2.1 = ((s.port p).begun key first).1 ++ payload := by
  rw [State.takeFrag_eq]
  dsimp only
  split <;> rfl

/-- A data fragment comes in order: its header is good and gives its length, and its SEQ is the one expected. -/
def Port.inOrder (x : Port) (h : Nat) (payload : List Byte) : Prop :=
  headerOk h = true ∧ h.testBit 11 = false ∧ payload.length = 16 * (bits h 15 12 + 1) ∧ bits h 63 52 = x.recvSeq

/-- What the port makes of a fragment: the frame's bytes so far, and its credit. -/
def State.fragTook (s : State) (port h : Nat) (payload : List Byte) : State × List Byte × Nat :=
  s.takeFrag port (bits h 19 18) (bits h 19 18 * 256 + bits h 27 20) (h.testBit 17) payload

/-- The port once the fragment is taken: the next SEQ is expected, and the frame's bytes are kept until it is whole. -/
def State.fragPort (s : State) (port h : Nat) (payload : List Byte) : Port :=
  let r := s.fragTook port h payload
  { r.1.port port with
    recvSeq := ((s.port port).recvSeq + 1) % 4096
    nakked := false
    partial_ := Tab.put ([], 0) (r.1.port port).partial_ (bits h 19 18 * 256 + bits h 27 20)
      (if h.testBit 16 then ([], 0) else r.2) }

/-- The device once the fragment is taken, before the frame it completes arrives. -/
def State.fragTaken (s : State) (port h : Nat) (payload : List Byte) : State :=
  ((((s.fragTook port h payload).1.setPort port (s.fragPort port h payload)).bump 0x7500 (25 + port)
    payload.length).applyHeader port h).sendFill port

theorem exec_dataFragment_discards {hdr : BitVec 64} {payload : List Byte} {good : Bool} (hup : s.portUp port = true)
    (hu : s.portUsable port = true) (h : good = false ∨ ¬(s.port port).inOrder hdr.toNat payload) :
    exec (.dataFragment port hdr payload good) s = .next (s.discardFrag port) := by
  show execDataFragment port hdr payload good s = _
  unfold execDataFragment
  dsimp only
  rw [if_neg (by simp [hup]), if_neg (by simp [hu])]
  split
  · rfl
  · next hg =>
    have hbad := h.resolve_left (by simpa using hg)
    refine if_pos (by_contra fun hc => hbad ?_)
    simpa [Port.inOrder, and_assoc] using hc

theorem exec_dataFragment_goesOn {hdr : BitVec 64} {payload : List Byte} (hup : s.portUp port = true)
    (hu : s.portUsable port = true) (h : (s.port port).inOrder hdr.toNat payload) (hl : hdr.toNat.testBit 16 = false) :
    exec (.dataFragment port hdr payload true) s = .next (s.fragTaken port hdr.toNat payload) := by
  obtain ⟨hok, hdata, hlen, hseq⟩ := h
  show execDataFragment port hdr payload true s = _
  unfold execDataFragment
  dsimp only
  rw [if_neg (by simp [hup]), if_neg (by simp [hu]), if_neg (by simp), if_neg (by simp [hok, hdata, hlen, hseq]),
    if_neg (by simp [hl])]
  rfl

theorem exec_dataFragment_completes {hdr : BitVec 64} {payload : List Byte} {f : Frame} (hup : s.portUp port = true)
    (hu : s.portUsable port = true) (h : (s.port port).inOrder hdr.toNat payload) (hl : hdr.toNat.testBit 16 = true)
    (hf : parseFrame (bits hdr.toNat 19 18) port (s.fragTook port hdr.toNat payload).2.1 = some f) :
    exec (.dataFragment port hdr payload true) s = .next ((s.fragTaken port hdr.toNat payload).arrive port
      { f with frags := (s.fragTook port hdr.toNat payload).2.2 }) := by
  obtain ⟨hok, hdata, hlen, hseq⟩ := h
  unfold State.fragTook at hf
  show execDataFragment port hdr payload true s = _
  unfold execDataFragment
  dsimp only
  rw [if_neg (by simp [hup]), if_neg (by simp [hu]), if_neg (by simp), if_neg (by simp [hok, hdata, hlen, hseq]),
    if_pos hl, hf]
  rfl

/-- The device once the fragment's bytes are in and the next SEQ is expected, before its header is looked at. -/
def State.fragStored (s : State) (port h : Nat) (payload : List Byte) : State :=
  ((s.fragTook port h payload).1.setPort port (s.fragPort port h payload)).bump 0x7500 (25 + port) payload.length

theorem State.fragTook_sent (s : State) (port h : Nat) (payload : List Byte) :
    s.SentOn port (s.fragTook port h payload).1 := s.sentOn_takeFrag _ _ _ _ _

theorem State.fragTaken_recv (hw : Tab.wf Port.down s.ports = true) (h : Nat) (payload : List Byte) :
    ((s.fragTaken port h payload).port port).recvSeq = ((s.port port).recvSeq + 1) % 4096 ∧
      ((s.fragTaken port h payload).port port).nakked = false := by
  have hwt := (s.fragTook_sent port h payload).wf hw
  have hstored : (s.fragStored port h payload).port port = s.fragPort port h payload :=
    (State.port_bump _ _ _ _ _).trans (State.port_setPort_self _ _ _ hwt)
  have hws : Tab.wf Port.down (s.fragStored port h payload).ports = true := by
    rw [State.fragStored, State.bump_ports]
    exact Tab.wf_put _ _ _ _ hwt
  have hrelay : (s.fragStored port h payload).Relayed (s.fragTaken port h payload) :=
    (State.relayed_applyHeader _ port h).trans (State.SentOn.sendControl (.refl port _) _ _).relayed
  obtain ⟨hseq, hnak⟩ := hrelay.recv (port := port) hws
  rw [hstored] at hseq hnak
  exact ⟨hseq, hnak⟩

theorem State.fragTaken_keeps (hb : s.backlog = []) (h : Nat) (payload : List Byte) :
    (s.fragTaken port h payload).inbox = s.inbox ∧ (s.fragTaken port h payload).membership = s.membership := by
  have htook := s.fragTook_sent port h payload
  have hb' : (s.fragStored port h payload).backlog = [] := by
    rw [State.fragStored, State.bump_backlog]
    exact htook.backlog.trans hb
  have hsent : (s.fragStored port h payload).SentOn port (s.fragTaken port h payload) :=
    (State.sentOn_applyHeader port h hb').sendControl _ _
  refine ⟨hsent.inbox.trans ?_, hsent.membership.trans ?_⟩
  · exact (State.bump_inbox _ _ _ _).trans htook.inbox
  · exact (State.bump_membership _ _ _ _).trans htook.membership

/-- A frame for this device of a known kind and from a member it accepts enters the inbox. -/
theorem State.arrive_here {f : Frame} (hd : f.dst = s.membership.self) (hk : (kindClass f.kind).isSome = true)
    (ha : s.acceptsFrame f = true) : (s.arrive port f).inbox = s.inbox ++ [f] := by
  unfold State.arrive
  have hknown : ¬(kindClass f.kind).isNone = true := by
    rw [← Option.not_isSome, hk]
    decide
  rw [if_pos hd, if_neg hknown, if_pos ha]

/-! ### What is held for replay -/

/-- The fragments held for replay from a place on, as they are sent again. -/
def Port.again (x : Port) (port i : Nat) : List Output :=
  (x.replay.drop i).map fun f => Output.fragment port (dataHeader f x.ack 0 0) f.payload

theorem State.resend_usable (hu : s.portUsable port = true) (i : Nat) :
    (s.resend port i).out = s.out ++ (s.port port).again port i ∧ (s.resend port i).ports = s.ports := by
  unfold State.resend
  rw [if_neg (by simp [hu])]
  exact ⟨State.bump_out _ _ _ _, State.bump_ports _ _ _ _⟩

theorem State.resend_unusable (hu : s.portUsable port = false) (i : Nat) : s.resend port i = s := by
  unfold State.resend
  rw [if_pos (by simp [hu])]

theorem exec_nak_held {body : BitVec 128} {i : Nat} (hup : s.portUp port = true)
    (hi : (s.port port).replay.findIdx? (fun f => decide (f.seq = bits body.toNat 11 0)) = some i) :
    exec (.nak port body) s = .next (s.resend port i) := by
  show execNak port body s = _
  simp only [execNak, hup, hi, if_true]

theorem exec_replayTimeout_up (hup : s.portUp port = true) : exec (.replayTimeout port) s = .next (s.resend port 0) :=
  if_pos hup

theorem exec_nak_unusable (hu : s.portUsable port = false) (body : BitVec 128) :
    exec (.nak port body) s = .next s := by
  show execNak port body s = _
  unfold execNak
  split
  · split
    · rw [State.resend_unusable hu]
    · rfl
  · rfl

/-! ### Control fragments -/

theorem exec_fillControlFragment_good {hdr : BitVec 64} (hup : s.portUp port = true)
    (hok : headerOk hdr.toNat = true) (hc : hdr.toNat.testBit 11 = true) :
    exec (.fillControlFragment port hdr) s = .next
      ((if 0x06 < bits hdr.toNat 59 52 then s.countDrop port else s).applyHeader port hdr.toNat) := by
  show execFillControlFragment port hdr s = _
  unfold execFillControlFragment
  dsimp only
  rw [if_neg (by simp [hup]), if_neg (by simp [hok, hc])]
  split <;> rfl

theorem exec_fillControlFragment_bad {hdr : BitVec 64} (hup : s.portUp port = true)
    (h : headerOk hdr.toNat = false ∨ hdr.toNat.testBit 11 = false) :
    exec (.fillControlFragment port hdr) s = .next (s.countDrop port) := by
  show execFillControlFragment port hdr s = _
  unfold execFillControlFragment
  dsimp only
  rw [if_neg (by simp [hup]), if_pos (by simpa using h)]

/-- Settles O43: a fragment is taken or discarded with a NAK, what is held is sent again, and a control fragment's
header is applied or the fragment counted. -/
theorem fragmentsInOrderAndReplayed : Obligations.FragmentsInOrderAndReplayed := by
  refine ⟨?data, ?held⟩
  case data =>
    intro s port hdr payload good hs hup hu h x key l fits
    have hw := State.wf_ports hs
    refine ⟨fun hg hfit => ?taken, fun hbad => ?discarded⟩
    case taken =>
      subst hg
      obtain ⟨hseq, hnak⟩ := State.fragTaken_recv (port := port) hw h payload
      refine ⟨s.fragTaken port h payload, (s.fragTook port h payload).2.2, hseq, hnak,
        fun hb => State.fragTaken_keeps hb h payload, exec_dataFragment_goesOn hup hu hfit, fun hl f hf => ?_⟩
      have hbytes : (s.fragTook port h payload).2.1 = l := by
        refine (s.takeFrag_bytes _ _ _ _ _).trans ?_
        simp only [Port.begun, l]
        split <;> rfl
      exact ⟨exec_dataFragment_completes hup hu hfit hl (by rw [hbytes]; exact hf), fun hd hk ha =>
        State.arrive_here hd hk ha⟩
    case discarded =>
      exact ⟨_, exec_dataFragment_discards hup hu hbad, State.discardFrag_naks hw⟩
  case held =>
    intro s port hup x again
    refine ⟨fun hu => ⟨fun body i hi => ?nak, ?timeout⟩, fun hu => ⟨?idle, exec_nak_unusable hu⟩, fun hdr => ?fill⟩
    case nak => exact ⟨_, exec_nak_held hup hi, State.resend_usable hu i⟩
    case timeout => exact ⟨_, exec_replayTimeout_up hup, State.resend_usable hu 0⟩
    case idle => rw [exec_replayTimeout_up hup, State.resend_unusable hu]
    case fill =>
      refine ⟨fun hok hc => ⟨fun hk => ?_, fun hk => ?_⟩, exec_fillControlFragment_bad hup⟩
      · rw [exec_fillControlFragment_good hup hok hc, if_neg (by omega)]
      · rw [exec_fillControlFragment_good hup hok hc, if_pos hk]

end Sys2Proof.Machine
end

section
/-! The control fragments of a port in service (R261, R263, R270, R273, R275, R279, R281). -/

namespace Sys2Proof.Machine

variable {s t : State} {port : Nat} {body : BitVec 128}

/-! ### HELLO -/

/-- The partner that a HELLO names. -/
def helloPartner (b : Nat) : Partner :=
  ⟨bits b 31 16, bits b 127 96, bits b 15 8, bits b 95 64, bits b 63 32, bits b 7 0⟩

/-- The device that knows a port's partner. -/
def State.met (s : State) (port b : Nat) : State :=
  s.setPort port { s.port port with partner := some (helloPartner b) }

/-- The device once a HELLO has come and the port has sent what it may. -/
def State.partnered (s : State) (port b : Nat) : State := (s.met port b).flush port

theorem exec_hello_up (hup : s.portUp port = true) :
    exec (.hello port body) s = .next (s.partnered port body.toNat).retryWaiting :=
  if_pos hup

theorem State.retried_partner (hw : Tab.wf Port.down s.ports = true) (b : Nat) :
    ((s.partnered port b).retryWaiting.port port).partner = some (helloPartner b) := by
  have hwp : Tab.wf Port.down (s.met port b).ports = true := Tab.wf_put _ _ _ _ hw
  have hmet := State.port_setPort_self s port { s.port port with partner := some (helloPartner b) } hw
  have hlink := ((State.sentOn_flush _ port).relayed.trans (State.relayed_retryWaiting _)).link hwp port
  rw [State.met, hmet] at hlink
  exact (congrArg Port.partner hlink :)

/-- With no frame waiting the other ports are as they were. -/
theorem State.retried_others (hwait : s.waiting = []) (hback : s.backlog = []) (b q : Nat) (hq : q ≠ port) :
    (s.partnered port b).retryWaiting.port q = s.port q := by
  have hsent := State.sentOn_flush (s.met port b) port
  rw [State.partnered, State.retryWaiting_none (hsent.waiting.trans hwait) (hsent.backlog.trans hback)]
  exact (hsent.others q hq).trans (State.port_setPort_ne s port q _ hq)

theorem exec_helloTimer_up (hup : s.portUp port = true) :
    exec (.helloTimer port) s = .next (s.sendControl port 0x01 (s.helloOf port)) :=
  if_pos hup

/-! ### BEACON -/

/-- The device that has kept a BEACON, in the place of the last one of its member. -/
def State.beaconKept (s : State) (new : Beacon) : State :=
  { s with membership := { s.membership with
      beacons := (s.membership.beacons.filter fun x => decide (x.member ≠ new.member)) ++ [new] } }

theorem exec_beacon_up (hup : s.portUp port = true) :
    exec (.beacon port body) s = .next
      (s.beaconKept ⟨bits body.toNat 63 48, port, bits body.toNat 127 96, bits body.toNat 95 64⟩).meetBeacons :=
  if_pos hup

theorem State.beaconKept_splits (s : State) (new : Beacon) :
    (s.beaconKept new).meetBeacons.membership.members = s.membership.members ∧
      ∀ m ∈ s.membership.split, m ∈ (s.beaconKept new).meetBeacons.membership.split := by
  obtain ⟨hsame, hmore⟩ := (s.beaconKept new).meetBeacons_splits
  exact ⟨(congrArg Membership.members hsame :), hmore⟩

/-- A BEACON of this epoch with another digest splits its member, whatever the ones kept before it have done. -/
theorem State.mem_split_beaconKept {new : Beacon} (he : new.epoch = s.membership.epoch)
    (hd : new.digest ≠ s.membership.digest) : new.member ∈ (s.beaconKept new).meetBeacons.membership.split := by
  rw [State.meetBeacons_eq]
  show new.member ∈ (((s.membership.beacons.filter fun x => decide (x.member ≠ new.member)) ++ [new]).foldl
    State.meetBeacon (s.beaconKept new)).membership.split
  rw [List.foldl_append]
  obtain ⟨hsame, -⟩ := State.foldl_meetBeacon_splits
    (s.membership.beacons.filter fun x => decide (x.member ≠ new.member)) (s.beaconKept new)
  refine State.mem_split_meetBeacon (he.trans ?_) fun h => hd (h.trans ?_)
  · exact (congrArg Membership.epoch hsame :).symm
  · exact (congrArg Membership.digest hsame :)

/-! ### ECHO -/

theorem exec_echo_request (ho : s.portOpen port = true) :
    exec (.echo port false body) s = .next (s.sendControl port 0x06
      (bits body.toNat 127 96 * 2 ^ 96 + s.now % 2 ^ 32 * 2 ^ 64 + s.now % 2 ^ 32 * 2 ^ 32)) := by
  show execEcho port false body s = _
  simp [execEcho, ho]

theorem exec_echo_answer (ho : s.portOpen port = true) (he : (s.port port).echo = some (bits body.toNat 127 96)) :
    exec (.echo port true body) s = .next (s.delayKnown port body.toNat) := by
  show execEcho port true body s = _
  simp [execEcho, ho, he]

/-- The one-way delay that an answer gives: half the round trip less the partner's turnaround (R281). -/
def State.echoDelay (s : State) (b : Nat) : Nat :=
  ((s.now + 2 ^ 32 - bits b 127 96) % 2 ^ 32 - (bits b 63 32 + 2 ^ 32 - bits b 95 64) % 2 ^ 32) / 2

/-- The port that knows its delay. -/
def State.echoed (s : State) (port b : Nat) : Port :=
  { s.port port with
    delay := s.echoDelay b
    echo := none }

theorem State.delayKnown_idle (hr : (s.port port).ready = none) (b : Nat) :
    s.delayKnown port b = s.setPort port (s.echoed port b) := by
  unfold State.delayKnown
  dsimp only
  split
  · next h => cases hr.symm.trans h
  · rfl

/-! ### LANE -/

/-- The change that a LANE of the partner asks for. -/
def State.laneAsked (s : State) (port b : Nat) : LaneChange := ⟨bits b 7 0, s.cwNext port (bits b 17 8), true⟩

theorem exec_lane_request (hup : s.portUp port = true) (hb : body.toNat.testBit 18 = false) :
    exec (.lane port body) s = .next
      ((s.setPort port { s.port port with
        changes := (s.port port).changes ++ [s.laneAsked port body.toNat] }).sendControl port 0x04
        (bits body.toNat 17 0 + 2 ^ 18 + b2n (body.toNat.testBit 19) * 2 ^ 19)) := by
  show execLane port body s = _
  unfold execLane
  rw [if_pos hup]
  dsimp only
  rw [if_neg (by simp [hb])]
  rfl

theorem exec_lane_answer (hup : s.portUp port = true) (hb : body.toNat.testBit 18 = true) :
    exec (.lane port body) s = .next (s.setPort port { s.port port with
      changes := (s.port port).changes.map fun c =>
        if c.mask = bits body.toNat 7 0 ∧ c.due % 1024 = bits body.toNat 17 8 then { c with confirmed := true }
        else c }) := by
  show execLane port body s = _
  unfold execLane
  rw [if_pos hup]
  dsimp only
  rw [if_pos hb]
  simp only [decide_eq_true_eq]

/-! ### LANE_WIDTH_CHANGE -/

/-- The port with a mask in force, the changes after it still to come, its codewords counted on. -/
def State.remasked (s : State) (port mask : Nat) (later : List LaneChange) : Port :=
  { s.port port with
    mask := mask
    changes := later
    codewords := s.cwTotal port
    cwAt := s.now }

theorem State.goodLanes_recordEvent (e : EventIn) : (s.recordEvent e).goodLanes port = s.goodLanes port := by
  simp [State.goodLanes]

theorem State.checkPort_of_enough (h : 4 ≤ s.lanesUp port) : s.checkPort port = s := by
  unfold State.checkPort
  rw [if_pos (by simp [h])]

theorem State.port_setLanes (hw : Tab.wf Port.down s.ports = true) (hup : (s.port port).up = true) {mask : Nat}
    (h4 : 4 ≤ laneCount (mask &&& s.goodLanes port)) (later : List LaneChange) :
    (s.setLanes port mask later).port port = s.remasked port mask later := by
  have hself : (s.setPort port (s.remasked port mask later)).port port = s.remasked port mask later :=
    State.port_setPort_self s port _ hw
  have henough : ∀ e, 4 ≤ ((s.setPort port (s.remasked port mask later)).recordEvent e).lanesUp port := fun e => by
    have hport := (State.port_of_ports (State.recordEvent_ports _ e) port).trans hself
    have hup' : (s.remasked port mask later).up = true := hup
    unfold State.lanesUp
    rw [hport, if_pos hup', State.goodLanes_recordEvent]
    exact h4
  unfold State.setLanes
  dsimp only
  refine Eq.trans ?_ hself
  refine Eq.trans (congrArg (fun t : State => t.startTests.port port) (State.checkPort_of_enough (henough _))) ?_
  exact State.port_of_ports (State.recordEvent_ports _ _) port

theorem exec_laneWidthChange_due {i : Nat} {c : LaneChange} (hup : s.portUp port = true)
    (hd : s.laneDue port = some i) (hc : (s.port port).changes[i]? = some c) :
    exec (.laneWidthChange port) s = .next (s.setLanes port c.mask ((s.port port).changes.drop (i + 1))) := by
  show execLaneWidthChange port s = _
  simp only [execLaneWidthChange, hup, if_true, hd, Option.bind_some, hc, Option.map_some]

theorem exec_laneWidthChange_none (hd : s.laneDue port = none) : exec (.laneWidthChange port) s = .next s := by
  show execLaneWidthChange port s = _
  simp [execLaneWidthChange, hd]

theorem State.up_of_portUp (h : s.portUp port = true) : (s.port port).up = true := by
  simp only [State.portUp, Bool.and_eq_true] at h
  exact h.1.2

/-- Settles O44: each control fragment's row is one update of its port, of the membership or of what is sent. -/
theorem portControlFragments : Obligations.PortControlFragments := by
  intro s port body hs hup b x
  have hw := State.wf_ports hs
  refine ⟨?hello, ?timer, fun he hd => ?beacon, fun ho => ⟨?request, fun he hr => ?answer⟩, fun hb => ?lane,
    exec_lane_answer hup, fun i c hd hc h4 => ?change, exec_laneWidthChange_none⟩
  case hello =>
    exact ⟨_, exec_hello_up hup, State.retried_partner hw _, fun hwait hback => State.retried_others hwait hback _⟩
  case timer =>
    exact ⟨_, exec_helloTimer_up hup, rfl, State.port_sendControl_self hw _ _, rfl⟩
  case beacon =>
    exact ⟨_, exec_beacon_up hup, State.mem_split_beaconKept he hd, State.beaconKept_splits s _⟩
  case request => exact ⟨_, exec_echo_request ho, rfl⟩
  case answer =>
    refine ⟨_, exec_echo_answer ho he, ?_⟩
    rw [State.delayKnown_idle hr]
    exact State.port_setPort_self s port _ hw
  case lane =>
    refine ⟨_, exec_lane_request hup hb, ?_, _, rfl⟩
    rw [State.port_sendControl_self (Tab.wf_put _ _ _ _ hw), State.port_setPort_self s port _ hw]
    rfl
  case change =>
    exact ⟨_, exec_laneWidthChange_due hup hd hc, State.port_setLanes hw (State.up_of_portUp hup) h4 _⟩

end Sys2Proof.Machine
end

section
/-! Training (R261, R267, R269, R484): a port detects a signal, measures its delay once its lanes have trained, and
comes up at the answer. -/

namespace Sys2Proof.Machine

variable {s : State} {port : Nat} {r : Training}

/-! ### Lanes -/

theorem State.goodLanes_lt (s : State) (p : Nat) : s.goodLanes p < 256 := by
  have hle : s.goodLanes p ≤ ((List.range 8).map fun l => 2 ^ l).sum :=
    List.sum_le_sum fun l _ => by
      split
      · exact Nat.zero_le _
      · exact le_rfl
  exact Nat.lt_of_le_of_lt hle (by decide)

theorem State.toNat_trainedLanes (s : State) (p : Nat) (r : Training) :
    (s.trainedLanes p r).toNat = r.lanes.toNat &&& s.goodLanes p := by
  rw [State.trainedLanes, BitVec.toNat_and, BitVec.toNat_ofNat, Nat.mod_eq_of_lt (s.goodLanes_lt p)]

/-! ### The delay measured -/

theorem State.measure_port (hw : Tab.wf Port.down s.ports = true) (r : Training) :
    (s.measure port r).port port = Port.creditsSent { s.port port with
      ready := some r
      echo := some (s.now % 2 ^ 32) } := by
  have hready := State.port_setPort_self s port { s.port port with ready := some r } hw
  have hwr := Tab.wf_put Port.down s.ports port { s.port port with ready := some r } hw
  unfold State.measure State.askEcho
  dsimp only
  rw [State.port_sendControl_self (Tab.wf_put _ _ _ _ hwr), State.port_setPort_self _ _ _ hwr, hready]
  rfl

/-- A port that is down stays so while it waits for the answer to the ECHO it has sent. -/
theorem State.measure_asks (hw : Tab.wf Port.down s.ports = true) (hd : (s.port port).up = false) (r : Training) :
    let t := s.measure port r
    (t.port port).up = false ∧ (t.port port).echo = some (s.now % 2 ^ 32) ∧ (t.port port).ready = some r ∧
      ∃ h, t.out = s.out ++ [.control port 0x06 [h, s.now % 2 ^ 32 * 2 ^ 96]] := by
  intro t
  rw [State.measure_port hw r]
  exact ⟨hd, rfl, rfl, _, rfl⟩

/-! ### PORT_TRAINING -/

/-- The device in which a port has noted when it detected its signal. -/
def State.detected (s : State) (port : Nat) : State :=
  s.setPort port { s.port port with trainStart := some ((s.port port).trainStart.getD s.now) }

theorem State.detected_port (hw : Tab.wf Port.down s.ports = true) :
    (s.detected port).port port = { s.port port with
      trainStart := some ((s.port port).trainStart.getD s.now) } :=
  State.port_setPort_self s port _ hw

theorem exec_portTraining_trains (hm : s.mayTrain port = true) (hr : (s.port port).ready = none)
    (ht : ∀ t ∈ (s.port port).trainStart, t ≤ s.now) :
    exec (.portTraining port r) s = .next
      (if r.lanes.toNat &&& s.goodLanes port = s.goodLanes port then
        (s.detected port).measure port { r with lanes := s.trainedLanes port r } else s.detected port) := by
  have hall : ((s.port port).trainStart.all fun t => decide (t ≤ s.now)) = true := by
    simpa [Option.all_eq_true] using ht
  show execPortTraining port r s = _
  unfold execPortTraining
  dsimp only
  rw [if_neg (by simp [hm, hr, hall]), State.toNat_trainedLanes]
  rfl

theorem exec_portTraining_barred (hm : s.mayTrain port = false) : exec (.portTraining port r) s = .next s := by
  show execPortTraining port r s = _
  simp [execPortTraining, hm]

/-! ### PORT_TRAINING_TIMEOUT -/

/-- A port detected its signal 500 ms ago or earlier. -/
def State.signalOld (s : State) (port : Nat) : Prop := ∃ t ∈ (s.port port).trainStart, t + 500000000 ≤ s.now

/-- The device in which a port puts off its next attempt by a second. -/
def State.putOff (s : State) (port lanes : Nat) : State :=
  (s.countFailed port lanes).setPort port { (s.countFailed port lanes).port port with
    trainStart := some (s.now + 1000000000) }

theorem State.signalOld_any (ho : s.signalOld port) :
    ((s.port port).trainStart.any fun t => decide (t + 500000000 ≤ s.now)) = true := by
  obtain ⟨t, ht, hle⟩ := ho
  exact Option.any_eq_true _ _ |>.mpr ⟨t, ht, decide_eq_true hle⟩

theorem exec_portTrainingTimeout_unready (hm : s.mayTrain port = true) (ho : s.signalOld port)
    (hr : (s.port port).ready = none) :
    exec (.portTrainingTimeout port r) s = .next
      (if 4 ≤ laneCount (r.lanes.toNat &&& s.goodLanes port) then
        (s.countFailed port (r.lanes.toNat &&& s.goodLanes port)).measure port
          { r with lanes := s.trainedLanes port r }
      else s.putOff port (r.lanes.toNat &&& s.goodLanes port)) := by
  show execPortTrainingTimeout port r s = _
  unfold execPortTrainingTimeout
  dsimp only
  rw [if_neg (by simp [hm, State.signalOld_any ho]), State.toNat_trainedLanes]
  split
  · next h => cases hr.symm.trans h
  · split <;> rfl

theorem exec_portTrainingTimeout_ready {a : Training} (hm : s.mayTrain port = true) (ho : s.signalOld port)
    (hr : (s.port port).ready = some a) : exec (.portTrainingTimeout port r) s = .next (s.comeUp port a) := by
  show execPortTrainingTimeout port r s = _
  unfold execPortTrainingTimeout
  dsimp only
  rw [if_neg (by simp [hm, State.signalOld_any ho])]
  split
  · next h =>
    cases hr.symm.trans h
    rfl
  · next h => cases hr.symm.trans h

theorem exec_portTrainingTimeout_barred (hm : s.mayTrain port = false) :
    exec (.portTrainingTimeout port r) s = .next s := by
  show execPortTrainingTimeout port r s = _
  simp [execPortTrainingTimeout, hm]

theorem State.countFailed_port (hw : Tab.wf Port.down s.ports = true) (lanes : Nat) :
    ∃ l, (s.countFailed port lanes).port port = { s.port port with failed := l } :=
  ⟨_, State.port_setPort_self s port _ hw⟩

theorem State.putOff_port (hw : Tab.wf Port.down s.ports = true) (lanes : Nat) :
    ∃ l, (s.putOff port lanes).port port = { s.port port with
      failed := l
      trainStart := some (s.now + 1000000000) } := by
  obtain ⟨l, hl⟩ := State.countFailed_port (port := port) hw lanes
  refine ⟨l, ?_⟩
  rw [State.putOff, State.port_setPort_self _ _ _ (Tab.wf_put _ _ _ _ hw), hl]

theorem State.putOff_others (lanes q : Nat) (hq : q ≠ port) : (s.putOff port lanes).port q = s.port q :=
  (State.port_setPort_ne _ port q _ hq).trans (State.port_setPort_ne s port q _ hq)

/-! ### A port comes up -/

theorem State.readyFrag_unusable (hu : s.portUsable port = false) (cls : Nat) : s.readyFrag port cls = none := by
  unfold State.readyFrag
  exact if_neg (by simp [hu])

/-- Where no class has a fragment that may leave, a queue sends nothing. -/
theorem State.sendQueue_stalled (h : ∀ cls, s.readyFrag port cls = none) (n c : Nat) (d : List Nat) :
    State.sendQueue port n c d s = s.setPort port { s.port port with turn := c } := by
  cases n with
  | zero => rfl
  | succ n =>
    unfold State.sendQueue
    split
    · next hf => cases (h 0).symm.trans hf
    · dsimp only
      split
      · next hf =>
        obtain ⟨x, -, hx⟩ := Option.bind_eq_some_iff.mp hf
        cases (h x.1).symm.trans hx
      · rfl

theorem State.flush_unusable (hu : s.portUsable port = false) : s.flush port = s.setPort port (s.port port) :=
  State.sendQueue_stalled (State.readyFrag_unusable hu) _ _ _

/-- The port that comes up: its link starts afresh, with the credits granted and the split that is applied. -/
def State.risen (s : State) (p : Nat) (r : Training) : Port :=
  { Port.down with
    up := true
    mask := r.lanes.toNat
    trained := r.lanes.toNat
    delay := (s.port p).delay
    echo := (s.port p).echo
    outq := (s.port p).outq
    credits := [256, r.g1, r.g2, 65280 - r.g1 - r.g2]
    split := (s.creditSplit p).1
    triggers := (s.port p).triggers
    failed := (s.port p).failed
    codewords := s.freeVal 0 % 1024
    cwAt := s.now }

/-- The device with that port, before it sends HELLO: where the default split is taken, that is recorded. -/
def State.rising (s : State) (p : Nat) (r : Training) : State :=
  let t := ((s.setPort p (s.risen p r)).usedFree 1).creditsGone p
  if (s.creditSplit p).2 then t else t.recordEvent ⟨0x4007, .port p, 8 + p / 3, 0, 0xFF, 0xFF, p⟩

theorem State.comeUp_eq (s : State) (p : Nat) (r : Training) :
    s.comeUp p r = ((s.rising p r).sendControl p 0x01 ((s.rising p r).helloOf p)).flush p := rfl

theorem State.rising_ports (s : State) (p : Nat) (r : Training) :
    (s.rising p r).ports = (s.setPort p (s.risen p r)).ports := by
  unfold State.rising
  dsimp only
  split
  · rfl
  · exact State.recordEvent_ports _ _

/-- A port that has just come up knows no partner, so nothing of its queue is sent yet. -/
theorem State.comeUp_port (hw : Tab.wf Port.down s.ports = true) (r : Training) :
    (s.comeUp port r).port port = (s.risen port r).creditsSent := by
  have hwr : Tab.wf Port.down (s.rising port r).ports = true := by
    rw [State.rising_ports]
    exact Tab.wf_put _ _ _ _ hw
  have hport : (s.rising port r).port port = s.risen port r :=
    (State.port_of_ports (s.rising_ports port r) port).trans (State.port_setPort_self s port _ hw)
  have hsent : ((s.rising port r).sendControl port 0x01 ((s.rising port r).helloOf port)).port port =
      (s.risen port r).creditsSent := by
    rw [State.port_sendControl_self hwr, hport]
  have hlone : ((s.rising port r).sendControl port 0x01 ((s.rising port r).helloOf port)).portUsable port = false := by
    have hnone : (s.risen port r).creditsSent.partner = none := rfl
    simp only [State.portUsable, hsent, hnone, Option.any_none, Bool.and_false]
  rw [State.comeUp_eq, State.flush_unusable hlone, hsent]
  exact State.port_setPort_self _ port _ (Tab.wf_put _ _ _ _ hwr)

theorem State.creditSplit_stored (p : Nat) (h : s.objv 0x5208 4 + s.objv 0x5208 5 + s.objv 0x5208 6 = 65280) :
    (s.creditSplit p).1 = [s.objv 0x5208 4, s.objv 0x5208 5, s.objv 0x5208 6] := by
  have hsum : [s.objv 0x5208 4, s.objv 0x5208 5, s.objv 0x5208 6].sum = 65280 := by
    simpa [Nat.add_assoc] using h
  unfold State.creditSplit
  dsimp only
  rw [if_pos hsum]

theorem State.delayKnown_ready (hm : s.mayTrain port = true) (hr : (s.port port).ready = some r) (b : Nat) :
    s.delayKnown port b = (s.setPort port (s.echoed port b)).comeUp port r := by
  unfold State.delayKnown
  dsimp only
  split
  · next h =>
    cases hr.symm.trans h
    exact if_pos hm
  · next h => cases hr.symm.trans h

theorem State.open_of_mayTrain (hm : s.mayTrain port = true) : s.portOpen port = true := by
  simp only [State.mayTrain, Bool.and_eq_true] at hm
  exact hm.1.1

theorem State.down_of_mayTrain (hm : s.mayTrain port = true) : (s.port port).up = false := by
  simp only [State.mayTrain, Bool.and_eq_true, Bool.not_eq_true'] at hm
  exact hm.2

/-- How a row brings a port up that has trained, and with which delay: the answer to its ECHO, or the timeout. -/
def State.upRow (s : State) (port : Nat) (r : Training) (row : Instr) (delay : Nat) : Prop :=
  (∃ body : BitVec 128, row = .echo port true body ∧ (s.port port).echo = some (bits body.toNat 127 96) ∧
      delay = s.echoDelay body.toNat) ∨
    (row = .portTrainingTimeout port r ∧ s.signalOld port ∧ delay = (s.port port).delay)

theorem exec_upRow {a : Training} {row : Instr} {delay : Nat} (hw : Tab.wf Port.down s.ports = true)
    (hm : s.mayTrain port = true) (hr : (s.port port).ready = some a) (h : s.upRow port r row delay) :
    ∃ u : State, exec row s = .next (u.comeUp port a) ∧ Tab.wf Port.down u.ports = true ∧
      (u.port port).delay = delay ∧ u.obj = s.obj := by
  rcases h with ⟨body, rfl, he, rfl⟩ | ⟨rfl, ho, rfl⟩
  · refine ⟨s.setPort port (s.echoed port body.toNat), ?_, Tab.wf_put _ _ _ _ hw, ?_, rfl⟩
    · rw [exec_echo_answer (State.open_of_mayTrain hm) he, State.delayKnown_ready hm hr]
    · rw [State.port_setPort_self s port _ hw]
      rfl
  · exact ⟨s, exec_portTrainingTimeout_ready hm ho hr, hw, rfl, rfl⟩

end Sys2Proof.Machine
end

section
/-! Lanes that make errors (R269, R271, R282): one is left out and tested, and retired at its fourth trigger within an
hour. -/

namespace Sys2Proof

/-! ### What a unit covers -/

variable {u v : UnitId}

theorem UnitId.covers_self (u : UnitId) : u.covers u = true := by simp [UnitId.covers]

/-- A unit covers itself, a part that has no parts, or what lies on its die. -/
theorem UnitId.covers_cases (h : u.covers v = true) :
    u = v ∨ (v.kind ∈ [0x01, 0x07, 0x08] ∧ v.loc = u.loc) ∨
      ((u.kind = 0x0F ∨ u.kind = 0x10) ∧ (v.loc = u.loc ∨ 20 ≤ v.loc)) := by
  unfold UnitId.covers at h
  rcases Bool.or_eq_true _ _ |>.mp h with h | h
  · exact .inl (of_decide_eq_true h)
  · split at h
    case h_6 => cases h
    all_goals simp_all
    tauto

theorem UnitId.eq_of_covers_of_part (hk : u.kind ∈ [0x01, 0x07, 0x08]) (h : u.covers v = true) : u = v := by
  unfold UnitId.covers at h
  rcases Bool.or_eq_true _ _ |>.mp h with h | h
  · exact of_decide_eq_true h
  · split at h <;> simp_all

theorem UnitId.covers_of_die (hk : u.kind = 0x0F ∨ u.kind = 0x10) (h : v.loc = u.loc) : u.covers v = true := by
  unfold UnitId.covers
  rcases hk with hk | hk <;> simp [hk, h]

/-- What covers a unit covers its parts, where these lie on a logic die. -/
theorem UnitId.covers_trans {a b c : UnitId} (hc : c.loc < 20) (hab : a.covers b = true) (hbc : b.covers c = true) :
    a.covers c = true := by
  have hloc : c.loc = b.loc := by
    rcases UnitId.covers_cases hbc with rfl | ⟨-, h⟩ | ⟨-, h⟩
    · rfl
    · exact h
    · exact h.resolve_right (by omega)
  rcases UnitId.covers_cases hab with rfl | ⟨hk, -⟩ | ⟨hk, h⟩
  · exact hbc
  · exact UnitId.eq_of_covers_of_part hk hbc ▸ hab
  · exact UnitId.covers_of_die hk (hloc.trans (h.resolve_right (by omega)))

end Sys2Proof

namespace Sys2Proof.Machine

variable {s t : State} {port : Nat} {u v : UnitId}

/-! ### The deadwood list grows -/

theorem State.retired_of_mem {d : Dead} (hd : d ∈ s.recorder.dead) (hc : d.unit.covers v = true) :
    s.retired v = true := List.any_eq_true.mpr ⟨d, hd, hc⟩

/-- A unit that enters the list displaces the entries it covers. -/
theorem State.addDead_dead (hu : s.retired u = false) (seq : Nat) :
    ∃ time, (s.addDead u seq).recorder.dead =
      (s.recorder.dead.filter fun d => !u.covers d.unit) ++ [⟨u, time, seq⟩] := by
  unfold State.addDead
  rw [if_neg (by simp [hu])]
  dsimp only
  split
  · exact ⟨_, rfl⟩
  · exact ⟨_, State.recordEvent_dead _ _⟩

theorem State.retired_addDead_self (s : State) (u : UnitId) (seq : Nat) : (s.addDead u seq).retired u = true := by
  by_cases hu : s.retired u = true
  · unfold State.addDead
    rwa [if_pos hu]
  · obtain ⟨time, hdead⟩ := State.addDead_dead (Bool.eq_false_iff.mpr hu) seq
    exact State.retired_of_mem (d := ⟨u, time, seq⟩) (by simp [hdead]) u.covers_self

theorem State.retired_addDead (hv : v.loc < 20) (h : s.retired v = true) (u : UnitId) (seq : Nat) :
    (s.addDead u seq).retired v = true := by
  by_cases hu : s.retired u = true
  · unfold State.addDead
    rwa [if_pos hu]
  · obtain ⟨time, hdead⟩ := State.addDead_dead (Bool.eq_false_iff.mpr hu) seq
    obtain ⟨d, hd, hcov⟩ := List.any_eq_true.mp h
    by_cases hud : u.covers d.unit = true
    · exact State.retired_of_mem (d := ⟨u, time, seq⟩) (by simp [hdead]) (UnitId.covers_trans hv hud hcov)
    · exact State.retired_of_mem (d := d) (by simp [hdead, hd, hud]) hcov

theorem State.retired_makeRoom (hv : v.loc < 20) (n : Nat) (s : State) (h : s.retired v = true) (u : UnitId)
    (seq : Nat) : (State.makeRoom n s u seq).retired v = true := by
  induction n generalizing s with
  | zero => exact h
  | succ n ih =>
    unfold State.makeRoom
    split
    · exact h
    · exact ih _ (State.retired_addDead hv h _ _)

theorem State.retired_retire_self (s : State) (u : UnitId) (e : EventIn) : (s.retire u e).retired u = true :=
  State.retired_addDead_self _ _ _

theorem State.retired_retire (hv : v.loc < 20) (h : s.retired v = true) (u : UnitId) (e : EventIn) :
    (s.retire u e).retired v = true :=
  State.retired_addDead hv (State.retired_makeRoom hv _ _ (by simpa using h) _ _) _ _

theorem State.dropLaneTests_retired (s : State) (v : UnitId) : s.dropLaneTests.retired v = s.retired v := rfl

/-- Traffic that takes other ports retires nothing. -/
theorem State.moveTraffic_retired (s : State) (p : Nat) (v : UnitId) : (s.moveTraffic p).retired v = s.retired v := by
  have hdown : (s.portDown p).retired v = s.retired v := rfl
  unfold State.moveTraffic
  dsimp only
  exact (((State.relayed_forwardAll id (fun t _ => t.now) _ (s.portDown p)).trans
    (State.relayed_retryWaiting _)).retired v).trans hdown

theorem State.retired_checkPort (hv : v.loc < 20) (h : s.retired v = true) (p : Nat) :
    (s.checkPort p).retired v = true := by
  unfold State.checkPort
  split
  · exact h
  · rw [State.dropLaneTests_retired, State.moveTraffic_retired]
    exact State.retired_retire hv h _ _

/-! ### A port narrows -/

/-- The change by which a port leaves out a lane. -/
def State.withoutLane (s : State) (p l : Nat) : LaneChange :=
  ⟨(s.port p).maskAhead - 2 ^ l, s.cwTotal p + 256, false⟩

theorem State.narrow_keeps (s : State) (p l : Nat) (test : Bool) :
    (s.narrow p l test).recorder = s.recorder ∧ (s.narrow p l test).obj = s.obj := by
  unfold State.narrow
  dsimp only
  split <;> exact ⟨rfl, rfl⟩

theorem State.narrow_retired (s : State) (p l : Nat) (test : Bool) (v : UnitId) :
    (s.narrow p l test).retired v = s.retired v := by
  rw [State.retired, (s.narrow_keeps p l test).1, State.retired]

/-- What it asks its partner for changes no more of the port than the changes under way. -/
theorem State.askLanes_port (hw : Tab.wf Port.down s.ports = true) (p mask : Nat) (test : Bool) :
    (s.askLanes p mask test).port p = Port.creditsSent { s.port p with
      changes := (s.port p).changes ++ [⟨mask, s.cwTotal p + 256, false⟩] } := by
  unfold State.askLanes
  dsimp only
  rw [State.port_sendControl_self (Tab.wf_put _ _ _ _ hw), State.port_setPort_self s p _ hw]

theorem State.narrow_port (hw : Tab.wf Port.down s.ports = true) (p l : Nat) (test : Bool) :
    ((s.narrow p l test).port p).up = (s.port p).up ∧ ((s.narrow p l test).port p).mask = (s.port p).mask := by
  unfold State.narrow
  dsimp only
  split
  · rw [State.askLanes_port hw]
    exact ⟨rfl, rfl⟩
  · exact ⟨rfl, rfl⟩

theorem State.narrow_changes (hw : Tab.wf Port.down s.ports = true) (p l : Nat) (test : Bool)
    (hup : s.portUp p = true) (hl : (s.port p).maskAhead.testBit l = true) :
    ((s.narrow p l test).port p).changes = (s.port p).changes ++ [s.withoutLane p l] := by
  unfold State.narrow
  dsimp only
  rw [if_pos (by simp [hup, hl]), State.askLanes_port hw]
  rfl

theorem State.retired_retireLane {p : Nat} (hp : p < 24) (s : State) (l : Nat) :
    (s.retireLane p l).retired (.lane p l) = true := by
  have hloc : (UnitId.lane p l).loc < 20 := show 8 + p / 3 < 20 by omega
  unfold State.retireLane
  split
  · assumption
  · dsimp only
    rw [State.narrow_retired]
    refine State.retired_checkPort hloc ?_ p
    rw [State.dropLaneTests_retired]
    exact State.retired_retire_self _ _ _

/-! ### The test of a lane waits until the lane is left out -/

theorem exists_joined_mem_addTest (l : List Test) (x : Test) : ∃ j, { x with joined := j } ∈ addTest l x := by
  unfold addTest
  dsimp only
  split
  · exact ⟨true, by simp⟩
  · exact ⟨x.joined, by simp⟩

/-- A list built up element by element keeps an element that each step leaves as it is. -/
theorem mem_foldl_concat {α : Type} {g : List α → α → α} {x : α} (hg : ∀ acc, g acc x = x) {l : List α} (acc : List α)
    (h : x ∈ acc ∨ x ∈ l) : x ∈ l.foldl (fun acc y => acc ++ [g acc y]) acc := by
  induction l generalizing acc with
  | nil => exact h.resolve_right List.not_mem_nil
  | cons y l ih =>
    refine ih _ ?_
    rcases h with h | h
    · exact .inl (List.mem_append_left _ h)
    · rcases List.mem_cons.mp h with rfl | h
      · exact .inl (by simp [hg])
      · exact .inr h

theorem mem_startTests {free : UnitId → Bool} {l : List Test} {x : Test} (hx : x ∈ l) (hf : free x.unit = false) :
    x ∈ Machine.startTests free l := by
  unfold Machine.startTests
  exact mem_foldl_concat (g := fun acc y =>
    if y.running || y.joined || ((l ++ acc).any fun z => z.running && sameBench z.unit y.unit) || !free y.unit then y
    else { y with running := true }) (fun acc => if_pos (by simp [hf])) [] (.inr hx)

theorem State.mem_askTest (x : Test) (hf : s.laneFree x.unit = false) :
    ∃ j, { x with joined := j } ∈ (s.askTest x).recorder.tests := by
  obtain ⟨j, hj⟩ := exists_joined_mem_addTest s.recorder.tests x
  exact ⟨j, mem_startTests hj hf⟩

theorem State.laneFree_inUse {p l : Nat} (hup : s.portUp p = true) (hl : (s.port p).mask.testBit l = true) :
    s.laneFree (.lane p l) = false := by
  simp [State.laneFree, UnitId.lane, hup, hl]

theorem State.portUp_congr {p : Nat} (ho : t.objv 0x5202 (p + 1) = s.objv 0x5202 (p + 1))
    (hup : (t.port p).up = (s.port p).up) (hr : t.recorder = s.recorder) : t.portUp p = s.portUp p := by
  simp only [State.portUp, State.retired, ho, hup, hr]

/-! ### Counters -/

theorem State.objv_bump_ne {i b j c : Nat} (n : Nat) (h : objKey j c ≠ objKey i b) :
    (s.bump i b n).objv j c = s.objv j c := by
  unfold State.bump
  split
  · rfl
  · exact State.objv_setObj_ne s i b j c _ h

theorem State.objv_bump_self (i b n : Nat) (hw : Tab.wf none s.obj = true) :
    (s.bump i b n).objv i b = s.objv i b + n := by
  unfold State.bump
  split
  · next h => rw [h, Nat.add_zero]
  · exact State.objv_setObj_self s i b _ hw

theorem State.wf_obj_bump (i b n : Nat) (hw : Tab.wf none s.obj = true) : Tab.wf none (s.bump i b n).obj = true := by
  unfold State.bump
  split
  · exact hw
  · exact State.wf_obj_setObj i b _ hw

theorem State.bump_zero (i b : Nat) : s.bump i b 0 = s := if_pos rfl

/-! ### LANE_ERROR_TRIGGER -/

variable {e : LaneErrors}

/-- The device that has counted what a lane reports. -/
def State.errorsCounted (s : State) (port : Nat) (e : LaneErrors) : State :=
  (s.bump 0x7500 (49 + port) e.symbols).bump 0x7500 (73 + port) (b2n e.worst)

/-- The triggers of a lane within the last hour, with one now. -/
def State.triggersNow (s : State) (port lane : Nat) : List Nat :=
  ((Tab.get [] (s.port port).triggers lane).filter fun t => decide (s.now < t + 3600000000000)) ++ [s.now]

/-- The device that has noted a trigger of a lane. -/
def State.triggered (s : State) (port : Nat) (e : LaneErrors) : State :=
  let t := s.errorsCounted port e
  t.setPort port { t.port port with
    triggers := Tab.put [] (t.port port).triggers e.lane (t.triggersNow port e.lane) }

/-- The device whose port has been narrowed to leave the lane out. -/
def State.laneLeft (s : State) (port : Nat) (e : LaneErrors) : State :=
  (s.triggered port e).narrow port e.lane true

theorem State.errorsCounted_port (s : State) (port : Nat) (e : LaneErrors) (q : Nat) :
    (s.errorsCounted port e).port q = s.port q := by
  rw [State.errorsCounted, State.port_bump, State.port_bump]

theorem State.errorsCounted_now (s : State) (port : Nat) (e : LaneErrors) : (s.errorsCounted port e).now = s.now := by
  rw [State.errorsCounted, State.bump_now, State.bump_now]

theorem State.errorsCounted_ports (s : State) (port : Nat) (e : LaneErrors) :
    (s.errorsCounted port e).ports = s.ports := by
  rw [State.errorsCounted, State.bump_ports, State.bump_ports]

theorem State.errorsCounted_recorder (s : State) (port : Nat) (e : LaneErrors) :
    (s.errorsCounted port e).recorder = s.recorder := by
  rw [State.errorsCounted, State.bump_recorder, State.bump_recorder]

theorem State.errorsCounted_objv (s : State) (port : Nat) (e : LaneErrors) {i b : Nat}
    (h : objKey i b < objKey 0x7500 49) : (s.errorsCounted port e).objv i b = s.objv i b := by
  unfold objKey at h
  rw [State.errorsCounted, State.objv_bump_ne _ (by unfold objKey; omega),
    State.objv_bump_ne _ (by unfold objKey; omega)]

theorem State.errorsCounted_worst (hw : Tab.wf none s.obj = true) (port : Nat) (e : LaneErrors) :
    (s.errorsCounted port e).objv 0x7500 (73 + port) = s.objv 0x7500 (73 + port) + b2n e.worst := by
  rw [State.errorsCounted, State.objv_bump_self _ _ _ (State.wf_obj_bump _ _ _ hw),
    State.objv_bump_ne _ (by unfold objKey; omega)]

theorem State.errorsCounted_triggers (s : State) (port : Nat) (e : LaneErrors) (lane : Nat) :
    (s.errorsCounted port e).triggersNow port lane = s.triggersNow port lane := by
  rw [State.triggersNow, State.errorsCounted_port, State.errorsCounted_now, State.triggersNow]

/-- A lane in use that reports errors: below its limit they are counted, above it the lane is left out, and tested or
retired. -/
theorem exec_laneErrorTrigger_inUse (hup : s.portUp port = true) (hl : e.lane < 8)
    (hm : (s.port port).mask.testBit e.lane = true) (hr : s.retired (.lane port e.lane) = false) :
    exec (.laneErrorTrigger port e) s = .next
      (if e.worst = false ∧ e.symbols ≤ s.objv 0x5209 1 then s.errorsCounted port e
      else if 4 ≤ (s.triggersNow port e.lane).length then (s.laneLeft port e).retireLane port e.lane
      else (s.laneLeft port e).askTest ⟨.lane port e.lane, none, 0, false, 0x4001, false⟩) := by
  have hlimit : (s.errorsCounted port e).objv 0x5209 1 = s.objv 0x5209 1 :=
    s.errorsCounted_objv port e (by unfold objKey; omega)
  show execLaneErrorTrigger port e s = _
  unfold execLaneErrorTrigger
  dsimp only
  rw [if_pos (by simp [hup, hl, hm, hr])]
  rw [← s.errorsCounted_triggers port e, ← hlimit]
  by_cases hq : e.worst = false ∧ e.symbols ≤ (s.errorsCounted port e).objv 0x5209 1
  · rw [if_pos hq]
    exact if_pos (by simpa [State.errorsCounted] using hq)
  · rw [if_neg hq]
    exact if_neg (by simpa [State.errorsCounted] using hq)

theorem State.wf_triggered (hw : Tab.wf Port.down s.ports = true) (port : Nat) (e : LaneErrors) :
    Tab.wf Port.down (s.triggered port e).ports = true := by
  refine Tab.wf_put _ _ _ _ ?_
  rw [State.errorsCounted_ports]
  exact hw

theorem State.triggered_port (hw : Tab.wf Port.down s.ports = true) (port : Nat) (e : LaneErrors) :
    ∃ l, (s.triggered port e).port port = { s.port port with triggers := l } := by
  have hwc : Tab.wf Port.down (s.errorsCounted port e).ports = true := by
    rw [State.errorsCounted_ports]
    exact hw
  refine ⟨Tab.put [] (s.port port).triggers e.lane (s.triggersNow port e.lane), ?_⟩
  unfold State.triggered
  dsimp only
  rw [State.port_setPort_self _ port _ hwc, State.errorsCounted_port, State.errorsCounted_triggers]

theorem State.triggered_portUp (hw : Tab.wf Port.down s.ports = true) (port : Nat) (e : LaneErrors) (hp : port < 24) :
    (s.triggered port e).portUp port = s.portUp port := by
  obtain ⟨l, hl⟩ := State.triggered_port hw port e
  exact State.portUp_congr (s.errorsCounted_objv port e (by unfold objKey; omega)) (by rw [hl])
    (s.errorsCounted_recorder port e)

/-- A lane that has been left out is in use until its change is in force. -/
theorem State.laneLeft_inUse (hw : Tab.wf Port.down s.ports = true) (hp : port < 24) (hup : s.portUp port = true)
    (hm : (s.port port).mask.testBit e.lane = true) : (s.laneLeft port e).laneFree (.lane port e.lane) = false := by
  obtain ⟨l, hl⟩ := State.triggered_port hw port e
  obtain ⟨hnup, hnmask⟩ := State.narrow_port (State.wf_triggered hw port e) port e.lane true
  obtain ⟨hnrec, hnobj⟩ := (s.triggered port e).narrow_keeps port e.lane true
  refine State.laneFree_inUse ?_ ?_
  · refine (State.portUp_congr (s := s.triggered port e) ?_ hnup hnrec).trans
      ((State.triggered_portUp hw port e hp).trans hup)
    rw [State.objv, hnobj, State.objv]
  · rw [State.laneLeft, hnmask, hl]
    exact hm

theorem State.laneLeft_changes (hw : Tab.wf Port.down s.ports = true) (hp : port < 24) (hup : s.portUp port = true)
    (hm : (s.port port).maskAhead.testBit e.lane = true) :
    ((s.laneLeft port e).port port).changes = (s.port port).changes ++ [s.withoutLane port e.lane] := by
  obtain ⟨l, hl⟩ := State.triggered_port hw port e
  have hnow : (s.triggered port e).now = s.now := s.errorsCounted_now port e
  have hchange : (s.triggered port e).withoutLane port e.lane = s.withoutLane port e.lane := by
    simp only [State.withoutLane, State.cwTotal, hl, hnow, Port.maskAhead]
  have hport := State.narrow_changes (State.wf_triggered hw port e) port e.lane true
    ((State.triggered_portUp hw port e hp).trans hup) (by rw [hl]; exact hm)
  rw [State.laneLeft, hport, hchange, hl]

theorem State.laneLeft_objv (s : State) (port : Nat) (e : LaneErrors) (i b : Nat) :
    (s.laneLeft port e).objv i b = (s.errorsCounted port e).objv i b := by
  have hobj : (s.laneLeft port e).obj = (s.errorsCounted port e).obj :=
    ((s.triggered port e).narrow_keeps port e.lane true).2
  rw [State.objv, hobj, State.objv]

theorem State.lt_of_portUp (h : s.portUp port = true) : port < 24 := by
  simp only [State.portUp, Bool.and_eq_true, decide_eq_true_eq] at h
  exact h.1.1.1

/-- A lane over its limit is retired at its fourth trigger within the hour, and tested before. -/
theorem exec_laneErrorTrigger_left (hs : s.tabsOk = true) (hup : s.portUp port = true) (hl : e.lane < 8)
    (hm : (s.port port).mask.testBit e.lane = true) (hr : s.retired (.lane port e.lane) = false)
    (hbad : e.worst = true ∨ s.objv 0x5209 1 < e.symbols) :
    ∃ t, exec (.laneErrorTrigger port e) s = .next t ∧
      (4 ≤ (s.triggersNow port e.lane).length → t.retired (.lane port e.lane) = true) ∧
      ((s.triggersNow port e.lane).length < 4 →
        (∃ j, ⟨.lane port e.lane, none, 0, false, 0x4001, j⟩ ∈ t.recorder.tests) ∧
        t.objv 0x7500 (73 + port) = s.objv 0x7500 (73 + port) + b2n e.worst ∧
        ((s.port port).maskAhead.testBit e.lane = true →
          (t.port port).changes = (s.port port).changes ++ [s.withoutLane port e.lane])) := by
  have hw := State.wf_ports hs
  have hp := State.lt_of_portUp hup
  refine ⟨_, exec_laneErrorTrigger_inUse hup hl hm hr, fun h4 => ?_, fun h4 => ?_⟩ <;>
    rw [if_neg (by rcases hbad with h | h <;> simp [h])]
  · rw [if_pos h4]
    exact State.retired_retireLane hp _ _
  · rw [if_neg (by omega)]
    refine ⟨State.mem_askTest _ (State.laneLeft_inUse hw hp hup hm), ?_, State.laneLeft_changes hw hp hup⟩
    exact (s.laneLeft_objv port e _ _).trans (State.errorsCounted_worst (State.wf_obj hs) port e)

/-- Settles O45: a port that may train asks ECHO and comes up at its answer, and a lane over its limit is left out. -/
theorem portsTrainAndNarrow : Obligations.PortsTrainAndNarrow := by
  intro s port g1 g2 hs
  have hw := State.wf_ports hs
  refine ⟨?training, ?errors⟩
  case' training =>
    intro lanes m x now old
    refine ⟨fun hm => ⟨?asks, ?waits, ?putsOff, ?up⟩, ?barred⟩
  case' errors =>
    intro lane symbols worst hup hl hmask hr x l
    refine ⟨?counted, ?left⟩
  case asks =>
    intro row hready hrow
    have hdown := State.down_of_mayTrain hm
    rcases hrow with ⟨rfl, hall, ht⟩ | ⟨rfl, h4, ho⟩
    · obtain ⟨hstays, hecho, hr, hout⟩ := State.measure_asks (s := s.detected port) (port := port)
        (Tab.wf_put _ _ _ _ hw) (by rw [State.detected_port hw]; exact hdown)
        ⟨s.trainedLanes port ⟨lanes, g1, g2⟩, g1, g2⟩
      exact ⟨_, (exec_portTraining_trains hm hready ht).trans (congrArg _ (if_pos hall)), hstays, hecho,
        ⟨_, hr, State.toNat_trainedLanes _ _ _, rfl, rfl⟩, hout⟩
    · obtain ⟨l, hport⟩ := State.countFailed_port (port := port) hw m
      obtain ⟨hstays, hecho, hr, hout⟩ := State.measure_asks (s := s.countFailed port m) (port := port)
        (Tab.wf_put _ _ _ _ hw) (by rw [hport]; exact hdown) ⟨s.trainedLanes port ⟨lanes, g1, g2⟩, g1, g2⟩
      exact ⟨_, (exec_portTrainingTimeout_unready hm ho hready).trans (congrArg _ (if_pos h4)), hstays, hecho,
        ⟨_, hr, State.toNat_trainedLanes _ _ _, rfl, rfl⟩, hout⟩
  case waits =>
    intro hready hne ht
    refine ⟨_, (exec_portTraining_trains hm hready ht).trans (congrArg _ (if_neg hne)), ?_⟩
    rw [State.detected_port hw]
    exact ⟨State.down_of_mayTrain hm, rfl, fun q hq => State.port_setPort_ne s port q _ hq⟩
  case putsOff =>
    intro hready hfew ho
    obtain ⟨l, hport⟩ := State.putOff_port (port := port) hw m
    refine ⟨_, (exec_portTrainingTimeout_unready hm ho hready).trans
      (congrArg _ (if_neg (Nat.not_le.mpr hfew))), ?_⟩
    rw [hport]
    exact ⟨State.down_of_mayTrain hm, rfl, State.putOff_others m⟩
  case up =>
    intro r hready row delay hrow
    obtain ⟨u, hexec, hwu, hdelay, hobj⟩ := exec_upRow (r := ⟨lanes, g1, g2⟩) hw hm hready hrow
    refine ⟨_, hexec, ?_⟩
    rw [State.comeUp_port hwu]
    refine ⟨rfl, rfl, hdelay, rfl, rfl, fun hsum => ?_⟩
    have hobjv : ∀ b, u.objv 0x5208 b = s.objv 0x5208 b := fun b => by rw [State.objv, hobj, State.objv]
    rw [← hobjv, ← hobjv, ← hobjv] at hsum ⊢
    exact State.creditSplit_stored port hsum
  case barred =>
    exact fun hm => ⟨exec_portTraining_barred hm, exec_portTrainingTimeout_barred hm⟩
  case counted =>
    intro hworst hle
    subst hworst
    refine (exec_laneErrorTrigger_inUse (e := ⟨lane, symbols, false⟩) hup hl hmask hr).trans ?_
    rw [if_pos ⟨rfl, hle⟩]
    exact congrArg Host.Outcome.next (State.bump_zero _ _)
  case left => exact exec_laneErrorTrigger_left (e := ⟨lane, symbols, worst⟩) hs hup hl hmask hr

end Sys2Proof.Machine
end

section
/-! Collectives (R287 to R301): a row's step on a collective that has begun, the landing of a pass, and the match that
lets a released collective begin. -/

namespace Sys2Proof.Machine

variable {s : State} {id : CmdId} {c : Cmd} {x : Coll}

/-- A row's step on a collective that has begun, whose adders, objects and group record are there, is the step. -/
theorem State.runColl_ready {p : Desc → Bool} (f : State → Cmd → Coll → State × Option Status)
    (h : s.collReady id p c x) (hlost : s.groupLost c.desc = false) (hgone : s.collGone c.desc = false) :
    s.runColl id p f = State.ended (f s c x) id := by
  obtain ⟨hrun, hcoll, hbegun⟩ := h
  simp only [State.runColl, hrun, hcoll, hbegun, hgone, hlost, State.ended]
  rcases f s c x with ⟨t, _ | st⟩ <;> rfl

/-- The data of a pass's next step, once it may land, goes into the step's slot with its tag, and LAND_OBJ is
signalled (R297, R298). -/
theorem exec_collPassLanding_lands {l : List Byte} (h : s.collReady id (isOp 0xC2) c x)
    (hlost : s.groupLost c.desc = false) (hgone : s.collGone c.desc = false)
    (hstep : x.step < (passBody c.desc).steps) (hmay : s.mayLand c x (passBody c.desc) = true)
    (hdata : x.stepData (passBody c.desc).recv x.step = some l) :
    exec (.collPassLanding id x.step) s = .next (s.landStep c x (passBody c.desc) l) := by
  refine congrArg Host.Outcome.next ((State.runColl_ready _ h hlost hgone).trans ?_)
  simp [hstep, hmay, hdata, State.ended]

/-- A released collective that has not begun begins, and sends its first data (R287). -/
theorem exec_collectiveMatch_begins (hrun : s.runnable id isCollective = some c) (hcoll : s.collOf id = some x)
    (hnew : x.begun = false) :
    exec (.collectiveMatch id) s =
      .next (State.ended ((s.setColl { x with begun := true }).collStart c) id) := by
  change execCollectiveMatch id s = _
  simp only [execCollectiveMatch, hrun, hcoll, hnew, State.ended]
  rcases (s.setColl { x with begun := true }).collStart c with ⟨t, _ | st⟩ <;> rfl

/-- Settles O30: each row of a collective that has begun is the step of its kind; a landing and a match do their work
once nothing holds them back. -/
theorem collectivesStep : Obligations.CollectivesStep := by
  intro s id c x hlost hgone
  refine ⟨?step, ?landing, exec_collectiveMatch_begins⟩
  case step =>
    rintro row p f (⟨rfl, rfl, rfl⟩ | ⟨rfl, rfl, rfl⟩ | ⟨rfl, rfl, rfl⟩ | ⟨rfl, rfl, rfl⟩ | ⟨rfl, rfl, rfl⟩ |
      ⟨rfl, rfl, rfl⟩) h <;>
      exact congrArg Host.Outcome.next (State.runColl_ready _ h hlost hgone)
  case landing =>
    intro l h hstep hmay hdata
    obtain rfl := State.id_of_findCmd (State.findCmd_of_runnable h.1)
    exact exec_collPassLanding_lands h hlost hgone hstep hmay hdata

end Sys2Proof.Machine
end

section
/-! Generation sequences (R302, R303): what a GEN_SEQ row meets at its slot, and its work on it. -/

namespace Sys2Proof.Machine

variable {s : State} {id : CmdId} {c : Cmd} {op : Nat}

/-! ### A command that took its turn -/

@[simp] theorem State.seqSlot_took (k : Nat) : (s.took c).seqSlot k = s.seqSlot k :=
  State.took_reads (·.seqSlot k) fun _ => rfl

@[simp] theorem State.seqBusy_took (d : Cmd) : (s.took c).seqBusy d = s.seqBusy d :=
  State.took_reads (·.seqBusy d) fun _ => rfl

@[simp] theorem State.seqAddr_took (x : SeqSlot) (n : Nat) : (s.took c).seqAddr x n = s.seqAddr x n :=
  State.took_reads (·.seqAddr x n) fun _ => rfl

@[simp] theorem State.seqExtents_took (x : SeqSlot) (first n : Nat) :
    (s.took c).seqExtents x first n = s.seqExtents x first n :=
  State.took_reads (·.seqExtents x first n) fun _ => rfl

@[simp] theorem State.seqChecks_took (ctx : Nat) (x : SeqSlot) (first n limit core : Nat) :
    (s.took c).seqChecks ctx x first n limit core = s.seqChecks ctx x first n limit core :=
  State.took_reads (·.seqChecks ctx x first n limit core) fun _ => rfl

@[simp] theorem State.get_took (p : Place) (a n : Nat) : (s.took c).get p a n = s.get p a n :=
  State.took_reads (·.get p a n) fun _ => rfl

@[simp] theorem State.devRead_took (a n : Nat) : (s.took c).devRead a n = s.devRead a n :=
  State.took_reads (·.devRead a n) fun _ => rfl

/-! ### The slot -/

/-- A command's turn on its slot has come: it is ready at its row, and no earlier command on the slot has work left. -/
def State.seqReady (s : State) (id : CmdId) (op : Nat) (c : Cmd) : Prop :=
  s.readyAt id (seqOp op) (fun _ _ => []) c ∧ s.seqBusy c = false

/-- APPEND, READ and CLOSE on a slot that is not open end with INVALID. -/
theorem State.runSeq_shut (f : State → Cmd → SeqSlot → State × Status) (h : s.seqReady id op c) (hop : op ≠ 0)
    (hx : (s.seqSlot (seqOf c.desc)).opened = false) : s.runSeq id op f = (s.took c).finish id .invalid := by
  refine (State.workOn_ready _ h.1).trans ?_
  simp [h.2, hx, hop, State.ended]

/-- On another context's slot every OP ends with ACCESS_DENIED. -/
theorem State.runSeq_foreign (f : State → Cmd → SeqSlot → State × Status) (h : s.seqReady id op c)
    (hx : (s.seqSlot (seqOf c.desc)).opened = true) (hctx : (s.seqSlot (seqOf c.desc)).ctx ≠ id.ctx) :
    s.runSeq id op f = (s.took c).finish id .accessDenied := by
  refine (State.workOn_ready _ h.1).trans ?_
  simp [h.2, hx, hctx, State.ended]

/-- An OPEN of a slot that is not open does its work. -/
theorem State.runSeq_free (f : State → Cmd → SeqSlot → State × Status) (h : s.seqReady id 0 c)
    (hx : (s.seqSlot (seqOf c.desc)).opened = false) :
    s.runSeq id 0 f =
      let r := f (s.took c) c (s.seqSlot (seqOf c.desc))
      r.1.finish id r.2 := by
  refine (State.workOn_ready _ h.1).trans ?_
  simp [h.2, hx, State.ended]

/-- On the own context's open slot every OP does its work. -/
theorem State.runSeq_own (f : State → Cmd → SeqSlot → State × Status) (h : s.seqReady id op c)
    (hx : (s.seqSlot (seqOf c.desc)).opened = true) (hctx : (s.seqSlot (seqOf c.desc)).ctx = id.ctx) :
    s.runSeq id op f =
      let r := f (s.took c) c (s.seqSlot (seqOf c.desc))
      r.1.finish id r.2 := by
  refine (State.workOn_ready _ h.1).trans ?_
  simp [h.2, hx, hctx, State.ended]

/-! ### The rows -/

/-- The row of each OP of GEN_SEQ. -/
def seqInstrs (id : CmdId) : List (Nat × Instr) :=
  [(0, .genSeqOpen id), (1, .genSeqAppend id), (2, .genSeqRead id), (3, .genSeqClose id)]

/-- Every row of GEN_SEQ is a piece of work in dispatch order on its slot. -/
theorem exec_seqInstrs {row : Instr} (h : (op, row) ∈ seqInstrs id) :
    ∃ f, exec row s = .next (s.runSeq id op f) := by
  simp only [seqInstrs, List.mem_cons, Prod.mk.injEq, List.not_mem_nil, or_false] at h
  rcases h with ⟨rfl, rfl⟩ | ⟨rfl, rfl⟩ | ⟨rfl, rfl⟩ | ⟨rfl, rfl⟩ <;> exact ⟨_, rfl⟩

theorem exec_genSeqOpen_free (h : s.seqReady id 0 c) (hx : (s.seqSlot (seqOf c.desc)).opened = false) :
    exec (.genSeqOpen id) s = .next (((s.took c).setSeq (seqOf c.desc) ⟨true, id.ctx, 0, fld c.desc 297 258,
      32 * (fld c.desc 257 251 + 1), fld c.desc 385 338⟩).finish id .ok) := by
  refine congrArg Host.Outcome.next ((State.runSeq_free _ h hx).trans ?_)
  simp [hx]

section
variable (hx : (s.seqSlot (seqOf c.desc)).opened = true) (hctx : (s.seqSlot (seqOf c.desc)).ctx = id.ctx)
include hx hctx

theorem exec_genSeqOpen_busy (h : s.seqReady id 0 c) :
    exec (.genSeqOpen id) s = .next ((s.took c).finish id .busy) := by
  refine congrArg Host.Outcome.next ((State.runSeq_own _ h hx hctx).trans ?_)
  simp [hx]

/-- An APPEND that memory serves copies its rows from the core, and POSITION grows by them. -/
theorem exec_genSeqAppend_clean (h : s.seqReady id 1 c) :
    let d := c.desc
    let x := s.seqSlot (seqOf d)
    let n := seqRows d
    let k := coreOf (fld d 198 192)
    s.regionsBad [x.entries x.pos n] = false →
    (s.seqChecks id.ctx x x.pos n x.limit (seqCore d)).first false = none →
    s.regionsWriteBad (s.seqExtents x x.pos n) = false →
    exec (.genSeqAppend id) s = .next ((((List.range n).foldl (fun (t : State) i => t.devWrite (s.seqAddr x (x.pos + i))
      (s.get (.core k) (seqCore d + i * x.row) x.row)) (s.took c)).setSeq (seqOf d)
        { x with pos := x.pos + n }).finish id .ok) := by
  intro d x n k hpages hchk hw
  refine congrArg Host.Outcome.next ((State.runSeq_own _ h hx hctx).trans ?_)
  have hclean : s.regionsBad [] = false := rfl
  simp [hpages, hchk, hw, hclean, State.withPoison_clean, d, x, n, k]

/-- A READ that memory serves copies its rows to the core. -/
theorem exec_genSeqRead_clean (h : s.seqReady id 2 c) :
    let d := c.desc
    let x := s.seqSlot (seqOf d)
    let n := seqRows d
    let k := coreOf (fld d 198 192)
    s.regionsBad [x.entries (seqFrom d) n] = false →
    (s.seqChecks id.ctx x (seqFrom d) n x.pos (seqCore d)).first false = none →
    s.regionsBad (s.seqExtents x (seqFrom d) n) = false →
    s.regionsWriteBad [.flat (.core k) (seqCore d) (n * x.row)] = false →
    exec (.genSeqRead id) s = .next (((List.range n).foldl (fun (t : State) i =>
      t.set (.core k) (seqCore d + i * x.row) (s.devRead (s.seqAddr x (seqFrom d + i)) x.row)) (s.took c)).finish
        id .ok) := by
  intro d x n k hpages hchk hr hw
  refine congrArg Host.Outcome.next ((State.runSeq_own _ h hx hctx).trans ?_)
  simp [hpages, hchk, hr, hw, State.withPoison_clean, d, x, n, k]

theorem exec_genSeqClose_own (h : s.seqReady id 3 c) :
    exec (.genSeqClose id) s = .next (((s.took c).setSeq (seqOf c.desc) SeqSlot.unused).finish id .ok) :=
  congrArg Host.Outcome.next (State.runSeq_own _ h hx hctx)

end

/-- Settles O31: the refusals hold of every OP alike; on a slot it may work on, each row is its own work. -/
theorem genSeqOpensAppendsReadsCloses : Obligations.GenSeqOpensAppendsReadsCloses := by
  intro s id c op row hrow hready hbusy d s1 x n k
  have h : s.seqReady id op c := ⟨hready, hbusy⟩
  obtain ⟨f, hf⟩ := exec_seqInstrs (s := s) hrow
  refine ⟨?opens, fun hop hx => hf.trans (congrArg _ (State.runSeq_shut f h hop hx)),
    fun hx hctx => hf.trans (congrArg _ (State.runSeq_foreign f h hx hctx)),
    fun hx hctx => ⟨?opened, ?append, ?read, ?close⟩⟩
  case opens =>
    rintro rfl hx
    obtain rfl : row = .genSeqOpen id := by simpa using hrow
    exact exec_genSeqOpen_free h hx
  case opened =>
    rintro rfl
    obtain rfl : row = .genSeqOpen id := by simpa using hrow
    exact exec_genSeqOpen_busy hx hctx h
  case append =>
    rintro rfl
    obtain rfl : row = .genSeqAppend id := by simpa using hrow
    exact exec_genSeqAppend_clean hx hctx h
  case read =>
    rintro rfl
    obtain rfl : row = .genSeqRead id := by simpa using hrow
    exact exec_genSeqRead_clean hx hctx h
  case close =>
    rintro rfl
    obtain rfl : row = .genSeqClose id := by simpa using hrow
    exact exec_genSeqClose_own hx hctx h

end Sys2Proof.Machine
end

section
/-! What frames of this device's own leave alone, what the objects and the queues they ring hold after a change, and
what an abort makes of its targets (R308, R317, R326, R327, R333). -/

namespace Sys2Proof.Machine

variable {s t : State}

/-! ### Frames sent -/

theorem State.Relayed.cmds (h : s.Relayed t) : t.cmds = s.cmds := (congrArg State.cmds h.rest :)

theorem State.Relayed.ctxs (h : s.Relayed t) : t.ctxs = s.ctxs := (congrArg State.ctxs h.rest :)

theorem State.Relayed.queues (h : s.Relayed t) : t.queues = s.queues := (congrArg State.queues h.rest :)

theorem State.Relayed.mem (h : s.Relayed t) : t.mem = s.mem := (congrArg State.mem h.rest :)

theorem State.Relayed.host (h : s.Relayed t) : t.host = s.host := (congrArg State.host h.rest :)

theorem State.relayed_cancelPeers (s : State) (c : Cmd) : s.Relayed (s.cancelPeers c) := by
  unfold State.cancelPeers
  split
  · exact .refl s
  · exact foldl_relates State.Relayed.refl State.Relayed.trans (fun t _ => t.relayed_sendFrame _) _ s

theorem State.cancelPeers_of_not_collective {c : Cmd} (h : isCollective c.desc = false) : s.cancelPeers c = s :=
  if_pos (by simp [h])

/-! ### Queues and the objects that ring them -/

/-- A table whose values are all changed by a function that keeps the default reads the changed values. -/
theorem Tab.get_map {α : Type} {d : α} {f : α → α} (hf : f d = d) (t : Tab α) (k : Nat) :
    Tab.get d (t.map fun p => (p.1, f p.2)) k = f (Tab.get d t k) := by
  induction t with
  | nil => exact hf.symm
  | cons p t ih =>
    simp only [List.map_cons, Tab.get, ih]
    split <;> rfl

/-- A queue as an object's new value leaves it: rung where the object is its doorbell. -/
def Queue.rungBy (x : Queue) (o v : Nat) : Queue := if x.dbObj = o then x.ring v else x

theorem Queue.ring_eq (x : Queue) (v : Nat) : x.ring v = { x with producer := (x.ring v).producer } := by
  unfold Queue.ring
  split <;> rfl

theorem Queue.rungBy_eq (x : Queue) (o v : Nat) : x.rungBy o v = { x with producer := (x.rungBy o v).producer } := by
  unfold Queue.rungBy
  split
  · exact x.ring_eq v
  · rfl

theorem Queue.rungBy_of_other {x : Queue} {o : Nat} (h : x.dbKind ≠ 1 ∨ x.dbObj ≠ o) (v : Nat) : x.rungBy o v = x := by
  unfold Queue.rungBy
  split
  · next ho => exact if_neg fun hk => h.elim (absurd hk.1) (absurd ho)
  · rfl

theorem State.queue_setSync (s : State) (o : Nat) (x : SyncObj) (c q : Nat) :
    (s.setSync o x).queue c q = (s.queue c q).rungBy o x.value := by
  have hmap : (s.setSync o x).queues = s.queues.map fun p => (p.1, p.2.rungBy o x.value) := by
    refine List.map_congr_left fun p _ => ?_
    unfold Queue.rungBy
    split <;> rfl
  unfold State.queue
  rw [hmap]
  exact Tab.get_map (f := fun y : Queue => y.rungBy o x.value) (Queue.rungBy_of_other (.inl (by decide)) _) _ _

theorem State.queue_finish (s : State) (id : CmdId) (st : Status) (c q : Nat) :
    (s.finish id st).queue c q = s.queue c q := rfl

/-! ### The targets of an abort -/

/-- A command as an abort of a list of targets leaves it. -/
def Cmd.abortedBy (l : List CmdId) (c : Cmd) : Cmd :=
  if c.id ∉ l then c
  else
    match c.phase with
    | .admitted => { c with phase := .finished .aborted }
    | _ => { c with abortReq := true }

theorem Cmd.abortedBy_admitted {l : List CmdId} {c : Cmd} (hl : c.id ∈ l) (hp : c.phase = .admitted) :
    c.abortedBy l = { c with phase := .finished .aborted } := by
  rw [Cmd.abortedBy, if_neg (not_not.mpr hl), hp]

theorem Cmd.abortedBy_released {l : List CmdId} {c : Cmd} (hl : c.id ∈ l) (hp : c.phase ≠ .admitted) :
    c.abortedBy l = { c with abortReq := true } := by
  rw [Cmd.abortedBy, if_neg (not_not.mpr hl)]
  split
  · next h => exact absurd h hp
  · rfl

/-- The peers of the collectives among an abort's targets that are not released cancelled. -/
def State.targetsCancelled (s : State) (l : List CmdId) : State :=
  (s.cmds.filter fun (c : Cmd) => decide (c.id ∈ l ∧ c.phase = Phase.admitted)).foldl State.cancelPeers s

theorem State.abortTargets_eq (s : State) (l : List CmdId) : s.abortTargets l =
    { s.targetsCancelled l with cmds := (s.targetsCancelled l).cmds.map (Cmd.abortedBy l) } := rfl

theorem State.relayed_targetsCancelled (s : State) (l : List CmdId) : s.Relayed (s.targetsCancelled l) :=
  foldl_relates State.Relayed.refl State.Relayed.trans State.relayed_cancelPeers _ s

theorem State.targetsCancelled_of_no_collective {l : List CmdId}
    (h : ∀ x ∈ s.cmds, x.id ∈ l → x.phase = .admitted → isCollective x.desc = false) : s.targetsCancelled l = s := by
  unfold State.targetsCancelled
  refine List.foldlRecOn (motive := (· = s)) _ _ rfl ?_
  rintro _ rfl c hc
  obtain ⟨hmem, hfit⟩ := List.mem_filter.mp hc
  obtain ⟨hid, hphase⟩ := of_decide_eq_true hfit
  exact State.cancelPeers_of_not_collective (h c hmem hid hphase)

@[simp] theorem State.abortTargets_ctxs (s : State) (l : List CmdId) : (s.abortTargets l).ctxs = s.ctxs :=
  (s.relayed_targetsCancelled l).ctxs

theorem State.abortTargets_cmds (s : State) (l : List CmdId) :
    (s.abortTargets l).cmds = s.cmds.map (Cmd.abortedBy l) := by
  rw [State.abortTargets_eq, (s.relayed_targetsCancelled l).cmds]

theorem State.mem_abortTargets_admitted {l : List CmdId} {c : Cmd} (hc : c ∈ s.cmds) (hl : c.id ∈ l)
    (hp : c.phase = .admitted) : { c with phase := .finished .aborted } ∈ (s.abortTargets l).cmds := by
  rw [State.abortTargets_cmds, ← Cmd.abortedBy_admitted hl hp]
  exact List.mem_map_of_mem hc

theorem State.mem_abortTargets_released {l : List CmdId} {c : Cmd} (hc : c ∈ s.cmds) (hl : c.id ∈ l)
    (hp : c.phase ≠ .admitted) : { c with abortReq := true } ∈ (s.abortTargets l).cmds := by
  rw [State.abortTargets_cmds, ← Cmd.abortedBy_released hl hp]
  exact List.mem_map_of_mem hc

theorem State.mem_abortTargets_other {l : List CmdId} {c : Cmd} (hc : c ∈ s.cmds) (hl : c.id ∉ l) :
    c ∈ (s.abortTargets l).cmds := by
  have hkept : c.abortedBy l = c := if_pos hl
  rw [State.abortTargets_cmds, ← hkept]
  exact List.mem_map_of_mem hc

/-! ### A context that begins to leave -/

theorem State.beginLeave_resident {c : Nat} (hr : s.resident c = true) (hl : (s.ctx c).leaving = false) :
    s.beginLeave c = s.setCtx c { s.ctx c with leaving := true, leaveAt := s.now, drained := false } :=
  if_pos (by simp [hr, hl])

end Sys2Proof.Machine
end

section
/-! The control commands NOP, SYNC_SET, ABORT and CTX_PREEMPT (R327 to R329, R333, R343, R346). -/

namespace Sys2Proof.Machine

variable {s : State} {id : CmdId} {c : Cmd}

/-! ### NOP and SYNC_SET -/

theorem exec_nop_ready (h : s.runnable id (isOp 0x00) = some c) : exec (.nop id) s = .next (s.finish id .ok) :=
  congrArg Host.Outcome.next (State.run_ready _ h)

theorem exec_syncSet_live (h : s.runnable id (isOp 0x02) = some c) (hd : s.syncDead (fld c.desc 207 192) = false) :
    exec (.syncSet id) s =
      .next ((s.setSync (fld c.desc 207 192) ⟨fld c.desc 255 224, false⟩).finish id .ok) := by
  refine congrArg Host.Outcome.next ((State.run_ready _ h).trans ?_)
  simp only [hd, Bool.false_eq_true, if_false]

theorem exec_syncSet_dead (h : s.runnable id (isOp 0x02) = some c) (hd : s.syncDead (fld c.desc 207 192) = true) :
    exec (.syncSet id) s = .next (s.finish id .unitRetired) := by
  refine congrArg Host.Outcome.next ((State.run_ready _ h).trans ?_)
  simp only [hd, if_true]

/-! ### ABORT -/

/-- The state an ABORT of a queue of this device leaves, by what it finds for its target or range. -/
def State.abortDone (s : State) (id : CmdId) (tag : Nat) : AbortSet → State
  | .invalid => s.finish id .invalid
  | .already => s.finish id .alreadyComplete
  | .targets l => { s.abortTargets l with abortWaits := s.abortWaits ++ [⟨id, l, false, none, tag⟩] }

theorem exec_abort_here {r : AbortSet} (h : s.runnable id (isOp 0x01) = some c) (hnew : ∀ w ∈ s.abortWaits, w.id ≠ id)
    (hself : s.isSelf (fld c.desc 276 261) = true)
    (hr : s.abortSet id.ctx (fld c.desc 259 256) (fld c.desc 223 192) c.latch.range (flag c.desc 260) (some id) = r) :
    exec (.abort id) s = .next (s.abortDone id c.tag r) := by
  have hwaits : s.abortWaits.any (fun w => decide (w.id = id)) = false :=
    List.any_eq_false.mpr fun w hw => by simpa using hnew w hw
  change execAbort id s = _
  simp only [execAbort, h, hwaits, hself, hr, Bool.false_eq_true, if_false, if_true]
  cases r <;> rfl

/-! ### CTX_PREEMPT -/

theorem exec_ctxPreempt_here (h : s.runnable id (isOp 0x03) = some c) (hself : s.isSelf (fld c.desc 255 240) = true) :
    exec (.ctxPreempt id) s =
      .next ((s.yieldCtx id.ctx (BitVec.ofNat 48 (fld c.desc 239 192))).finish id .ok) := by
  refine congrArg Host.Outcome.next ((State.run_ready _ h).trans ?_)
  simp only [hself, if_true]

/-- A context's place once it is to yield at a deadline, leaving at once where that has come. -/
def State.yielding (s : State) (x : Ctx) (deadline : Angle) : Ctx :=
  let y := { x with yieldAt := addOnce x.yieldAt deadline }
  if s.pace.mode.running = false ∨ atOrAfter s.angle deadline = true then
    { y with leaving := true, leaveAt := s.now, drained := false }
  else y

theorem State.yieldCtx_frame (s : State) (c : Nat) (d : Angle) : ∃ cs, s.yieldCtx c d = { s with ctxs := cs } := by
  unfold State.yieldCtx State.beginLeave
  dsimp only
  split
  · split
    · split <;> exact ⟨_, rfl⟩
    · exact ⟨_, rfl⟩
  · exact ⟨_, rfl⟩

theorem State.ctx_yieldCtx (hs : s.tabsOk = true) {k : Nat} (hr : s.resident k = true) (hl : (s.ctx k).leaving = false)
    (d : Angle) (x : Nat) : (s.yieldCtx k d).ctx x = if x = k then s.yielding (s.ctx k) d else s.ctx x := by
  have hw := State.wf_ctxs hs
  have hself := State.ctx_setCtx_self s k { s.ctx k with yieldAt := addOnce (s.ctx k).yieldAt d } hw
  unfold State.yieldCtx State.yielding
  rw [if_pos hr]
  by_cases hdue : s.pace.mode.running = false ∨ atOrAfter s.angle d = true
  · rw [if_pos (by simpa using hdue), if_pos hdue,
      State.beginLeave_resident (by rw [State.resident, hself]; exact hr) (by rw [hself]; exact hl),
      State.ctx_setCtx _ _ _ _ (Tab.wf_put _ _ _ _ hw), hself]
    split
    · rfl
    · next hx => exact State.ctx_setCtx_ne _ _ _ _ hx
  · rw [if_neg (by simpa using hdue), if_neg hdue, State.ctx_setCtx _ _ _ _ hw]

theorem State.yielding_leaving {x : Ctx} (hl : x.leaving = false) (d : Angle) :
    (s.yielding x d).leaving = true ↔ s.pace.mode.running = false ∨ atOrAfter s.angle d = true := by
  unfold State.yielding
  split
  · next h => exact iff_of_true rfl h
  · next h => exact iff_of_false (by simp [hl]) h

theorem State.yielding_keeps (s : State) (x : Ctx) (d : Angle) :
    (s.yielding x d).yieldAt = addOnce x.yieldAt d ∧ (s.yielding x d).slot = x.slot := by
  unfold State.yielding
  split <;> exact ⟨rfl, rfl⟩

/-- Settles O11: each row's equation under its condition; an object's new value rings queues and nothing else, an
abort's targets are mapped one by one, and a yield touches its context's place alone. -/
theorem controlCommandsRun : Obligations.ControlCommandsRun := by
  refine ⟨fun s id c h => ⟨_, exec_nop_ready h, rfl, rfl⟩, fun s id c hs h => ?set, fun s id c h hnew hself => ?abort,
    fun s id c hs h hself hr hl => ?preempt⟩
  case set =>
    cases hd : s.syncDead (fld c.desc 207 192) with
    | true =>
      exact ⟨_, exec_syncSet_dead h hd, rfl, fun _ _ _ => rfl, fun _ _ => rfl, nofun, fun _ => ⟨rfl, rfl, rfl⟩⟩
    | false =>
      have hrung := s.queue_setSync (fld c.desc 207 192) ⟨fld c.desc 255 224, false⟩
      refine ⟨_, exec_syncSet_live h hd, rfl, fun k q hq => (hrung k q).trans (Queue.rungBy_of_other hq _),
        fun k q => ?_, fun _ => ⟨rfl, State.syncObj_setSync_self _ _ _ (State.wf_sync hs),
          fun o ho => State.syncObj_setSync_ne _ _ _ _ ho⟩, nofun⟩
      rw [State.queue_finish, hrung]
      exact Queue.rungBy_eq ..
  case abort =>
    refine ⟨fun l hl => ⟨_, exec_abort_here h hnew hself hl, rfl, fun hcoll => ?_, fun x hx hid hp => ?_,
      fun x hx hid hp => ?_, fun x hx hid => ?_⟩, exec_abort_here h hnew hself, exec_abort_here h hnew hself⟩
    · simp only [State.abortDone, State.abortTargets_eq, State.targetsCancelled_of_no_collective hcoll]
    · exact State.mem_abortTargets_admitted hx hid hp
    · exact State.mem_abortTargets_released hx hid hp
    · exact State.mem_abortTargets_other hx hid
  case preempt =>
    let d : Angle := BitVec.ofNat 48 (fld c.desc 239 192)
    have hplace := State.ctx_yieldCtx hs hr hl d
    have hself' : (s.yieldCtx id.ctx d).ctx id.ctx = s.yielding (s.ctx id.ctx) d := (hplace _).trans (if_pos rfl)
    obtain ⟨hyield, hslot⟩ := s.yielding_keeps (s.ctx id.ctx) d
    obtain ⟨cs, hframe⟩ := s.yieldCtx_frame id.ctx d
    refine ⟨_, exec_ctxPreempt_here h hself, State.endsIn_finish (by rw [hframe]), ?_,
      fun x hx => (hplace x).trans (if_neg hx), (congrArg Ctx.yieldAt hself').trans hyield,
      (congrArg Ctx.slot hself').trans hslot, ?_⟩
    · change State.finish (s.yieldCtx id.ctx d) id .ok = _
      rw [hframe]
      rfl
    · exact (iff_of_eq (congrArg (·.leaving = true) hself')).trans (State.yielding_leaving hl d)

end Sys2Proof.Machine
end

section
/-! CTRL_SAMPLE (R344, R345): what each of its rows leaves of the sample groups. -/

namespace Sys2Proof.Machine

variable {s : State} {id : CmdId} {c : Cmd}

/-! ### Groups -/

/-- A sample descriptor as an ADVANCE of a group leaves it. -/
def Sample.advanced (x : Sample) (ctx g st : Nat) (a : Angle) (epoch : Nat) : Sample :=
  if x.ctx = ctx ∧ x.group = g then { x with st := st, advAngle := a, epoch := epoch } else x

/-- The state with a group advanced. -/
def State.groupAdvanced (s : State) (ctx g st epoch : Nat) : State :=
  { s with samples := s.samples.map fun x => x.advanced ctx g st s.angle epoch }

/-- The state with a group freed. -/
def State.groupFreed (s : State) (ctx g : Nat) : State :=
  { s with samples := s.samples.filter fun x => !decide (x.ctx = ctx ∧ x.group = g) }

theorem State.mem_groupOf {x : Sample} {k g : Nat} (h : x ∈ s.groupOf k g) : x.ctx = k ∧ x.group = g :=
  of_decide_eq_true (List.mem_filter.mp h).2

/-- An ADVANCE leaves every descriptor in its group. -/
theorem State.groupOf_groupAdvanced (s : State) (ctx g st epoch k j : Nat) :
    (s.groupAdvanced ctx g st epoch).groupOf k j =
      (s.groupOf k j).map fun x => x.advanced ctx g st s.angle epoch := by
  have hkeep : ∀ x : Sample, (x.advanced ctx g st s.angle epoch).ctx = x.ctx ∧
      (x.advanced ctx g st s.angle epoch).group = x.group := fun x => by
    unfold Sample.advanced
    split <;> exact ⟨rfl, rfl⟩
  unfold State.groupOf State.groupAdvanced
  rw [List.filter_map]
  refine congrArg _ (List.filter_congr fun x _ => ?_)
  simp only [Function.comp_apply, hkeep]

theorem State.groupOf_groupAdvanced_ne {ctx g k j : Nat} (h : (k, j) ≠ (ctx, g)) (st epoch : Nat) :
    (s.groupAdvanced ctx g st epoch).groupOf k j = s.groupOf k j := by
  have hkept : ∀ x ∈ s.groupOf k j, x.advanced ctx g st s.angle epoch = x := fun x hx => by
    obtain ⟨rfl, rfl⟩ := State.mem_groupOf hx
    exact if_neg fun hxg => h (by rw [hxg.1, hxg.2])
  rw [State.groupOf_groupAdvanced, List.map_congr_left hkept, List.map_id']

theorem State.groupOf_groupFreed_self (s : State) (ctx g : Nat) : (s.groupFreed ctx g).groupOf ctx g = [] := by
  simp [State.groupOf, State.groupFreed, List.filter_filter]

theorem State.groupOf_groupFreed_ne {ctx g k j : Nat} (h : (k, j) ≠ (ctx, g)) :
    (s.groupFreed ctx g).groupOf k j = s.groupOf k j := by
  unfold State.groupOf State.groupFreed
  rw [List.filter_filter]
  refine List.filter_congr fun x _ => ?_
  by_cases hx : x.ctx = k ∧ x.group = j
  · obtain ⟨rfl, rfl⟩ := hx
    have hne : ¬(x.ctx = ctx ∧ x.group = g) := fun hxg => h (by rw [hxg.1, hxg.2])
    simp [hne]
  · simp [hx]

/-! ### Bytes -/

theorem length_sampleBytes (x : Sample) : (sampleBytes x).length = 32 := by
  simp [sampleBytes, length_toBytes]

theorem length_flatten_sampleBytes (l : List Sample) : (l.map sampleBytes).flatten.length = 32 * l.length := by
  induction l with
  | nil => rfl
  | cons x l ih =>
    simp only [List.map_cons, List.flatten_cons, List.length_append, length_sampleBytes, ih, List.length_cons]
    omega

/-! ### The rows -/

/-- The descriptors an OPEN creates: one for each sample ID of its list, in state LANDED (R344, R345). -/
def State.opened (s : State) (ctx : Nat) (d : Desc) : List Sample :=
  (List.range (fld d 260 245)).map fun k =>
    Sample.mk ctx (fld d 268 261) (s.devNum (fld d 239 192 + 8 * k) 8) 1 s.angle 0 0

/-- An OPEN would exceed a limit: the part's 32,768 descriptors, or its context's (R344). -/
def State.samplesFull (s : State) (ctx n : Nat) : Prop :=
  32768 < s.samples.length + n ∨
    s.objv (0x6000 + ctx) 10 < (s.samples.filter fun x => decide (x.ctx = ctx)).length + n

theorem exec_ctrlSampleOpen_full (h : s.runnable id (sampleOp 0) = some c)
    (hfull : s.samplesFull id.ctx (fld c.desc 260 245)) :
    exec (.ctrlSampleOpen id) s = .next (s.finish id .busy) := by
  unfold State.samplesFull at hfull
  refine congrArg Host.Outcome.next ((State.run_ready _ h).trans ?_)
  simp only [if_pos hfull]

theorem exec_ctrlSampleOpen_room (h : s.runnable id (sampleOp 0) = some c)
    (hroom : ¬s.samplesFull id.ctx (fld c.desc 260 245))
    (hread : s.devReadBad (fld c.desc 239 192) (8 * fld c.desc 260 245) = false) :
    exec (.ctrlSampleOpen id) s =
      .next (({ s with samples := s.samples ++ s.opened id.ctx c.desc } : State).finish id .ok) := by
  unfold State.samplesFull at hroom
  refine congrArg Host.Outcome.next ((State.run_ready _ h).trans ?_)
  simp only [if_neg hroom, hread, Bool.false_eq_true, if_false]
  rfl

theorem exec_ctrlSampleAdvance_late (h : s.runnable id (sampleOp 1) = some c)
    (hlate : ∃ x ∈ s.groupOf id.ctx (fld c.desc 268 261), fld c.desc 273 271 ≤ x.st) :
    exec (.ctrlSampleAdvance id) s = .next (s.finish id .invalid) := by
  have hany : (s.groupOf id.ctx (fld c.desc 268 261)).any (fun x => decide (fld c.desc 273 271 ≤ x.st)) = true :=
    List.any_eq_true.mpr (by simpa using hlate)
  refine congrArg Host.Outcome.next ((State.run_ready _ h).trans ?_)
  simp only [hany, if_true]

theorem exec_ctrlSampleAdvance_moves (h : s.runnable id (sampleOp 1) = some c)
    (hearly : ∀ x ∈ s.groupOf id.ctx (fld c.desc 268 261), x.st < fld c.desc 273 271) :
    exec (.ctrlSampleAdvance id) s = .next ((s.groupAdvanced id.ctx (fld c.desc 268 261) (fld c.desc 273 271)
      (fld c.desc 305 274)).finish id .ok) := by
  have hany : (s.groupOf id.ctx (fld c.desc 268 261)).any (fun x => decide (fld c.desc 273 271 ≤ x.st)) = false :=
    List.any_eq_false.mpr fun x hx => by simpa using hearly x hx
  refine congrArg Host.Outcome.next ((State.run_ready _ h).trans ?_)
  simp only [hany, Bool.false_eq_true, if_false]
  rfl

theorem exec_ctrlSampleClose_ready (h : s.runnable id (sampleOp 2) = some c) :
    exec (.ctrlSampleClose id) s = .next ((s.groupFreed id.ctx (fld c.desc 268 261)).finish id .ok) :=
  congrArg Host.Outcome.next (State.run_ready _ h)

theorem exec_ctrlSampleRead_over (h : s.runnable id (sampleOp 3) = some c)
    (hover : fld c.desc 260 245 < (s.groupOf id.ctx (fld c.desc 268 261)).length) :
    exec (.ctrlSampleRead id) s = .next (s.finish id .invalid) := by
  refine congrArg Host.Outcome.next ((State.run_ready _ h).trans ?_)
  simp only [if_pos hover]

theorem exec_ctrlSampleRead_writes (h : s.runnable id (sampleOp 3) = some c) {l : List Sample}
    (hl : l = s.groupOf id.ctx (fld c.desc 268 261)) (hfit : l.length ≤ fld c.desc 260 245)
    (hw : s.devWriteBad (fld c.desc 239 192) (32 * l.length) = false) :
    exec (.ctrlSampleRead id) s =
      .next ((s.devWrite (fld c.desc 239 192) (l.map sampleBytes).flatten).finish id .ok) := by
  refine congrArg Host.Outcome.next ((State.run_ready _ h).trans ?_)
  simp only [← hl, if_neg (Nat.not_lt.mpr hfit), length_flatten_sampleBytes, hw, Bool.false_eq_true, if_false]

/-- Settles O12: each row's equation under its condition, and what a group holds once it is advanced or freed. -/
theorem sampleListCommandsRun : Obligations.SampleListCommandsRun := by
  refine ⟨fun s id c h hread => ?opens, fun s id c => ⟨fun h => ?advances, fun h => ?closes⟩, fun s id c h =>
    ⟨fun hfit hw => ⟨length_flatten_sampleBytes _, exec_ctrlSampleRead_writes h rfl hfit hw⟩,
      exec_ctrlSampleRead_over h⟩⟩
  case opens =>
    by_cases hfull : s.samplesFull id.ctx (fld c.desc 260 245)
    · exact ⟨_, exec_ctrlSampleOpen_full h hfull, rfl,
        fun hlen hown => absurd hfull (not_or.mpr ⟨hlen.not_gt, hown.not_gt⟩), fun _ => ⟨rfl, rfl⟩⟩
    · refine ⟨_, exec_ctrlSampleOpen_room h hfull hread, rfl, fun _ _ => ⟨rfl, ?_, fun x hx => ?_, fun k hk => ?_⟩,
        fun hover => absurd hover hfull⟩
      · simp [State.opened]
      · exact List.mem_append_left _ hx
      · change (s.samples ++ s.opened id.ctx c.desc)[s.samples.length + k]? = _
        simp [State.opened, hk]
  case advances =>
    by_cases hlate : ∃ x ∈ s.groupOf id.ctx (fld c.desc 268 261), fld c.desc 273 271 ≤ x.st
    · exact ⟨_, exec_ctrlSampleAdvance_late h hlate, rfl,
        fun hearly => hlate.elim fun x hx => absurd (hearly x hx.1) hx.2.not_gt, fun _ => ⟨rfl, rfl⟩, fun _ _ _ => rfl⟩
    · have hearly : ∀ x ∈ s.groupOf id.ctx (fld c.desc 268 261), x.st < fld c.desc 273 271 := fun x hx =>
        Nat.lt_of_not_le fun hle => hlate ⟨x, hx, hle⟩
      have hgroup := s.groupOf_groupAdvanced id.ctx (fld c.desc 268 261) (fld c.desc 273 271) (fld c.desc 305 274)
        id.ctx (fld c.desc 268 261)
      refine ⟨_, exec_ctrlSampleAdvance_moves h hearly, rfl, fun _ => ⟨rfl, fun y hy => ?_, ?_⟩,
        fun hl => absurd hl hlate, fun k g hne => State.groupOf_groupAdvanced_ne hne _ _⟩
      · obtain ⟨x, hx, rfl⟩ := List.mem_map.mp (hgroup ▸ hy)
        rw [Sample.advanced, if_pos (State.mem_groupOf hx)]
        exact ⟨rfl, rfl, rfl⟩
      · exact (congrArg List.length hgroup).trans (List.length_map _)
  case closes =>
    exact ⟨_, exec_ctrlSampleClose_ready h, rfl, rfl, s.groupOf_groupFreed_self _ _,
      fun k g hne => State.groupOf_groupFreed_ne hne⟩

end Sys2Proof.Machine
end

section
/-! Signals and doorbells (R317, R332, R333, R354, R422): what a signal leaves of the objects and the queues, and what a
doorbell does by the state it meets. -/

namespace Sys2Proof.Machine

variable {s : State}

theorem reached32_iff (v x : Nat) : reached32 v x = true ↔ ((v : Int) - x) % 2 ^ 32 < 2 ^ 31 := by
  unfold reached32
  rw [decide_eq_true_iff]
  omega

/-! ### Signals -/

theorem State.signalObj_live {o : Nat} (h : s.reloadingDie (o / 8192) = false) (inc : Nat) (fault : Bool) :
    s.signalObj o inc fault = s.addObj o inc fault := if_neg (by simp [h])

theorem State.signalObj_held {o : Nat} (h : s.reloadingDie (o / 8192) = true) (inc : Nat) (fault : Bool) :
    s.signalObj o inc fault =
      { s with server := { s.server with heldSignals := s.server.heldSignals ++ [(o, inc, fault)] } } := if_pos h

/-- Two signals at one object are both added. -/
theorem State.syncObj_addObj_addObj (h : s.tabsOk = true) (o i j : Nat) (f g : Bool) :
    ((s.addObj o i f).addObj o j g).syncObj o =
      ⟨((s.syncObj o).value + i + j) % 2 ^ 32, (s.syncObj o).fault || f || g⟩ := by
  have hsecond : ((s.addObj o i f).addObj o j g).syncObj o =
      ⟨(((s.addObj o i f).syncObj o).value + j) % 2 ^ 32, ((s.addObj o i f).syncObj o).fault || g⟩ :=
    State.syncObj_setSync_self _ _ _ (Tab.wf_put _ _ _ _ (State.wf_sync h))
  rw [hsecond, State.syncObj_addObj_self h, Nat.mod_add_mod]

/-- Signals at one object are all applied in whatever order they come. -/
theorem State.syncObj_signalObj_comm (h : s.tabsOk = true) {o : Nat} (hd : s.reloadingDie (o / 8192) = false)
    (i j : Nat) (f g : Bool) : ((s.signalObj o i f).signalObj o j g).syncObj o =
      ((s.signalObj o j g).signalObj o i f).syncObj o := by
  have hboth : ∀ i j f g, ((s.signalObj o i f).signalObj o j g).syncObj o =
      ⟨((s.syncObj o).value + i + j) % 2 ^ 32, (s.syncObj o).fault || f || g⟩ := fun i j f g => by
    rw [State.signalObj_live hd, State.signalObj_live (s := s.addObj o i f) hd, State.syncObj_addObj_addObj h]
  rw [hboth, hboth, Nat.add_right_comm, Bool.or_right_comm]

/-! ### Doorbells -/

variable {link fn ctx queue value : Nat} {secure : Bool}

theorem exec_doorbellWrite_waits (hl : s.linkServes link = true) (hq : queue < 16)
    (hr : s.reloadingDie (16 + link / 2) = true) : exec (.doorbellWrite link fn ctx queue value secure) s =
      .next { s with hostWait := s.hostWait ++ [.doorbell link fn ctx queue value secure] } := by
  change Host.Outcome.next (s.doorbell link fn ctx queue value secure) = _
  simp [State.doorbell, hl, hq, hr]

theorem exec_doorbellWrite_discarded (hl : s.linkServes link = true) (hq : queue < 16)
    (hr : s.reloadingDie (16 + link / 2) = false) (hok : s.doorbellOk link fn ctx secure = false) :
    exec (.doorbellWrite link fn ctx queue value secure) s = .next (s.bump 0x7600 (17 + link) 1) := by
  change Host.Outcome.next (s.doorbell link fn ctx queue value secure) = _
  simp [State.doorbell, hl, hq, hr, hok]

/-- A doorbell of a queue that the function's page rings moves its producer index on, never back. -/
theorem exec_doorbellWrite_rings (hl : s.linkServes link = true) (hq : queue < 16)
    (hr : s.reloadingDie (16 + link / 2) = false) (hok : s.doorbellOk link fn ctx secure = true)
    (he : (s.queue ctx queue).enabled = true) (hk : (s.queue ctx queue).dbKind = 0) :
    exec (.doorbellWrite link fn ctx queue value secure) s = .next (
      if reached32 (value % 2 ^ 32) (s.queue ctx queue).producer then
        s.setQueue ctx queue { s.queue ctx queue with producer := value % 2 ^ 32 }
      else s) := by
  change Host.Outcome.next (s.doorbell link fn ctx queue value secure) = _
  simp [State.doorbell, hl, hq, hr, hok, he, hk]

/-- Settles O32: a signal is one addition at its object, which maps the queues it rings, and additions commute; each
case of a doorbell is its row's equation there. -/
theorem signalsAndDoorbellsCountModulo32 : Obligations.SignalsAndDoorbellsCountModulo32 := by
  refine ⟨reached32_iff, fun s o inc fault hs hd => ?signal, fun s o inc fault hd => State.signalObj_held hd inc fault,
    fun s link fn ctx queue value secure hl hq hr => exec_doorbellWrite_waits hl hq hr,
    fun s link fn ctx queue value secure hs hl hq hr =>
      ⟨fun hok he hk => ?rings, exec_doorbellWrite_discarded hl hq hr⟩⟩
  case signal =>
    refine ⟨?_, fun p hp => State.syncObj_signalObj_ne _ _ hp, fun c q => ?_, ?_,
      fun k other => State.syncObj_signalObj_comm hs hd _ _ _ _⟩
    · rw [State.signalObj_live hd, State.syncObj_addObj_self hs]
    · rw [State.signalObj_live hd]
      exact State.queue_setSync ..
    · rw [State.signalObj_live hd]
      rfl
  case rings =>
    have hrow := exec_doorbellWrite_rings (value := value) hl hq hr hok he hk
    cases hv : reached32 (value % 2 ^ 32) (s.queue ctx queue).producer with
    | true =>
      rw [hv, if_pos rfl] at hrow
      exact ⟨_, hrow, rfl, fun _ => State.queue_setQueue_self _ _ _ _ (State.wf_queues hs), nofun,
        fun c q hq' hne => State.queue_setQueue_ne _ _ _ _ _ _ hq hq' hne⟩
    | false =>
      rw [hv] at hrow
      exact ⟨_, hrow, rfl, nofun, fun _ => rfl, fun _ _ _ _ => rfl⟩

end Sys2Proof.Machine
end

section
/-! What the queues' own traffic with memory and the host leaves alone (R241, R355, R374), and what becomes undefined
with outputs (R10). -/

namespace Sys2Proof.Machine

variable {s t : State}

/-! ### Tokens, host requests and bytes written -/

theorem State.payFor_frame (s : State) (l : List Access) : ∃ p, s.payFor l = { s with pool := p } := by
  unfold State.payFor
  refine List.foldlRecOn (motive := fun t : State => ∃ p, t = { s with pool := p }) _ _ ⟨s.pool, rfl⟩ ?_
  rintro _ ⟨p, rfl⟩ x -
  exact ⟨_, rfl⟩

theorem State.hostAsk_frame (s : State) (c a n : Nat) (write shared : Bool) :
    ∃ r o l, s.hostAsk c a n write shared = { s with trust := r, obj := o, out := l } := by
  unfold State.hostAsk
  dsimp only
  split
  · exact ⟨_, _, _, rfl⟩
  · generalize 0x7600 = i
    generalize (if write then 1 else 5) + s.linkOf a = b
    obtain ⟨r, o, h⟩ := s.tally_frame c i b n
    rw [h]
    exact ⟨_, _, _, rfl⟩

theorem State.passBytes_frame (s : State) (c a n : Nat) (write : Bool) :
    ∃ p r o l, s.passBytes c a n write = { s with pool := p, trust := r, obj := o, out := l } := by
  obtain ⟨p, hp⟩ := s.payFor_frame (oneAccess a n write)
  obtain ⟨r, o, l, h⟩ := State.hostAsk_frame { s with pool := p } c a n write false
  rw [State.passBytes, hp, h]
  exact ⟨_, _, _, _, rfl⟩

@[simp] theorem State.passBytes_queues (s : State) (c a n : Nat) (write : Bool) :
    (s.passBytes c a n write).queues = s.queues := by
  obtain ⟨_, _, _, _, h⟩ := s.passBytes_frame c a n write
  rw [h]

/-- The device without its stores and the place among the free values. -/
def State.unstored (s : State) : State :=
  { s with
    mem := []
    host := []
    core := []
    acc := []
    pool := Pool.reset
    free := 0 }

theorem State.devWrite_unstored (s : State) (a : Nat) (l : List Byte) : (s.devWrite a l).unstored = s.unstored := by
  unfold State.devWrite
  split <;> rfl

theorem State.scramble_unstored (s : State) (p : Place) (a n : Nat) : (s.scramble p a n).unstored = s.unstored := by
  cases p with
  | dev => exact s.devWrite_unstored a (s.freeBytes n)
  | core => rfl
  | acc => rfl

theorem State.scrambleAll_unstored (s : State) (l : List Extent) : (s.scrambleAll l).unstored = s.unstored :=
  foldl_keeps State.unstored (fun t _ => foldl_keeps State.unstored (fun t _ => t.scramble_unstored _ _ _) _ t) _ s

theorem State.recordOutputs_unstored (s : State) (c : Cmd) (st : Status) :
    (s.recordOutputs c st).unstored = s.unstored := by
  unfold State.recordOutputs
  split
  · exact s.scrambleAll_unstored _
  · rfl

@[simp] theorem State.devWrite_queues (s : State) (a : Nat) (l : List Byte) : (s.devWrite a l).queues = s.queues :=
  (congrArg State.queues (s.devWrite_unstored a l) :)

theorem State.recordOutputs_queues (s : State) (c : Cmd) (st : Status) : (s.recordOutputs c st).queues = s.queues :=
  (congrArg State.queues (s.recordOutputs_unstored c st) :)

theorem State.recordOutputs_pace (s : State) (c : Cmd) (st : Status) : (s.recordOutputs c st).pace = s.pace :=
  (congrArg State.pace (s.recordOutputs_unstored c st) :)

end Sys2Proof.Machine
end

section
/-! Admission (R12, R316 to R322, R329): a queue's next descriptor is fetched and becomes the last command. -/

namespace Sys2Proof.Machine

variable {s : State} {ctx queue : Nat}

/-! ### The fetched command -/

theorem State.fetched_refused {id : CmdId} {d : Desc} {st : Status} (h : s.admits id d = some st) :
    (s.fetched id d false).phase = .finished st := by
  simp [State.fetched, h]

theorem State.fetched_admitted {id : CmdId} {d : Desc} (h : s.admits id d = none) :
    (s.fetched id d false).phase = if s.doomed id then .finished .aborted else .admitted := by
  simp [State.fetched, h]

/-! ### The row -/

theorem State.startWait_frame (s : State) (c : Nat) : ∃ cs, s.startWait c = { s with ctxs := cs } := by
  unfold State.startWait
  split <;> exact ⟨_, rfl⟩

/-- A fetched command comes after the others, and the tags move on. -/
def State.withFetched (s : State) (c : Cmd) : State :=
  { s with
    cmds := s.cmds ++ [c]
    nextTag := (s.nextTag + 1) % 2 ^ 32 }

/-- The peers of a collective that an abort had named before its fetch cancelled (R308). -/
def State.fetchCancelled (s : State) (c : Cmd) : State :=
  if c.phase = .finished .aborted then s.cancelPeers c else s

theorem State.relayed_fetchCancelled (s : State) (c : Cmd) : s.Relayed (s.fetchCancelled c) := by
  unfold State.fetchCancelled
  split
  · exact s.relayed_cancelPeers c
  · exact .refl s

/-- A queue's next descriptor, as memory gives it. -/
def State.nextDesc (s : State) (x : Queue) : Desc :=
  BitVec.ofNat 512 (s.devNum (x.ringBase + 64 * (x.next % x.ringSize)) 64)

/-- The state once a queue's next descriptor has been fetched from its ring. -/
def State.fetchedFrom (s : State) (ctx queue : Nat) : State :=
  let x := s.queue ctx queue
  (s.passBytes ctx (x.ringBase + 64 * (x.next % x.ringSize)) 64 false).setQueue ctx queue
    { x with next := (x.next + 1) % 2 ^ 32 }

theorem State.fetchedFrom_frame (s : State) (ctx queue : Nat) : ∃ p r o l qs,
    s.fetchedFrom ctx queue = { s with pool := p, trust := r, obj := o, out := l, queues := qs } := by
  obtain ⟨p, r, o, l, h⟩ := s.passBytes_frame ctx
    ((s.queue ctx queue).ringBase + 64 * ((s.queue ctx queue).next % (s.queue ctx queue).ringSize)) 64 false
  unfold State.fetchedFrom
  dsimp only
  rw [h]
  exact ⟨_, _, _, _, _, rfl⟩

theorem State.queue_fetchedFrom (hs : s.tabsOk = true) :
    (s.fetchedFrom ctx queue).queue ctx queue =
      { s.queue ctx queue with next := ((s.queue ctx queue).next + 1) % 2 ^ 32 } :=
  State.queue_setQueue_self _ _ _ _ (by rw [State.passBytes_queues]; exact State.wf_queues hs)

theorem exec_descriptorAdmission_clean (hm : s.mayFetch ctx queue = true) {x : Queue} (hx : x = s.queue ctx queue)
    (hbad : s.devReadBad (x.ringBase + 64 * (x.next % x.ringSize)) 64 = false) {c : Cmd}
    (hc : c = s.fetched ⟨ctx, queue, x.next⟩ (s.nextDesc x) false) :
    exec (.descriptorAdmission ctx queue) s =
      .next ((((s.fetchedFrom ctx queue).fetchCancelled c).withFetched c).startWait ctx) := by
  subst hx hc
  change execDescriptorAdmission ctx queue s = _
  simp only [execDescriptorAdmission, hm, hbad, Bool.false_eq_true, if_false, if_true]
  rfl

/-- Settles O33: the fetch leaves all but its queue's place and its own traffic, and so does what follows it. -/
theorem admissionFetchesTheNextDescriptor : Obligations.AdmissionFetchesTheNextDescriptor := by
  intro s ctx queue hs hm x a d id hbad
  let c := s.fetched id d false
  have hrelay := (s.fetchedFrom ctx queue).relayed_fetchCancelled c
  obtain ⟨p, r, o, l, qs, hfetch⟩ := s.fetchedFrom_frame ctx queue
  obtain ⟨cs, hwait⟩ := (((s.fetchedFrom ctx queue).fetchCancelled c).withFetched c).startWait_frame ctx
  have hrow := exec_descriptorAdmission_clean hm (x := x) rfl hbad (c := c) rfl
  rw [hwait] at hrow
  have hcmds : ((s.fetchedFrom ctx queue).fetchCancelled c).cmds = s.cmds := hrelay.cmds.trans (by rw [hfetch])
  have hqueue : ((s.fetchedFrom ctx queue).fetchCancelled c).queue ctx queue =
      { x with next := (x.next + 1) % 2 ^ 32 } := by
    rw [State.queue, hrelay.queues]
    exact State.queue_fetchedFrom hs
  exact ⟨_, c, hrow, congrArg (· ++ [c]) hcmds, rfl, rfl, rfl, fun st h => State.fetched_refused h,
    State.fetched_admitted, hqueue, hrelay.mem.trans (by rw [hfetch]), hrelay.host.trans (by rw [hfetch])⟩

end Sys2Proof.Machine
end

section
/-! Completion records (R10, R324 to R327): the record's layout, where it is written, and the command that leaves. -/

namespace Sys2Proof.Machine

variable {s t : State} {id : CmdId} {c : Cmd} {st : Status}

/-! ### Layout -/

/-- The number a completion record is: sequence number, phase, queue, opcode, status, retries and angle (R324). -/
def recordWord (seq phase queue op code retries angle : Nat) : Nat :=
  seq + phase * 2 ^ 32 + queue * 2 ^ 44 + op * 2 ^ 48 + code * 2 ^ 56 + retries * 2 ^ 64 + angle * 2 ^ 80

theorem bits_recordWord {seq phase queue op code retries angle : Nat} (hseq : seq < 2 ^ 32) (hphase : phase ≤ 1)
    (hqueue : queue < 16) (hop : op < 2 ^ 8) (hcode : code < 2 ^ 8) (hret : retries < 2 ^ 8) (hangle : angle < 2 ^ 48) :
    let x := recordWord seq phase queue op code retries angle
    x < 2 ^ 128 ∧ bits x 31 0 = seq ∧ bits x 32 32 = phase ∧ bits x 43 33 = 0 ∧ bits x 47 44 = queue ∧
      bits x 55 48 = op ∧ bits x 63 56 = code ∧ bits x 71 64 = retries ∧ bits x 79 72 = 0 ∧ bits x 127 80 = angle := by
  simp only [recordWord, bits, Nat.shiftRight_eq_div_pow]
  omega

theorem Status.code_lt (st : Status) : st.code < 2 ^ 8 := by cases st <;> decide

theorem State.length_recordOf (s : State) (c : Cmd) (st : Status) : (s.recordOf c st).length = 16 := length_toBytes _ _

theorem State.recordOf_layout (hq : c.id.queue < 16) (hp : (s.queue c.id.ctx c.id.queue).phase ≤ 1) :
    let x := ofBytes (s.recordOf c st)
    bits x 31 0 = c.id.seq % 2 ^ 32 ∧ bits x 32 32 = (s.queue c.id.ctx c.id.queue).phase ∧ bits x 43 33 = 0 ∧
      bits x 47 44 = c.id.queue ∧ bits x 55 48 = opcode c.desc ∧ bits x 63 56 = st.code ∧
      bits x 71 64 = min 255 c.retries ∧ bits x 79 72 = 0 ∧ bits x 127 80 = s.angle.toNat := by
  have hop : opcode c.desc < 2 ^ 8 := Nat.mod_lt _ (by decide)
  obtain ⟨hlt, hbits⟩ := bits_recordWord (Nat.mod_lt c.id.seq (by decide)) hp hq hop (Status.code_lt st)
    (Nat.lt_of_le_of_lt (Nat.min_le_left 255 c.retries) (by decide)) s.angle.isLt
  have hword : ofBytes (s.recordOf c st) = recordWord (c.id.seq % 2 ^ 32) (s.queue c.id.ctx c.id.queue).phase
      c.id.queue (opcode c.desc) st.code (min 255 c.retries) s.angle.toNat :=
    (ofBytes_toBytes 16 _).trans (Nat.mod_eq_of_lt hlt)
  rw [hword]
  exact hbits

/-! ### Where the record is written -/

/-- What the record shows of the device is its queue's phase and the angle. -/
theorem State.recordOf_congr (hq : t.queues = s.queues) (hp : t.pace = s.pace) : t.recordOf c st = s.recordOf c st := by
  simp only [State.recordOf, State.queue, State.angle, hq, hp]

theorem State.queue_putRecord (h : Tab.wf Queue.off s.queues = true) {x : Queue}
    (hx : x = s.queue c.id.ctx c.id.queue) :
    (s.putRecord c st).queue c.id.ctx c.id.queue = { x with
      slot := (x.slot + 1) % 2 ^ 32
      phase := if (x.slot + 1) % 2 ^ 32 % x.compSize = 0 then 1 - x.phase else x.phase } := by
  subst hx
  exact State.queue_setQueue_self _ _ _ _ (by simpa using h)

/-! ### The command leaves -/

theorem State.findCmd_eq_none_iff : s.findCmd id = none ↔ id ∉ s.cmds.map Cmd.id := by
  simp [State.findCmd]

theorem State.ids_finish (s : State) (id : CmdId) (st : Status) :
    (s.finish id st).cmds.map Cmd.id = s.cmds.map Cmd.id := by
  simp only [State.finish, State.updCmd, List.map_map]
  refine List.map_congr_left fun x _ => ?_
  simp only [Function.comp_apply]
  split <;> rfl

theorem State.ids_settleAborts (s : State) (id : CmdId) (st : Status) :
    (s.settleAborts id st).cmds.map Cmd.id = s.cmds.map Cmd.id := by
  unfold State.settleAborts
  dsimp only
  rw [foldl_keeps (fun t : State => t.cmds.map Cmd.id) fun t w => by rw [(t.relayed_sendFrame _).cmds],
    foldl_keeps (fun t : State => t.cmds.map Cmd.id) fun t w => t.ids_finish _ _]

theorem State.endWait_frame (s : State) (k : Nat) : ∃ cs, s.endWait k = { s with ctxs := cs } := by
  unfold State.endWait
  split <;> exact ⟨_, rfl⟩

theorem State.findCmd_leave (s : State) (c : Cmd) (st : Status) : (s.leave c st).findCmd c.id = none := by
  rw [State.findCmd_eq_none_iff]
  unfold State.leave
  dsimp only
  obtain ⟨cs, hwait⟩ := State.endWait_frame (State.settleAborts _ c.id st) c.id.ctx
  rw [hwait]
  change c.id ∉ (State.settleAborts _ c.id st).cmds.map Cmd.id
  rw [State.ids_settleAborts]
  split <;> simp

/-! ### The row -/

theorem exec_completionRecordWrite_free (hf : s.findCmd id = some c) (hp : c.phase = .finished st)
    (hready : s.pins.ready = true) (hrun : s.mgmt.stopped = false) (hfree : s.recordFree id.ctx id.queue = true)
    (hheld : s.framesHeld c = false) :
    exec (.completionRecordWrite id) s = .next ((((((s.recordOutputs c st).putRecord c st).recordEffects c st).signalFor
      c st).interruptFor c).leave c st) := by
  change execCompletionRecordWrite id s = _
  simp only [execCompletionRecordWrite, hf, hp, hready, hrun, hfree, hheld, Bool.not_false, Bool.and_self, if_true]

/-- Settles O35: the record's word lays its fields end to end; what its command left undefined is no part of the queue
or the angle it shows; and no command of that identity stays. -/
theorem completionRecordsCompleteCommands : Obligations.CompletionRecordsCompleteCommands := by
  refine ⟨fun s c st hq hp => ⟨s.length_recordOf c st, State.recordOf_layout hq hp⟩,
    fun s id c st hs hf hp hready hrun hfree hheld => ?_⟩
  obtain rfl := State.id_of_findCmd hf
  have hqueues := s.recordOutputs_queues c st
  have hrecord : (s.recordOutputs c st).recordOf c st = s.recordOf c st :=
    State.recordOf_congr hqueues (s.recordOutputs_pace c st)
  have hqueue : s.queue c.id.ctx c.id.queue = (s.recordOutputs c st).queue c.id.ctx c.id.queue := by
    rw [State.queue, State.queue, hqueues]
  refine ⟨?written, State.queue_putRecord (by rw [hqueues]; exact State.wf_queues hs) hqueue,
    _, exec_completionRecordWrite_free hf hp hready hrun hfree hheld, State.findCmd_leave _ c st, rfl⟩
  case written =>
    rw [← hrecord, hqueue]
    rfl

end Sys2Proof.Machine
end

section
/-! Contexts (R339 to R343, R485): what each row of residency makes of the places of the contexts. -/

namespace Sys2Proof.Machine

variable {s t : State} {ctx : Nat}

/-! ### The stores of the cores -/

/-- The device without the stores of its cores. -/
def State.unloaded (s : State) : State :=
  { s with
    core := []
    acc := []
    feeder := [] }

/-- The device without the stores of its cores and the memory their images lie in. -/
def State.unsaved (s : State) : State :=
  { s.unloaded with
    mem := []
    pool := Pool.reset }

theorem State.unloaded_with (s : State) (x y z : Mem) :
    State.unloaded { s with core := x, acc := y, feeder := z } = s.unloaded := rfl

theorem State.unsaved_with (s : State) (x : Mem) (p : Pool) :
    State.unsaved { s with mem := x, pool := p } = s.unsaved := rfl

theorem State.restoreCore_unloaded (s : State) (k a : Nat) : (s.restoreCore k a).unloaded = s.unloaded := by
  unfold State.restoreCore
  exact s.unloaded_with _ _ _

theorem State.zeroCore_unloaded (s : State) (k : Nat) : (s.zeroCore k).unloaded = s.unloaded := by
  unfold State.zeroCore
  exact s.unloaded_with _ _ _

theorem State.bulkWrite_unsaved (s : State) (a n : Nat) (src : Tab Byte) :
    (s.bulkWrite a n src).unsaved = s.unsaved := by
  unfold State.bulkWrite
  exact s.unsaved_with _ _

theorem State.saveCore_unsaved (s : State) (k a : Nat) : (s.saveCore k a).unsaved = s.unsaved := by
  unfold State.saveCore
  dsimp only
  rw [State.bulkWrite_unsaved, State.bulkWrite_unsaved, State.bulkWrite_unsaved, State.bulkWrite_unsaved]

theorem State.unsaved_of_unloaded (h : t.unloaded = s.unloaded) : t.unsaved = s.unsaved := by
  unfold State.unsaved
  rw [h]

theorem State.restore_unloaded (s : State) (c : Nat) :
    (s.restore c).unloaded = (s.setCtx c { s.ctx c with saved := none }).unloaded := by
  unfold State.restore
  dsimp only
  split
  · exact foldl_keeps State.unloaded (fun t p => t.restoreCore_unloaded _ _) _ _
  · split
    · exact foldl_keeps State.unloaded State.zeroCore_unloaded _ _
    · rfl

/-! ### The stands at a firebreak -/

/-- A stand as a firebreak leaves it: both weight registers zeroed, the shadow set released (R86, R342). -/
def Stand.emptied (x : Stand) : Stand := { Stand.fresh with half := x.half }

theorem State.stand_emptyStand (hw : Tab.wf Stand.fresh s.stands = true) (k j : Nat) :
    (s.emptyStand k).stand j = if j = k then (s.stand k).emptied else s.stand j := Tab.get_put _ _ _ _ _ hw

/-- Stands emptied one after another: each of the list is emptied, the others stay. -/
theorem State.stand_emptyStands (hw : Tab.wf Stand.fresh s.stands = true) (l : List Nat) (j : Nat) :
    (l.foldl State.emptyStand s).stand j = if j ∈ l then (s.stand j).emptied else s.stand j := by
  induction l generalizing s with
  | nil => simp
  | cons k l ih =>
    rw [List.foldl_cons, ih (Tab.wf_put _ _ _ _ hw), State.stand_emptyStand hw]
    by_cases hjk : j = k
    · subst hjk
      by_cases hl : j ∈ l <;> simp [hl, Stand.emptied]
    · simp [hjk]

/-- The device without its stands. -/
def State.unstood (s : State) : State := { s with stands := [] }

theorem State.emptyStand_unstood (s : State) (k : Nat) : (s.emptyStand k).unstood = s.unstood := by
  simp only [State.emptyStand, State.unstood]

theorem State.emptyStands_unstood (s : State) (l : List Nat) : (l.foldl State.emptyStand s).unstood = s.unstood :=
  foldl_keeps State.unstood State.emptyStand_unstood l s

/-! ### The firebreak -/

/-- The state in which a firebreak begins to empty the stands: the stores of the cores saved or zeroed, or both. -/
def State.coresSaved (s : State) (c : Nat) : State :=
  let a := s.objv (0x6000 + c) 9
  let cores := s.grantCores c
  let save := decide (a ≠ 0) && s.saveOk c a
  let t := if save then
      ((List.range cores.length).zip cores).foldl (fun t p => t.saveCore p.2 (a + imageBytes * p.1)) s
    else s
  if save && !s.confidential c then t else cores.foldl (fun t k => t.zeroCore k) t

theorem State.coresSaved_unsaved (s : State) (c : Nat) : (s.coresSaved c).unsaved = s.unsaved := by
  have hsaved : ∀ (l : List (Nat × Nat)) (a : Nat),
      (l.foldl (fun (t : State) p => t.saveCore p.2 (a + imageBytes * p.1)) s).unsaved = s.unsaved :=
    fun l a => foldl_keeps State.unsaved (fun t p => t.saveCore_unsaved _ _) l s
  have hzeroed : ∀ (l : List Nat) (t : State), (l.foldl (fun t k => t.zeroCore k) t).unsaved = t.unsaved :=
    fun l t => foldl_keeps State.unsaved (fun t k => State.unsaved_of_unloaded (t.zeroCore_unloaded k)) l t
  unfold State.coresSaved
  dsimp only
  split
  · split
    · exact hsaved _ _
    · rfl
  · rw [hzeroed]
    split
    · exact hsaved _ _
    · rfl

/-- The state in which a firebreak has emptied the stands of its cores. -/
def State.coresEmptied (s : State) (c : Nat) : State := (s.grantCores c).foldl State.emptyStand (s.coresSaved c)

/-- The state in which a firebreak has counted the crossing too. -/
def State.crossed (s : State) (c : Nat) : State := (s.coresEmptied c).bump (0x6000 + c) 12 1

/-- A firebreak notes at the context's place what it saved. -/
theorem State.firebreak_eq (s : State) (c : Nat) : ∃ m, s.firebreak c =
    (s.crossed c).setCtx c { (s.crossed c).ctx c with saved := m } := by
  unfold State.firebreak
  exact ⟨_, rfl⟩

theorem State.coresEmptied_keeps (s : State) (c : Nat) :
    (s.coresEmptied c).cmds = s.cmds ∧ (s.coresEmptied c).ctxs = s.ctxs := by
  have hempty := (s.coresSaved c).emptyStands_unstood (s.grantCores c)
  have hsave := s.coresSaved_unsaved c
  exact ⟨(congrArg State.cmds hempty :).trans (congrArg State.cmds hsave :),
    (congrArg State.ctxs hempty :).trans (congrArg State.ctxs hsave :)⟩

theorem State.firebreak_cmds (s : State) (c : Nat) : (s.firebreak c).cmds = s.cmds := by
  obtain ⟨m, h⟩ := s.firebreak_eq c
  rw [h, State.setCtx_cmds, State.crossed, State.bump_cmds]
  exact (s.coresEmptied_keeps c).1

theorem State.firebreak_ctxs (s : State) (c : Nat) :
    ∃ m, (s.firebreak c).ctxs = Tab.put Ctx.off s.ctxs c { s.ctx c with saved := m } := by
  obtain ⟨m, h⟩ := s.firebreak_eq c
  have hkept : (s.crossed c).ctxs = s.ctxs := (State.bump_ctxs _ _ _ _).trans (s.coresEmptied_keeps c).2
  refine ⟨m, ?_⟩
  rw [h, State.setCtx, State.ctx, hkept]
  rfl

/-- A firebreak empties the stand of every core of its grant. -/
theorem State.stand_firebreak (hs : s.tabsOk = true) {c k : Nat} (hk : k ∈ s.grantCores c) :
    (s.firebreak c).stand k = (s.stand k).emptied := by
  obtain ⟨m, h⟩ := s.firebreak_eq c
  have hsave : (s.coresSaved c).stands = s.stands := (congrArg State.stands (s.coresSaved_unsaved c) :)
  have hstand : (s.firebreak c).stand k = (s.coresEmptied c).stand k := by
    rw [h, State.stand, State.setCtx_stands, State.crossed, State.bump_stands]
    rfl
  rw [hstand, State.coresEmptied, State.stand_emptyStands (by rw [hsave]; exact State.wf_stands hs), if_pos hk,
    State.stand, hsave]
  rfl

/-! ### The rows -/

theorem State.ctx_restore (hs : Tab.wf Ctx.off s.ctxs = true) (c x : Nat) :
    (s.restore c).ctx x = if x = c then { s.ctx c with saved := none } else s.ctx x := by
  have hctxs : (s.restore c).ctxs = (s.setCtx c { s.ctx c with saved := none }).ctxs :=
    (congrArg State.ctxs (s.restore_unloaded c) :)
  rw [State.ctx, hctxs]
  exact State.ctx_setCtx _ _ _ _ hs

/-- The place of a context that takes a slot, before its stores are restored. -/
def State.seated (s : State) (x : Ctx) (k : Nat) : Ctx :=
  { x with
    slot := some k
    since := s.now
    wait := none
    quantum := false
    leaving := false
    drained := false
    yieldAt := x.yieldAt.filter (· ∉ s.yieldsDue x) }

theorem exec_contextResident_enters {k : Nat} {l : List Nat} (hfree : s.freeSlots = k :: l)
    (hwait : s.isWaiting ctx = true) (henter : s.mayEnter ctx = true)
    (hfirst : (s.earlier ctx).any s.mayEnter = false) :
    exec (.contextResident ctx) s = .next ((s.setCtx ctx (s.seated (s.ctx ctx) k)).restore ctx) := by
  change execContextResident ctx s = _
  simp only [execContextResident, hfree, hwait, henter, hfirst, Bool.not_false, Bool.and_self, if_true]
  rfl

theorem State.resident_of_mem_evictions (h : ctx ∈ s.evictions) : s.resident ctx = true := by
  have hres : ∀ {p : Nat → Bool}, ctx ∈ s.residents.filter p → s.resident ctx = true := fun hm =>
    (List.mem_filter.mp (List.mem_filter.mp hm).1).2
  unfold State.evictions at h
  split at h
  · cases h
  · dsimp only at h
    split at h
    · exact hres (List.mem_filter.mp h).1
    · exact hres (List.mem_filter.mp h).1

theorem exec_contextEvict_leaves (h : ctx ∈ s.evictions) (hl : (s.ctx ctx).leaving = false) :
    exec (.contextEvict ctx) s =
      .next (s.setCtx ctx { s.ctx ctx with leaving := true, leaveAt := s.now, drained := false }) := by
  rw [← State.beginLeave_resident (State.resident_of_mem_evictions h) hl]
  exact if_pos h

theorem exec_quantumExpiry_marks (hr : s.resident ctx = true) (hq : s.objv (0x6000 + ctx) 8 ≠ 0)
    (ho : (s.ctx ctx).since + 1000 * s.objv (0x6000 + ctx) 8 ≤ s.now) :
    exec (.quantumExpiry ctx) s = .next (s.setCtx ctx { s.ctx ctx with quantum := true }) :=
  if_pos (by simp [hr, hq, ho])

/-- A deadline of a resident context that has come makes it begin to leave. -/
theorem exec_preemptionDeadline_leaves {a : Angle} (ha : a ∈ (s.ctx ctx).yieldAt) (hr : s.resident ctx = true)
    (hl : (s.ctx ctx).leaving = false)
    (hdue : s.pace.mode.running = false ∨ (atOrAfter s.angle a = true ∧ s.mayAct (a, 10) = true)) :
    exec (.preemptionDeadline ctx) s =
      .next (s.setCtx ctx { s.ctx ctx with leaving := true, leaveAt := s.now, drained := false }) := by
  rw [← State.beginLeave_resident hr hl]
  have hyield : a ∈ s.yieldsDue (s.ctx ctx) :=
    List.mem_filter.mpr ⟨ha, by rcases hdue with h | ⟨h, -⟩ <;> simp [h]⟩
  exact if_pos (List.any_eq_true.mpr ⟨a, hyield, by rcases hdue with h | ⟨-, h⟩ <;> simp [h]⟩)

/-- The place of a context that has given up its slot. -/
def State.unseated (s : State) (c : Nat) (x : Ctx) : Ctx :=
  { x with
    slot := none
    leaving := false
    drained := false
    quantum := false
    yieldAt := (s.ctx c).yieldAt.filter (· ∉ s.yieldsDue (s.ctx c))
    wait :=
      if s.isRunnable c then some (if s.yieldsDue (s.ctx c) = [] then s.now else (s.ctx c).leaveAt) else none }

/-- A context that leaves with nothing running crosses the firebreak and gives up its slot; what follows concerns its
keys and its confidence alone. -/
theorem exec_contextLeave_leaves (hr : s.resident ctx = true) (hl : (s.ctx ctx).leaving = true)
    (hrun : s.stillRuns ctx = false) (htest : s.grantTested ctx = false) :
    ∃ d p ti tr, exec (.contextLeave ctx) s =
      .next { (s.firebreak ctx).setCtx ctx (s.unseated ctx ((s.firebreak ctx).ctx ctx)) with
        draws := d
        pool := p
        tdis := ti
        trust := tr } := by
  have hcond : (s.resident ctx && (s.ctx ctx).leaving && !s.stillRuns ctx && !s.grantTested ctx) = true := by
    simp [hr, hl, hrun, htest]
  change ∃ d p ti tr, execContextLeave ctx s = _
  unfold execContextLeave
  rw [if_pos hcond]
  dsimp only
  split <;> split <;> exact ⟨_, _, _, _, rfl⟩

/-- The released commands of a context, which a drain that takes too long stops (R341). -/
def State.draining (s : State) (c : Nat) : List CmdId :=
  (s.cmds.filter fun (x : Cmd) => decide (x.id.ctx = c ∧ 0 < x.rank)).map (·.id)

theorem State.ctx_of_mem_draining {id : CmdId} {c : Nat} (h : id ∈ s.draining c) : id.ctx = c := by
  obtain ⟨x, hx, rfl⟩ := List.mem_map.mp h
  exact (of_decide_eq_true (List.mem_filter.mp hx).2).1

theorem State.mem_draining {x : Cmd} {c : Nat} (hx : x ∈ s.cmds) (hc : x.id.ctx = c) (hr : 0 < x.rank) :
    x.id ∈ s.draining c := List.mem_map_of_mem (List.mem_filter.mpr ⟨hx, decide_eq_true ⟨hc, hr⟩⟩)

theorem exec_drainUsExpiry_stops (hl : (s.ctx ctx).leaving = true)
    (ho : (s.ctx ctx).leaveAt + 1000 * s.objv 0x6101 1 ≤ s.now) :
    exec (.drainUsExpiry ctx) s =
      .next ((s.abortTargets (s.draining ctx)).setCtx ctx { s.ctx ctx with drained := true }) :=
  if_pos (by simp [hl, ho])

/-- Settles O36: each row's equation under its condition; a restore, a firebreak and a drain touch their own context's
place alone. -/
theorem contextsEnterAndLeave : Obligations.ContextsEnterAndLeave := by
  intro s ctx hs
  have hw := State.wf_ctxs hs
  refine ⟨fun k l hfree hwait henter hfirst => ?enters, exec_contextEvict_leaves, exec_quantumExpiry_marks,
    fun a ha hr hl hdue => exec_preemptionDeadline_leaves ha hr hl hdue, fun hr hl hrun htest => ?leaves,
    fun hl ho => ?drains⟩
  case enters =>
    have hseated := State.ctx_setCtx_self s ctx (s.seated (s.ctx ctx) k) hw
    have hctx := State.ctx_restore (s := s.setCtx ctx (s.seated (s.ctx ctx) k)) (Tab.wf_put _ _ _ _ hw) ctx
    have hself := (hctx ctx).trans (if_pos rfl)
    rw [hseated] at hself
    have hrest := (s.setCtx ctx (s.seated (s.ctx ctx) k)).restore_unloaded ctx
    refine ⟨_, exec_contextResident_enters hfree hwait henter hfirst, congrArg Ctx.slot hself, congrArg Ctx.since hself,
      congrArg Ctx.leaving hself, fun c hc => ?_, (congrArg State.mem hrest :), (congrArg State.cmds hrest :)⟩
    rw [hctx, if_neg hc, State.ctx_setCtx_ne _ _ _ _ hc]
  case leaves =>
    obtain ⟨d, p, ti, tr, hrow⟩ := exec_contextLeave_leaves hr hl hrun htest
    obtain ⟨m, hplaces⟩ := s.firebreak_ctxs ctx
    have hself := State.ctx_setCtx_self (s.firebreak ctx) ctx (s.unseated ctx ((s.firebreak ctx).ctx ctx))
      (by rw [hplaces]; exact Tab.wf_put _ _ _ _ hw)
    refine ⟨_, hrow, (congrArg (·.slot.isSome) hself :), (congrArg Ctx.leaving hself :), fun c hc => ?_,
      s.firebreak_cmds ctx, fun k hk => State.stand_firebreak hs hk⟩
    refine (State.ctx_setCtx_ne _ _ _ _ hc).trans ?_
    rw [State.ctx, hplaces]
    exact Tab.get_put_ne _ _ _ _ _ hc
  case drains =>
    have hself := State.ctx_setCtx_self (s.abortTargets (s.draining ctx)) ctx { s.ctx ctx with drained := true }
      (by rw [State.abortTargets_ctxs]; exact hw)
    exact ⟨_, exec_drainUsExpiry_stops hl ho, congrArg Ctx.drained hself,
      fun x hx hc hrank hp => State.mem_abortTargets_released hx (State.mem_draining hx hc hrank) hp,
      fun x hx hc => State.mem_abortTargets_other hx fun hmem => hc (State.ctx_of_mem_draining hmem)⟩

end Sys2Proof.Machine
end

section
/-! Requests (R243, R264, R265, R276, R300, R330, R335, R343): a frame that has come and asks for something is taken
from the inbox and served, once the accesses it makes are. -/

namespace Sys2Proof.Machine

variable {s : State} {k : Nat} {f : Frame}

/-! ### A frame whose accesses are served or not -/

theorem State.onServed_served {kind : Nat} {needs : State → Frame → List Access} (g : State → Frame → State)
    (hf : s.inbox[k]? = some f) (hk : f.kind = kind) (hs : s.serves (needs s f) = true) :
    s.onServed k kind needs g = g ((s.unboxed k f).payFor (needs s f)) f := by
  rw [State.onServed, State.onFrame_at _ hf hk, if_pos hs]

theorem State.onServed_waits {kind : Nat} {needs : State → Frame → List Access} (g : State → Frame → State)
    (hf : s.inbox[k]? = some f) (hk : f.kind = kind) (hs : s.serves (needs s f) = false) :
    s.onServed k kind needs g = s := by
  rw [State.onServed, State.onFrame_at _ hf hk, if_neg (by simp [hs])]

/-! ### Signals and notices -/

theorem exec_signal_foreign (hf : s.inbox[k]? = some f) (hk : f.kind = 0x01)
    (ho : (s.unboxed k f).owner (f.addr % 65536) ≠ f.ctx) :
    exec (.signal k) s = .next ((s.unboxed k f).sendRefused f .accessDenied) :=
  congrArg Host.Outcome.next ((State.onFrame_at _ hf hk).trans (if_pos ho))

theorem exec_signal_retired (hf : s.inbox[k]? = some f) (hk : f.kind = 0x01)
    (ho : (s.unboxed k f).owner (f.addr % 65536) = f.ctx) (hd : (s.unboxed k f).syncDead (f.addr % 65536) = true) :
    exec (.signal k) s = .next ((s.unboxed k f).sendRefused f .unitRetired) :=
  congrArg Host.Outcome.next ((State.onFrame_at _ hf hk).trans ((if_neg (not_not.mpr ho)).trans (if_pos hd)))

theorem exec_signal_applied (hf : s.inbox[k]? = some f) (hk : f.kind = 0x01)
    (ho : (s.unboxed k f).owner (f.addr % 65536) = f.ctx) (hd : (s.unboxed k f).syncDead (f.addr % 65536) = false) :
    exec (.signal k) s = .next ((s.unboxed k f).signalObj (f.addr % 65536) (bits (ofBytes (f.body.take 8)) 31 0)
      ((ofBytes (f.body.take 8)).testBit 40)) :=
  congrArg Host.Outcome.next
    ((State.onFrame_at _ hf hk).trans ((if_neg (not_not.mpr ho)).trans (if_neg (Bool.eq_false_iff.mp hd))))

/-- The targets of an ABORT_NOTICE, as its queue stands here. -/
def State.noticeSet (s : State) (f : Frame) : AbortSet :=
  let x := ofBytes (f.body.take 8)
  s.abortSet f.ctx (bits x 39 32) (bits x 31 0) (s.queue f.ctx (bits x 39 32)).producer (x.testBit 40) none

theorem exec_abortNotice_targets {l : List CmdId} (hf : s.inbox[k]? = some f) (hk : f.kind = 0x02)
    (hdef : (s.unboxed k f).isDefined f.ctx = true) (hq : bits (ofBytes (f.body.take 8)) 39 32 < 16)
    (hl : (s.unboxed k f).noticeSet f = .targets l) :
    exec (.abortNotice k) s = .next { (s.unboxed k f).abortTargets l with
      notices := (s.unboxed k f).notices ++ [⟨f.src, f.ctx, bits (ofBytes (f.body.take 8)) 39 32,
        bits (ofBytes (f.body.take 8)) 31 0, f.tag, l, false⟩] } := by
  unfold State.noticeSet at hl
  refine congrArg Host.Outcome.next ((State.onFrame_at _ hf hk).trans ?_)
  dsimp only at hl ⊢
  rw [if_neg (by simp [hdef]), if_neg (by omega), hl]

theorem exec_preemptNotice_at (hf : s.inbox[k]? = some f) (hk : f.kind = 0x03) :
    exec (.preemptNotice k) s = .next ((s.unboxed k f).yieldCtx f.ctx
      ((s.unboxed k f).nearestAngle (bits (ofBytes (f.body.take 8)) 63 32))) :=
  congrArg Host.Outcome.next (State.onFrame_at _ hf hk)

theorem exec_hold_at (hf : s.inbox[k]? = some f) (hk : f.kind = 0x11) :
    exec (.hold k) s = .next ((s.unboxed k f).applyHold f) :=
  congrArg Host.Outcome.next (State.onFrame_at _ hf hk)

/-! ### Requests for rows and bytes, and bytes written -/

/-- A request for bytes of its context's memory that hold no poison is answered with them. -/
theorem exec_readRequest_served (hf : s.inbox[k]? = some f) (hk : f.kind = 0x12)
    (hs : s.serves (oneAccess f.addr (ofBytes f.body) false) = true) {v : State}
    (hv : v = (s.unboxed k f).payFor (oneAccess f.addr (ofBytes f.body) false))
    (hin : v.inStack f.addr (ofBytes f.body) = true) (hmem : v.ctxMem f.ctx f.addr (ofBytes f.body) = true)
    (hbad : v.devReadBad f.addr (ofBytes f.body) = false) :
    exec (.readRequest k) s =
      .next (State.sendRead f (ofBytes f.body / frameRoom + 1) f.addr (ofBytes f.body) v) := by
  refine congrArg Host.Outcome.next ((State.onServed_served _ hf hk hs).trans ?_)
  rw [← hv]
  simp only [hin, hmem, hbad, Bool.and_self, Bool.not_true, Bool.false_eq_true, if_false]

/-- Bytes that one frame has room for go in one frame. -/
theorem State.sendRead_one (f : Frame) {j a n : Nat} (h : n ≤ frameRoom) (s : State) :
    State.sendRead f (j + 1) a n s = s.sendFrame (s.mkFrame 0x31 f.ctx f.src f.tag a (s.devRead a n)) := by
  rw [State.sendRead, Nat.min_eq_left h]
  exact if_pos le_rfl

/-- Bytes written into their context's memory where no poison drops them. -/
theorem exec_readReply_served (hf : s.inbox[k]? = some f) (hk : f.kind = 0x31)
    (hs : s.serves (oneAccess f.addr f.body.length true) = true) {v : State}
    (hv : v = (s.unboxed k f).payFor (oneAccess f.addr f.body.length true))
    (hin : v.inStack f.addr f.body.length = true) (hmem : v.ctxMem f.ctx f.addr f.body.length = true)
    (hbad : v.devWriteBad f.addr f.body.length = false) :
    exec (.readReply k) s = .next (v.devWrite f.addr f.body) := by
  refine congrArg Host.Outcome.next ((State.onServed_served _ hf hk hs).trans ?_)
  rw [← hv]
  simp only [hin, hmem, hbad, Bool.and_self, Bool.false_eq_true, if_true, if_false]

/-- Settles O41: each kind of frame, taken from the inbox, is served as its row does; one whose accesses are not served
leaves the state as it is. -/
theorem requestFramesAreServed : Obligations.RequestFramesAreServed := by
  intro s k f hf
  refine ⟨fun hk => ⟨exec_signal_applied hf hk, exec_signal_foreign hf hk, exec_signal_retired hf hk⟩,
    fun l hk hdef hq hl => exec_abortNotice_targets hf hk hdef hq hl, exec_preemptNotice_at hf,
    fun hk => ⟨fun hs => ?rows, fun hs => ?rowsWait⟩, exec_hold_at hf, fun hk => ⟨fun hs => ?readWaits, ?read⟩,
    fun hk => ⟨fun hs => ?fetch, fun hs => ?fetchWaits⟩, fun hk => ⟨fun hs => ?writeWaits, ?write⟩⟩
  case rows | fetch => exact congrArg Host.Outcome.next (State.onServed_served _ hf hk hs)
  case rowsWait | readWaits | fetchWaits | writeWaits =>
    exact congrArg Host.Outcome.next (State.onServed_waits _ hf hk hs)
  case read =>
    intro hs hin hmem hbad
    have hserved := exec_readRequest_served hf hk hs rfl hin hmem hbad
    exact ⟨hserved, fun hroom => hserved.trans (congrArg _ (State.sendRead_one f hroom _))⟩
  case write => exact fun hs hin hmem hbad => exec_readReply_served hf hk hs rfl hin hmem hbad

end Sys2Proof.Machine
end

section
/-! What counters and host requests leave of memory (R239, R252, R355, R374), and a device byte outside the rows that a
command writes. -/

namespace Sys2Proof.Machine

variable {s t : State} {a : Nat}

/-! ### Counters beside memory -/

/-- A reading that looks at neither the counters nor the trust state is the same after a count. -/
theorem State.tally_reads {α : Type} (f : State → α) (h : ∀ r o, f { s with trust := r, obj := o } = f s)
    (c i b n : Nat) : f (s.tally c i b n) = f s := by
  obtain ⟨r, o, hf⟩ := s.tally_frame c i b n
  rw [hf, h]

theorem State.objv_tally_ne {c i b n j k : Nat} (h : objKey j k ≠ objKey i b) :
    (s.tally c i b n).objv j k = s.objv j k := by
  unfold State.tally
  split
  · rfl
  · exact State.objv_bump_ne n h

/-- The objects of the 16 partitions say whose key an address is under. -/
theorem State.encCtx_congr (h : ∀ p k, p < 16 → k < 8 → t.objv (0x4100 + p) k = s.objv (0x4100 + p) k) (x : Nat) :
    t.encCtx x = s.encCtx x := by
  have hpart : t.partOf (x / gib) = s.partOf (x / gib) := by
    refine List.find?_congr fun p hp => ?_
    have hp16 := List.mem_range.mp hp
    simp only [State.partHas, State.partOn, h p _ hp16 (by decide : 7 < 8), h p _ hp16 (by decide : 1 < 8),
      h p _ hp16 (by decide : 2 < 8)]
  unfold State.encCtx
  rw [hpart]
  split
  · rfl
  · next p hp =>
    have hp16 := List.mem_range.mp (List.mem_of_find?_eq_some hp)
    rw [h p 4 hp16 (by decide)]

theorem State.encCtx_tally {i : Nat} (hi : 0x4110 ≤ i) (c b n x : Nat) : (s.tally c i b n).encCtx x = s.encCtx x :=
  State.encCtx_congr (fun p k hp hk => State.objv_tally_ne (by unfold objKey; omega)) x

theorem State.tabsOk_setObj (h : s.tabsOk = true) (i b v : Nat) : (s.setObj i b v).tabsOk = true := by
  have hobj := State.wf_obj_setObj i b v (State.wf_obj h)
  simp only [State.tabsOk, Bool.and_eq_true] at h ⊢
  simp [h, hobj]

theorem State.tabsOk_tally (h : s.tabsOk = true) (c i b n : Nat) : (s.tally c i b n).tabsOk = true := by
  unfold State.tally State.bump
  split
  · exact h
  · split
    · exact h
    · exact State.tabsOk_setObj h i b _

theorem State.tabsOk_with_sectors (h : s.tabsOk = true) {m : Mem} {p : Tab Bool} {tags : Tab (Option KeyTag)}
    (hp : Tab.wf false p = true) (ht : Tab.wf none tags = true) :
    State.tabsOk { s with mem := m, pool := { s.pool with poison := p, tags := tags } } = true := by
  simp only [State.tabsOk, Bool.and_eq_true] at h ⊢
  simp only [h, hp, ht, and_self]

theorem State.tabsOk_devWrite (h : s.tabsOk = true) (x : Nat) (l : List Byte) : (s.devWrite x l).tabsOk = true := by
  unfold State.devWrite
  split
  · exact h
  · exact State.tabsOk_with_sectors h (Tab.wf_foldl_put false _ _ id _ (State.wf_poison h))
      (Tab.wf_foldl_put none _ _ id _ (State.wf_tags h))

theorem wf_writeKept {drop : Nat → Bool} {m : Mem} (hm : m.wf = true) (x : Nat) (l : List Byte) :
    (writeKept drop m x l).wf = true := by
  induction l generalizing m x with
  | nil => exact hm
  | cons b l ih =>
    refine ih ?_ (x + 1)
    split
    · exact hm
    · exact Tab.wf_put _ _ _ _ hm

theorem State.memOk_with {m h co ac : Mem} (hs : s.memOk = true) (hm : m.wf = true) (hh : h.wf = true)
    (hco : co.wf = true) (hac : ac.wf = true) :
    State.memOk { s with mem := m, host := h, core := co, acc := ac } = true := by
  simp only [State.memOk, hm, hh, hco, hac, State.wf_feeder hs, Bool.and_self]

theorem State.memOk_set (h : s.memOk = true) (p : Place) (x : Nat) (l : List Byte) : (s.set p x l).memOk = true := by
  have hm := State.wf_mem h
  have hh := State.wf_host h
  have hco := State.wf_core h
  have hac := State.wf_acc h
  cases p with
  | dev =>
    rcases Nat.lt_or_ge x hostBase with hx | hx
    · rw [State.set, State.devWrite_stack hx]
      exact State.memOk_with h (wf_writeKept (Mem.wf_foldl_write _ _ hm) x l) hh hco hac
    · rw [State.set, State.devWrite_host hx]
      exact State.memOk_with h hm (Mem.wf_write _ _ _ hh) hco hac
  | core k => exact State.memOk_with h hm hh (Mem.wf_write _ _ _ hco) hac
  | acc k i => exact State.memOk_with h hm hh hco (Mem.wf_write _ _ _ hac)

theorem State.tabsOk_set (h : s.tabsOk = true) (p : Place) (x : Nat) (l : List Byte) : (s.set p x l).tabsOk = true := by
  cases p with
  | dev => exact State.tabsOk_devWrite h x l
  | core k => exact h
  | acc k i => exact h

/-! ### A device byte outside the rows written -/

/-- A byte reads the same over the same stores under the same keys. -/
theorem State.devByte_congr (hm : t.mem = s.mem) (hh : t.host = s.host) (hp : t.pool = s.pool)
    (he : ∀ x, t.encCtx x = s.encCtx x) (x : Nat) : t.devByte x = s.devByte x := by
  unfold State.devByte State.stackByte State.readable State.readTag State.tag State.keySlots
  rw [hm, hh, hp, he]

theorem State.keyed_congr (hp : t.pool = s.pool) (he : ∀ x, t.encCtx x = s.encCtx x) (x n : Nat) :
    t.keyed x n = s.keyed x n := by
  simp only [State.keyed, State.keySlots, hp, he]

/-- From s to t the device's stores and tables stay sound, its keys stay, and the byte at a device address reads as it
did. -/
structure State.KeepsByte (s : State) (a : Nat) (t : State) : Prop where
  mem : t.memOk = true
  tabs : t.tabsOk = true
  keyed : ∀ x n, t.keyed x n = s.keyed x n
  byte : t.devByte a = s.devByte a

theorem State.KeepsByte.tally (h : s.KeepsByte a t) {i : Nat} (hi : 0x4110 ≤ i) (c b n : Nat) :
    s.KeepsByte a (t.tally c i b n) := by
  have henc := State.encCtx_tally (s := t) hi c b n
  have htabs := State.tabsOk_tally h.tabs c i b n
  have hmem := State.tally_reads (s := t) State.mem (fun _ _ => rfl) c i b n
  have hhost := State.tally_reads (s := t) State.host (fun _ _ => rfl) c i b n
  have hpool := State.tally_reads (s := t) State.pool (fun _ _ => rfl) c i b n
  exact ⟨(State.tally_reads State.memOk (fun _ _ => rfl) c i b n).trans h.mem, htabs,
    fun x n => (State.keyed_congr hpool henc x n).trans (h.keyed x n),
    (State.devByte_congr hmem hhost hpool henc a).trans h.byte⟩

/-- Bytes written at a place: of device memory in a region under keys that its context holds, away from the byte. -/
theorem State.KeepsByte.set (h : s.KeepsByte a t) {p : Place} {x : Nat} {l : List Byte}
    (hrow : p = .dev → s.keyed x l.length = true ∧ (a < x ∨ x + l.length ≤ a)) : s.KeepsByte a (t.set p x l) := by
  refine ⟨State.memOk_set h.mem p x l, State.tabsOk_set h.tabs p x l, fun y n => ?_, ?_⟩
  · rw [← h.keyed]
    cases p with
    | dev =>
      unfold State.set State.devWrite
      dsimp only
      split <;> rfl
    | core k => rfl
    | acc k i => rfl
  · cases p with
    | dev =>
      obtain ⟨hk, hout⟩ := hrow rfl
      rw [← h.byte]
      exact State.devByte_devWrite_out h.mem h.tabs (by rw [h.keyed, hk]) hout
    | core k => exact h.byte
    | acc k i => exact h.byte

theorem State.KeepsByte.usedFree (h : s.KeepsByte a t) (n : Nat) : s.KeepsByte a (t.usedFree n) :=
  ⟨h.mem, h.tabs, h.keyed, h.byte⟩

/-- The rows of an extent of device memory lie under keys that their context holds and away from an address. -/
def State.clearOf (s : State) (e : Extent) (a : Nat) : Prop :=
  ∀ i, i < e.rows → e.place = .dev → s.keyed (e.addr + i * e.pitch) e.n = true ∧
    (a < e.addr + i * e.pitch ∨ e.addr + i * e.pitch + e.n ≤ a)

theorem State.clearOf_of_not_holds {e : Extent} (hk : ∀ i, i < e.rows → s.keyed (e.addr + i * e.pitch) e.n = true)
    (h : e.holds .dev a = false) : s.clearOf e a := by
  intro i hi hp
  refine ⟨hk i hi, ?_⟩
  have hrow := h
  simp only [Extent.holds, hp, decide_true, Bool.true_and, List.any_eq_false, List.mem_range, decide_eq_true_eq] at hrow
  have := hrow i hi
  omega

theorem State.KeepsByte.setRows (h : s.KeepsByte a t) {e : Extent} (he : s.clearOf e a) {rows : List (List Byte)}
    (hlen : rows.length = e.rows) (hrow : ∀ r ∈ rows, r.length = e.n) :
    s.KeepsByte a (t.setRows e.place e.addr e.pitch rows) := by
  refine List.foldlRecOn (motive := s.KeepsByte a) _ _ h fun u hu r hr => hu.set fun hp => ?_
  obtain ⟨hi, hmem⟩ := List.of_mem_zip hr
  rw [hrow _ hmem]
  exact he r.1 (by simpa [hlen] using hi) hp

theorem State.KeepsByte.scrambleAll (h : s.KeepsByte a t) {e : Extent} (he : s.clearOf e a) :
    s.KeepsByte a (t.scrambleAll [e]) := by
  refine List.foldlRecOn (motive := s.KeepsByte a) _ _ h fun u hu x hx => ?_
  obtain rfl : x = e := List.mem_singleton.mp (List.mem_of_mem_filter hx)
  refine List.foldlRecOn (motive := s.KeepsByte a) _ _ hu fun v hv i hi =>
    State.KeepsByte.usedFree (hv.set fun hp => ?_) _
  rw [State.length_freeBytes]
  exact he i (List.mem_range.mp hi) hp

theorem State.KeepsByte.hostAsk (h : s.KeepsByte a t) (c x n : Nat) (write shared : Bool) :
    s.KeepsByte a (t.hostAsk c x n write shared) := by
  unfold State.hostAsk
  split
  · exact h
  · obtain ⟨hm, hs, hk, hb⟩ := h.tally (i := 0x7600) (by decide) c ((if write then 1 else 5) + t.linkOf x) n
    exact ⟨hm, hs, hk, hb⟩

end Sys2Proof.Machine
end

section
/-! The copy-range commands (R355 to R362): what a row makes of the rows of a copy or fill, and the bytes it leaves. -/

namespace Sys2Proof.Machine

variable {s t : State} {id : CmdId} {c : Cmd} {b : CopyBody} {a : Nat}

/-! ### A row by its command's readiness -/

theorem State.runnable_of_fits {p q : Desc → Bool} (h : s.runnable id p = some c) (hq : q c.desc = true) :
    s.runnable id q = some c := by
  unfold State.runnable at h ⊢
  rw [Option.filter_eq_some_iff] at h ⊢
  obtain ⟨hfound, hfit⟩ := h
  refine ⟨hfound, ?_⟩
  simp only [Bool.and_eq_true] at hfit ⊢
  simp only [hfit, hq, and_self]

/-- A row that takes its units leaves the state, finds them retired, or does its work on the command it names. -/
theorem State.runOn_cases {p : Desc → Bool} {units : State → Cmd → List UnitId} {f : State → Cmd → State × Status}
    (h : s.findCmd id = some c) :
    s.runOn id p units f = s ∨ s.runOn id p units f = s.finish id .unitRetired ∨
      s.runOn id p units f = (f (s.took c) c).1.finish id (f (s.took c) c).2 := by
  unfold State.runOn
  split
  · exact .inl rfl
  · next d hd =>
    obtain rfl : d = c := Option.some.inj ((State.findCmd_of_runnable hd).symm.trans h)
    split
    · exact .inr (.inl rfl)
    · exact .inl rfl
    · split
      · exact .inr (.inr rfl)
      · exact .inl rfl

/-! ### The work of a copy -/

@[simp] theorem State.copyRow_took : (s.took c).copyRow b = s.copyRow b :=
  State.took_reads (·.copyRow b) fun _ => rfl

@[simp] theorem State.copyLinks_took : (s.took c).copyLinks b = s.copyLinks b :=
  State.took_reads (·.copyLinks b) fun _ => rfl

@[simp] theorem State.requestsFail_took (x l : Nat) : (s.took c).requestsFail x l = s.requestsFail x l :=
  State.took_reads (·.requestsFail x l) fun _ => rfl

theorem State.length_get (p : Place) (x n : Nat) : (s.get p x n).length = n := by
  cases p <;> simp [State.get, State.devRead, Mem.length_read]

theorem State.length_copyRow (i : Nat) : (s.copyRow b i).length = b.len := by
  unfold State.copyRow
  split
  · exact State.length_get ..
  · simp

theorem State.copyRow_of_src {e : CopyEnd} (h : b.src = some e) (i : Nat) :
    s.copyRow b i = s.get (b.place e) (e.addr + i * e.pitch) b.len := by
  simp only [State.copyRow, h]

theorem State.getD_copyRow_of_pattern (h : b.src = none) (i : Nat) {k : Nat} (hk : k < b.len) :
    (s.copyRow b i).getD k 0 = BitVec.ofNat 8 (b.pattern / 256 ^ (k % 8)) := by
  simp [State.copyRow, h, List.getD, hk]

/-- The rows of a copy moved where no poison is met: undefined where source and destination meet. -/
def State.rowsMoved (b : CopyBody) (s : State) : State × Status :=
  if (b.src.map b.extent).toList.any (b.extent b.dst).meets then (s.scrambleAll [b.extent b.dst], .ok)
  else (s.setRows (b.place b.dst) b.dst.addr b.dst.pitch ((List.range b.rows).map (s.copyRow b)), .ok)

theorem State.moveRows_eq (x : Nat) : s.moveRows x b =
    ((s.withPoison (b.src.map b.extent).toList [b.extent b.dst] (State.rowsMoved b)).1.askHost x b,
      (s.withPoison (b.src.map b.extent).toList [b.extent b.dst] (State.rowsMoved b)).2) := rfl

/-- The rows of a copy that meets neither poison nor its own source, and the requests they are to a host. -/
theorem State.moveRows_clean (x : Nat) (hr : s.regionsBad (b.src.map b.extent).toList = false)
    (hw : s.regionsWriteBad [b.extent b.dst] = false)
    (hmeet : (b.src.map b.extent).toList.any (b.extent b.dst).meets = false) :
    s.moveRows x b = ((s.setRows (b.place b.dst) b.dst.addr b.dst.pitch
      ((List.range b.rows).map (s.copyRow b))).askHost x b, .ok) := by
  rw [State.moveRows_eq, State.withPoison_clean _ hr hw, State.rowsMoved, hmeet]
  rfl

theorem State.copyWork_clean (h : ∀ l ∈ s.copyLinks b, s.requestsFail id.ctx l = false) :
    s.copyWork id b = s.moveRows id.ctx b := by
  have hnone : (s.copyLinks b).find? (fun l => s.requestsFail id.ctx l) = none :=
    List.find?_eq_none.mpr fun l hl => by simp [h l hl]
  rw [State.copyWork, hnone]

/-- A ready copy row whose host links carry its requests does its command's work. -/
theorem State.runCopy_ready {op : Nat} {body : Desc → CopyBody}
    (h : s.readyAt id (isOp op) (fun s c => s.copyUnits (body c.desc)) c)
    (hl : ∀ l ∈ s.copyLinks (body c.desc), s.linkSecure l = true) :
    s.runCopy id op body =
      ((s.took c).copyWork id (body c.desc)).1.finish id ((s.took c).copyWork id (body c.desc)).2 := by
  obtain ⟨hrun, hunits, hturn⟩ := h
  refine State.runOn_ready _ ⟨State.runnable_of_fits hrun ?_, hunits, hturn⟩
  rw [State.fits_of_runnable hrun, Bool.true_and, List.all_eq_true]
  exact fun l hmem => by rw [hl l hmem, Bool.true_or]

/-- Settles O13: the row is its work, which meets nothing that would stop the rows from being moved. -/
theorem copyAndFillWriteTheirRows : Obligations.CopyAndFillWriteTheirRows := by
  intro s id op body row c hrow hready hlinks b srcs hr hw hmeet
  have hexec : exec row s = .next (s.runCopy id op body) := by
    rcases hrow with ⟨rfl, rfl, rfl⟩ | ⟨rfl, rfl, rfl⟩ <;> rfl
  have hwork : (s.took c).copyWork id b = (((s.took c).setRows (b.place b.dst) b.dst.addr b.dst.pitch
      ((List.range b.rows).map (s.copyRow b))).askHost id.ctx b, .ok) := by
    rw [State.copyWork_clean (by simpa using fun l hl => (hlinks l hl).2),
      State.moveRows_clean id.ctx (by simpa using hr) (by simpa using hw) hmeet]
    simp
  refine ⟨?_, fun i => ⟨State.length_copyRow i, fun e he => State.copyRow_of_src he i,
    fun he k hk => State.getD_copyRow_of_pattern he i hk⟩⟩
  rw [hexec, State.runCopy_ready hready fun l hl => (hlinks l hl).1, hwork]

/-! ### Bytes left alone -/

theorem State.KeepsByte.askEnd (h : s.KeepsByte a t) (x : Nat) (e : CopyEnd) (write : Bool) :
    s.KeepsByte a (t.askEnd x b e write) := by
  unfold State.askEnd
  split
  · exact List.foldlRecOn (motive := s.KeepsByte a) _ _ h fun _ hu _ _ => hu.hostAsk ..
  · exact h

theorem State.KeepsByte.askHost (h : s.KeepsByte a t) (x : Nat) : s.KeepsByte a (t.askHost x b) :=
  State.KeepsByte.askEnd (List.foldlRecOn (motive := s.KeepsByte a) _ _ h fun _ hu _ _ => hu.askEnd ..) ..

/-- Work over extents leaves them undefined, or is the work. -/
theorem State.KeepsByte.withPoison {reads writes : List Extent} {work : State → State × Status}
    (hfree : s.KeepsByte a (t.scrambleAll writes)) (hwork : s.KeepsByte a (work t).1) :
    s.KeepsByte a (t.withPoison reads writes work).1 := by
  unfold State.withPoison
  split
  · exact hfree
  · split <;> exact hwork

theorem State.KeepsByte.updCmd (h : s.KeepsByte a t) (id : CmdId) (f : Cmd → Cmd) : s.KeepsByte a (t.updCmd id f) :=
  ⟨h.mem, h.tabs, h.keyed, h.byte⟩

theorem State.KeepsByte.moveRows (h : s.KeepsByte a t) (hclear : s.clearOf (b.extent b.dst) a) (x : Nat) :
    s.KeepsByte a (t.moveRows x b).1 := by
  have hrows : s.KeepsByte a
      (t.setRows (b.place b.dst) b.dst.addr b.dst.pitch ((List.range b.rows).map (t.copyRow b))) :=
    h.setRows hclear (by simp [CopyBody.extent]) (by simp [CopyBody.extent, State.length_copyRow])
  rw [State.moveRows_eq]
  refine State.KeepsByte.askHost (State.KeepsByte.withPoison (h.scrambleAll hclear) ?_) x
  unfold State.rowsMoved
  split
  · exact h.scrambleAll hclear
  · exact hrows

theorem State.KeepsByte.copyWork (h : s.KeepsByte a t) (hclear : s.clearOf (b.extent b.dst) a) :
    s.KeepsByte a (t.copyWork id b).1 := by
  unfold State.copyWork
  split
  · next l _ =>
    have hcounted := (h.tally (i := 0x7600) (by decide) id.ctx (13 + l) 2).tally (i := 0x7800) (by decide) id.ctx 3 1
    exact (hcounted.updCmd id fun x => { x with retries := x.retries + 1 }).scrambleAll hclear
  · exact h.moveRows hclear id.ctx

theorem State.keepsByte_took (hm : s.memOk = true) (hs : s.tabsOk = true) : s.KeepsByte a (s.took c) := by
  rw [State.took_eq]
  exact ⟨hm, hs, fun _ _ => rfl, rfl⟩

theorem State.devByte_runCopy {op : Nat} {body : Desc → CopyBody} (hm : s.memOk = true) (hs : s.tabsOk = true)
    (hc : s.findCmd id = some c) (hclear : s.clearOf ((body c.desc).extent (body c.desc).dst) a) :
    (s.runCopy id op body).devByte a = s.devByte a := by
  rcases State.runOn_cases (p := fun d => isOp op d && (s.copyLinks (body d)).all fun l =>
      s.linkSecure l || s.requestsFail id.ctx l) (units := fun s c => s.copyUnits (body c.desc))
    (f := fun s c => s.copyWork id (body c.desc)) hc with hrow | hrow | hrow
  all_goals rw [State.runCopy, hrow]
  · rfl
  · exact ((State.keepsByte_took hm hs).copyWork hclear).byte

/-- Settles O14: however the row ends, it writes or scrambles the rows of its destination at most. -/
theorem copyAndFillLeaveOtherBytes : Obligations.CopyAndFillLeaveOtherBytes := by
  intro s t id row c a hm hs hc hrow hexec b hkeys hout
  have hclear : s.clearOf (b.extent b.dst) a := State.clearOf_of_not_holds (fun i hi => (hkeys i hi).2) hout
  rcases hrow with rfl | rfl
  · obtain rfl : s.runCopy id 0x20 copyBody = t := Host.Outcome.next.inj hexec
    exact State.devByte_runCopy hm hs hc (by simpa [b] using hclear)
  · obtain rfl : s.runCopy id 0x21 fillBody = t := Host.Outcome.next.inj hexec
    exact State.devByte_runCopy hm hs hc (by simpa [b] using hclear)

end Sys2Proof.Machine
end

section
/-! BIAS_SET and KEY_ROTATE (R253, R361, R363, R371): the pages that take the bias, and the key slot that takes a fresh
key. -/

namespace Sys2Proof.Machine

variable {s : State} {id : CmdId} {c : Cmd}

/-! ### BIAS_SET -/

theorem State.runnable_none_of_unfit {p q : Desc → Bool} (h : s.runnable id p = some c) (hq : q c.desc = false) :
    s.runnable id q = none := by
  rw [State.runnable, State.findCmd_of_runnable h]
  simp [Option.filter, hq]

/-- Reading a store into which one value was put over a range of keys. -/
theorem Tab.get_foldl_put_range {α : Type} [DecidableEq α] {d v : α} {t : Tab α} (ht : Tab.wf d t = true)
    (first n p : Nat) : Tab.get d ((List.range n).foldl (fun t k => Tab.put d t (first + k) v) t) p =
      if first ≤ p ∧ p < first + n then v else Tab.get d t p := by
  have hfold := Tab.get_foldl_put (f := fun _ => v) ((List.range n).map (first + ·)) ht p
  rw [List.foldl_map] at hfold
  rw [hfold]
  refine if_congr ?_ rfl rfl
  simp only [List.mem_map, List.mem_range]
  exact ⟨by rintro ⟨k, hk, rfl⟩; omega, fun hp => ⟨p - first, by omega, by omega⟩⟩

/-- The bias of the pages after a BIAS_SET. -/
def State.biasAfter (s : State) (d : Desc) : Tab Bool :=
  (List.range (fld d 263 240 + 1)).foldl (fun t k => Tab.put false t (fld d 239 192 / 4096 + k) (flag d 264))
    s.trust.bias

theorem State.get_biasAfter (hs : s.tabsOk = true) (d : Desc) (p : Nat) : Tab.get false (s.biasAfter d) p =
    if fld d 239 192 / 4096 ≤ p ∧ p ≤ fld d 239 192 / 4096 + fld d 263 240 then flag d 264
    else Tab.get false s.trust.bias p := by
  rw [State.biasAfter, Tab.get_foldl_put_range (State.wf_bias hs)]
  exact if_congr (by omega) rfl rfl

theorem exec_biasSet_ready (h : s.runnable id (isOp 0x22) = some c) (hm : s.mayFlush c.desc = true) :
    exec (.biasSet id) s =
      .next (State.finish { s with trust := { s.trust with bias := s.biasAfter c.desc } } id .ok) :=
  congrArg Host.Outcome.next
    (State.run_ready _ (State.runnable_of_fits h (by rw [State.fits_of_runnable h, hm, Bool.and_self])))

theorem exec_biasSet_waits (h : s.runnable id (isOp 0x22) = some c) (hm : s.mayFlush c.desc = false) :
    exec (.biasSet id) s = .next s :=
  congrArg Host.Outcome.next (State.run_absent _ (State.runnable_none_of_unfit h (by rw [hm, Bool.and_false])))

/-! ### KEY_ROTATE -/

theorem exec_keyRotate_busy (h : s.runnable id (isOp 0x23) = some c) (hr : s.rotating id.ctx = true) :
    exec (.keyRotate id) s = .next (s.finish id .keyBusy) := by
  refine congrArg Host.Outcome.next ((State.run_ready _ h).trans ?_)
  simp only [hr, if_true]

theorem exec_keyRotate_loads (h : s.runnable id (isOp 0x23) = some c) (hr : s.rotating id.ctx = false) :
    exec (.keyRotate id) s = .next ((s.loadKey id.ctx).finish id .ok) := by
  refine congrArg Host.Outcome.next ((State.run_ready _ h).trans ?_)
  simp only [hr, Bool.false_eq_true, if_false]

/-- A context's key slots once a fresh key has gone into the one that is not current. -/
def KeySlots.loaded (k : KeySlots) (n : Nat) : KeySlots :=
  if k.current = 0 then { k with key1 := some n } else { k with key0 := some n }

theorem KeySlots.current_loaded (k : KeySlots) (n : Nat) : (k.loaded n).current = k.current := by
  unfold KeySlots.loaded
  split <;> rfl

theorem KeySlots.key_loaded_other (k : KeySlots) (n : Nat) : (k.loaded n).key (1 - k.current) = some n := by
  by_cases h : k.current = 0
  · simp [KeySlots.loaded, KeySlots.key, h]
  · have hother : 1 - k.current = 0 := by omega
    simp [KeySlots.loaded, KeySlots.key, h, hother]

theorem KeySlots.key_loaded_current (k : KeySlots) (n : Nat) : (k.loaded n).key k.current = k.key k.current := by
  by_cases h0 : k.current = 0 <;> simp [KeySlots.loaded, KeySlots.key, h0]

theorem State.keySlots_loadKey (hs : s.tabsOk = true) (x y : Nat) :
    (s.loadKey x).keySlots y = if y = x then (s.keySlots x).loaded s.draws else s.keySlots y :=
  Tab.get_put _ _ _ _ _ (State.wf_keys hs)

/-- Settles O15: each row's equation under its condition, and what the store it changes holds after it. -/
theorem biasSetAndKeyRotateRun : Obligations.BiasSetAndKeyRotateRun := by
  refine ⟨fun s id c hs h => ⟨fun hm => ?sets, exec_biasSet_waits h⟩, fun s id c hs h => ?rotates⟩
  case sets => exact ⟨_, exec_biasSet_ready h hm, rfl, rfl, rfl, State.get_biasAfter hs c.desc⟩
  case rotates =>
    cases hr : s.rotating id.ctx with
    | true => exact ⟨_, exec_keyRotate_busy h hr, rfl, fun _ _ => rfl, fun _ => ⟨rfl, rfl⟩, nofun⟩
    | false =>
      have hslots := State.keySlots_loadKey hs id.ctx
      have hown := (hslots id.ctx).trans (if_pos rfl)
      refine ⟨_, exec_keyRotate_loads h hr, rfl, fun x hx => (hslots x).trans (if_neg hx), nofun, fun _ =>
        ⟨rfl, ?_, ?_, fun _ => ?_, rfl⟩⟩
      · exact (congrArg KeySlots.current hown).trans (KeySlots.current_loaded _ _)
      · exact (congrArg (KeySlots.key · _) hown).trans (KeySlots.key_loaded_other _ _)
      · exact (congrArg (KeySlots.key · _) hown).trans (KeySlots.key_loaded_current _ _)

end Sys2Proof.Machine
end

section
/-! What stays while a context leaves its slot (R308, R341, R369): the host links, the functions, the dictionary server
and the functions that contexts are bound to. -/

namespace Sys2Proof.Machine

variable {s t u : State}

/-! ### Frames of this device's own -/

/-- From s to t no context is bound to another function. -/
structure State.BoundAs (s t : State) : Prop where
  boundTo : ∀ c, c < 64 → t.boundTo c = s.boundTo c

theorem State.BoundAs.refl (s : State) : s.BoundAs s := ⟨fun _ _ => rfl⟩

theorem State.BoundAs.trans (h : s.BoundAs t) (h' : t.BoundAs u) : s.BoundAs u :=
  ⟨fun c hc => (h'.boundTo c hc).trans (h.boundTo c hc)⟩

theorem State.BoundAs.of_obj (h : t.obj = s.obj) : s.BoundAs t :=
  ⟨fun c _ => by simp only [State.boundTo, State.objv, h]⟩

theorem State.BoundAs.from_obj (h : t.BoundAs u) (ho : t.obj = s.obj) : s.BoundAs u := (State.BoundAs.of_obj ho).trans h

/-- Counters stand in the store of objects before or after the bindings. -/
theorem State.BoundAs.bump (h : s.BoundAs t) {i b : Nat} (hi : i < 0x6200 ∧ b < 256 ∨ 0x6240 ≤ i) (n : Nat) :
    s.BoundAs (t.bump i b n) := by
  refine ⟨fun c hc => ?_⟩
  have hkey : ∀ k, k < 256 → objKey (0x6200 + c) k ≠ objKey i b := by
    unfold objKey
    omega
  rw [← h.boundTo c hc]
  simp only [State.boundTo, State.objv_bump_ne n (hkey 1 (by decide)), State.objv_bump_ne n (hkey 2 (by decide))]

theorem State.boundAs_recordEvent (s : State) (e : EventIn) : s.BoundAs (s.recordEvent e) :=
  ⟨fun c _ => by simp only [State.boundTo, State.recordEvent_objv]⟩

theorem State.boundAs_sendFrag (s : State) (p : Nat) (f : Frag) : s.BoundAs (s.sendFrag p f) := by
  have hcount : s.BoundAs (s.countPreempt p f) := by
    unfold State.countPreempt
    dsimp only
    split
    · exact ((State.BoundAs.refl s).bump (i := 0x7500) (.inr (by decide)) _).trans (.of_obj rfl)
    · exact .refl s
  refine hcount.trans ?_
  unfold State.sendFrag
  refine State.BoundAs.bump (.of_obj ?_) (.inr (by decide)) _
  rfl

theorem State.boundAs_sendQueue (p n c : Nat) (d : List Nat) (s : State) : s.BoundAs (State.sendQueue p n c d s) := by
  have hqueued : ∀ (v : State) (f : Frag), v.BoundAs (v.sendQueued p f) := fun v f =>
    (State.boundAs_sendFrag (v.setPort p { v.port p with outq := (v.port p).outq.erase f }) p f).from_obj rfl
  induction n generalizing c d s with
  | zero => exact .of_obj rfl
  | succ n ih =>
    unfold State.sendQueue
    split
    · exact (hqueued s _).trans (ih ..)
    · dsimp only
      split
      · exact (hqueued s _).trans (ih ..)
      · exact .of_obj rfl

theorem State.boundAs_unstage (s : State) (f : Frame) : s.BoundAs (s.unstage f) := by
  obtain ⟨_, _, h⟩ := s.unstage_frame f
  rw [h]
  exact .of_obj rfl

theorem State.boundAs_toPort (s : State) (f : Frame) (p : Nat) : s.BoundAs (s.toPort f p) := by
  unfold State.toPort
  split
  · exact (s.boundAs_unstage f).trans ((State.boundAs_sendQueue ..).from_obj rfl)
  · exact .of_obj rfl

theorem State.boundAs_lostSignal (s : State) (c : Nat) : s.BoundAs (s.lostSignal c) :=
  ((State.BoundAs.refl s).bump (.inl (by decide)) 1).trans (State.boundAs_recordEvent _ _)

theorem State.boundAs_offer (s : State) (f : Frame) (since : Nat) : s.BoundAs (s.offer f since).1 := by
  unfold State.offer
  split
  · exact .of_obj rfl
  · split
    · exact s.boundAs_toPort f _
    · split
      · split
        · exact (s.boundAs_unstage f).trans (.of_obj rfl)
        · exact .of_obj rfl
      · exact .refl s

theorem State.boundAs_sendFrame (s : State) (f : Frame) : s.BoundAs (s.sendFrame f) := by
  have hlost : ∀ v : State, s.BoundAs v → s.BoundAs (if f.kind = 0x01 then v.lostSignal f.ctx else v) := by
    intro v hv
    split
    · exact hv.trans (v.boundAs_lostSignal _)
    · exact hv
  have hoffer := s.boundAs_offer f s.now
  unfold State.sendFrame
  split
  · exact hlost s (.refl s)
  · dsimp only
    split
    · exact hlost _ (hoffer.trans (.of_obj rfl))
    · exact hoffer

theorem State.boundAs_cancelPeers (s : State) (c : Cmd) : s.BoundAs (s.cancelPeers c) := by
  unfold State.cancelPeers
  split
  · exact .refl s
  · exact foldl_relates State.BoundAs.refl State.BoundAs.trans (fun t _ => t.boundAs_sendFrame _) _ s

theorem State.boundAs_abortTargets (s : State) (l : List CmdId) : s.BoundAs (s.abortTargets l) := by
  rw [State.abortTargets_eq]
  exact State.BoundAs.trans
    (foldl_relates State.BoundAs.refl State.BoundAs.trans State.boundAs_cancelPeers _ s) (.of_obj rfl)

/-! ### A context that leaves its slot -/

/-- From s to t contexts have left or begun to leave: the host links, the functions, the server and the bindings are as
they were, and the places of the contexts stay in canonical form. -/
structure State.Vacated (s t : State) : Prop where
  links : t.links = s.links
  funcs : t.funcs = s.funcs
  server : t.server = s.server
  bound : s.BoundAs t
  ctxs : Tab.wf Ctx.off s.ctxs = true → Tab.wf Ctx.off t.ctxs = true

theorem State.Vacated.refl (s : State) : s.Vacated s := ⟨rfl, rfl, rfl, .refl s, id⟩

theorem State.Vacated.trans (h : s.Vacated t) (h' : t.Vacated u) : s.Vacated u :=
  ⟨h'.links.trans h.links, h'.funcs.trans h.funcs, h'.server.trans h.server, h.bound.trans h'.bound,
    h'.ctxs ∘ h.ctxs⟩

theorem State.vacated_recordEvent (s : State) (e : EventIn) : s.Vacated (s.recordEvent e) := by
  have hbound := s.boundAs_recordEvent e
  obtain ⟨_, _, _, h⟩ := s.recordEvent_frame e
  rw [h] at hbound ⊢
  exact ⟨rfl, rfl, rfl, hbound, id⟩

theorem State.vacated_setCtx (s : State) (c : Nat) (x : Ctx) : s.Vacated (s.setCtx c x) :=
  ⟨rfl, rfl, rfl, .of_obj rfl, Tab.wf_put _ _ _ _⟩

theorem State.vacated_abortTargets (s : State) (l : List CmdId) : s.Vacated (s.abortTargets l) := by
  have hrest := (s.relayed_targetsCancelled l).rest
  refine ⟨?_, ?_, ?_, s.boundAs_abortTargets l, fun h => by rwa [State.abortTargets_ctxs]⟩
  · exact (congrArg State.links hrest :)
  · exact (congrArg State.funcs hrest :)
  · exact (congrArg State.server hrest :)

theorem State.vacated_beginLeave (s : State) (c : Nat) : s.Vacated (s.beginLeave c) := by
  unfold State.beginLeave
  split
  · exact s.vacated_setCtx c _
  · exact .refl s

theorem State.vacated_leaveNow (s : State) (c : Nat) : s.Vacated (s.leaveNow c) := by
  unfold State.leaveNow
  split
  · exact (s.vacated_beginLeave c).trans ((State.vacated_abortTargets _ _).trans (State.vacated_setCtx _ c _))
  · exact .refl s

/-- A context whose interface is given up: the lock of its window is gone, and it leaves its slot, or where it holds
none its keys are replaced (R369). -/
def State.withdrawn (s : State) (c : Nat) : State :=
  let t : State := { s with trust := { s.trust with tsp := s.trust.tsp.filter (· ≠ c) } }
  if t.resident c then t.leaveNow c else t.endConfidence c

theorem State.vacated_withdrawn (s : State) (c : Nat) : s.Vacated (s.withdrawn c) := by
  unfold State.withdrawn
  dsimp only
  split
  · obtain ⟨hlinks, hfuncs, hserver, hbound, hctxs⟩ :=
      State.vacated_leaveNow { s with trust := { s.trust with tsp := s.trust.tsp.filter (· ≠ c) } } c
    exact ⟨hlinks, hfuncs, hserver, hbound.from_obj rfl, hctxs⟩
  · exact ⟨rfl, rfl, rfl, .of_obj rfl, id⟩

theorem State.tdiError_eq {c : Nat} (h : (s.tdi c).state = .locked ∨ (s.tdi c).state = .run) :
    s.tdiError c = ((s.setTdi c { s.tdi c with
      state := .error
      wasRun := decide ((s.tdi c).state = .run)
      rekey := true }).recordEvent
        ⟨0x5004, .die (16 + (s.tdi c).link / 2), 16 + (s.tdi c).link / 2, 4, 0xFF, c, 0⟩).withdrawn c := if_pos h

theorem State.vacated_setTdi (s : State) (c : Nat) (x : Tdi) : s.Vacated (s.setTdi c x) :=
  ⟨rfl, rfl, rfl, .of_obj rfl, id⟩

theorem State.vacated_tdiError (s : State) (c : Nat) : s.Vacated (s.tdiError c) := by
  by_cases h : (s.tdi c).state = .locked ∨ (s.tdi c).state = .run
  · rw [State.tdiError_eq h]
    exact (s.vacated_setTdi c _).trans ((State.vacated_recordEvent _ _).trans (State.vacated_withdrawn _ c))
  · rw [State.tdiError, if_neg h]
    exact .refl s

theorem State.vacated_tdisError (s : State) (p : Nat → Tdi → Bool) : s.Vacated (s.tdisError p) := by
  refine foldl_relates State.Vacated.refl State.Vacated.trans (fun t c => ?_) _ s
  split
  · exact t.vacated_tdiError c
  · exact .refl t

/-! ### The place of a context that leaves -/

theorem State.ctx_leaveNow_ne (s : State) {c x : Nat} (h : x ≠ c) : (s.leaveNow c).ctx x = s.ctx x := by
  unfold State.leaveNow
  split
  · have hbegin : (s.beginLeave c).ctx x = s.ctx x := by
      unfold State.beginLeave
      split
      · exact State.ctx_setCtx_ne s c x _ h
      · rfl
    rw [State.drainNow, State.ctx_setCtx_ne _ c x _ h, State.ctx, State.abortTargets_ctxs]
    exact hbegin
  · rfl

theorem State.leaving_beginLeave (hw : Tab.wf Ctx.off s.ctxs = true) {c : Nat} (hr : s.resident c = true) :
    ((s.beginLeave c).ctx c).leaving = true := by
  cases hl : (s.ctx c).leaving with
  | true => rwa [State.beginLeave, if_neg (by simp [hl])]
  | false => rw [State.beginLeave_resident hr hl, State.ctx_setCtx_self s c _ hw]

/-- A context that is still in its slot after it was made to leave is leaving. -/
theorem State.leaving_leaveNow (hw : Tab.wf Ctx.off s.ctxs = true) {c : Nat}
    (hr : (s.leaveNow c).resident c = true) : ((s.leaveNow c).ctx c).leaving = true := by
  unfold State.leaveNow at hr ⊢
  split at hr
  · next h =>
    have hbegin := (s.vacated_beginLeave c).ctxs hw
    rw [if_pos h, State.drainNow, State.ctx_setCtx_self _ c _ (by rwa [State.abortTargets_ctxs])]
    exact State.leaving_beginLeave hw h
  · next h => exact absurd hr h

/-- The contexts of a list that are bound to a function made to leave, as its reset does (R456). -/
def State.vacate (s : State) (f : Nat × Nat) (l : List Nat) : State :=
  l.foldl (fun (t : State) c => if t.boundTo c = f then t.leaveNow c else t) s

theorem State.vacated_vacate (s : State) (f : Nat × Nat) (l : List Nat) : s.Vacated (s.vacate f l) := by
  refine foldl_relates State.Vacated.refl State.Vacated.trans (fun t c => ?_) l s
  split
  · exact t.vacated_leaveNow c
  · exact .refl t

/-- A context that is leaving wherever it is in a slot stays so while others leave. -/
theorem State.leaving_vacate (hw : Tab.wf Ctx.off s.ctxs = true) {c : Nat}
    (h : s.resident c = true → (s.ctx c).leaving = true) (f : Nat × Nat) (l : List Nat)
    (hr : (s.vacate f l).resident c = true) : ((s.vacate f l).ctx c).leaving = true := by
  induction l generalizing s with
  | nil => exact h hr
  | cons x l ih =>
    refine ih (s := if s.boundTo x = f then s.leaveNow x else s) ?_ ?_ hr
    · split
      · exact (s.vacated_leaveNow x).ctxs hw
      · exact hw
    · split
      · by_cases hx : c = x
        · subst hx
          exact State.leaving_leaveNow hw
        · rw [State.resident, State.ctx_leaveNow_ne s hx]
          exact h
      · exact h

theorem State.leaving_vacate_of_mem (hw : Tab.wf Ctx.off s.ctxs = true) {c : Nat} (hc : c < 64) {l : List Nat}
    (hl : c ∈ l) {f : Nat × Nat} (hb : s.boundTo c = f) (hr : (s.vacate f l).resident c = true) :
    ((s.vacate f l).ctx c).leaving = true := by
  induction l generalizing s with
  | nil => cases hl
  | cons x l ih =>
    have hstep : s.Vacated (s.vacate f [x]) := s.vacated_vacate f [x]
    by_cases hx : c = x
    · subst hx
      have hleave : s.vacate f [c] = s.leaveNow c := if_pos hb
      exact State.leaving_vacate (hstep.ctxs hw) (by rw [hleave]; exact State.leaving_leaveNow hw) f l hr
    · exact ih (s := s.vacate f [x]) (hstep.ctxs hw) (List.mem_of_ne_of_mem hx hl)
        ((hstep.bound.boundTo c hc).trans hb) hr

end Sys2Proof.Machine
end

section
/-! Host links and resets of functions (R349, R350, R412, R456): a link comes up, a link goes down with its functions
and the sessions of its mailboxes, and a function-level reset reaches what it names. -/

namespace Sys2Proof.Machine

variable {s t : State} {link : Nat}

/-! ### A link comes up -/

/-- A host link as it comes up at a rate and a width (R349, R350). -/
def State.trainedLink (s : State) (link rate width : Nat) : HostLink :=
  { HostLink.down with
    rate := rate
    width := width
    cxl := if link % 2 = 0 ∧ width = s.linkWidth link ∧ 32 ≤ rate then 7 else 1
    up := true
    split := s.splitChosen (link / 2) }

theorem State.cxl_trainedLink (s : State) (link rate width : Nat) : (s.trainedLink link rate width).cxl = 7 ↔
    link % 2 = 0 ∧ width = s.linkWidth link ∧ 32 ≤ rate := by
  unfold State.trainedLink
  dsimp only
  split
  · next h => exact iff_of_true rfl h
  · next h => exact iff_of_false (by decide) h

/-- The device once a link has trained: a link narrower than configured is recorded, and one narrower than its lanes
allow asks for the test of the lane after its last (R350, R426). -/
def State.linkTrained (s : State) (link rate width : Nat) : State :=
  let lane := hostLane link width
  let t := s.setLink link (s.trainedLink link rate width)
  let t := if width < s.linkWidth link then
      t.recordEvent ⟨0x5001, lane, 16 + link / 2, 4, 0xFF, 0xFF, 0⟩ else t
  if s.widthFits link (2 * width) then t.askTest ⟨lane, none, 0, false, 0x5001, false⟩ else t

theorem State.links_linkTrained (s : State) (link rate width : Nat) :
    (s.linkTrained link rate width).links = (s.setLink link (s.trainedLink link rate width)).links := by
  unfold State.linkTrained
  dsimp only
  generalize s.setLink link (s.trainedLink link rate width) = u
  have hrecorded := (u.vacated_recordEvent ⟨0x5001, hostLane link width, 16 + link / 2, 4, 0xFF, 0xFF, 0⟩).links
  split <;> split
  · exact hrecorded
  · rfl
  · exact hrecorded
  · rfl

theorem State.exists_test_linkTrained {rate width : Nat} (h : s.widthFits link (2 * width) = true) :
    ∃ x ∈ (s.linkTrained link rate width).recorder.tests, x.unit = hostLane link width := by
  rw [State.linkTrained, if_pos h]
  exact State.exists_mem_askTest _ _

theorem exec_hostLinkTrained {rate width : Nat} (he : s.linkExists link = true) (hn : s.pins.resetN = true)
    (hd : s.retired (.die (16 + link / 2)) = false) (hu : (s.link link).up = false) (hf : s.lanesFree link = true)
    (hr : rate ∈ linkRates) (hw : s.widthFits link width = true) (hl : s.looping link = false) :
    exec (.hostLinkTrained link rate width) s = .next (s.linkTrained link rate width) :=
  if_pos (by simp [he, hn, hd, hu, hf, hr, hw, hl])

/-! ### A link goes down -/

/-- A channel is a mailbox of a link. -/
def onLink (l : Nat) : Channel → Bool
  | .mbx a _ _ => decide (a = l)
  | .can _ _ => false

theorem isMailbox_of_not_onLink {l : Nat} {ch : Channel} (h : onLink l ch = false) (f : Nat) :
    isMailbox l f ch = false := by
  cases ch with
  | can => rfl
  | mbx a b n =>
    have ha : a ≠ l := of_decide_eq_false h
    exact decide_eq_false fun hab => ha hab.1

theorem State.resetFuncs_links (s : State) (l : Nat) : (s.resetFuncs l).links = s.links := by
  unfold State.resetFuncs
  exact foldl_keeps State.links (fun t f => State.setFunc_links t l f Func.fresh) _ s

theorem State.resetFuncs_server (s : State) (l : Nat) : (s.resetFuncs l).server = s.server := by
  unfold State.resetFuncs
  exact foldl_keeps State.server (fun t f => State.setFunc_server t l f Func.fresh) _ s

theorem State.vacated_startTests (s : State) : s.Vacated s.startTests := ⟨rfl, rfl, rfl, .of_obj rfl, id⟩

/-- A link that is lost is set down, its waiting accesses are gone, its functions are reset and the sessions of its
mailboxes closed. -/
def State.linkCleared (s : State) (l : Nat) : State :=
  ((State.setLink { s with hostWait := s.hostWait.filter fun x => decide (x.link ≠ l) } l HostLink.down).resetFuncs
    l).closeSessions (onLink l)

theorem State.dropLink_up {l : Nat} (h : (s.link l).up = true) : s.dropLink l =
    (((s.linkCleared l).recordEvent ⟨0x5002, .die (16 + l / 2), 16 + l / 2, 4, 0xFF, 0xFF, 0⟩).tdisError
      fun _ x => decide (x.link = l)).startTests := if_pos h

theorem State.vacated_dropLink {l : Nat} (h : (s.link l).up = true) : (s.linkCleared l).Vacated (s.dropLink l) := by
  rw [State.dropLink_up h]
  exact ((State.vacated_recordEvent _ _).trans (State.vacated_tdisError _ _)).trans (State.vacated_startTests _)

theorem State.links_dropLink {l : Nat} (h : (s.link l).up = true) :
    (s.dropLink l).links = Tab.put HostLink.down s.links l HostLink.down := by
  rw [(State.vacated_dropLink h).links]
  exact State.resetFuncs_links _ l

theorem State.sessions_dropLink {l : Nat} (h : (s.link l).up = true) :
    (s.dropLink l).server.sessions = s.server.sessions.filter fun x => !onLink l x.chan := by
  rw [(State.vacated_dropLink h).server, State.linkCleared, State.closeSessions, State.resetFuncs_server]
  rfl

theorem State.dropLink_of_down {l : Nat} (h : (s.link l).up = false) : s.dropLink l = s := if_neg (by simp [h])

theorem State.link_dropLink_self (hw : Tab.wf HostLink.down s.links = true) {l : Nat} (h : (s.link l).up = true) :
    (s.dropLink l).link l = HostLink.down := by
  rw [State.link, State.links_dropLink h]
  exact Tab.get_put_self _ _ _ _ hw

theorem State.link_dropLink_ne {l k : Nat} (h : k ≠ l) : (s.dropLink l).link k = s.link k := by
  cases hu : (s.link l).up with
  | true =>
    rw [State.link, State.links_dropLink hu]
    exact Tab.get_put_ne _ _ _ _ _ h
  | false => rw [State.dropLink_of_down hu]

theorem State.wf_links_dropLink (hw : Tab.wf HostLink.down s.links = true) (l : Nat) :
    Tab.wf HostLink.down (s.dropLink l).links = true := by
  cases hu : (s.link l).up with
  | true =>
    rw [State.links_dropLink hu]
    exact Tab.wf_put _ _ _ _ hw
  | false => rwa [State.dropLink_of_down hu]

theorem State.mem_sessions_of_dropLink {l : Nat} {x : Session} (hx : x ∈ (s.dropLink l).server.sessions) :
    x ∈ s.server.sessions := by
  cases hu : (s.link l).up with
  | true =>
    rw [State.sessions_dropLink hu] at hx
    exact List.mem_of_mem_filter hx
  | false => rwa [State.dropLink_of_down hu] at hx

theorem State.isMailbox_of_mem_dropLink {l : Nat} (h : (s.link l).up = true) {x : Session}
    (hx : x ∈ (s.dropLink l).server.sessions) (f : Nat) : isMailbox l f x.chan = false := by
  rw [State.sessions_dropLink h] at hx
  exact isMailbox_of_not_onLink (by simpa using (List.mem_filter.mp hx).2) f

/-- A link that goes down with its host die: first link 2d of die d, then link 2d + 1. -/
theorem exec_perst {d : Nat} (hd : d < 2) : exec (.perst d) s = .next ((s.dropLink (2 * d)).dropLink (2 * d + 1)) :=
  if_pos hd

/-- From s to t a link has gone down: it is down, its mailboxes hold no session, and no link of another host die has
changed. -/
def State.linkLost (s : State) (link : Nat) (t : State) : Prop :=
  t.link link = HostLink.down ∧ (∀ k, k / 2 ≠ link / 2 → t.link k = s.link k) ∧
    ∀ x ∈ t.server.sessions, ∀ f, isMailbox link f x.chan = false

theorem State.linkLost_dropLink (hw : Tab.wf HostLink.down s.links = true) (h : (s.link link).up = true) :
    s.linkLost link (s.dropLink link) :=
  ⟨State.link_dropLink_self hw h, fun k hk => State.link_dropLink_ne fun e => hk (by rw [e]),
    fun _ hx f => State.isMailbox_of_mem_dropLink h hx f⟩

/-- Either link of a host die that goes down with the other is lost. -/
theorem State.linkLost_dropLinks (hw : Tab.wf HostLink.down s.links = true) (h : (s.link link).up = true) :
    s.linkLost link ((s.dropLink (2 * (link / 2))).dropLink (2 * (link / 2) + 1)) := by
  have hothers : ∀ k, k / 2 ≠ link / 2 →
      ((s.dropLink (2 * (link / 2))).dropLink (2 * (link / 2) + 1)).link k = s.link k := fun k hk => by
    rw [State.link_dropLink_ne (by omega), State.link_dropLink_ne (by omega)]
  obtain heven | hodd : link = 2 * (link / 2) ∨ link = 2 * (link / 2) + 1 := by omega
  · obtain ⟨hdown, -, hsessions⟩ := State.linkLost_dropLink hw h
    rw [← heven]
    refine ⟨?_, by rwa [heven.symm] at hothers, fun x hx f => hsessions x (State.mem_sessions_of_dropLink hx) f⟩
    rw [State.link_dropLink_ne (by omega), hdown]
  · have hup : ((s.dropLink (2 * (link / 2))).link link).up = true := by rwa [State.link_dropLink_ne (by omega)]
    obtain ⟨hdown, -, hsessions⟩ := State.linkLost_dropLink (State.wf_links_dropLink hw _) hup
    rw [← hodd]
    exact ⟨hdown, by rwa [← hodd] at hothers, hsessions⟩

/-! ### Function-level resets -/

theorem exec_flrFunction0 (hl : link < 4) : exec (.flrFunction0 link) s = .next
    ((s.setFunc link 0 { (s.func link 0).mailboxReset with config := [], errors := 0 }).closeSessions
      (isMailbox link 0)) := if_pos hl

/-- The device once the mailbox of a context function is reset and its interfaces are in ERROR. -/
def State.funcCleared (s : State) (link fn : Nat) : State :=
  (s.setFunc link fn (s.func link fn).mailboxReset).tdisError fun _ x => decide (x.link = link ∧ x.fn = fn)

theorem State.vacated_funcCleared (s : State) (link fn : Nat) :
    (s.setFunc link fn (s.func link fn).mailboxReset).Vacated (s.funcCleared link fn) := State.vacated_tdisError _ _

theorem exec_flrContextFunction {fn : Nat} (hl : link < 4) (h1 : 1 ≤ fn) (h8 : fn ≤ 8) :
    exec (.flrContextFunction link fn) s = .next ((s.funcCleared link fn).vacate (link, fn) (List.range 64)) :=
  if_pos ⟨hl, h1, h8⟩

/-- Settles O47: a link that trains is set, one that is lost is dropped, and what follows leaves the links alone; a
context that a reset finds in its slot is made to leave it. -/
theorem hostLinksAndFunctionResets : Obligations.HostLinksAndFunctionResets := by
  refine ⟨fun s link hs => ⟨fun rate width he hn hd hu hf hr hw hl => ?trains, fun row hrow hu => ?lost⟩,
    fun s link hs hl => ⟨?function0, fun fn h1 h8 => ?context⟩⟩
  case trains =>
    have hlinks := s.links_linkTrained link rate width
    have hown : (s.linkTrained link rate width).link link = s.trainedLink link rate width := by
      rw [State.link, hlinks]
      exact State.link_setLink_self s link _ (State.wf_links hs)
    refine ⟨_, exec_hostLinkTrained he hn hd hu hf hr hw hl, ?_, ?_, ?_, ?_, ?_, State.exists_test_linkTrained,
      fun k hk => ?_⟩
    · rw [hown]; rfl
    · rw [hown]; rfl
    · rw [hown]; rfl
    · rw [hown]; rfl
    · rw [hown]; exact s.cxl_trainedLink link rate width
    · rw [State.link, hlinks]
      exact State.link_setLink_ne s link k _ hk
  case lost =>
    have hw := State.wf_links hs
    rcases hrow with rfl | rfl | ⟨rfl, hl⟩
    · exact ⟨_, rfl, State.linkLost_dropLink hw hu⟩
    · exact ⟨_, rfl, State.linkLost_dropLink hw hu⟩
    · exact ⟨_, exec_perst (by omega), State.linkLost_dropLinks hw hu⟩
  case function0 =>
    refine ⟨_, exec_flrFunction0 hl, State.func_setFunc_self s link 0 _ (State.wf_funcs hs), fun x hx => ?_, rfl⟩
    simpa using (List.mem_filter.mp hx).2
  case context =>
    have hcleared := s.vacated_funcCleared link fn
    have hleft := (s.funcCleared link fn).vacated_vacate (link, fn) (List.range 64)
    refine ⟨_, exec_flrContextFunction hl h1 h8, ?_, fun c hc hb _ hr => ?_⟩
    · rw [State.func, hleft.funcs, hcleared.funcs]
      exact State.func_setFunc_self s link fn _ (State.wf_funcs hs)
    · exact State.leaving_vacate_of_mem (hcleared.ctxs (State.wf_ctxs (s := s) hs)) hc (List.mem_range.mpr hc)
        ((hcleared.bound.boundTo c hc).trans hb) hr

end Sys2Proof.Machine
end

section
/-! Host requests (R352, R353, R360, R363, R366): registers of a function, accesses of the window, and a request of a
copy that fails. -/

namespace Sys2Proof.Machine

variable {s t : State} {link fn reg : Nat} {trusted : Bool}

/-! ### Registers of functions -/

theorem exec_hostConfiguration (hu : (s.link link).up = true) (hf : funcOk link fn = true)
    (hs : s.linkSecure link = true) (w : HostWord) : exec (.hostConfigurationRequest link fn reg w) s =
      if reg < 1024 then
        if !s.pins.ready then .next (s.sendCfg link fn true 0)
        else
          match w.write with
          | some v => .next ((s.configWrite link fn reg v).sendCfg link fn false 0)
          | none => .next (s.sendCfg link fn false (Config.configSpace link fn reg
              (Tab.get none (s.func link fn).config reg) (s.func link fn).errors))
      else if guardedWord fn (reg - 1024) && !s.tdiTakes link fn w.trusted then .next s
      else
        match w.write with
        | some v => .next (s.barWrite link fn (reg - 1024) v)
        | none => .next (s.sendCfg link fn false (s.barRead link fn (reg - 1024))) :=
  if_neg (by simp [hu, hf, hs])

/-- A register below 1,024 of a device that is READY. -/
theorem exec_hostConfiguration_ready (hu : (s.link link).up = true) (hf : funcOk link fn = true)
    (hs : s.linkSecure link = true) (hr : reg < 1024) (hp : s.pins.ready = true) :
    (∀ v, exec (.hostConfigurationRequest link fn reg ⟨some v, trusted⟩) s =
      .next ((s.configWrite link fn reg v).sendCfg link fn false 0)) ∧
    exec (.hostConfigurationRequest link fn reg ⟨none, trusted⟩) s = .next (s.sendCfg link fn false
      (Config.configSpace link fn reg (Tab.get none (s.func link fn).config reg) (s.func link fn).errors)) := by
  constructor
  · intro v
    rw [exec_hostConfiguration hu hf hs, if_pos hr, if_neg (by simp [hp])]
  · rw [exec_hostConfiguration hu hf hs, if_pos hr, if_neg (by simp [hp])]

theorem exec_hostConfiguration_retry (hu : (s.link link).up = true) (hf : funcOk link fn = true)
    (hs : s.linkSecure link = true) (hr : reg < 1024) (hp : s.pins.ready = false) (w : Option Nat) :
    exec (.hostConfigurationRequest link fn reg ⟨w, trusted⟩) s = .next (s.sendCfg link fn true 0) := by
  rw [exec_hostConfiguration hu hf hs, if_pos hr, if_pos (by simp [hp])]

/-- A dword of BAR0 that is not kept for an interface's own stream, or comes by it. -/
theorem exec_hostConfiguration_bar (hu : (s.link link).up = true) (hf : funcOk link fn = true)
    (hs : s.linkSecure link = true) (hr : 1024 ≤ reg)
    (hg : guardedWord fn (reg - 1024) = false ∨ s.tdiTakes link fn trusted = true) :
    (∀ v, exec (.hostConfigurationRequest link fn reg ⟨some v, trusted⟩) s =
      .next (s.barWrite link fn (reg - 1024) v)) ∧
    exec (.hostConfigurationRequest link fn reg ⟨none, trusted⟩) s =
      .next (s.sendCfg link fn false (s.barRead link fn (reg - 1024))) := by
  have hfree : ¬(guardedWord fn (reg - 1024) && !s.tdiTakes link fn trusted) = true := by
    rcases hg with h | h <;> simp [h]
  constructor
  · intro v
    rw [exec_hostConfiguration hu hf hs, if_neg (by omega), if_neg hfree]
  · rw [exec_hostConfiguration hu hf hs, if_neg (by omega), if_neg hfree]

/-! ### The window -/

variable {addr n len : Nat} {write : Option (List Byte)}

/-- Bytes of memory written are the same over the same memory under the same keys. -/
theorem State.mem_devWrite_congr (hm : t.mem = s.mem) (hp : t.pool = s.pool) (he : ∀ x, t.encCtx x = s.encCtx x)
    (a : Nat) (l : List Byte) : (t.devWrite a l).mem = (s.devWrite a l).mem := by
  have hpoison : ∀ k, t.poisoned k = s.poisoned k := fun k => by
    unfold State.poisoned State.pcOf State.homeOf
    rw [hp]
  have htag : ∀ k, t.writeTag k = s.writeTag k := fun k => by
    unfold State.writeTag State.keySlots
    rw [he, hp]
  have hbyte : ∀ x, t.stackByte x = s.stackByte x := fun x => by
    unfold State.stackByte State.readable State.readTag State.tag State.keySlots
    rw [hm, hp, he]
  unfold State.devWrite
  split
  · exact hm
  · unfold State.stackWrite State.mergeSectors State.tag
    simp only [hpoison, htag, hbyte, hm, hp]

theorem State.tally_bias (c i b n : Nat) : (s.tally c i b n).trust.bias = s.trust.bias := by
  unfold State.tally
  split
  · rfl
  · rw [State.bump_trust]

/-- The pages of a region that are in device bias. -/
def State.devicePages (s : State) (a n : Nat) : List Nat :=
  ((List.range ((a + n - 1) / 4096 + 1 - a / 4096)).map (· + a / 4096)).filter fun p => Tab.get false s.trust.bias p

theorem State.mem_devicePages {a p : Nat} : p ∈ s.devicePages a n ↔
    (a / 4096 ≤ p ∧ p < (a + n - 1) / 4096 + 1) ∧ Tab.get false s.trust.bias p = true := by
  simp only [State.devicePages, List.mem_filter, List.mem_map, List.mem_range]
  refine and_congr_left fun _ => ⟨?_, fun hp => ⟨p - a / 4096, by omega, by omega⟩⟩
  rintro ⟨i, hi, rfl⟩
  omega

/-- The device with every page of a region in host bias. -/
def State.unbiased (s : State) (a n : Nat) : State :=
  { s with trust := { s.trust with
      bias := (s.devicePages a n).foldl (fun b p => Tab.put false b p false) s.trust.bias } }

theorem State.bias_unbiased (hs : s.tabsOk = true) {a p : Nat} (hlo : a / 4096 ≤ p) (hhi : p ≤ (a + n - 1) / 4096) :
    Tab.get false (s.unbiased a n).trust.bias p = false := by
  refine (Tab.get_foldl_put (f := fun _ => false) _ (State.wf_bias hs) p).trans ?_
  split
  · rfl
  · next h =>
    rw [State.mem_devicePages, not_and, Bool.not_eq_true] at h
    exact h ⟨hlo, by omega⟩

theorem State.flipPages_eq (s : State) (c link a n : Nat) : s.flipPages c link a n =
    (s.unbiased a n).tally c 0x7600 (9 + link) (s.devicePages a n).length := rfl

theorem State.bias_flipPages (hs : s.tabsOk = true) (c link : Nat) {a p : Nat} (hlo : a / 4096 ≤ p)
    (hhi : p ≤ (a + n - 1) / 4096) : Tab.get false (s.flipPages c link a n).trust.bias p = false := by
  rw [State.flipPages_eq, State.tally_bias]
  exact State.bias_unbiased hs hlo hhi

theorem State.encCtx_flipPages (c link a n x : Nat) : (s.flipPages c link a n).encCtx x = s.encCtx x :=
  State.encCtx_tally (by decide) _ _ _ _

/-- A reading that looks at neither the counters nor the trust state is the same once pages have flipped. -/
theorem State.flipPages_reads {α : Type} (f : State → α) (h : ∀ r o, f { s with trust := r, obj := o } = f s)
    (c link a n : Nat) : f (s.flipPages c link a n) = f s :=
  (State.tally_reads (s := s.unbiased a n) f (fun r o => (h r o).trans (h _ s.obj).symm) _ _ _ _).trans (h _ s.obj)

theorem State.windowAccess_waits (ho : s.windowOpen link addr ((write.map (·.length)).getD len) = true)
    (hw : s.reloadingDie (16 + link / 2) = true ∨ s.grainWaits addr ((write.map (·.length)).getD len) = true) :
    s.windowAccess link addr write len trusted =
      { s with hostWait := s.hostWait ++ [.window link addr write len trusted] } := by
  unfold State.windowAccess
  dsimp only
  rw [if_neg (by simp [ho]), if_pos (by rcases hw with h | h <;> simp [h])]

/-- What an access of the window does once its pages have flipped: what it writes is stored, what it reads sent. -/
def State.windowMoved (s : State) (link addr : Nat) (write : Option (List Byte)) (len : Nat) : State :=
  match write with
  | some l => s.devWrite addr l
  | none => { s with out := s.out ++ [.hostData link (s.devReadBad addr len)
      (if s.devReadBad addr len then [] else s.devRead addr len)] }

theorem State.windowAccess_served (ho : s.windowOpen link addr ((write.map (·.length)).getD len) = true)
    (hl : s.reloadingDie (16 + link / 2) = false) (hg : s.grainWaits addr ((write.map (·.length)).getD len) = false)
    (hc : s.confidential (s.objv 0x2302 5) = false ∨ (trusted = true ∧ (s.link link).cacheSecure = true)) :
    s.windowAccess link addr write len trusted =
      (s.flipPages (s.objv 0x2302 5) link addr ((write.map (·.length)).getD len)).windowMoved link addr write len := by
  have hplain : ¬(s.confidential (s.objv 0x2302 5) && !(trusted && (s.link link).cacheSecure)) = true := by
    rcases hc with h | ⟨h, h'⟩ <;> simp [*]
  unfold State.windowAccess
  dsimp only
  rw [if_neg (by simp [ho]), if_neg (by simp [hl, hg]), if_neg hplain]
  cases write <;> rfl

/-- A host's bytes stored: its pages are in host bias, and memory is as the write alone leaves it. -/
theorem State.windowAccess_write (hs : s.tabsOk = true) {l : List Byte} (ho : s.windowOpen link addr l.length = true)
    (hl : s.reloadingDie (16 + link / 2) = false) (hg : s.grainWaits addr l.length = false)
    (hc : s.confidential (s.objv 0x2302 5) = false ∨ (trusted = true ∧ (s.link link).cacheSecure = true)) :
    let t := s.windowAccess link addr (some l) len trusted
    (∀ p, addr / 4096 ≤ p → p ≤ (addr + l.length - 1) / 4096 → Tab.get false t.trust.bias p = false) ∧
      t.mem = (s.devWrite addr l).mem ∧ t.out = s.out := by
  have hserved : s.windowAccess link addr (some l) len trusted =
      (s.flipPages (s.objv 0x2302 5) link addr l.length).devWrite addr l := State.windowAccess_served ho hl hg hc
  have hrest := State.devWrite_unstored (s.flipPages (s.objv 0x2302 5) link addr l.length) addr l
  dsimp only
  rw [hserved]
  refine ⟨fun p hlo hhi => ?_, ?_, ?_⟩
  · exact (congrArg (fun t : State => Tab.get false t.trust.bias p) hrest).trans (State.bias_flipPages hs _ _ hlo hhi)
  · exact State.mem_devWrite_congr (State.flipPages_reads State.mem (fun _ _ => rfl) _ _ _ _)
      (State.flipPages_reads State.pool (fun _ _ => rfl) _ _ _ _) (State.encCtx_flipPages _ _ _ _) addr l
  · exact (congrArg State.out hrest).trans (State.flipPages_reads State.out (fun _ _ => rfl) _ _ _ _)

/-- A host's read: its pages are in host bias, memory is as it was, and its bytes are sent, or poison. -/
theorem State.windowAccess_read (hs : s.tabsOk = true) (ho : s.windowOpen link addr len = true)
    (hl : s.reloadingDie (16 + link / 2) = false) (hg : s.grainWaits addr len = false)
    (hc : s.confidential (s.objv 0x2302 5) = false ∨ (trusted = true ∧ (s.link link).cacheSecure = true)) :
    let t := s.windowAccess link addr none len trusted
    (∀ p, addr / 4096 ≤ p → p ≤ (addr + len - 1) / 4096 → Tab.get false t.trust.bias p = false) ∧
      t.mem = s.mem ∧ t.out = s.out ++ [.hostData link (s.devReadBad addr len)
        (if s.devReadBad addr len then [] else s.devRead addr len)] := by
  have hserved : s.windowAccess link addr none len trusted =
      (s.flipPages (s.objv 0x2302 5) link addr len).windowMoved link addr none len :=
    State.windowAccess_served ho hl hg hc
  have hmem := State.flipPages_reads (s := s) State.mem (fun _ _ => rfl) (s.objv 0x2302 5) link addr len
  have hread : (s.flipPages (s.objv 0x2302 5) link addr len).devRead addr len = s.devRead addr len :=
    List.map_congr_left fun k _ => State.devByte_congr hmem (State.flipPages_reads State.host (fun _ _ => rfl) _ _ _ _)
      (State.flipPages_reads State.pool (fun _ _ => rfl) _ _ _ _) (State.encCtx_flipPages _ _ _ _) (addr + k)
  have hbad := State.flipPages_reads (s := s) (·.devReadBad addr len) (fun _ _ => rfl) (s.objv 0x2302 5) link addr len
  have hout := State.flipPages_reads (s := s) State.out (fun _ _ => rfl) (s.objv 0x2302 5) link addr len
  dsimp only at hbad ⊢
  rw [hserved]
  exact ⟨fun p hlo hhi => State.bias_flipPages hs _ _ hlo hhi, hmem,
    by simp only [State.windowMoved, hout, hbad, hread]⟩

/-! ### A request of a copy that fails -/

variable {id : CmdId} {c : Cmd}

/-- The body of a COPY or FILL by its opcode. -/
def copyRangeBody (d : Desc) : CopyBody := if opcode d = 0x20 then copyBody d else fillBody d

/-- The device once a failed request of a context over a link has been counted and noted. -/
def State.requestFailed (s : State) (x l : Nat) : State := (s.tally x 0x7600 (13 + l) 1).noteFailure x l

theorem State.requestFailed_cmds (x l : Nat) : (s.requestFailed x l).cmds = s.cmds :=
  State.tally_reads State.cmds (fun _ _ => rfl) _ _ _ _

theorem exec_hostRequestFailure (h : s.runnable id (fun d => isOp 0x20 d || isOp 0x21 d) = some c)
    (hends : (copyRangeBody c.desc).ends.filter CopyEnd.host ≠ []) : ∃ l, ∀ again,
    exec (.hostRequestFailure id again) s =
      if again then
        if c.retries = 0 then .next s
        else .next (((s.requestFailed id.ctx l).scrambleAll
          [(copyRangeBody c.desc).extent (copyRangeBody c.desc).dst]).finish id .dataSuspect)
      else .next (((s.requestFailed id.ctx l).updCmd id fun x => { x with retries := x.retries + 1 }).tally
        id.ctx 0x7800 3 1) := by
  obtain ⟨e, es, he⟩ := List.exists_cons_of_ne_nil hends
  refine ⟨s.linkOf e.addr, fun again => ?_⟩
  change execHostRequestFailure id again s = _
  unfold execHostRequestFailure
  rw [h]
  unfold copyRangeBody at he ⊢
  dsimp only
  rw [he]
  rfl

/-- Settles O48: each request's equation under its condition, and what its effect leaves of memory and the pages. -/
theorem hostRequests : Obligations.HostRequests := by
  intro s hs
  refine ⟨fun link fn reg trusted hu hf hsec => ⟨fun hr hp v => ?register, ?retry, ?bar⟩,
    fun link addr write len trusted ho => ⟨?waits, ?served⟩, fun id c h hends => ⟨?again, ?suspect⟩⟩
  case register =>
    obtain ⟨hwrite, hread⟩ := exec_hostConfiguration_ready (trusted := trusted) hu hf hsec hr hp
    have hfunc := State.func_setFunc_self s link fn { s.func link fn with
      config := Tab.put none (s.func link fn).config reg (some v)
      errors := (s.func link fn).errors - ((s.func link fn).errors &&& Config.configClears link fn reg v) }
      (State.wf_funcs hs)
    refine ⟨⟨_, hwrite v, hfunc, fun hw => ?_, rfl⟩, hread⟩
    exact (congrArg (fun x : Func => Tab.get none x.config reg) hfunc).trans (Tab.get_put_self _ _ _ _ hw)
  case retry => exact fun hr hp w => exec_hostConfiguration_retry hu hf hsec hr hp w
  case bar => exact fun hr hg => exec_hostConfiguration_bar hu hf hsec hr hg
  case waits =>
    cases write with
    | some l => exact fun hw => congrArg Host.Outcome.next (State.windowAccess_waits ho hw)
    | none => exact fun hw => congrArg Host.Outcome.next (State.windowAccess_waits ho hw)
  case served =>
    cases write with
    | some l =>
      intro hl hg hc
      obtain ⟨hbias, hmem, hout⟩ := State.windowAccess_write (len := len) hs ho hl hg hc
      exact ⟨_, rfl, hbias, fun _ hw => Option.some.inj hw ▸ ⟨hmem, hout⟩, nofun⟩
    | none =>
      intro hl hg hc
      obtain ⟨hbias, hmem, hout⟩ := State.windowAccess_read hs ho hl hg hc
      exact ⟨_, rfl, hbias, nofun, fun _ => ⟨hmem, hout⟩⟩
  case again =>
    obtain ⟨l, hexec⟩ := exec_hostRequestFailure h hends
    refine ⟨_, hexec false, (State.tally_reads State.cmds (fun _ _ => rfl) _ _ _ _).trans ?_⟩
    rw [State.updCmd, State.requestFailed_cmds, State.updCmd]
  case suspect =>
    intro hretried
    obtain ⟨l, hexec⟩ := exec_hostRequestFailure h hends
    refine ⟨_, (hexec true).trans (if_neg hretried), ?_⟩
    have hcmds : (State.scrambleAll (s.requestFailed id.ctx l)
        [(copyRangeBody c.desc).extent (copyRangeBody c.desc).dst]).cmds = s.cmds :=
      (congrArg State.cmds (State.scrambleAll_unstored _ _)).trans (State.requestFailed_cmds _ l)
    rw [State.endsIn, State.finish, State.updCmd, hcmds]
    rfl

end Sys2Proof.Machine
end

section
/-! The SPDM and TDISP messages (R365 to R369): a request that fits its connection's state is answered by its code, the
chain of a slot is stored, and an interface is locked, reported, started and stopped. -/

namespace Sys2Proof.Machine

variable {s : State} {link fn : Nat} {body : List Byte}

/-! ### SPDM -/

theorem State.func_sendDoe (hs : Tab.wf Func.fresh s.funcs = true) (link fn code : Nat) (l : List Byte) :
    (s.sendDoe link fn code l).func link fn = { s.func link fn with spdmResp := l } :=
  State.func_setFunc_self s link fn _ hs

@[simp] theorem State.tdi_sendDoe (s : State) (link fn code : Nat) (l : List Byte) (c : Nat) :
    (s.sendDoe link fn code l).tdi c = s.tdi c := rfl

@[simp] theorem State.confidential_sendDoe (s : State) (link fn code : Nat) (l : List Byte) (c : Nat) :
    (s.sendDoe link fn code l).confidential c = s.confidential c := rfl

@[simp] theorem State.keySlots_sendDoe (s : State) (link fn code : Nat) (l : List Byte) (c : Nat) :
    (s.sendDoe link fn code l).keySlots c = s.keySlots c := rfl

@[simp] theorem State.certChain_sendDoe (s : State) (link fn code : Nat) (l : List Byte) (slot : Nat) :
    (s.sendDoe link fn code l).certChain slot = s.certChain slot := rfl

/-- The device with the SPDM connection of a function in a state. -/
def State.connectedAt (s : State) (link fn n : Nat) : State := s.setFunc link fn { s.func link fn with spdm := n }

/-- A request that fits is answered by its code, and the connection goes to its next state. -/
theorem State.spdm_fits {fits : Nat → Bool} (hs : Tab.wf Func.fresh s.funcs = true) (hu : s.doeUp link fn = true)
    (hf : fits (s.func link fn).spdm = true) (next : Nat → Nat) (code : Nat) (facts : List Byte) :
    let t := s.spdm link fn fits next code body facts
    (t.func link fn).spdm = next (s.func link fn).spdm ∧ t.cmds = s.cmds ∧
      ∃ l, (t.func link fn).spdmResp = l ∧ t.out = s.out ++ [.doe link fn code l] := by
  have hspdm : s.spdm link fn fits next code body facts =
      (s.connectedAt link fn (next (s.func link fn).spdm)).sendDoe link fn code
        (Config.spdmAnswer code (body ++ facts)) := by
    simp only [State.spdm, hu, hf, Bool.not_true, Bool.false_eq_true, if_false, if_true, State.connectedAt]
  have hfunc := State.func_sendDoe (s := s.connectedAt link fn (next (s.func link fn).spdm)) (Tab.wf_put _ _ _ _ hs)
    link fn code (Config.spdmAnswer code (body ++ facts))
  rw [State.connectedAt, State.func_setFunc_self s link fn _ hs, ← State.connectedAt] at hfunc
  rw [hspdm]
  exact ⟨by rw [hfunc], rfl, _, by rw [hfunc], rfl⟩

/-- A request that does not fit is answered with an error, and the connection stays in its state. -/
theorem State.spdm_unexpected {fits : Nat → Bool} (hs : Tab.wf Func.fresh s.funcs = true)
    (hu : s.doeUp link fn = true) (hf : fits (s.func link fn).spdm = false) (next : Nat → Nat) (code : Nat)
    (facts : List Byte) :
    let t := s.spdm link fn fits next code body facts
    (t.func link fn).spdm = (s.func link fn).spdm ∧ t.out = s.out ++ [.doe link fn 0x7F (toBytes 1 0x04)] := by
  have hspdm : s.spdm link fn fits next code body facts = s.sendDoe link fn 0x7F (toBytes 1 0x04) := by
    simp only [State.spdm, State.spdmError, hu, hf, Bool.not_true, Bool.false_eq_true, if_false]
  rw [hspdm]
  exact ⟨(congrArg Func.spdm (State.func_sendDoe hs link fn 0x7F _) :), rfl⟩

/-- A row is an SPDM request of a code: whether it fits the connection's state, and the state it goes to; an answer with
fresh randomness takes a draw first. -/
def State.spdmRequest (s : State) (link fn : Nat) (body : List Byte) (row : Instr) (fit : Bool) (next code : Nat) :
    Prop :=
  ∃ (draws : Nat) (fits : Nat → Bool) (goes : Nat → Nat) (facts : List Byte),
    exec row s = .next (State.spdm { s with draws := draws } link fn fits goes code body facts) ∧
      fits (s.func link fn).spdm = fit ∧ goes (s.func link fn).spdm = next

theorem State.spdmRequest_drawn {row : Instr} {fits : Nat → Bool} {goes : Nat → Nat} {code : Nat} {facts : List Byte}
    (hu : s.doeUp link fn = true) (h : exec row s =
      .next ((if s.doeUp link fn then s.drawn else s).spdm link fn fits goes code body facts)) :
    s.spdmRequest link fn body row (fits (s.func link fn).spdm) (goes (s.func link fn).spdm) code := by
  rw [if_pos hu] at h
  exact ⟨s.draws + 1, fits, goes, facts, h, rfl, rfl⟩

theorem State.spdmRequest_answered {row : Instr} {next code : Nat} (hs : s.tabsOk = true)
    (hu : s.doeUp link fn = true) (h : s.spdmRequest link fn body row true next code) :
    ∃ t l, exec row s = .next t ∧ (t.func link fn).spdm = next ∧ (t.func link fn).spdmResp = l ∧
      t.out = s.out ++ [.doe link fn code l] ∧ t.cmds = s.cmds := by
  obtain ⟨draws, fits, goes, facts, hexec, hfit, rfl⟩ := h
  obtain ⟨hstate, hcmds, l, hresp, hout⟩ := State.spdm_fits (s := { s with draws := draws }) (body := body)
    (State.wf_funcs hs) hu hfit goes code facts
  exact ⟨_, l, hexec, hstate, hresp, hout, hcmds⟩

theorem State.spdmRequest_unexpected {row : Instr} {next code : Nat} (hs : s.tabsOk = true)
    (hu : s.doeUp link fn = true) (h : s.spdmRequest link fn body row false next code) :
    ∃ t, exec row s = .next t ∧ (t.func link fn).spdm = (s.func link fn).spdm ∧
      t.out = s.out ++ [.doe link fn 0x7F (toBytes 1 0x04)] := by
  obtain ⟨draws, fits, goes, facts, hexec, hfit, -⟩ := h
  exact ⟨_, hexec, State.spdm_unexpected (s := { s with draws := draws }) (State.wf_funcs hs) hu hfit goes code facts⟩

/-! ### SET_CERTIFICATE -/

theorem exec_setCertificate_stores {slot : Nat} (hu : s.doeUp link fn = true) (hp : s.mayProvision link fn = true)
    (hl : s.server.life = 1) (hs : slot = fieldOf body 0 1 % 16) (h : slot = 1 ∨ slot = 2) :
    exec (.setCertificate link fn body) s =
      .next ((s.setCert slot (body.drop 2)).sendDoe link fn 0x6E (toBytes 1 slot)) := by
  subst hs
  change execSetCertificate link fn body s = _
  unfold execSetCertificate
  dsimp only
  rw [if_neg (by simp [hu]), if_neg (by simp [hp, hl]), if_neg (by tauto)]

theorem State.certChain_setCert {slot : Nat} (h : slot = 1 ∨ slot = 2) (l : List Byte) :
    (s.setCert slot l).certChain slot = l ∧ (s.setCert slot l).certChain (3 - slot) = s.certChain (3 - slot) := by
  rcases h with rfl | rfl <;> exact ⟨rfl, rfl⟩

/-! ### TDISP -/

variable {ctx : Nat}

/-- An interface is locked and its context's keys are replaced (R368). -/
def State.tdiLocked (s : State) (link fn ctx : Nat) : State :=
  ((s.freshKeys ctx).setTdi ctx ⟨.locked, link, fn, s.draws + 1, false, false, false⟩).drawn

theorem exec_lockInterface_locks (hu : s.doeUp link fn = true) (hh : s.tdiHears link fn ctx = true)
    (hx : (s.tdi ctx).state = .none ∨ (s.tdi ctx).state = .unlocked) (hl : s.lockOk link fn ctx = true) :
    exec (.lockInterface link fn ctx body) s =
      .next ((s.tdiLocked link fn ctx).sendDoe link fn 0x03 (s.freshKeys ctx).drawBytes) := by
  change execLockInterface link fn ctx body s = _
  unfold execLockInterface
  dsimp only
  rw [if_neg (by simp [hu]), if_neg (by simp [hh, hx, hl])]
  rfl

theorem exec_getDeviceInterfaceReport_reports (hu : s.doeUp link fn = true) (hh : s.tdiHears link fn ctx = true)
    (hx : (s.tdi ctx).state = .locked ∨ (s.tdi ctx).state = .run) :
    ∃ l, exec (.getDeviceInterfaceReport link fn ctx body) s =
      .next ((s.setTdi ctx { s.tdi ctx with report := true }).sendDoe link fn 0x04 l) := by
  change ∃ l, execGetDeviceInterfaceReport link fn ctx body s = _
  unfold execGetDeviceInterfaceReport
  dsimp only
  rw [if_neg (by simp [hu]), if_neg (by simp [hh, hx])]
  exact ⟨_, rfl⟩

theorem exec_startInterface_runs (hu : s.doeUp link fn = true) (hh : s.tdiHears link fn ctx = true)
    (hx : (s.tdi ctx).state = .locked) : exec (.startInterface link fn ctx body) s =
      .next ((s.setTdi ctx { s.tdi ctx with state := .run }).sendDoe link fn 0x06 []) := by
  change execStartInterface link fn ctx body s = _
  unfold execStartInterface
  dsimp only
  rw [if_neg (by simp [hu]), if_neg (by simp [hh, hx])]

theorem exec_startInterface_invalid (hu : s.doeUp link fn = true) (hx : (s.tdi ctx).state ≠ .locked) :
    exec (.startInterface link fn ctx body) s = .next (s.tdispInvalid link fn) := by
  change execStartInterface link fn ctx body s = _
  unfold execStartInterface
  dsimp only
  rw [if_neg (by simp [hu]), if_pos (by simp [hx])]

theorem exec_stopInterface_stops (hu : s.doeUp link fn = true) (hh : s.tdiHears link fn ctx = true) :
    exec (.stopInterface link fn ctx body) s = .next ((s.stopTdi ctx).sendDoe link fn 0x07 []) := by
  change execStopInterface link fn ctx body s = _
  unfold execStopInterface
  dsimp only
  rw [if_neg (by simp [hu]), if_neg (by simp [hh])]

theorem State.tdis_leaveNow (s : State) (c : Nat) : (s.leaveNow c).tdis = s.tdis := by
  unfold State.leaveNow
  split
  · have hrest := ((s.beginLeave c).relayed_targetsCancelled ((s.beginLeave c).draining c)).rest
    refine (congrArg State.tdis hrest).trans ?_
    unfold State.beginLeave
    split <;> rfl
  · rfl

theorem State.state_endConfidence (hs : Tab.wf Tdi.absent s.tdis = true) (c : Nat) :
    ((s.endConfidence c).tdi c).state = (s.tdi c).state :=
  (congrArg Tdi.state (Tab.get_put_self Tdi.absent s.tdis c { s.tdi c with wasRun := false, rekey := false } hs) :)

/-- An interface given up keeps its state while its context leaves. -/
theorem State.state_withdrawn (hs : Tab.wf Tdi.absent s.tdis = true) (c : Nat) :
    ((s.withdrawn c).tdi c).state = (s.tdi c).state := by
  unfold State.withdrawn
  dsimp only
  split
  · rw [State.tdi, State.tdis_leaveNow]
    rfl
  · exact State.state_endConfidence hs c

theorem State.state_stopTdi (hs : Tab.wf Tdi.absent s.tdis = true) (c : Nat) :
    ((s.stopTdi c).tdi c).state = .unlocked := by
  by_cases h : (s.tdi c).state = .locked ∨ (s.tdi c).state = .run
  · have hstop : s.stopTdi c = (s.setTdi c { s.tdi c with
        state := .unlocked
        wasRun := decide ((s.tdi c).state = .run)
        rekey := true }).withdrawn c := if_pos h
    rw [hstop, State.state_withdrawn (Tab.wf_put _ _ _ _ hs), State.tdi_setTdi_self s c _ hs]
  · rw [State.stopTdi, if_neg h, State.tdi_setTdi_self s c _ hs]

theorem State.tdi_tdiLocked (hs : s.tabsOk = true) (link fn ctx : Nat) :
    (s.tdiLocked link fn ctx).tdi ctx = ⟨.locked, link, fn, s.draws + 1, false, false, false⟩ :=
  Tab.get_put_self Tdi.absent s.tdis ctx _ (State.wf_tdis hs)

theorem State.keySlots_tdiLocked (hs : s.tabsOk = true) (link fn ctx : Nat) :
    (s.tdiLocked link fn ctx).keySlots ctx = ⟨0, some s.draws, none⟩ :=
  Tab.get_put_self KeySlots.zeroed s.pool.keys ctx _ (State.wf_keys hs)

/-- Settles O55: each row is the SPDM request of its code, and each TDISP message sets its interface. -/
theorem spdmAndTdispMessages : Obligations.SpdmAndTdispMessages := by
  intro s link fn body hs hu x
  refine ⟨fun row fit next code hrow => ?spdm, fun hp hl slot hslot h => ?certificate, fun ctx hh =>
    ⟨fun hx hl => ?lock, fun hx => ?report, fun hx => ?start, exec_startInterface_invalid hu, ?stop⟩⟩
  case spdm =>
    have hrequest : s.spdmRequest link fn body row fit next code := by
      have drawn {row : Instr} {fits : Nat → Bool} {goes : Nat → Nat} {code : Nat} {facts : List Byte} :=
        State.spdmRequest_drawn (body := body) (row := row) (fits := fits) (goes := goes) (code := code)
          (facts := facts) hu
      simp only [List.mem_cons, List.not_mem_nil, or_false, Prod.mk.injEq] at hrow
      rcases hrow with ⟨rfl, rfl, rfl, rfl⟩ | ⟨rfl, rfl, rfl, rfl⟩ | ⟨rfl, rfl, rfl, rfl⟩ | ⟨rfl, rfl, rfl, rfl⟩ |
        ⟨rfl, rfl, rfl, rfl⟩ | ⟨rfl, rfl, rfl, rfl⟩ | ⟨rfl, rfl, rfl, rfl⟩ | ⟨rfl, rfl, rfl, rfl⟩ |
        ⟨rfl, rfl, rfl, rfl⟩ | ⟨rfl, rfl, rfl, rfl⟩ | ⟨rfl, rfl, rfl, rfl⟩ | ⟨rfl, rfl, rfl, rfl⟩ |
        ⟨rfl, rfl, rfl, rfl⟩
      rotate_left 5
      -- CHALLENGE, GET_MEASUREMENTS and KEY_EXCHANGE take a draw; the other requests answer without one.
      · exact drawn (fits := fun n => decide (3 ≤ n)) (goes := id) rfl
      · exact drawn (fits := fun n => decide (3 ≤ n)) (goes := id) rfl
      · exact drawn (fits := fun n => decide (n = 3)) (goes := fun _ => 4) rfl
      all_goals exact ⟨s.draws, _, _, _, rfl, rfl, rfl⟩
    constructor
    · rintro rfl
      exact State.spdmRequest_answered hs hu hrequest
    · rintro rfl
      exact State.spdmRequest_unexpected hs hu hrequest
  case certificate =>
    refine ⟨_, exec_setCertificate_stores hu hp hl hslot h, ?_⟩
    simp only [State.certChain_sendDoe]
    exact State.certChain_setCert h _
  case lock =>
    refine ⟨_, exec_lockInterface_locks hu hh hx hl, ?_, ?_⟩
    · rw [State.tdi_sendDoe, State.tdi_tdiLocked hs]
    · rw [State.keySlots_sendDoe, State.keySlots_tdiLocked hs]
  case report =>
    obtain ⟨l, hexec⟩ := exec_getDeviceInterfaceReport_reports (body := body) hu hh hx
    refine ⟨_, hexec, ?_, ?_⟩
    · rw [State.tdi_sendDoe, State.tdi_setTdi_self s ctx _ (State.wf_tdis hs)]
    · rw [State.tdi_sendDoe, State.tdi_setTdi_self s ctx _ (State.wf_tdis hs)]
  case start =>
    have hset := State.tdi_setTdi_self s ctx { s.tdi ctx with state := .run } (State.wf_tdis hs)
    refine ⟨_, exec_startInterface_runs hu hh hx, ?_, ?_⟩
    · rw [State.tdi_sendDoe, hset]
    · rw [State.confidential_sendDoe, State.confidential, hset]
      rfl
  case stop =>
    refine ⟨_, exec_stopInterface_stops hu hh, ?_⟩
    rw [State.tdi_sendDoe, State.state_stopTdi (State.wf_tdis hs)]

end Sys2Proof.Machine
end

section
/-! What every step keeps: the canonical form of the stores of bytes and of the numbered tables, and the retirement of
a unit (R428). One relation holds of every operation of the model, and one combinator for each way a meaning is put
together. -/

namespace Sys2Proof

/-! ### What covers a part of what a unit covers -/

variable {u v w : UnitId}

theorem UnitId.covers_stack (hk : u.kind = 0x0F) (hv : 20 ≤ v.loc) (h : stackDie (v.loc - 20) = u.loc) :
    u.covers v = true := by
  simp [UnitId.covers, hk, hv, h]

/-- What a die covers beside itself lies on it, or in a stack attached to it. -/
theorem UnitId.loc_of_covers (h : u.covers v = true) :
    v.loc = u.loc ∨ (u.kind = 0x0F ∧ 20 ≤ v.loc ∧ stackDie (v.loc - 20) = u.loc) := by
  unfold UnitId.covers at h
  rcases Bool.or_eq_true _ _ |>.mp h with h | h
  · exact .inl (congrArg UnitId.loc (of_decide_eq_true h)).symm
  · split at h
    case h_6 => cases h
    all_goals simp_all

theorem stackDie_lt {n : Nat} (h : n < 20) : stackDie n < 20 := by
  unfold stackDie
  split <;> omega

/-- A unit covers what a part of it covers, where that part does not cover the unit: no stack lies in a stack, and a die
and the management die at one location cover each other. -/
theorem UnitId.covers_of_part (hw : w.loc < 40) (huv : u.covers v = true) (hvw : v.covers w = true)
    (hvu : v.covers u = false) : u.covers w = true := by
  rcases UnitId.covers_cases huv with rfl | ⟨hpart, -⟩ | ⟨hdie, -⟩
  · exact hvw
  · exact UnitId.eq_of_covers_of_part hpart hvw ▸ huv
  · rcases UnitId.loc_of_covers huv with hloc | ⟨hk, hv, hstack⟩
    · rcases UnitId.loc_of_covers hvw with hloc' | ⟨hkv, hw', hstack'⟩
      · exact UnitId.covers_of_die hdie (hloc'.trans hloc)
      · rw [UnitId.covers_of_die (.inl hkv) hloc.symm] at hvu
        cases hvu
    · rcases UnitId.loc_of_covers hvw with hloc' | ⟨-, hw', hstack'⟩
      · exact UnitId.covers_stack hk (by omega) (by rw [hloc', hstack])
      · have := stackDie_lt (n := w.loc - 20) (by omega)
        omega
end Sys2Proof

namespace Sys2Proof.Machine

variable {s t u : State}

/-- From s to t the stores of bytes and the numbered tables stay canonical, and no retired unit comes back. -/
structure State.Keeps (s t : State) : Prop where
  mem : s.memOk = true → t.memOk = true
  tabs : s.tabsOk = true → t.tabsOk = true
  retired : ∀ x : UnitId, x.loc < 40 → s.retired x = true → t.retired x = true

/-- A meaning answers a next state to which the state keeps. -/
def State.Answers (s : State) (o : Host.Outcome State Fault Refusal) : Prop := ∃ t, o = .next t ∧ s.Keeps t

namespace State.Keeps

theorem refl (s : State) : s.Keeps s := ⟨id, id, fun _ _ h => h⟩

theorem ite {c : Prop} [Decidable c] (h : s.Keeps t) (h' : s.Keeps u) : s.Keeps (if c then t else u) := by
  split
  · exact h
  · exact h'

theorem fstIte {α : Type} {c : Prop} [Decidable c] {a b : State × α} (h : s.Keeps a.1) (h' : s.Keeps b.1) :
    s.Keeps (if c then a else b).1 := by
  split
  · exact h
  · exact h'

theorem foldl {α : Type} {f : State → α → State} {l : List α} (h : s.Keeps t)
    (hf : ∀ {u x}, s.Keeps u → s.Keeps (f u x)) : s.Keeps (l.foldl f t) :=
  List.foldlRecOn _ _ h fun _ hu _ _ => hf hu

theorem fstFoldl {α β : Type} {f : State × β → α → State × β} {l : List α} {p : State × β}
    (h : s.Keeps p.1) (hf : ∀ {p : State × β} {x : α}, s.Keeps p.1 → s.Keeps (f p x).1) :
    s.Keeps (l.foldl f p).1 :=
  List.foldlRecOn (motive := fun p : State × β => s.Keeps p.1) _ _ h fun _ hu _ _ => hf hu

theorem getD {α : Type} {f : α → State} {o : Option α} (h : s.Keeps t) (hf : ∀ {x}, s.Keeps (f x)) :
    s.Keeps ((o.map f).getD t) := by
  cases o with
  | none => exact h
  | some x => exact hf

theorem ofEq {α : Type} {p : State × α} {x : α} (e : p = (u, x)) (h : s.Keeps p.1) : s.Keeps u := by
  rw [e] at h
  exact h

end State.Keeps

theorem State.Answers.next (h : s.Keeps t) : s.Answers (.next t) := ⟨t, rfl, h⟩

theorem State.Answers.ite {c : Prop} [Decidable c] {o o' : Host.Outcome State Fault Refusal} (h : s.Answers o)
    (h' : s.Answers o') : s.Answers (if c then o else o') := by
  split
  · exact h
  · exact h'

/-! ### Stores and tables, one by one

A store or a table may be replaced by one that is canonical where the old one was. -/

section
variable (h : s.Keeps t)
include h

theorem State.Keeps.ofOk (hmem : t.memOk = true → u.memOk = true) (htabs : t.tabsOk = true → u.tabsOk = true)
    (hdead : u.recorder.dead = t.recorder.dead) : s.Keeps u where
  mem v := hmem (h.mem v)
  tabs v := htabs (h.tabs v)
  retired x hx v := by
    rw [State.retired, hdead]
    exact h.retired x hx v

theorem State.Keeps.newMem {mem : Mem} (w : t.mem.wf = true → Mem.wf mem = true) :
    s.Keeps { t with mem } :=
  h.ofOk (fun v => by simp_all [State.memOk]) id rfl

theorem State.Keeps.newHost {host : Mem} (w : t.host.wf = true → Mem.wf host = true) :
    s.Keeps { t with host } :=
  h.ofOk (fun v => by simp_all [State.memOk]) id rfl

theorem State.Keeps.newCore {core : Mem} (w : t.core.wf = true → Mem.wf core = true) :
    s.Keeps { t with core } :=
  h.ofOk (fun v => by simp_all [State.memOk]) id rfl

theorem State.Keeps.newAcc {acc : Mem} (w : t.acc.wf = true → Mem.wf acc = true) :
    s.Keeps { t with acc } :=
  h.ofOk (fun v => by simp_all [State.memOk]) id rfl

theorem State.Keeps.newFeeder {feeder : Mem} (w : t.feeder.wf = true → Mem.wf feeder = true) :
    s.Keeps { t with feeder } :=
  h.ofOk (fun v => by simp_all [State.memOk]) id rfl

/-- The three stores of a core at once. -/
theorem State.Keeps.newCoreStores {core acc feeder : Mem} (hcore : t.core.wf = true → Mem.wf core = true)
    (hacc : t.acc.wf = true → Mem.wf acc = true) (hfeeder : t.feeder.wf = true → Mem.wf feeder = true) :
    s.Keeps { t with core, acc, feeder } :=
  ((h.newCore hcore).newAcc hacc).newFeeder hfeeder

theorem State.Keeps.newSync {sync} (w : Tab.wf SyncObj.clear t.sync = true → Tab.wf SyncObj.clear sync = true) :
    s.Keeps { t with sync } :=
  h.ofOk id (fun v => by simp_all [State.tabsOk]) rfl

theorem State.Keeps.newCtxs {ctxs} (w : Tab.wf Ctx.off t.ctxs = true → Tab.wf Ctx.off ctxs = true) :
    s.Keeps { t with ctxs } :=
  h.ofOk id (fun v => by simp_all [State.tabsOk]) rfl

theorem State.Keeps.newQueues {queues} (w : Tab.wf Queue.off t.queues = true → Tab.wf Queue.off queues = true) :
    s.Keeps { t with queues } :=
  h.ofOk id (fun v => by simp_all [State.tabsOk]) rfl

theorem State.Keeps.newStands {stands} (w : Tab.wf Stand.fresh t.stands = true → Tab.wf Stand.fresh stands = true) :
    s.Keeps { t with stands } :=
  h.ofOk id (fun v => by simp_all [State.tabsOk]) rfl

theorem State.Keeps.newObj {obj} (w : Tab.wf none t.obj = true → Tab.wf none obj = true) :
    s.Keeps { t with obj } :=
  h.ofOk id (fun v => by simp_all [State.tabsOk]) rfl

theorem State.Keeps.newPoison {poison} (w : Tab.wf false t.pool.poison = true → Tab.wf false poison = true) :
    s.Keeps { t with pool := { t.pool with poison } } :=
  h.ofOk id (fun v => by simp_all [State.tabsOk]) rfl

theorem State.Keeps.newTags {tags} (w : Tab.wf none t.pool.tags = true → Tab.wf none tags = true) :
    s.Keeps { t with pool := { t.pool with tags } } :=
  h.ofOk id (fun v => by simp_all [State.tabsOk]) rfl

theorem State.Keeps.newKeys {keys}
    (w : Tab.wf KeySlots.zeroed t.pool.keys = true → Tab.wf KeySlots.zeroed keys = true) :
    s.Keeps { t with pool := { t.pool with keys } } :=
  h.ofOk id (fun v => by simp_all [State.tabsOk]) rfl

theorem State.Keeps.newSweeps {sweeps}
    (w : Tab.wf Sweep.idle t.pool.sweeps = true → Tab.wf Sweep.idle sweeps = true) :
    s.Keeps { t with pool := { t.pool with sweeps } } :=
  h.ofOk id (fun v => by simp_all [State.tabsOk]) rfl

theorem State.Keeps.newReloc {reloc} (w : Tab.wf none t.pool.reloc = true → Tab.wf none reloc = true) :
    s.Keeps { t with pool := { t.pool with reloc } } :=
  h.ofOk id (fun v => by simp_all [State.tabsOk]) rfl

theorem State.Keeps.newBuckets {buckets} (w : Tab.wf 0 t.pool.buckets = true → Tab.wf 0 buckets = true) :
    s.Keeps { t with pool := { t.pool with buckets } } :=
  h.ofOk id (fun v => by simp_all [State.tabsOk]) rfl

theorem State.Keeps.newRates {rates} (w : Tab.wf (0, 0) t.pool.rates = true → Tab.wf (0, 0) rates = true) :
    s.Keeps { t with pool := { t.pool with rates } } :=
  h.ofOk id (fun v => by simp_all [State.tabsOk]) rfl

theorem State.Keeps.newSeqs {seqs} (w : Tab.wf SeqSlot.unused t.seqs = true → Tab.wf SeqSlot.unused seqs = true) :
    s.Keeps { t with seqs } :=
  h.ofOk id (fun v => by simp_all [State.tabsOk]) rfl

theorem State.Keeps.newTdis {tdis} (w : Tab.wf Tdi.absent t.tdis = true → Tab.wf Tdi.absent tdis = true) :
    s.Keeps { t with tdis } :=
  h.ofOk id (fun v => by simp_all [State.tabsOk]) rfl

theorem State.Keeps.newBias {bias} (w : Tab.wf false t.trust.bias = true → Tab.wf false bias = true) :
    s.Keeps { t with trust := { t.trust with bias } } :=
  h.ofOk id (fun v => by simp_all [State.tabsOk]) rfl

theorem State.Keeps.newPorts {ports} (w : Tab.wf Port.down t.ports = true → Tab.wf Port.down ports = true) :
    s.Keeps { t with ports } :=
  h.ofOk id (fun v => by simp_all [State.tabsOk]) rfl

theorem State.Keeps.newLinks {links} (w : Tab.wf HostLink.down t.links = true → Tab.wf HostLink.down links = true) :
    s.Keeps { t with links } :=
  h.ofOk id (fun v => by simp_all [State.tabsOk]) rfl

theorem State.Keeps.newFuncs {funcs} (w : Tab.wf Func.fresh t.funcs = true → Tab.wf Func.fresh funcs = true) :
    s.Keeps { t with funcs } :=
  h.ofOk id (fun v => by simp_all [State.tabsOk]) rfl

theorem State.Keeps.newScheds {scheds} (w : Tab.wf Sched.empty t.scheds = true → Tab.wf Sched.empty scheds = true) :
    s.Keeps { t with scheds } :=
  h.ofOk id (fun v => by simp_all [State.tabsOk]) rfl

theorem State.Keeps.newBuses {buses} (w : Tab.wf Bus.fresh t.buses = true → Tab.wf Bus.fresh buses = true) :
    s.Keeps { t with buses } :=
  h.ofOk id (fun v => by simp_all [State.tabsOk]) rfl

theorem State.Keeps.newGroups {groups}
    (w : Tab.wf TelemGroup.fresh t.power.groups = true → Tab.wf TelemGroup.fresh groups = true) :
    s.Keeps { t with power := { t.power with groups } } :=
  h.ofOk id (fun v => by simp_all [State.tabsOk]) rfl

theorem State.Keeps.newRails {rails} (w : Tab.wf Rail.fresh t.power.rails = true → Tab.wf Rail.fresh rails = true) :
    s.Keeps { t with power := { t.power with rails } } :=
  h.ofOk id (fun v => by simp_all [State.tabsOk]) rfl

theorem State.Keeps.newDies {dies} (w : Tab.wf DieOp.fresh t.power.dies = true → Tab.wf DieOp.fresh dies = true) :
    s.Keeps { t with power := { t.power with dies } } :=
  h.ofOk id (fun v => by simp_all [State.tabsOk]) rfl

theorem State.Keeps.newHeat {heat} (w : Tab.wf Heat.fresh t.power.heat = true → Tab.wf Heat.fresh heat = true) :
    s.Keeps { t with power := { t.power with heat } } :=
  h.ofOk id (fun v => by simp_all [State.tabsOk]) rfl

end

/-! ### What is neither a store nor a table -/

/-- An update of fields that are neither stores nor tables. -/
theorem State.Keeps.same (h : s.Keeps t)
    {now pace cal windows windowMark cmds abortWaits notices samples versions tables batches asks remoteHolds
    regions undo tapDone fetches inbox waiting backlog routes hostWait membership colls dom server mgmt pins out
    free draws nextTag releases turns pending} :
    s.Keeps { t with
      now, pace, cal, windows, windowMark, cmds, abortWaits, notices, samples, versions, tables, batches, asks,
      remoteHolds, regions, undo, tapDone, fetches, inbox, waiting, backlog, routes, hostWait, membership, colls,
      dom, server, mgmt, pins, out, free, draws, nextTag, releases, turns, pending } := ⟨h.mem, h.tabs, h.retired⟩

/-- An update, beside such fields, of what `Pool` holds that is no table. -/
theorem State.Keeps.samePool (h : s.Keeps t)
    {now pace cal windows windowMark cmds abortWaits notices samples versions tables batches asks remoteHolds
    regions undo tapDone fetches inbox waiting backlog routes hostWait membership colls dom server mgmt pins out
    free draws nextTag releases turns pending hashKeys migrations scrub scan} :
    s.Keeps { t with
      now, pace, cal, windows, windowMark, cmds, abortWaits, notices, samples, versions, tables, batches, asks,
      remoteHolds, regions, undo, tapDone, fetches, inbox, waiting, backlog, routes, hostWait, membership, colls,
      dom, server, mgmt, pins, out, free, draws, nextTag, releases, turns, pending,
      pool := { t.pool with
        hashKeys, migrations, scrub, scan } } := ⟨h.mem, h.tabs, h.retired⟩

/-- An update, beside such fields, of what `Trust` holds that is no table. -/
theorem State.Keeps.sameTrust (h : s.Keeps t)
    {now pace cal windows windowMark cmds abortWaits notices samples versions tables batches asks remoteHolds
    regions undo tapDone fetches inbox waiting backlog routes hostWait membership colls dom server mgmt pins out
    free draws nextTag releases turns pending tsp cert1 cert2 alias_ measured ownCounters confLeft} :
    s.Keeps { t with
      now, pace, cal, windows, windowMark, cmds, abortWaits, notices, samples, versions, tables, batches, asks,
      remoteHolds, regions, undo, tapDone, fetches, inbox, waiting, backlog, routes, hostWait, membership, colls,
      dom, server, mgmt, pins, out, free, draws, nextTag, releases, turns, pending,
      trust := { t.trust with
        tsp, cert1, cert2, alias_, measured, ownCounters, confLeft } } := ⟨h.mem, h.tabs, h.retired⟩

/-- An update, beside such fields, of what `Power` holds that is no table. -/
theorem State.Keeps.samePower (h : s.Keeps t)
    {now pace cal windows windowMark cmds abortWaits notices samples versions tables batches asks remoteHolds
    regions undo tapDone fetches inbox waiting backlog routes hostWait membership colls dom server mgmt pins out
    free draws nextTag releases turns pending wideReq wide cause wideAt profile profEffective profPending entry
    capOffset capWritten energy marks thermtrip clocksStopped barrier ended lowSince lastAvs} :
    s.Keeps { t with
      now, pace, cal, windows, windowMark, cmds, abortWaits, notices, samples, versions, tables, batches, asks,
      remoteHolds, regions, undo, tapDone, fetches, inbox, waiting, backlog, routes, hostWait, membership, colls,
      dom, server, mgmt, pins, out, free, draws, nextTag, releases, turns, pending,
      power := { t.power with
        wideReq, wide, cause, wideAt, profile, profEffective, profPending, entry, capOffset, capWritten, energy,
        marks, thermtrip, clocksStopped, barrier, ended, lowSince, lastAvs } } := ⟨h.mem, h.tabs, h.retired⟩

/-- An update, beside such fields, of what `Recorder` holds that is not the deadwood list. -/
theorem State.Keeps.sameRecorder (h : s.Keeps t)
    {now pace cal windows windowMark cmds abortWaits notices samples versions tables batches asks remoteHolds
    regions undo tapDone fetches inbox waiting backlog routes hostWait membership colls dom server mgmt pins out
    free draws nextTag releases turns pending ring heartwood clearings next written folded emcy transients tests
    calibs lastCal calFrom worn} :
    s.Keeps { t with
      now, pace, cal, windows, windowMark, cmds, abortWaits, notices, samples, versions, tables, batches, asks,
      remoteHolds, regions, undo, tapDone, fetches, inbox, waiting, backlog, routes, hostWait, membership, colls,
      dom, server, mgmt, pins, out, free, draws, nextTag, releases, turns, pending,
      recorder := { t.recorder with
        ring, heartwood, clearings, next, written, folded, emcy, transients, tests, calibs, lastCal, calFrom,
        worn } } := ⟨h.mem, h.tabs, h.retired⟩

/-- A canonical table stays so when its values change but for the default. -/
theorem Tab.wfFrom_map {α : Type} [DecidableEq α] {d : α} {f : Nat × α → Nat × α} (hkey : ∀ p, (f p).1 = p.1)
    (hf : ∀ p, p.2 ≠ d → (f p).2 ≠ d) {l : Tab α} {lo : Nat} (hw : Tab.wfFrom d lo l = true) :
    Tab.wfFrom d lo (l.map f) = true := by
  induction l generalizing lo with
  | nil => rfl
  | cons p l ih =>
    simp only [Tab.wfFrom, Bool.and_eq_true, decide_eq_true_eq] at hw
    obtain ⟨⟨hlo, hv⟩, hl⟩ := hw
    simp only [List.map_cons, Tab.wfFrom, hkey, Bool.and_eq_true, decide_eq_true_eq]
    exact ⟨⟨hlo, hf p hv⟩, ih hl⟩

/-- A table whose values are changed is canonical once the default values are dropped. -/
theorem Tab.wfFrom_map_filter {α : Type} [DecidableEq α] {d : α} (f : α → α) {l : Tab α} {lo : Nat}
    (hw : Tab.wfFrom d lo l = true) :
    Tab.wfFrom d lo ((l.map fun p => (p.1, f p.2)).filter fun p => p.2 ≠ d) = true := by
  induction l generalizing lo with
  | nil => rfl
  | cons p l ih =>
    simp only [Tab.wfFrom, Bool.and_eq_true, decide_eq_true_eq] at hw
    obtain ⟨⟨hlo, -⟩, hl⟩ := hw
    by_cases hv : f p.2 = d
    · rw [List.map_cons, List.filter_cons_of_neg (by simpa using hv)]
      exact Tab.wfFrom_mono d _ _ _ (by omega) (ih hl)
    · rw [List.map_cons, List.filter_cons_of_pos (by simpa using hv)]
      simp only [Tab.wfFrom, Bool.and_eq_true, decide_eq_true_eq]
      exact ⟨⟨hlo, hv⟩, ih hl⟩

/-- The table of what a function gives for the first numbers. -/
theorem Tab.wf_map_range {α : Type} [DecidableEq α] {d : α} {f : Nat → α} (hf : ∀ k, f k ≠ d) (n : Nat) :
    Tab.wf d ((List.range n).map fun k => (k, f k)) = true := by
  suffices hrange : ∀ lo, Tab.wfFrom d lo ((List.range' lo n).map fun k => (k, f k)) = true by
    rw [List.range_eq_range']
    exact hrange 0
  induction n with
  | zero => exact fun _ => rfl
  | succ n ih =>
    intro lo
    rw [List.range'_succ, List.map_cons]
    simp only [Tab.wfFrom, Bool.and_eq_true, decide_eq_true_eq]
    exact ⟨⟨le_rfl, hf lo⟩, ih (lo + 1)⟩

/-- A rung queue is not one that is not in use. -/
theorem Queue.ring_ne_off {x : Queue} (h : x ≠ Queue.off) (v : Nat) : x.ring v ≠ Queue.off := by
  unfold Queue.ring
  split
  · next hk =>
    intro he
    exact absurd (congrArg Queue.dbKind he : x.dbKind = 0) (by rw [hk.1]; decide)
  · exact h

/-- The deadwood list with a unit entered in the place of what it covers. -/
def State.listed (s : State) (x : UnitId) (seq : Nat) : State :=
  { s with recorder := { s.recorder with
      dead := (s.recorder.dead.filter fun d => !x.covers d.unit) ++ [⟨x, s.cal.ns / 1000000000 % 2 ^ 32, seq⟩] } }

theorem State.retired_listed {x v : UnitId} (hx : t.retired x = false) (hv : v.loc < 40) (h : t.retired v = true)
    (seq : Nat) : (t.listed x seq).retired v = true := by
  obtain ⟨d, hd, hcov⟩ := List.any_eq_true.mp h
  by_cases hxd : x.covers d.unit = true
  · have hdx : d.unit.covers x = false := Bool.eq_false_iff.mpr fun hc =>
      Bool.eq_false_iff.mp hx (State.retired_of_mem hd hc)
    exact State.retired_of_mem (d := ⟨x, _, seq⟩) (List.mem_append_right _ (List.mem_singleton_self _))
      (UnitId.covers_of_part hv hxd hcov hdx)
  · exact State.retired_of_mem (d := d) (List.mem_append_left _ (List.mem_filter.mpr ⟨hd, by simp [hxd]⟩)) hcov

end Sys2Proof.Machine
end

section
/-! What every step keeps: the operations every meaning shares. -/

namespace Sys2Proof.Machine

variable {s t u : State}

theorem State.Keeps.usedFree {n : Nat} (h : s.Keeps t) : s.Keeps (t.usedFree n) := h.same

theorem State.Keeps.setObj {index sub v : Nat} (h : s.Keeps t) : s.Keeps (t.setObj index sub v) :=
  h.newObj (Tab.wf_put _ _ _ _)

theorem State.Keeps.bump {index sub n : Nat} (h : s.Keeps t) : s.Keeps (t.bump index sub n) := .ite h h.setObj

theorem State.Keeps.tally {c index sub n : Nat} (h : s.Keeps t) : s.Keeps (t.tally c index sub n) :=
  .ite h.sameTrust h.bump

theorem State.Keeps.raiseTo {c index sub v : Nat} (h : s.Keeps t) : s.Keeps (t.raiseTo c index sub v) :=
  .ite h.sameTrust h.setObj

theorem State.Keeps.stackWrite {a : Nat} {l : List Byte} (h : s.Keeps t) : s.Keeps (t.stackWrite a l) :=
  ((h.newMem (fun w => wf_writeKept (Mem.wf_foldl_write _ _ w) _ _)).newPoison
    (Tab.wf_foldl_put _ _ _ id _)).newTags (Tab.wf_foldl_put _ _ _ id _)

theorem State.Keeps.devWrite {a : Nat} {l : List Byte} (h : s.Keeps t) : s.Keeps (t.devWrite a l) :=
  .ite (h.newHost (Mem.wf_write _ _ _)) h.stackWrite

theorem State.Keeps.hostAsk {c a n : Nat} {write shared : Bool} (h : s.Keeps t) :
    s.Keeps (t.hostAsk c a n write shared) :=
  .ite h h.tally.same

theorem State.Keeps.set {p : Place} {a : Nat} {l : List Byte} (h : s.Keeps t) : s.Keeps (t.set p a l) := by
  cases p with
  | dev => exact h.devWrite
  | core k => exact h.newCore (Mem.wf_write _ _ _)
  | acc k i => exact h.newAcc (Mem.wf_write _ _ _)

theorem State.Keeps.scramble {p : Place} {a n : Nat} (h : s.Keeps t) : s.Keeps (t.scramble p a n) :=
  h.set.usedFree

theorem State.Keeps.emcyOn {b event seq : Nat} (h : s.Keeps t) : s.Keeps (t.emcyOn b event seq) :=
  .ite h (.ite h (h.newBuses (Tab.wf_put _ _ _ _)).same)

theorem State.Keeps.appendEvent {e : EventIn} (h : s.Keeps t) : s.Keeps (t.appendEvent e) :=
  .ite h.sameRecorder.emcyOn.emcyOn h.sameRecorder

theorem State.Keeps.recordEvent {e : EventIn} (h : s.Keeps t) : s.Keeps (t.recordEvent e) := by
  unfold State.recordEvent
  dsimp only
  split
  · exact .ite h.sameRecorder h.appendEvent
  · exact h.appendEvent

theorem State.Keeps.setSync {o : Nat} {x : SyncObj} (h : s.Keeps t) : s.Keeps (t.setSync o x) :=
  (h.newSync (Tab.wf_put _ _ _ _)).newQueues (Tab.wfFrom_map (fun p => by split <;> rfl) fun p hp => by
    split
    · exact Queue.ring_ne_off hp _
    · exact hp)

theorem State.Keeps.addObj {o inc : Nat} {fault : Bool} (h : s.Keeps t) : s.Keeps (t.addObj o inc fault) :=
  h.setSync

theorem State.Keeps.signalObj {o inc : Nat} {fault : Bool} (h : s.Keeps t) : s.Keeps (t.signalObj o inc fault) :=
  .ite h.same h.addObj

theorem State.Keeps.addReaders {v : Version} {n : Nat} (h : s.Keeps t) : s.Keeps (t.addReaders v n) := h.addObj

theorem State.Keeps.dropHolds {gone : Nat → Bool} (h : s.Keeps t) : s.Keeps (t.dropHolds gone) := by
  unfold State.dropHolds
  dsimp only
  refine .same ?_
  refine .foldl h fun hu => ?_
  split
  · exact hu.addReaders
  · exact hu

theorem State.Keeps.setCtx {c : Nat} {x : Ctx} (h : s.Keeps t) : s.Keeps (t.setCtx c x) :=
  h.newCtxs (Tab.wf_put _ _ _ _)

theorem State.Keeps.updCmd {id : CmdId} {f : Cmd → Cmd} (h : s.Keeps t) : s.Keeps (t.updCmd id f) := h.same
theorem State.Keeps.finish {id : CmdId} {st : Status} (h : s.Keeps t) : s.Keeps (t.finish id st) := h.updCmd

theorem State.Keeps.run {id : CmdId} {p : Desc → Bool} {f : State → Cmd → State × Status} (h : s.Keeps t)
    (hf : ∀ {u c}, s.Keeps u → s.Keeps (f u c).1) : s.Keeps (t.run id p f) := by
  unfold State.run
  split
  · exact h
  · exact .finish (hf h)

theorem State.Keeps.failWhere {p : Cmd → Bool} (h : s.Keeps t) : s.Keeps (t.failWhere p) :=
  h.foldl fun hu => .ite hu.finish.tally hu.finish

theorem State.Keeps.failNeeds {lost : Nat → Bool} (h : s.Keeps t) : s.Keeps (t.failNeeds lost) := h.failWhere

theorem State.Keeps.addDead {x : UnitId} {seq : Nat} (h : s.Keeps t) : s.Keeps (t.addDead x seq) := by
  cases hx : t.retired x with
  | true =>
    rw [State.addDead, if_pos hx]
    exact h
  | false =>
    have hlisted : s.Keeps (t.listed x seq) :=
      ⟨h.mem, h.tabs, fun v hv w => State.retired_listed hx hv (h.retired v hv w) seq⟩
    exact .ite h (.ite hlisted hlisted.recordEvent)

theorem State.Keeps.makeRoom {n : Nat} {x : UnitId} {seq : Nat} (h : s.Keeps t) :
    s.Keeps (State.makeRoom n t x seq) := by
  induction n generalizing t with
  | zero => exact h
  | succ n ih => exact .ite h (ih h.addDead)

theorem State.Keeps.retire {u : UnitId} {e : EventIn} (h : s.Keeps t) : s.Keeps (t.retire u e) :=
  h.recordEvent.makeRoom.addDead

theorem State.Keeps.latchInstalls {a : State} (h : s.Keeps t) : s.Keeps (t.latchInstalls a) := h.same

theorem State.Keeps.angleMoved {a : State} (h : s.Keeps t) : s.Keeps (t.angleMoved a) :=
  .ite h.latchInstalls h.latchInstalls.same

end Sys2Proof.Machine
end

section
/-! What every step keeps: the pace unit. -/

namespace Sys2Proof.Machine

variable {s t u : State}

theorem State.Keeps.losePace (h : s.Keeps t) : s.Keeps t.losePace := h.same
theorem State.Keeps.closeWindows (h : s.Keeps t) : s.Keeps t.closeWindows := h.same

theorem State.Keeps.deferredChecks (h : s.Keeps t) : s.Keeps t.deferredChecks := by
  unfold State.deferredChecks
  extract_lets _ _ s1 _ s2
  have hs1 : s.Keeps s1 := h.same
  have hs2 : s.Keeps s2 := by
    unfold s2
    split
    · exact .ite hs1.same.recordEvent hs1
    · exact hs1
  split
  · exact .ite hs2.samePower.recordEvent hs2
  · exact hs2

theorem State.Keeps.setPort {p : Nat} {x : Port} (h : s.Keeps t) : s.Keeps (t.setPort p x) :=
  h.newPorts (Tab.wf_put _ _ _ _)

theorem State.Keeps.sendControl {p ctype payload : Nat} (h : s.Keeps t) :
    s.Keeps (t.sendControl p ctype payload) :=
  h.setPort.same

theorem State.Keeps.sendFill {p : Nat} (h : s.Keeps t) : s.Keeps (t.sendFill p) := h.sendControl

theorem State.Keeps.sendPaceWords {late : Nat} (h : s.Keeps t) : s.Keeps (t.sendPaceWords late) :=
  .ite h (h.foldl fun hu => hu.sendControl)

theorem State.Keeps.windowsAnew (h : s.Keeps t) : s.Keeps t.windowsAnew := h.same

theorem State.Keeps.lockAt {src count late : Nat} {mode : PaceMode} (h : s.Keeps t) :
    s.Keeps (t.lockAt src count late mode) :=
  h.same.windowsAnew

theorem State.Keeps.firstLock {src : Nat} {count : Option Nat} {late : Nat} (h : s.Keeps t) :
    s.Keeps (t.firstLock src count late) := by
  unfold State.firstLock
  split
  · exact h.lockAt.deferredChecks
  · exact h.lockAt.deferredChecks.recordEvent
  · exact h.lockAt.deferredChecks.losePace

theorem State.Keeps.regained (h : s.Keeps t) : s.Keeps t.regained := h.recordEvent

theorem State.Keeps.returnLocked {src late : Nat} (h : s.Keeps t) : s.Keeps (t.returnLocked src late) :=
  .ite h.same h.same.regained

theorem State.Keeps.expire (h : s.Keeps t) : s.Keeps t.expire := h.same.losePace.closeWindows.recordEvent

theorem State.Keeps.loseSource (h : s.Keeps t) : s.Keeps t.loseSource := by
  unfold State.loseSource
  dsimp only
  split
  · exact h.same.recordEvent
  · exact h.same.closeWindows
  · exact h.same

theorem State.Keeps.acceptBoundary {late : Nat} (h : s.Keeps t) : s.Keeps (t.acceptBoundary late) :=
  .ite h.same.recordEvent.regained h.same

theorem State.Keeps.glitch (h : s.Keeps t) : s.Keeps t.glitch := .ite h.same.loseSource h.same

theorem State.Keeps.activeBoundary {src late : Nat} (h : s.Keeps t) : s.Keeps (t.activeBoundary src late) :=
  .ite h.glitch (.ite h.same.acceptBoundary h)

theorem State.Keeps.adopt {src : Nat} {count : Option Nat} {late : Nat} (h : s.Keeps t) :
    s.Keeps (t.adopt src count late) :=
  .ite h.returnLocked h.recordEvent

theorem State.Keeps.recover {src : Nat} {count : Option Nat} {late : Nat} (h : s.Keeps t) :
    s.Keeps (t.recover src count late) := by
  unfold State.recover
  split
  · exact h.lockAt.regained
  · exact h.lockAt.recordEvent.regained
  · exact h.lockAt

theorem State.Keeps.otherBoundary {src : Nat} {count : Option Nat} {late : Nat} (h : s.Keeps t) :
    s.Keeps (t.otherBoundary src count late) := by
  unfold State.otherBoundary
  dsimp only
  split
  · exact h.same
  · split
    · exact h.same.firstLock
    · exact .ite h.same.adopt h.same
    · exact .ite h.same.adopt h.same
    · exact .ite (.ite h.same.returnLocked h.same.expire) h.same.adopt
    · exact h.same.recover

theorem State.Keeps.dropUnreachable (h : s.Keeps t) : s.Keeps t.dropUnreachable := h.failNeeds

theorem State.Keeps.boundary {src : Nat} {count : Option Nat} {late : Nat} (h : s.Keeps t) :
    s.Keeps (t.boundary src count late) := by
  unfold State.boundary
  extract_lets taken moved
  have hmoved : s.Keeps moved := .angleMoved (.ite h.activeBoundary h.otherBoundary)
  exact .ite h (.ite hmoved (.ite hmoved.sendPaceWords.dropUnreachable (.ite hmoved.dropUnreachable hmoved)))

theorem State.Keeps.sourcesChanged (h : s.Keeps t) : s.Keeps t.sourcesChanged := .ite h.loseSource h

theorem State.Keeps.reselect {late : Nat} (h : s.Keeps t) : s.Keeps (t.reselect late) := by
  unfold State.reselect
  split
  · exact h
  · exact .ite h.same.angleMoved.sendPaceWords h.same

theorem execPaceWord_answers {port : Nat} {word : BitVec 128} (h : s.Keeps t) :
    s.Answers (execPaceWord port word t) :=
  .ite (.next h) (.ite (.next h.same.boundary) (.ite (.next h.same.reselect) (.next h)))

theorem execPpsInEdge_answers (h : s.Keeps t) : s.Answers (execPpsInEdge t) := by
  unfold execPpsInEdge
  dsimp only
  split
  · exact .next h.same
  · exact .ite (.next h.same) (.ite (.next h.same.recordEvent) (.next h.same.bump))

theorem State.Keeps.clockOn (h : s.Keeps t) : s.Keeps t.clockOn := h.same
theorem State.Keeps.clockTick (h : s.Keeps t) : s.Keeps t.clockTick := h.clockOn.angleMoved

end Sys2Proof.Machine
end

section
/-! What every step keeps: the Carust links. -/

namespace Sys2Proof.Machine

variable {s t u : State}

theorem State.Keeps.startTests (h : s.Keeps t) : s.Keeps t.startTests := h.sameRecorder
theorem State.Keeps.askTest {k : Test} (h : s.Keeps t) : s.Keeps (t.askTest k) := h.sameRecorder.startTests
theorem State.Keeps.countDrop {p : Nat} (h : s.Keeps t) : s.Keeps (t.countDrop p) := h.bump

theorem State.Keeps.countPreempt {p : Nat} {f : Frag} (h : s.Keeps t) : s.Keeps (t.countPreempt p f) :=
  .ite h.bump.usedFree h

theorem State.Keeps.sendFrag {p : Nat} {f : Frag} (h : s.Keeps t) : s.Keeps (t.sendFrag p f) :=
  h.countPreempt.setPort.same.bump

theorem State.Keeps.sendQueued {p : Nat} {f : Frag} (h : s.Keeps t) : s.Keeps (t.sendQueued p f) :=
  h.setPort.sendFrag

theorem State.Keeps.sendQueue {p n c : Nat} {d : List Nat} (h : s.Keeps t) : s.Keeps (State.sendQueue p n c d t) := by
  induction n generalizing t c d with
  | zero => exact h.setPort
  | succ n ih =>
    unfold State.sendQueue
    split
    · exact ih h.sendQueued
    · dsimp only
      split
      · exact ih h.sendQueued
      · exact h.setPort

theorem State.Keeps.flush {p : Nat} (h : s.Keeps t) : s.Keeps (t.flush p) := h.sendQueue
theorem State.Keeps.markUnreachable {m : Nat} (h : s.Keeps t) : s.Keeps (t.markUnreachable m) := h.same
theorem State.Keeps.lostSignal {c : Nat} (h : s.Keeps t) : s.Keeps (t.lostSignal c) := h.bump.recordEvent

theorem State.Keeps.undelivered {f : Frame} (h : s.Keeps t) : s.Keeps (t.undelivered f) :=
  .ite h.markUnreachable.lostSignal h.markUnreachable

theorem State.Keeps.oweCredits {p cls n : Nat} (h : s.Keeps t) : s.Keeps (t.oweCredits p cls n) := h.setPort

theorem State.Keeps.unstage {f : Frame} (h : s.Keeps t) : s.Keeps (t.unstage f) :=
  .ite h h.setPort.oweCredits.sendFill

theorem State.Keeps.toPort {f : Frame} {p : Nat} (h : s.Keeps t) : s.Keeps (t.toPort f p) :=
  .ite h.unstage.setPort.flush h.same

theorem State.Keeps.offer {f : Frame} {since : Nat} (h : s.Keeps t) : s.Keeps (t.offer f since).1 := by
  unfold State.offer
  refine .fstIte ?_ ?_
  · exact h.same
  · split
    · exact h.toPort
    · split
      · exact .fstIte h.unstage.same h.same
      · exact h

theorem State.Keeps.sendFrame {f : Frame} (h : s.Keeps t) : s.Keeps (t.sendFrame f) :=
  .ite (.ite h.lostSignal h) (.ite h.offer.undelivered h.offer)

theorem State.Keeps.sendRefused {f : Frame} {st : Status} (h : s.Keeps t) : s.Keeps (t.sendRefused f st) :=
  h.sendFrame

theorem State.Keeps.sendNoRoute {f : Frame} (h : s.Keeps t) : s.Keeps (t.sendNoRoute f) := h.sendFrame
theorem State.Keeps.noteRefused {ctx : Nat} (h : s.Keeps t) : s.Keeps (t.noteRefused ctx) := h.recordEvent

theorem State.Keeps.forward {f : Frame} {since : Nat} (h : s.Keeps t) : s.Keeps (t.forward f since) :=
  .ite h.offer (.ite h.offer.undelivered h.offer.unstage.sendNoRoute)

theorem State.Keeps.retryWaiting (h : s.Keeps t) : s.Keeps t.retryWaiting :=
  .foldl (.same (h.same.foldl fun hu => hu.forward)) fun hu => hu.forward

theorem State.Keeps.collRefused {f : Frame} (h : s.Keeps t) : s.Keeps (t.collRefused f) := .ite h h.failWhere

theorem State.Keeps.arrive {p : Nat} {f : Frame} (h : s.Keeps t) : s.Keeps (t.arrive p f) :=
  .ite (.ite h.unstage.countDrop (.ite h.same h.unstage.countDrop.noteRefused.sendRefused.collRefused))
    (.ite h.unstage.countDrop.sendNoRoute h.forward)

theorem State.Keeps.creditsGone {p : Nat} (h : s.Keeps t) : s.Keeps (t.creditsGone p) := h.same

theorem State.Keeps.portDown {p : Nat} (h : s.Keeps t) : s.Keeps (t.portDown p) :=
  h.setPort.creditsGone.startTests

theorem State.Keeps.moveTraffic {p : Nat} (h : s.Keeps t) : s.Keeps (t.moveTraffic p) :=
  .retryWaiting (h.portDown.foldl fun hu => hu.forward)

theorem State.Keeps.dropFramesTo {m : Nat} (h : s.Keeps t) : s.Keeps (t.dropFramesTo m) :=
  .foldl (.same (h.foldl fun hu => .ite hu hu.setPort)) fun hu => hu.lostSignal

theorem State.Keeps.frameLost {f : Frame} (h : s.Keeps t) : s.Keeps (t.frameLost f) :=
  .ite (.lostSignal (h.failWhere.foldl fun hu => hu.finish.tally)) (h.failWhere.foldl fun hu => hu.finish.tally)

theorem State.Keeps.loseStaging {p : Nat} (h : s.Keeps t) : s.Keeps (t.loseStaging p) :=
  h.same.portDown.foldl fun hu => hu.frameLost

theorem State.Keeps.portSwitched {p : Nat} (h : s.Keeps t) : s.Keeps (t.portSwitched p) :=
  .ite h.retryWaiting h.moveTraffic

theorem State.Keeps.portsFlushed (h : s.Keeps t) : s.Keeps t.portsFlushed :=
  .retryWaiting (h.foldl fun hu => hu.flush)

theorem State.Keeps.applyHeader {p w : Nat} (h : s.Keeps t) : s.Keeps (t.applyHeader p w) :=
  .ite h.setPort.flush h.setPort.flush.retryWaiting

theorem State.Keeps.discardFrag {p : Nat} (h : s.Keeps t) : s.Keeps (t.discardFrag p) :=
  .ite h.countDrop h.countDrop.setPort.sendControl

theorem State.Keeps.setColl {x : Coll} (h : s.Keeps t) : s.Keeps (t.setColl x) := h.same

theorem State.Keeps.takeFrag {p cls key : Nat} {first : Bool} {payload : List Byte} (h : s.Keeps t) :
    s.Keeps (t.takeFrag p cls key first payload).1 :=
  .fstIte (.setPort (.ite h.setPort.oweCredits h)) (.oweCredits (.ite h.setPort.oweCredits h))

theorem execDataFragment_answers {port : Nat} {hdr : BitVec 64} {payload : List Byte} {good : Bool}
    (h : s.Keeps t) : s.Answers (execDataFragment port hdr payload good t) := by
  unfold execDataFragment
  dsimp only
  split
  · exact .next h
  · split
    · exact .next h.countDrop
    · split
      · exact .next h.discardFrag
      · split
        · exact .next h.discardFrag
        · split
          · split
            · exact .next h.takeFrag.setPort.bump.applyHeader.sendFill.arrive
            · exact .next h.takeFrag.setPort.bump.applyHeader.sendFill.unstage.countDrop
          · exact .next h.takeFrag.setPort.bump.applyHeader.sendFill

theorem State.Keeps.resend {p i : Nat} (h : s.Keeps t) : s.Keeps (t.resend p i) := .ite h h.same.bump

theorem execNak_answers {port : Nat} {body : BitVec 128} (h : s.Keeps t) : s.Answers (execNak port body t) := by
  unfold execNak
  split
  · split
    · exact .next h.resend
    · exact .next h
  · exact .next h

theorem execFillControlFragment_answers {port : Nat} {hdr : BitVec 64} (h : s.Keeps t) :
    s.Answers (execFillControlFragment port hdr t) :=
  .ite (.next h) (.ite (.next h.countDrop) (.ite (.next h.countDrop.applyHeader) (.next h.applyHeader)))

theorem State.Keeps.meetBeacons (h : s.Keeps t) : s.Keeps t.meetBeacons :=
  h.foldl fun hu => .ite hu.same.recordEvent.failNeeds.dropFramesTo hu

theorem State.Keeps.askEcho {p : Nat} (h : s.Keeps t) : s.Keeps (t.askEcho p) := h.setPort.sendControl
theorem State.Keeps.dropLaneTests (h : s.Keeps t) : s.Keeps t.dropLaneTests := h.sameRecorder.startTests

theorem State.Keeps.checkPort {p : Nat} (h : s.Keeps t) : s.Keeps (t.checkPort p) :=
  .ite h h.retire.moveTraffic.dropLaneTests

theorem State.Keeps.setLanes {p mask : Nat} {later : List LaneChange} (h : s.Keeps t) :
    s.Keeps (t.setLanes p mask later) :=
  h.setPort.recordEvent.checkPort.startTests

theorem execLaneWidthChange_answers {port : Nat} (h : s.Keeps t) : s.Answers (execLaneWidthChange port t) := by
  unfold execLaneWidthChange
  dsimp only
  generalize Option.bind _ _ = change
  cases change with
  | none => exact .next h
  | some c => exact .next h.setLanes

theorem State.Keeps.askLanes {p mask : Nat} {test : Bool} (h : s.Keeps t) : s.Keeps (t.askLanes p mask test) :=
  h.setPort.sendControl

theorem State.Keeps.narrow {p l : Nat} {test : Bool} (h : s.Keeps t) : s.Keeps (t.narrow p l test) :=
  .ite h.askLanes h

theorem State.Keeps.widen {p l : Nat} (h : s.Keeps t) : s.Keeps (t.widen p l) := .ite h.askLanes h
theorem State.Keeps.countFailed {p lanes : Nat} (h : s.Keeps t) : s.Keeps (t.countFailed p lanes) := h.setPort

theorem State.Keeps.comeUp {p : Nat} {r : Training} (h : s.Keeps t) : s.Keeps (t.comeUp p r) :=
  .flush (.sendControl (.ite h.setPort.usedFree.creditsGone h.setPort.usedFree.creditsGone.recordEvent))

theorem State.Keeps.measure {p : Nat} {r : Training} (h : s.Keeps t) : s.Keeps (t.measure p r) :=
  h.setPort.askEcho

theorem execPortTrainingTimeout_answers {port : Nat} {r : Training} (h : s.Keeps t) :
    s.Answers (execPortTrainingTimeout port r t) := by
  unfold execPortTrainingTimeout
  dsimp only
  split
  · exact .next h
  · split
    · exact .next h.comeUp
    · exact .ite (.next h.countFailed.measure) (.next h.countFailed.setPort)

theorem State.Keeps.delayKnown {p b : Nat} (h : s.Keeps t) : s.Keeps (t.delayKnown p b) := by
  unfold State.delayKnown
  dsimp only
  split
  · exact .ite h.setPort.comeUp h.setPort
  · exact h.setPort

theorem State.Keeps.retireLane {p l : Nat} (h : s.Keeps t) : s.Keeps (t.retireLane p l) :=
  .ite h h.retire.dropLaneTests.checkPort.narrow

theorem execLaneErrorTrigger_answers {port : Nat} {e : LaneErrors} (h : s.Keeps t) :
    s.Answers (execLaneErrorTrigger port e t) :=
  .ite (.ite (.next h.bump.bump) (.next (.ite h.bump.bump.setPort.narrow.retireLane
    h.bump.bump.setPort.narrow.askTest))) (.next h)

theorem State.Keeps.enterEpoch {p : Pending} (h : s.Keeps t) : s.Keeps (t.enterEpoch p) :=
  .retryWaiting (.meetBeacons (.failWhere (.failNeeds
    (.recordEvent (h.same.dropHolds.foldl fun hu => hu.sendControl)))))

theorem execMembershipEpochChange_answers (h : s.Keeps t) : s.Answers (execMembershipEpochChange t) := by
  unfold execMembershipEpochChange
  split
  · exact .next h
  · exact .ite (.next h) (.ite (.next (.ite h.enterEpoch h)) (.ite (.next h.same.recordEvent) (.next h)))

end Sys2Proof.Machine
end

section
/-! What every step keeps: what the commands share, and the control commands. -/

namespace Sys2Proof.Machine

variable {s t u : State}

theorem State.Keeps.tallyFull {c index sub n : Nat} (h : s.Keeps t) : s.Keeps (t.tallyFull c index sub n) :=
  h.tally

theorem State.Keeps.healthBy {c group f n ovf vanish nan : Nat} (h : s.Keeps t) :
    s.Keeps (t.healthBy c group f n ovf vanish nan) :=
  h.tallyFull.tallyFull.tallyFull.tallyFull

theorem State.Keeps.health {c group f : Nat} {l : List Conv} (h : s.Keeps t) : s.Keeps (t.health c group f l) :=
  h.healthBy

theorem State.Keeps.healthOf {c group f n : Nat} (h : s.Keeps t) : s.Keeps (t.healthOf c group f n) :=
  h.healthBy.usedFree

theorem State.Keeps.healthPart {c group f n : Nat} (h : s.Keeps t) : s.Keeps (t.healthPart c group f n) :=
  h.usedFree.healthOf

theorem State.Keeps.setRows {p : Place} {a pitch : Nat} {rows : List (List Byte)} (h : s.Keeps t) :
    s.Keeps (t.setRows p a pitch rows) :=
  h.foldl fun hu => hu.set

theorem State.Keeps.scrambleRows {p : Place} {a rows pitch n : Nat} (h : s.Keeps t) :
    s.Keeps (t.scrambleRows p a rows pitch n) :=
  h.foldl fun hu => hu.scramble

theorem State.Keeps.scrambleAll {l : List Extent} (h : s.Keeps t) : s.Keeps (t.scrambleAll l) :=
  h.foldl fun hu => hu.scrambleRows

theorem State.Keeps.spoil {c : Cmd} {l : List Extent} (h : s.Keeps t) : s.Keeps (t.spoil c l) :=
  .ite h.scrambleAll h

theorem State.Keeps.took {c : Cmd} (h : s.Keeps t) : s.Keeps (t.took c) := by
  unfold State.took
  split
  · exact h
  · exact h.same

theorem State.Keeps.payOne {id : CmdId} {k : Nat} (h : s.Keeps t) : s.Keeps (t.payOne id k) := by
  unfold State.payOne
  split
  · exact h
  · exact h.updCmd.newBuckets (Tab.wf_put _ _ _ _)

theorem State.Keeps.payBucket {k : Nat} (h : s.Keeps t) : s.Keeps (t.payBucket k) := by
  unfold State.payBucket
  split
  · refine .foldl h fun hu => ?_
    split
    · exact hu.payOne
    · exact hu
  · exact h

theorem State.Keeps.payFor {l : List Access} (h : s.Keeps t) : s.Keeps (t.payFor l) :=
  h.foldl fun hu => hu.newBuckets (Tab.wf_modify _ _ _ _)

theorem State.Keeps.runOn {id : CmdId} {p : Desc → Bool} {units : State → Cmd → List UnitId}
    {f : State → Cmd → State × Status} (h : s.Keeps t) (hf : ∀ {u c}, s.Keeps u → s.Keeps (f u c).1) :
    s.Keeps (t.runOn id p units f) := by
  unfold State.runOn
  split
  · exact h
  · split
    · exact h.finish
    · exact h
    · exact .ite (.finish (hf h.took)) h

theorem State.Keeps.workOn {id : CmdId} {p : Desc → Bool} {units : State → Cmd → List UnitId}
    {f : State → Cmd → State × Option Status} (h : s.Keeps t) (hf : ∀ {u c}, s.Keeps u → s.Keeps (f u c).1) :
    s.Keeps (t.workOn id p units f) := by
  unfold State.workOn
  split
  · exact h
  · split
    · exact h.finish
    · exact h
    · split
      · split
        · next hp => exact .finish (.ofEq hp (hf h.took))
        · next hp => exact .ofEq hp (hf h.took)
      · exact h

theorem State.Keeps.withPoison {reads writes : List Extent} {work : State → State × Status} (h : s.Keeps t)
    (hf : ∀ {u}, s.Keeps u → s.Keeps (work u).1) : s.Keeps (t.withPoison reads writes work).1 :=
  .fstIte h.scrambleAll (.fstIte (hf h) (hf h))

theorem State.Keeps.sendPart {c : Cmd} {dst step off : Nat} {last : Bool} {l : List Byte} (h : s.Keeps t) :
    s.Keeps (t.sendPart c dst step off last l) :=
  h.foldl fun hu => hu.sendFrame

theorem State.Keeps.sendStep {c : Cmd} {dst step : Nat} {l : List Byte} (h : s.Keeps t) :
    s.Keeps (t.sendStep c dst step l) :=
  h.sendPart

theorem State.Keeps.sendCancel {d : Desc} {ctx dst : Nat} (h : s.Keeps t) : s.Keeps (t.sendCancel d ctx dst) :=
  h.sendFrame

theorem State.Keeps.cancelPeers {c : Cmd} (h : s.Keeps t) : s.Keeps (t.cancelPeers c) :=
  .ite h (h.foldl fun hu => hu.sendCancel)

theorem State.Keeps.setQueue {c q : Nat} {x : Queue} (h : s.Keeps t) : s.Keeps (t.setQueue c q x) :=
  h.newQueues (Tab.wf_put _ _ _ _)

theorem State.Keeps.abortTargets {l : List CmdId} (h : s.Keeps t) : s.Keeps (t.abortTargets l) :=
  .same (h.foldl fun hu => hu.cancelPeers)

theorem execAbort_answers {id : CmdId} (h : s.Keeps t) : s.Answers (execAbort id t) := by
  unfold execAbort
  split
  · exact .next h
  · split
    · exact .next h
    · dsimp only
      split
      · split
        · exact .next h.finish
        · exact .next h.finish
        · exact .next h.abortTargets.same
      · exact .ite (.next h.finish) (.ite (.next h.same.sendFrame.finish) (.next h.same.sendFrame.updCmd))

theorem State.Keeps.beginLeave {c : Nat} (h : s.Keeps t) : s.Keeps (t.beginLeave c) := .ite h.setCtx h

theorem State.Keeps.yieldCtx {c : Nat} {deadline : Angle} (h : s.Keeps t) : s.Keeps (t.yieldCtx c deadline) :=
  .ite (.ite h.setCtx.beginLeave h.setCtx) h

end Sys2Proof.Machine
end

section
/-! What every step keeps: the embedding engines. -/

namespace Sys2Proof.Machine

variable {s t u : State}

theorem State.Keeps.setTable {c table : Nat} {x : TableNum} (h : s.Keeps t) : s.Keeps (t.setTable c table x) :=
  h.same

theorem State.Keeps.releaseVersion {v : Version} (h : s.Keeps t) : s.Keeps (t.releaseVersion v) := by
  unfold State.releaseVersion
  dsimp only
  split
  · exact h.same.signalObj
  · exact h.same

theorem State.Keeps.supersede {v : Version} {release : Nat} (h : s.Keeps t) : s.Keeps (t.supersede v release) :=
  .ite h.same.releaseVersion h.same

theorem State.Keeps.addVersion {c table x : Nat} (h : s.Keeps t) : s.Keeps (t.addVersion c table x) :=
  h.setTable.same.setSync

theorem State.Keeps.install {c : Cmd} (h : s.Keeps t) : s.Keeps (t.install c).1 := by
  unfold State.install
  dsimp only
  refine .fstIte ?_ ?_
  · exact h
  · split
    · exact h
    · split
      · exact h.addVersion.supersede
      · exact h.addVersion

theorem State.Keeps.remove {c : Cmd} (h : s.Keeps t) : s.Keeps (t.remove c).1 := by
  unfold State.remove
  dsimp only
  split
  · exact h
  · exact .fstIte h h.supersede

theorem execVersionInstallTakesEffect_answers {id : CmdId} (h : s.Keeps t) :
    s.Answers (execVersionInstallTakesEffect id t) := by
  unfold execVersionInstallTakesEffect
  split
  · exact .next h
  · exact .ite (.next h) (.ite (.next h.finish) (.ite (.next h.finish)
      (.next (.finish (.fstIte h.remove h.install)))))

theorem execVersionRelease_answers {ctx table num : Nat} (h : s.Keeps t) :
    s.Answers (execVersionRelease ctx table num t) := by
  unfold execVersionRelease
  split
  · exact .next h
  · exact .ite (.next h.releaseVersion) (.next h)

theorem State.Keeps.dropAsks {id : CmdId} (h : s.Keeps t) : s.Keeps (t.dropAsks id) := h.same

theorem State.Keeps.addAsk {id : CmdId} {member engine turn : Nat} {rows : List Nat} (h : s.Keeps t) :
    s.Keeps (t.addAsk id member engine turn rows) :=
  h.same

theorem State.Keeps.updAsk {tag : Nat} {f : Ask → Ask} (h : s.Keeps t) : s.Keeps (t.updAsk tag f) := h.same

theorem State.Keeps.sendAsks {id : CmdId} {frame : Ask → Frame} (h : s.Keeps t) :
    s.Keeps (t.sendAsks id frame) :=
  h.foldl fun hu => .ite hu.updAsk.sendFrame hu

theorem State.Keeps.answerAsk {tag member : Nat} {st : Status} {l : List Byte} (h : s.Keeps t) :
    s.Keeps (t.answerAsk tag member st l) :=
  h.updAsk

theorem State.Keeps.noteNeeds {id : CmdId} (h : s.Keeps t) : s.Keeps (t.noteNeeds id) := h.updCmd
theorem State.Keeps.setBatch {b : Batch} (h : s.Keeps t) : s.Keeps (t.setBatch b) := h.same

theorem State.Keeps.passRecorded {c : Nat} {d : Desc} (h : s.Keeps t) : s.Keeps (t.passRecorded c d) := by
  unfold State.passRecorded
  split
  · exact h.setBatch
  · exact h

theorem State.Keeps.embCount {c engine k n : Nat} (h : s.Keeps t) : s.Keeps (t.embCount c engine k n) := h.tally

theorem State.Keeps.passWork {c : Cmd} {b : AdmitBody} {v : Version} {angle : Angle} (h : s.Keeps t) :
    s.Keeps (t.passWork c b v angle).1 := by
  unfold State.passWork
  refine .withPoison ?_ fun hu => ?_
  · dsimp only
    split
    · exact h.setBatch
    · exact h
  · dsimp only
    exact hu.devWrite.devWrite.devWrite.devWrite.embCount.embCount.embCount.embCount.embCount.embCount.embCount

theorem execEmbAdmit_answers {id : CmdId} (h : s.Keeps t) : s.Answers (execEmbAdmit id t) := by
  unfold execEmbAdmit
  refine .next ?_
  refine .runOn h fun hu => ?_
  dsimp only
  split
  · exact hu
  · split
    · exact hu
    · refine .fstIte ?_ ?_
      · exact hu.scrambleAll
      · refine .fstIte ?_ ?_
        · exact hu
        · split
          · exact hu
          · exact hu.passWork

theorem State.Keeps.withdraw {c bid : Nat} {l : List (Nat × Nat × Nat)} (h : s.Keeps t) :
    s.Keeps (t.withdraw c bid l) :=
  h.foldl fun hu => .ite hu hu.sendFrame

theorem State.Keeps.endAsks {c : Cmd} (h : s.Keeps t) : s.Keeps (t.endAsks c) :=
  .ite h.dropAsks.withdraw h.dropAsks

theorem State.Keeps.admitBatch {c : Nat} {b : AdmitBody} {holds : List (Nat × Nat × Nat)} (h : s.Keeps t) :
    s.Keeps (t.admitBatch c b holds) :=
  .same (h.foldl fun hu => hu.addReaders)

theorem execEmbAdmitOpen_answers {id : CmdId} (h : s.Keeps t) : s.Answers (execEmbAdmitOpen id t) := by
  unfold execEmbAdmitOpen
  refine .next ?_
  refine .workOn h fun hu => ?_
  dsimp only
  refine .fstIte ?_ ?_
  · exact hu
  · split
    · exact hu.endAsks
    · refine .fstIte ?_ ?_
      · exact hu.endAsks
      · refine .fstIte ?_ ?_
        · exact .noteNeeds (.foldl (hu.endAsks.foldl fun hv => hv.addAsk) fun hv => hv.updAsk.sendFrame)
        · refine .fstIte ?_ ?_
          · exact hu.noteNeeds
          · refine .fstIte ?_ ?_
            · exact hu.endAsks.noteNeeds
            · split
              · exact hu.endAsks
              · exact hu.dropAsks.noteNeeds.admitBatch.passWork

theorem State.Keeps.closeBatch {b : Batch} (h : s.Keeps t) : s.Keeps (t.closeBatch b) :=
  .same (.withdraw (h.foldl fun hu => hu.addReaders))

theorem execEmbBatchClose_answers {id : CmdId} (h : s.Keeps t) : s.Answers (execEmbBatchClose id t) := by
  unfold execEmbBatchClose
  refine .next ?_
  refine .workOn h fun hu => ?_
  dsimp only
  refine .fstIte ?_ ?_
  · exact hu
  · split
    · exact hu
    · exact hu.closeBatch

theorem State.Keeps.askRows {c : Cmd} {p : Pass} {v : Version} {us : List Nat} (h : s.Keeps t) :
    s.Keeps (t.askRows c p v us) :=
  h.foldl fun hu => hu.foldl fun hv => hv.addAsk

theorem State.Keeps.withRows {c : Cmd} {p : Pass} {v : Version} {live : Bool} {us : List Nat}
    {outs : List Extent} {work : State → State × Status} (h : s.Keeps t)
    (hf : ∀ {u}, s.Keeps u → s.Keeps (work u).1) : s.Keeps (t.withRows c p v live us outs work).1 := by
  unfold State.withRows
  dsimp only
  refine .fstIte ?_ ?_
  · exact h.dropAsks.scrambleAll
  · refine .fstIte ?_ ?_
    · exact h.askRows.sendAsks.noteNeeds
    · split
      · exact h.dropAsks.scrambleAll
      · exact .fstIte h.sendAsks.noteNeeds (.dropAsks (h.noteNeeds.withPoison fun hu => hf hu))

theorem State.Keeps.noteStaged {c : Nat} {d : Desc} (h : s.Keeps t) : s.Keeps (t.noteStaged c d) := by
  unfold State.noteStaged
  split
  · exact h.setBatch
  · exact h

theorem State.Keeps.stageRows {c : Cmd} {p : Pass} {v : Version} {us : List Nat} (h : s.Keeps t) :
    s.Keeps (t.stageRows c p v us) :=
  .embCount (h.devWrite.devWrite.noteStaged.foldl fun hu => hu.devWrite)

theorem State.Keeps.stage {c : Cmd} {p : Pass} {v : Version} (h : s.Keeps t) : s.Keeps (t.stage c p v).1 :=
  h.stageRows

theorem State.Keeps.stagePart {c : Cmd} (h : s.Keeps t) : s.Keeps (t.stagePart c) := by
  unfold State.stagePart
  split
  · exact h
  · exact .ite h.usedFree h.usedFree.stageRows

theorem execEmbPrefetch_answers {id : CmdId} (h : s.Keeps t) : s.Answers (execEmbPrefetch id t) := by
  unfold execEmbPrefetch
  refine .next ?_
  refine .workOn h fun hu => ?_
  split
  · exact hu
  · split
    · exact hu
    · exact hu.withRows fun hv => hv.stage

theorem State.Keeps.gather {c : Cmd} {g : GatherBody} {p : Pass} {v : Version} (h : s.Keeps t) :
    s.Keeps (t.gather c g p v).1 := by
  unfold State.gather
  dsimp only
  refine .health ?_
  refine .embCount ?_
  refine .embCount ?_
  refine .embCount ?_
  split
  · exact h.setRows.devWrite
  · exact h.setRows

theorem execEmbGatherPool_answers {id : CmdId} (h : s.Keeps t) : s.Answers (execEmbGatherPool id t) := by
  unfold execEmbGatherPool
  refine .next ?_
  refine .workOn h fun hu => ?_
  split
  · split
    · exact hu
    · exact hu.withRows fun hv => hv.gather
  · exact hu

theorem execEmbGradMerge_answers {id : CmdId} (h : s.Keeps t) : s.Answers (execEmbGradMerge id t) := by
  unfold execEmbGradMerge
  refine .next (h.runOn fun hu => ?_)
  split
  · split
    · exact hu
    · refine .withPoison hu fun hv => ?_
      dsimp only
      exact hv.devWrite.health
  · exact hu

theorem State.Keeps.combine {c : Nat} {d : Desc} {f : FC} (h : s.Keeps t) : s.Keeps (t.combine c d f) :=
  h.devWrite.embCount.health

theorem execEmbGradCombine_answers {id : CmdId} (h : s.Keeps t) : s.Answers (execEmbGradCombine id t) := by
  unfold execEmbGradCombine
  refine .next (h.runOn fun hu => ?_)
  dsimp only
  split
  · exact hu
  · split
    · exact .fstIte hu.scrambleAll hu
    · refine .withPoison hu fun hv => ?_
      dsimp only
      exact hv.combine

theorem State.Keeps.askFetch {c : Cmd} {v : Version} {turn : Nat} {verify : Bool} {rows : List Nat}
    (h : s.Keeps t) : s.Keeps (t.askFetch c v turn verify rows) :=
  .noteNeeds (h.addAsk.updAsk.foldl fun hu => hu.sendFrame)

theorem State.Keeps.endFetch {c : Cmd} (h : s.Keeps t) : s.Keeps (t.endFetch c) := by
  unfold State.endFetch
  dsimp only
  split
  · exact .ite h.dropAsks h.dropAsks.sendFrame
  · exact h.dropAsks

theorem State.Keeps.fetchLeft {c : Cmd} {v : Version} {rows : List Nat} (h : s.Keeps t) :
    s.Keeps (t.fetchLeft c v rows) :=
  h.endFetch.scrambleAll

theorem State.Keeps.landRows {v : Version} {a : Ask} (h : s.Keeps t) : s.Keeps (t.landRows v a) :=
  h.foldl fun hu => hu.devWrite

theorem State.Keeps.markSuspect {c table : Nat} {b : Bool} (h : s.Keeps t) : s.Keeps (t.markSuspect c table b) :=
  h.setTable

theorem State.Keeps.turnEnd {c : Cmd} {v : Version} {turn : Nat} {rows : List Nat} (h : s.Keeps t) :
    s.Keeps (t.turnEnd c v turn rows).1 :=
  .fstIte h.endFetch.markSuspect h.tally.markSuspect.recordEvent.updCmd.askFetch

theorem State.Keeps.verifyEnd {c : Cmd} {v : Version} (h : s.Keeps t) : s.Keeps (t.verifyEnd c v).1 :=
  .fstIte h.endFetch.markSuspect h.endFetch

theorem execEmbReplicaFetch_answers {id : CmdId} (h : s.Keeps t) : s.Answers (execEmbReplicaFetch id t) := by
  unfold execEmbReplicaFetch
  refine .next (h.workOn fun hu => ?_)
  dsimp only
  split
  · exact hu.endFetch
  · split
    · exact hu.endFetch
    · split
      · exact hu.endFetch
      · split
        · dsimp only
          exact hu.fetchLeft
        · split
          · exact hu.endFetch
          · split
            · exact hu.askFetch
            · split
              · exact hu
              · exact .fstIte hu.fetchLeft.noteNeeds
                  (.fstIte hu.endFetch.noteNeeds (.fstIte (.fstIte hu.noteNeeds.askFetch hu.noteNeeds.verifyEnd)
                    (.fstIte hu.landRows.noteNeeds.askFetch hu.landRows.noteNeeds.turnEnd)))

theorem State.Keeps.serveRows {f : Frame} (h : s.Keeps t) : s.Keeps (t.serveRows f) := by
  unfold State.serveRows
  dsimp only
  split
  · exact h.sendRefused
  · split
    · exact h.sendRefused
    · exact .ite h.sendRefused h.sendFrame

theorem State.Keeps.applyHold {f : Frame} (h : s.Keeps t) : s.Keeps (t.applyHold f) := by
  unfold State.applyHold
  dsimp only
  split
  · split
    · exact h.sendRefused
    · exact h.same.addReaders.sendRefused
  · split
    · exact h
    · split
      · exact h.same.addReaders
      · exact h.same

end Sys2Proof.Machine
end

section
/-! What every step keeps: the stands. -/

namespace Sys2Proof.Machine

variable {s t u : State}

theorem State.Keeps.setStand {k : Nat} {x : Stand} (h : s.Keeps t) : s.Keeps (t.setStand k x) :=
  h.newStands (Tab.wf_put _ _ _ _)

theorem State.Keeps.runStand {id : CmdId} {p : Desc → Bool} {ready : State → Cmd → Bool}
    {f : State → Cmd → State × Status} (h : s.Keeps t) (hf : ∀ {u c}, s.Keeps u → s.Keeps (f u c).1) :
    s.Keeps (t.runStand id p ready f) := by
  unfold State.runStand
  split
  · exact h
  · exact .ite h (.ite h.finish (.ite h (.finish (hf h.took))))

theorem State.Keeps.countRows {c core m : Nat} {fill flipWait : Bool} (h : s.Keeps t) :
    s.Keeps (t.countRows c core m fill flipWait) :=
  .usedFree (.ite (.tally (.ite h.tally.tally.tally h.tally.tally)) (.ite h.tally.tally.tally h.tally.tally))

theorem State.Keeps.spoilTile {b : MatBody} (h : s.Keeps t) : s.Keeps (t.spoilTile b) := h.setStand.usedFree

theorem State.Keeps.spoilMat {c : Cmd} {b : MatBody} {region : Extent} (h : s.Keeps t) :
    s.Keeps (t.spoilMat c b region) :=
  .ite (.scrambleAll (.ite h.spoilTile h)) (.ite h.spoilTile h)

theorem State.Keeps.matmul {c : Cmd} {b : MatBody} {moving : List (List FVal)} (h : s.Keeps t) :
    s.Keeps (t.matmul c b moving) :=
  h.set.setStand.updCmd.countRows.health

theorem State.Keeps.partMat {c : Cmd} {b : MatBody} (h : s.Keeps t) : s.Keeps (t.partMat c b) :=
  .healthOf (.countRows (.ite h.usedFree.setStand.spoilTile h.usedFree.setStand))

theorem State.Keeps.runMat {id : CmdId} {op : Nat} {moving : State → MatBody → List (List FVal)}
    (h : s.Keeps t) : s.Keeps (t.runMat id op moving) := by
  unfold State.runMat
  split
  · exact h
  · split
    · exact h
    · exact .ite h (.ite h.finish (.ite h (.ite h.took.matmul.spoilMat h.took.matmul.spoilMat.finish)))

theorem execFlip_answers {core : Nat} (h : s.Keeps t) : s.Answers (execFlip core t) := by
  unfold execFlip
  dsimp only
  split
  · split
    · exact .next h.setStand.finish
    · split
      · refine .next ?_
        refine .updCmd ?_
        refine .finish ?_
        split
        · exact h.setStand.spoilMat
        · exact h.setStand
      · exact .next h
  · exact .next h.setStand

theorem State.Keeps.drain {c : Cmd} {b : DrainBody} (h : s.Keeps t) : s.Keeps (t.drain c b) :=
  .health (.usedFree (.ite (.set (.ite h.setRows.set h.setRows)) (.ite h.setRows.set h.setRows)))

theorem State.Keeps.drainPart {c : Cmd} {b : DrainBody} (h : s.Keeps t) : s.Keeps (t.drainPart c b) :=
  h.healthPart

theorem execStandDrain_answers {id : CmdId} (h : s.Keeps t) : s.Answers (execStandDrain id t) := by
  unfold execStandDrain
  refine .next ?_
  refine .runStand h fun hu => ?_
  split
  · exact hu
  · exact .fstIte hu (.fstIte hu.drainPart.scrambleAll hu.drain.spoil)

theorem execStandAccZero_answers {id : CmdId} (h : s.Keeps t) : s.Answers (execStandAccZero id t) := by
  refine .next (h.runStand fun hu => ?_)
  exact hu.set (p := .acc ..)

theorem State.Keeps.releaseShadow {k : Nat} (h : s.Keeps t) : s.Keeps (t.releaseShadow k) := h.setStand

end Sys2Proof.Machine
end

section
/-! What every step keeps: collectives and generation sequences. -/

namespace Sys2Proof.Machine

variable {s t u : State}

theorem State.Keeps.collEnds {c : Cmd} {st : Status} (h : s.Keeps t) : s.Keeps (t.collEnds c st) :=
  .finish (.same (h.foldl fun hu => hu.unstage))

theorem State.Keeps.collRelease {c : Cmd} (h : s.Keeps t) : s.Keeps (t.collRelease c) :=
  .ite h.collEnds (.ite h.collEnds.tally (.ite h.collEnds h.setColl.updCmd))

theorem State.Keeps.endColl {c : Cmd} (h : s.Keeps t) : s.Keeps (t.endColl c) := h.same
theorem State.Keeps.stopColl {c : Cmd} (h : s.Keeps t) : s.Keeps (t.stopColl c) := .ite h.cancelPeers h

theorem State.Keeps.readFor {id : CmdId} {a n : Nat} (h : s.Keeps t) : s.Keeps (t.readFor id a n).1 :=
  .fstIte h.updCmd.usedFree h

theorem State.Keeps.writeFor {id : CmdId} {a : Nat} {l : List Byte} (h : s.Keeps t) :
    s.Keeps (t.writeFor id a l) :=
  .ite h.devWrite.updCmd h.devWrite

theorem State.Keeps.tensorPart {id : CmdId} {f : FC} {a total b u : Nat} (h : s.Keeps t) :
    s.Keeps (t.tensorPart id f a total b u).1 :=
  .fstIte h.readFor.readFor h.readFor

theorem State.Keeps.putPart {id : CmdId} {f : FC} {a total b u : Nat} {l : List Byte} (h : s.Keeps t) :
    s.Keeps (t.putPart id f a total b u l) :=
  .ite h.writeFor.writeFor h.writeFor

theorem State.Keeps.encodeChunk {c : Cmd} {b : CollReduce} {f : FC} {useRes : Bool} {first : Nat}
    {ts : List FVal} (h : s.Keeps t) : s.Keeps (t.encodeChunk c b f useRes first ts).1 :=
  .ite (.writeFor (.health (.fstIte h.readFor h))) (.health (.fstIte h.readFor h))

theorem State.Keeps.countAdds {ctx : Nat} {f : FC} {u b n : Nat} {ps : List CollPart} (h : s.Keeps t) :
    s.Keeps (t.countAdds ctx f u b n ps) := by
  unfold State.countAdds
  refine .foldl h fun hu => ?_
  dsimp only
  split
  · exact hu
  · exact .ite (.tally (.ite hu.tally hu)) (.ite hu.tally hu)

theorem State.Keeps.noteSquare {c : Cmd} {b : CollReduce} (h : s.Keeps t) : s.Keeps (t.noteSquare c b) := by
  unfold State.noteSquare
  split
  · exact .ite h.tensorPart.setColl h
  · exact h

theorem State.Keeps.writeNoise {c : Cmd} {b : CollReduce} {own : Nat × Nat} {final : List FVal} (h : s.Keeps t) :
    s.Keeps (t.writeNoise c b own final) :=
  .ite h.writeFor h

theorem State.Keeps.hopSum {c : Cmd} {b : CollReduce} {fin_ : FC} {first u : Nat} {l : List Byte}
    (h : s.Keeps t) : s.Keeps (t.hopSum c b fin_ first u l).1 :=
  h.tensorPart

theorem State.Keeps.endBlocks {c : Cmd} {b : CollReduce} {first u total at_ : Nat} {ts : List FVal}
    (h : s.Keeps t) : s.Keeps (t.endBlocks c b first u total at_ ts).1 :=
  h.encodeChunk.putPart

theorem State.Keeps.collDone {c : Cmd} {outs : List Extent} (h : s.Keeps t) : s.Keeps (t.collDone c outs).1 :=
  .fstIte h.scrambleAll h

theorem State.Keeps.reduceAlone {c : Cmd} {b : CollReduce} (h : s.Keeps t) : s.Keeps (t.reduceAlone c b).1 :=
  h.tensorPart.writeNoise.endBlocks.collDone

theorem State.Keeps.sendRun {c : Cmd} {dst step : Nat} {f : FC} {u b n : Nat} {last : Bool} {l : List Byte}
    (h : s.Keeps t) : s.Keeps (t.sendRun c dst step f u b n last l) :=
  .ite h.sendPart (.ite h.sendPart.sendPart h.sendPart)

theorem State.Keeps.hopStep {c : Cmd} {x : Coll} {b : CollReduce} {d p prev next : Nat} (h : s.Keeps t) :
    s.Keeps (t.hopStep c x b d p prev next).1 := by
  unfold State.hopStep
  extract_lets k f hop wire sh ps r done ends sum y summed piece sent ended
  have hsummed : s.Keeps summed := h.countAdds.hopSum.setColl
  have hpiece : s.Keeps piece.1 := .fstIte hsummed.encodeChunk hsummed
  have hsent : s.Keeps sent.1 := .fstIte hsummed.endBlocks hsummed.endBlocks
  have hended : s.Keeps ended := .ite hsent.writeNoise hsent
  exact .fstIte h (.fstIte hpiece.sendRun (.fstIte hended.sendRun (.fstIte hended.collDone hended)))

theorem State.Keeps.placePart {id : CmdId} {f : FC} {a total first u : Nat} {q : CollPart} (h : s.Keeps t) :
    s.Keeps (t.placePart id f a total first u q) :=
  h.writeFor.writeFor

theorem State.Keeps.spreadStep {c : Cmd} {x : Coll} {b : CollReduce} {d p prev next : Nat} (h : s.Keeps t) :
    s.Keeps (t.spreadStep c x b d p prev next).1 := by
  unfold State.spreadStep
  dsimp only
  split
  · exact .ite h.setColl.placePart.sendPart h.setColl.placePart
  · exact .fstIte h (.fstIte h.setColl h.setColl.collDone)

theorem State.Keeps.reduceStep {c : Cmd} {x : Coll} {b : CollReduce} (h : s.Keeps t) :
    s.Keeps (t.reduceStep c x b).1 :=
  .fstIte h.reduceAlone (.fstIte h.hopStep h.spreadStep)

theorem State.Keeps.gatherStart {c : Cmd} {b : GatherAll} (h : s.Keeps t) : s.Keeps (t.gatherStart c b) :=
  .ite (.ite h.readFor h.readFor.writeFor) (.sendStep (.ite h.readFor h.readFor.writeFor))

theorem State.Keeps.gatherStep {c : Cmd} {x : Coll} {b : GatherAll} (h : s.Keeps t) :
    s.Keeps (t.gatherStep c x b).1 := by
  unfold State.gatherStep
  dsimp only
  refine .fstIte ?_ ?_
  · exact h.collDone
  · split
    · exact h
    · exact .fstIte h.setColl.writeFor.sendStep h.setColl.writeFor.collDone

theorem State.Keeps.permuteStart {c : Cmd} {b : Permute} (h : s.Keeps t) : s.Keeps (t.permuteStart c b) :=
  h.foldl fun hu => .ite hu hu.readFor.sendStep

theorem State.Keeps.permuteStep {c : Cmd} {x : Coll} {b : Permute} (h : s.Keeps t) :
    s.Keeps (t.permuteStep c x b).1 :=
  .fstIte h (.collDone (.ite (.writeFor (.readFor (.foldl (.ite h h.readFor.writeFor) fun hu => hu.writeFor)))
    (.foldl (.ite h h.readFor.writeFor) fun hu => hu.writeFor)))

theorem State.Keeps.exchangeStart {c : Cmd} {b : Exchange} (h : s.Keeps t) :
    s.Keeps (t.exchangeStart c b).1 := by
  unfold State.exchangeStart
  split
  · split
    · exact h
    · exact h.readFor.foldl fun hu => .ite hu.sendStep (.ite hu.writeFor hu)
  · exact h

theorem State.Keeps.exchangeStep {c : Cmd} {x : Coll} {b : Exchange} (h : s.Keeps t) :
    s.Keeps (t.exchangeStep c x b).1 := by
  unfold State.exchangeStep
  dsimp only
  split
  · exact .fstIte h.sendFrame (.fstIte h.setColl.writeFor.collDone h.setColl.writeFor)
  · exact .fstIte h.collDone h

theorem State.Keeps.passTag {id : CmdId} {b : PassBody} {k : Nat} (h : s.Keeps t) :
    s.Keeps (t.passTag id b k).1 :=
  .fstIte h h.readFor

theorem State.Keeps.passStep {c : Cmd} {x : Coll} {b : PassBody} (h : s.Keeps t) :
    s.Keeps (t.passStep c x b).1 :=
  .fstIte h.readFor.passTag.setColl.sendStep (.fstIte h.collDone h)

theorem State.Keeps.landStep {c : Cmd} {x : Coll} {b : PassBody} {l : List Byte} (h : s.Keeps t) :
    s.Keeps (t.landStep c x b l) :=
  h.setColl.writeFor.signalObj

theorem State.Keeps.runColl {id : CmdId} {p : Desc → Bool} {f : State →   Cmd → Coll → State × Option Status}
    (h : s.Keeps t) (hf : ∀ {u c x}, s.Keeps u → s.Keeps (f u c x).1) : s.Keeps (t.runColl id p f) := by
  unfold State.runColl
  split
  · split
    · exact h
    · split
      · exact h.finish
      · split
        · exact h.finish
        · split
          · next hp => exact .finish (.ofEq hp (hf h))
          · next hp => exact .ofEq hp (hf h)
  · exact h

theorem execCollPassLanding_answers {id : CmdId} {step : Nat} (h : s.Keeps t) :
    s.Answers (execCollPassLanding id step t) := by
  unfold execCollPassLanding
  refine .next ?_
  refine .runColl h fun hu => ?_
  dsimp only
  refine .fstIte ?_ ?_
  · split
    · exact hu.landStep
    · exact hu
  · exact hu

theorem State.Keeps.collStart {c : Cmd} (h : s.Keeps t) : s.Keeps (t.collStart c).1 := by
  unfold State.collStart
  split
  · exact .fstIte h h.noteSquare.tensorPart.sendStep
  · exact h.gatherStart
  · exact h.permuteStart
  · exact h.exchangeStart
  · exact h

theorem execCollectiveMatch_answers {id : CmdId} (h : s.Keeps t) : s.Answers (execCollectiveMatch id t) := by
  unfold execCollectiveMatch
  split
  · split
    · exact .next h
    · next c x _ _ _ =>
      have hstart := h.setColl (x := { x with begun := true }) |>.collStart (c := c)
      split
      · next hp => exact .next (.finish (.ofEq hp hstart))
      · next hp => exact .next (.ofEq hp hstart)
  · exact .next h

theorem State.Keeps.setSeq {k : Nat} {x : SeqSlot} (h : s.Keeps t) : s.Keeps (t.setSeq k x) :=
  h.newSeqs (Tab.wf_put _ _ _ _)

theorem State.Keeps.seqUndone {c : Cmd} (h : s.Keeps t) : s.Keeps (t.seqUndone c) := .ite h.setSeq h

theorem State.Keeps.runSeq {id : CmdId} {op : Nat} {f : State → Cmd → SeqSlot → State × Status} (h : s.Keeps t)
    (hf : ∀ {u c x}, s.Keeps u → s.Keeps (f u c x).1) : s.Keeps (t.runSeq id op f) :=
  h.workOn fun hu => .fstIte hu (.fstIte hu (.fstIte hu (hf hu)))

theorem execGenSeqAppend_answers {id : CmdId} (h : s.Keeps t) : s.Answers (execGenSeqAppend id t) := by
  unfold execGenSeqAppend
  refine .next ?_
  refine .runSeq h fun hu => ?_
  dsimp only
  refine .fstIte ?_ ?_
  · exact hu
  · split
    · exact hu
    · exact .ite (.setSeq (hu.withPoison fun hv => hv.foldl fun hw => hw.devWrite))
        (hu.withPoison fun hv => hv.foldl fun hw => hw.devWrite)

theorem execGenSeqRead_answers {id : CmdId} (h : s.Keeps t) : s.Answers (execGenSeqRead id t) := by
  unfold execGenSeqRead
  refine .next ?_
  refine .runSeq h fun hu => ?_
  dsimp only
  refine .fstIte ?_ ?_
  · exact hu.scrambleAll
  · split
    · exact hu
    · exact hu.withPoison fun hv => hv.foldl fun hw => hw.set

theorem State.Keeps.takeColl {f : Frame} (h : s.Keeps t) (e : t.takeColl f = some u) : s.Keeps u := by
  unfold State.takeColl at e
  split at e
  · cases e
  · split at e
    · cases e
    · dsimp only at e
      split at e
      · split at e
        · obtain rfl := Option.some.inj e
          exact .ite (.updCmd (.scrambleAll (.ite h h.setColl.tally))) (.updCmd (.ite h h.setColl.tally))
        · split at e <;> obtain rfl := Option.some.inj e
          · exact h.setColl.finish
          · exact h
      · split at e
        · cases e
        · split at e
          · split at e
            · cases e
            · obtain rfl := Option.some.inj e
              exact h.setColl
          · obtain rfl := Option.some.inj e
            exact h.setColl.sendCancel.finish

end Sys2Proof.Machine
end

section
/-! What every step keeps: contexts and the copy-range commands. -/

namespace Sys2Proof.Machine

variable {s t u : State}

theorem State.Keeps.bulkWrite {a n : Nat} {src : Tab Byte} (h : s.Keeps t) : s.Keeps (t.bulkWrite a n src) :=
  ((h.newMem (fun w => Tab.wf_overlay _ _ _ _ (Tab.wf_clearRange _ _ _ _ w))).newPoison
    (Tab.wf_clearRange _ _ _ _)).newTags (Tab.wf_foldl_put _ _ _ id _)

theorem State.Keeps.saveCore {k a : Nat} (h : s.Keeps t) : s.Keeps (t.saveCore k a) :=
  h.bulkWrite.bulkWrite.bulkWrite.bulkWrite

theorem State.Keeps.restoreCore {k a : Nat} (h : s.Keeps t) : s.Keeps (t.restoreCore k a) := by
  have hload {m : Mem} {lo n off : Nat} (w : m.wf = true) :
      Mem.wf (Tab.overlay (0 : Byte) (Tab.clearRange m lo n) lo (t.stackSlice (a + off) n)) = true :=
    Tab.wf_overlay _ _ _ _ (Tab.wf_clearRange _ _ _ _ w)
  exact h.newCoreStores hload (fun w => hload (hload w)) hload

theorem State.Keeps.zeroCore {k : Nat} (h : s.Keeps t) : s.Keeps (t.zeroCore k) :=
  h.newCoreStores (Tab.wf_clearRange _ _ _ _) (Tab.wf_clearRange _ _ _ _) (Tab.wf_clearRange _ _ _ _)

theorem State.Keeps.emptyStand {k : Nat} (h : s.Keeps t) : s.Keeps (t.emptyStand k) :=
  h.newStands (Tab.wf_put _ _ _ _)

theorem State.Keeps.firebreak {c : Nat} (h : s.Keeps t) : s.Keeps (t.firebreak c) :=
  .setCtx (.bump (.foldl (.ite (.ite (h.foldl fun hu => hu.saveCore) h)
    (.foldl (.ite (h.foldl fun hu => hu.saveCore) h) fun hu => hu.zeroCore)) fun hu => hu.emptyStand))

theorem State.Keeps.restore {c : Nat} (h : s.Keeps t) : s.Keeps (t.restore c) :=
  .ite (h.setCtx.foldl fun hu => hu.restoreCore) (.ite (h.setCtx.foldl fun hu => hu.zeroCore) h.setCtx)

theorem execContextResident_answers {ctx : Nat} (h : s.Keeps t) : s.Answers (execContextResident ctx t) := by
  unfold execContextResident
  split
  · exact .next h
  · exact .ite (.next h.setCtx.restore) (.next h)

theorem State.Keeps.freshKeys {c : Nat} (h : s.Keeps t) : s.Keeps (t.freshKeys c) :=
  ((h.newKeys (Tab.wf_put _ _ _ _)).newSweeps (Tab.wf_put _ _ _ _)).same

theorem State.Keeps.endConfidence {c : Nat} (h : s.Keeps t) : s.Keeps (t.endConfidence c) :=
  (h.freshKeys.newTdis (Tab.wf_put _ _ _ _)).sameTrust

theorem execContextLeave_answers {ctx : Nat} (h : s.Keeps t) : s.Answers (execContextLeave ctx t) :=
  .ite (.next (.ite (.endConfidence (.ite h.firebreak.setCtx.sameTrust h.firebreak.setCtx))
    (.ite h.firebreak.setCtx.sameTrust h.firebreak.setCtx))) (.next h)

theorem State.Keeps.drainNow {c : Nat} (h : s.Keeps t) : s.Keeps (t.drainNow c) := h.abortTargets.setCtx
theorem State.Keeps.leaveNow {c : Nat} (h : s.Keeps t) : s.Keeps (t.leaveNow c) := .ite h.beginLeave.drainNow h

theorem State.Keeps.askEnd {c : Nat} {b : CopyBody} {e : CopyEnd} {write : Bool} (h : s.Keeps t) :
    s.Keeps (t.askEnd c b e write) :=
  .ite (h.foldl fun hu => hu.hostAsk) h

theorem State.Keeps.askHost {c : Nat} {b : CopyBody} (h : s.Keeps t) : s.Keeps (t.askHost c b) :=
  .askEnd (h.foldl fun hu => hu.askEnd)

theorem State.Keeps.moveRows {c : Nat} {b : CopyBody} (h : s.Keeps t) : s.Keeps (t.moveRows c b).1 := by
  unfold State.moveRows
  refine State.Keeps.askHost ?_
  exact h.withPoison fun hu => .fstIte hu.scrambleAll hu.setRows

theorem State.Keeps.copyWork {id : CmdId} {b : CopyBody} (h : s.Keeps t) : s.Keeps (t.copyWork id b).1 := by
  unfold State.copyWork
  split
  · exact h.tally.tally.updCmd.scrambleAll
  · exact h.moveRows

theorem State.Keeps.runCopy {id : CmdId} {op : Nat} {body : Desc → CopyBody} (h : s.Keeps t) :
    s.Keeps (t.runCopy id op body) :=
  h.runOn fun hu => hu.copyWork

theorem State.Keeps.rotated {c : Nat} {obj : Option Nat} (h : s.Keeps t) : s.Keeps (t.rotated c obj) :=
  (h.newKeys (Tab.wf_put _ _ _ _)).newSweeps (Tab.wf_put _ _ _ _)

theorem State.Keeps.loadKey {c : Nat} (h : s.Keeps t) : s.Keeps (t.loadKey c) :=
  (h.newKeys (Tab.wf_put _ _ _ _)).same

end Sys2Proof.Machine
end

section
/-! What every step keeps: the host links. -/

namespace Sys2Proof.Machine

variable {s t u : State}

theorem State.Keeps.setLink {l : Nat} {x : HostLink} (h : s.Keeps t) : s.Keeps (t.setLink l x) :=
  h.newLinks (Tab.wf_put _ _ _ _)

theorem State.Keeps.setFunc {l f : Nat} {x : Func} (h : s.Keeps t) : s.Keeps (t.setFunc l f x) :=
  h.newFuncs (Tab.wf_put _ _ _ _)

theorem State.Keeps.interrupt {l f v : Nat} (h : s.Keeps t) : s.Keeps (t.interrupt l f v) :=
  .ite h.setFunc h.same

theorem State.Keeps.closeSessions {p : Channel → Bool} (h : s.Keeps t) : s.Keeps (t.closeSessions p) := h.same

theorem State.Keeps.setTdi {c : Nat} {x : Tdi} (h : s.Keeps t) : s.Keeps (t.setTdi c x) :=
  h.newTdis (Tab.wf_put _ _ _ _)

theorem State.Keeps.tdiError {c : Nat} (h : s.Keeps t) : s.Keeps (t.tdiError c) :=
  .ite (.ite h.setTdi.recordEvent.sameTrust.leaveNow h.setTdi.recordEvent.sameTrust.endConfidence) h

theorem State.Keeps.tdisError {p : Nat → Tdi → Bool} (h : s.Keeps t) : s.Keeps (t.tdisError p) :=
  h.foldl fun hu => .ite hu.tdiError hu

theorem State.Keeps.resetFuncs {l : Nat} (h : s.Keeps t) : s.Keeps (t.resetFuncs l) :=
  h.foldl fun hu => hu.setFunc

theorem State.Keeps.dropLink {l : Nat} (h : s.Keeps t) : s.Keeps (t.dropLink l) :=
  .ite h.same.setLink.resetFuncs.closeSessions.recordEvent.tdisError.startTests h

theorem execHostLinkTrained_answers {link rate width : Nat} (h : s.Keeps t) :
    s.Answers (execHostLinkTrained link rate width t) :=
  .ite (.next (.ite (.askTest (.ite h.setLink.recordEvent h.setLink)) (.ite h.setLink.recordEvent h.setLink)))
    (.next h)

theorem execFlrContextFunction_answers {link fn : Nat} (h : s.Keeps t) :
    s.Answers (execFlrContextFunction link fn t) :=
  .ite (.next (h.setFunc.tdisError.foldl fun hu => .ite hu.leaveNow hu)) (.next h)

theorem State.Keeps.noteFailure {c l : Nat} (h : s.Keeps t) : s.Keeps (t.noteFailure c l) := h.setFunc.usedFree

theorem execHostRequestFailure_answers {id : CmdId} {again : Bool} (h : s.Keeps t) :
    s.Answers (execHostRequestFailure id again t) := by
  unfold execHostRequestFailure
  split
  · exact .next h
  · dsimp only
    split
    · exact .next h
    · exact .ite (.ite (.next h) (.next h.tally.noteFailure.scrambleAll.finish))
        (.next h.tally.noteFailure.updCmd.tally)

theorem State.Keeps.flipPages {c link addr n : Nat} (h : s.Keeps t) : s.Keeps (t.flipPages c link addr n) :=
  State.Keeps.tally (h.newBias (Tab.wf_foldl_put _ _ _ id _))

theorem State.Keeps.windowAccess {link addr : Nat} {write : Option (List Byte)} {len : Nat} {trusted : Bool}
    (h : s.Keeps t) : s.Keeps (t.windowAccess link addr write len trusted) := by
  unfold State.windowAccess
  dsimp only
  split
  · exact h
  · split
    · exact h.same
    · split
      · exact h.same
      · split
        · exact h.flipPages.devWrite
        · exact h.flipPages.same

theorem State.Keeps.doorbell {link fn ctx queue value : Nat} {secure : Bool} (h : s.Keeps t) :
    s.Keeps (t.doorbell link fn ctx queue value secure) :=
  .ite h (.ite h.same (.ite h.bump (.ite h.setQueue h)))

theorem State.Keeps.serveHost (h : s.Keeps t) : s.Keeps t.serveHost := by
  unfold State.serveHost
  refine .foldl h.same fun hu => ?_
  split
  · exact hu.doorbell
  · exact hu.windowAccess

theorem State.Keeps.barWrite {l f k v : Nat} (h : s.Keeps t) : s.Keeps (t.barWrite l f k v) :=
  .ite (.ite h.setFunc.setFunc.interrupt h.setFunc) (.ite h.setFunc h)

theorem State.Keeps.configWrite {l f reg v : Nat} (h : s.Keeps t) : s.Keeps (t.configWrite l f reg v) :=
  h.setFunc

theorem State.Keeps.sendCfg {l f : Nat} {retry : Bool} {v : Nat} (h : s.Keeps t) :
    s.Keeps (t.sendCfg l f retry v) :=
  h.same

theorem execHostConfigurationRequest_answers {link fn reg : Nat} {word : HostWord} (h : s.Keeps t) :
    s.Answers (execHostConfigurationRequest link fn reg word t) := by
  unfold execHostConfigurationRequest
  dsimp only
  split
  · exact .next h
  · split
    · split
      · exact .next h.sendCfg
      · split
        · exact .next h.configWrite.sendCfg
        · exact .next h.sendCfg
    · split
      · exact .next h
      · split
        · exact .next h.barWrite
        · exact .next h.sendCfg

end Sys2Proof.Machine
end

section
/-! What every step keeps: the taproot engines. -/

namespace Sys2Proof.Machine

variable {s t u : State}

theorem State.Keeps.setHeader {a x : Nat} (h : s.Keeps t) : s.Keeps (t.setHeader a x) := h.devWrite

theorem State.Keeps.putEach {size : Nat} {l : List (Nat × Nat)} (h : s.Keeps t) : s.Keeps (t.putEach size l).1 :=
  h.fstFoldl fun hu => hu.devWrite

theorem State.Keeps.putElems {size : Nat} {l : List (Nat × Nat)} (h : s.Keeps t) :
    s.Keeps (t.putElems size l).1 :=
  h.fstFoldl fun hu => .fstIte hu.devWrite hu.putEach

theorem State.Keeps.putCodes {g : Geo} {l : List (Nat × Nat)} (h : s.Keeps t) : s.Keeps (t.putCodes g l).1 :=
  .fstIte h.putElems h.putEach

theorem State.Keeps.capture {g : Geo} {d : Desc} {parity : Bool} {qs : List Nat} (h : s.Keeps t) :
    s.Keeps (t.capture g d parity qs).1 :=
  .foldl (.putElems (.ite (h.foldl fun hu => hu.devWrite) h)) fun hu => hu.devWrite

theorem State.Keeps.captureFirst {g : Geo} {q : Nat} (h : s.Keeps t) : s.Keeps (t.captureFirst g q) := by
  unfold State.captureFirst
  dsimp only
  split
  · exact .ite (.ite h.capture.updCmd h.capture) h
  · exact h

theorem State.Keeps.commitGrain {v : UpdEnv} {ratio : FVal} {c q : Nat} {x : GrainStep} {k : Totals}
    (h : s.Keeps t) : s.Keeps (t.commitGrain v ratio c q x k).1 :=
  h.devWrite.tally

theorem State.Keeps.updateGrain {v : UpdEnv} {grad : Nat → FVal} {ratio : FVal} {c q : Nat} {ns : List Nat}
    {k : Totals} (h : s.Keeps t) : s.Keeps (t.updateGrain v grad ratio c q ns k).1 :=
  h.captureFirst.commitGrain

theorem State.Keeps.updateGrains {v : UpdEnv} {grad : Nat → FVal} {ratio : FVal} {c : Nat} {l : Tab (List Nat)}
    (h : s.Keeps t) : s.Keeps (t.updateGrains v grad ratio c l).1 :=
  h.fstFoldl fun hu => .fstIte hu.captureFirst.commitGrain hu.updateGrain

theorem State.Keeps.phase1 {v : UpdEnv} {grad : Nat → FVal} {l : Tab (List Nat)} (h : s.Keeps t) :
    s.Keeps (t.phase1 v grad l) :=
  h.foldl fun hu => hu.captureFirst.devWrite.same

theorem State.Keeps.phase2 {v : UpdEnv} {grad : Nat → FVal} {ratio : FVal} {c : Nat} {l : Tab (List Nat)}
    (h : s.Keeps t) : s.Keeps (t.phase2 v grad ratio c l).1 :=
  h.fstFoldl fun hu => hu.captureFirst.commitGrain.same

theorem State.Keeps.rollBack {g : Geo} {k : Nat} (h : s.Keeps t) : s.Keeps (t.rollBack g k) :=
  .same (h.foldl fun hu => .ite hu.devWrite hu)

theorem State.Keeps.loseRegion {c : Cmd} {hdr : Nat} (h : s.Keeps t) : s.Keeps (t.loseRegion c hdr) :=
  h.setHeader.tally.recordEvent

theorem State.Keeps.runTap {id : CmdId} {p : Desc → Bool} {f : State → Cmd → State × Option Status}
    (h : s.Keeps t) (hf : ∀ {u c}, s.Keeps u → s.Keeps (f u c).1) : s.Keeps (t.runTap id p f) := by
  unfold State.runTap
  split
  · exact h
  · split
    · exact h
    · split
      · next hp => exact .finish (.ofEq hp (hf h))
      · next hp => exact .ofEq hp (hf h)

theorem State.Keeps.onEngines {g : Geo} {qs : List Nat} {f : State → State × Option Status} (h : s.Keeps t)
    (hf : ∀ {u}, s.Keeps u → s.Keeps (f u).1) : s.Keeps (t.onEngines g qs f).1 := by
  unfold State.onEngines
  split
  · exact h
  · exact .fstIte h (hf h)

theorem State.Keeps.journalMark {c : Nat} {g : Geo} {qs : List Nat} (h : s.Keeps t) :
    s.Keeps (t.journalMark c g qs) :=
  .usedFree (h.foldl fun hu => .ite hu hu.raiseTo)

theorem State.Keeps.setSched {c slot : Nat} {x : Sched} (h : s.Keeps t) : s.Keeps (t.setSched c slot x) :=
  h.newScheds (Tab.wf_put _ _ _ _)

theorem execStrideStepSizePublish_answers (h : s.Keeps t) : s.Answers (execStrideStepSizePublish t) := by
  refine .ite (.next h) (.next ?_)
  exact h.newScheds (Tab.wfFrom_map_filter fun (x : Sched) =>
    { x.fixed t.pace.stride with host := x.host.filter fun h => !reached32 t.pace.stride h.1 })

theorem State.Keeps.installSched {c : Cmd} (h : s.Keeps t) : s.Keeps (t.installSched c).1 := by
  unfold State.installSched
  split
  · exact h
  · exact h.setSched

theorem State.Keeps.workNow {id : CmdId} {p : Desc → Bool} {f : State → Cmd → State × Status} (h : s.Keeps t)
    (hf : ∀ {u c}, s.Keeps u → s.Keeps (f u c).1) : s.Keeps (t.workNow id p f) := by
  unfold State.workNow
  split
  · exact h
  · exact .ite h (h.run fun hu => hf hu)

theorem execScheduleInstallTakesEffect_answers {id : CmdId} (h : s.Keeps t) :
    s.Answers (execScheduleInstallTakesEffect id t) := by
  unfold execScheduleInstallTakesEffect
  split
  · exact .next h
  · exact .ite (.next h) (.ite (.next h.finish) (.ite (.next h.finish) (.next h.installSched.finish)))

theorem execTapSchedHostStep_answers {id : CmdId} (h : s.Keeps t) : s.Answers (execTapSchedHostStep id t) :=
  .next (h.workNow fun hu => .fstIte hu (.fstIte hu.tally (.fstIte hu (.fstIte hu hu.setSched))))

theorem State.Keeps.startSnap {c : Cmd} (h : s.Keeps t) : s.Keeps (t.startSnap c).1 := by
  unfold State.startSnap
  dsimp only
  split
  · exact h
  · exact h.loseRegion
  · exact h
  · split
    · exact h
    · exact .ite h.setHeader.devWrite h.setHeader

theorem State.Keeps.tapRelease {id : CmdId} (h : s.Keeps t) : s.Keeps (t.tapRelease id) := by
  unfold State.tapRelease
  dsimp only
  split
  · exact h
  · split
    · split
      · next hp => exact .finish (.ofEq hp h.updCmd.usedFree.startSnap)
      · next hp => exact .ofEq hp h.updCmd.usedFree.startSnap
    · exact h.updCmd.usedFree

theorem State.Keeps.noteRegion {c hdr record : Nat} {r : Tap} (h : s.Keeps t) :
    s.Keeps (t.noteRegion c hdr record r) :=
  h.same

theorem State.Keeps.captureAll {g : Geo} (h : s.Keeps t) : s.Keeps (t.captureAll g) :=
  h.foldl fun hu => hu.captureFirst

theorem State.Keeps.initCopy {c : Cmd} {g : Geo} (h : s.Keeps t) : s.Keeps (t.initCopy c g).1 :=
  h.withPoison fun hu => .noteRegion (.usedFree (.setHeader (hu.foldl fun hv => hv.devWrite)))

theorem State.Keeps.loadWork {a : State} {g : Geo} {src : Nat} (h : s.Keeps t) : s.Keeps (t.loadWork a g src) :=
  .ite (h.foldl fun hu => hu.devWrite) h.devWrite

theorem State.Keeps.initImage {c : Cmd} {g : Geo} (h : s.Keeps t) : s.Keeps (t.initImage c g).1 :=
  h.withPoison fun hu => .noteRegion (.usedFree (.setHeader (.loadWork (hu.foldl fun hv => hv.devWrite))))

theorem State.Keeps.runInit {id : CmdId} {kind : Nat} {f : State → Cmd → Geo → State × Status} (h : s.Keeps t)
    (hf : ∀ {u c x}, s.Keeps u → s.Keeps (f u c x).1) : s.Keeps (t.runInit id kind f) := by
  unfold State.runInit
  refine .runTap h fun hu => ?_
  split
  · exact hu
  · exact hu.onEngines fun hv => hf hv.captureAll

theorem State.Keeps.writeNorm {x : NormRecord} (h : s.Keeps t) : s.Keeps (t.writeNorm x) := h.devWrite

theorem State.Keeps.countTotals {c : Cmd} {g : Geo} {x : Totals} (h : s.Keeps t) :
    s.Keeps (t.countTotals c g x) :=
  h.tally.health.health

theorem State.Keeps.latchEta {j : UpdJob} {ratio : Option Nat} (h : s.Keeps t) : s.Keeps (t.latchEta j ratio) :=
  h.setHeader

theorem State.Keeps.commitUpdate {c : Cmd} {j : UpdJob} {x : Totals} (h : s.Keeps t) :
    s.Keeps (t.commitUpdate c j x).1 :=
  h.putCodes.countTotals.same

theorem State.Keeps.tapComplete {id : CmdId} (h : s.Keeps t) : s.Keeps (t.tapComplete id) := by
  unfold State.tapComplete
  dsimp only
  refine .foldl h.same fun hu => ?_
  split
  · exact hu.setHeader.writeNorm
  · exact hu.setHeader

theorem State.Keeps.tapUndone {id : CmdId} (h : s.Keeps t) : s.Keeps (t.tapUndone id) :=
  h.same.foldl fun hu => hu.setHeader

theorem State.Keeps.tapWork {c : Cmd} {j : UpdJob} {ratio : Option FVal} {todo : Tab (List Nat)}
    (h : s.Keeps t) : s.Keeps (t.tapWork c j ratio todo).1 := by
  unfold State.tapWork
  dsimp only
  split
  · exact h.journalMark.latchEta.phase1.phase2
  · exact h.journalMark.latchEta.updateGrains

theorem State.Keeps.runUpdate {c : Cmd} {j : UpdJob} (h : s.Keeps t) : s.Keeps (t.runUpdate c j).1 :=
  h.tapWork.commitUpdate

theorem State.Keeps.runResume {c : Cmd} {j : UpdJob} (h : s.Keeps t) : s.Keeps (t.runResume c j).1 :=
  h.rollBack.tapWork.commitUpdate

theorem State.Keeps.loseUnread {c : Cmd} (h : s.Keeps t) : s.Keeps (t.loseUnread c) := by
  unfold State.loseUnread
  split
  · exact h.loseRegion
  · exact h

theorem State.Keeps.runUpd {id : CmdId} {resume : Bool} {work : State → Cmd → UpdJob → State × Status}
    (h : s.Keeps t) (hf : ∀ {u c x}, s.Keeps u → s.Keeps (work u c x).1) :
    s.Keeps (t.runUpd id resume work) := by
  unfold State.runUpd
  refine .runTap h fun hu => ?_
  split
  · exact hu.loseUnread
  · exact hu
  · exact hu.onEngines fun hv => .fstIte hv.loseRegion (.fstIte hv (hf hv))

theorem State.Keeps.stopUpdate {c : Cmd} (h : s.Keeps t) : s.Keeps (t.stopUpdate c) := by
  unfold State.stopUpdate
  split
  · exact h.loseUnread
  · exact h
  · exact .ite h (.ite h.loseRegion (.usedFree (.setHeader
      (.countTotals (.putCodes (.fstIte (.updateGrains (.latchEta (.journalMark (.ite h.rollBack h))))
        (.fstIte (.phase2 (.phase1 (.latchEta (.journalMark (.ite h.rollBack h)))))
          (.phase1 (.latchEta (.journalMark (.ite h.rollBack h)))))))))))

theorem State.Keeps.askVerifyTests (h : s.Keeps t) : s.Keeps t.askVerifyTests := h.sameRecorder

theorem State.Keeps.verifyEndHere {g : Geo} {print : Nat} (h : s.Keeps t) : s.Keeps (t.verifyEndHere g print) :=
  h.setHeader

theorem execTapVerify_answers {id : CmdId} (h : s.Keeps t) : s.Answers (execTapVerify id t) := by
  unfold execTapVerify
  refine .next ?_
  refine .runTap h fun hu => ?_
  dsimp only
  split
  · exact hu
  · exact hu.loseRegion
  · exact hu
  · split
    · exact hu
    · exact .fstIte hu (.fstIte (.fstIte hu (.fstIte hu.loseRegion hu.verifyEndHere))
        (hu.onEngines fun hv => .fstIte hv (.fstIte hv hv.tally.recordEvent.askVerifyTests.updCmd)))

theorem execTapSnapshot_answers {id : CmdId} (h : s.Keeps t) : s.Answers (execTapSnapshot id t) := by
  unfold execTapSnapshot
  refine .next ?_
  split
  · exact h
  · dsimp only
    split
    · exact h.finish
    · exact .ite h (.ite h.loseRegion.finish (.ite h.finish h.capture.setHeader.finish))

theorem State.Keeps.stopSnap {c : Cmd} (h : s.Keeps t) : s.Keeps (t.stopSnap c) :=
  .ite h (.setHeader (h.foldl fun hu => hu.devWrite))

theorem State.Keeps.stopTap {c : Cmd} (h : s.Keeps t) : s.Keeps (t.stopTap c) :=
  .ite (.ite h h.stopUpdate) (.ite (.ite h.stopSnap.loseRegion h.stopSnap) h)

theorem State.Keeps.serveFetch {f : Frame} {x : Region} {g : Geo} {epoch key : Nat} {first : Bool}
    {rows : List Nat} (h : s.Keeps t) : s.Keeps (t.serveFetch f x g epoch key first rows) :=
  .ite h.sendRefused (.ite h.sendRefused (.ite h.sendRefused
    (.ite h.sendRefused (.ite h.sendRefused h.same.sendFrame))))

theorem State.Keeps.serveVerify {f : Frame} {x : Region} {g : Geo} {key : Nat} {last : Bool} {rows : List Nat}
    (h : s.Keeps t) : s.Keeps (t.serveVerify f x g key last rows) :=
  .ite h.same.sendFrame h.same.tally.recordEvent.askVerifyTests.same

theorem State.Keeps.loseServed {x : Region} (h : s.Keeps t) : s.Keeps (t.loseServed x) :=
  h.setHeader.tally.recordEvent

theorem State.Keeps.endVerifies (h : s.Keeps t) : s.Keeps t.endVerifies := by
  unfold State.endVerifies
  split
  · exact h
  · dsimp only
    refine .foldl h.same fun hu => ?_
    split
    · exact hu
    · exact .ite hu.loseServed.sendFrame hu.verifyEndHere.sendFrame

theorem State.Keeps.onFetch {f : Frame} (h : s.Keeps t) : s.Keeps (t.onFetch f) := by
  unfold State.onFetch
  dsimp only
  split
  · exact h.sendRefused
  · split
    · exact h.same
    · split
      · exact h.sendRefused
      · exact .ite h.loseServed.sendRefused (.ite h.sendRefused (.ite h.serveVerify h.serveFetch))

end Sys2Proof.Machine
end

section
/-! What every step keeps: the vector engines, and what a command uses. -/

namespace Sys2Proof.Machine

variable {s t u : State}

theorem State.Keeps.countElems {c core n : Nat} (h : s.Keeps t) : s.Keeps (t.countElems c core n) :=
  h.tally.tally.tally.usedFree

theorem State.Keeps.writeTile {c : Nat} {w : VecHead} {rows : List (List (Option Conv))} (h : s.Keeps t) :
    s.Keeps (t.writeTile c w rows) :=
  h.setRows.countElems.health

theorem State.Keeps.reduce {c : Nat} {b : ReduceBody} (h : s.Keeps t) : s.Keeps (t.reduce c b) :=
  .ite h.set.countElems h.set.countElems.health

theorem State.Keeps.softmax {c : Nat} {b : SoftBody} (h : s.Keeps t) : s.Keeps (t.softmax c b) := by
  unfold State.softmax
  dsimp only
  refine .health ?_
  refine .countElems ?_
  split
  · refine .set ?_
    split
    · exact h.setRows.set
    · exact h.setRows
  · split
    · exact h.setRows.set
    · exact h.setRows

theorem State.Keeps.convert {c : Nat} {b : ConvertBody} (h : s.Keeps t) : s.Keeps (t.convert c b) := by
  unfold State.convert
  dsimp only
  split
  · exact .set (.ite h.writeTile.set h.writeTile)
  · exact .ite h.writeTile.set h.writeTile

theorem State.Keeps.vectorPart {c : Cmd} (h : s.Keeps t) : s.Keeps (t.vectorPart c) :=
  .ite h.usedFree.countElems.healthOf h.usedFree.countElems.healthPart

theorem State.Keeps.runVec {id : CmdId} {op : Nat} {f : State → Cmd → State × Status} (h : s.Keeps t)
    (hf : ∀ {u c}, s.Keeps u → s.Keeps (f u c).1) : s.Keeps (t.runVec id op f) :=
  h.runOn fun hu => .spoil (hf hu)

theorem execVecElem_answers {id : CmdId} (h : s.Keeps t) : s.Answers (execVecElem id t) := by
  unfold execVecElem
  refine .next (h.runVec fun hu => ?_)
  split
  · exact hu
  · dsimp only
    exact hu.writeTile

theorem execVecReduce_answers {id : CmdId} (h : s.Keeps t) : s.Answers (execVecReduce id t) := by
  unfold execVecReduce
  refine .next ?_
  refine .runVec h fun hu => ?_
  split
  · exact hu
  · exact hu.reduce

theorem execVecSoftmax_answers {id : CmdId} (h : s.Keeps t) : s.Answers (execVecSoftmax id t) := by
  unfold execVecSoftmax
  refine .next (h.runVec fun hu => ?_)
  split
  · exact hu
  · dsimp only
    exact hu.softmax

theorem execVecConvert_answers {id : CmdId} (h : s.Keeps t) : s.Answers (execVecConvert id t) := by
  unfold execVecConvert
  refine .next ?_
  refine .runVec h fun hu => ?_
  split
  · exact hu
  · exact hu.convert

theorem State.Keeps.partWork {c : Cmd} (h : s.Keeps t) : s.Keeps (t.partWork c) := by
  unfold State.partWork
  dsimp only
  split
  · exact h
  · split
    · exact .getD h h.partMat
    · exact .getD h h.partMat
    · exact .getD h h.drainPart
    · exact h.vectorPart
    · exact h.vectorPart
    · exact h.vectorPart
    · exact h.vectorPart
    · split
      · exact h.healthPart
      · exact h
    · split
      · exact h.healthPart
      · exact h
    · exact h.healthPart
    · exact h

theorem State.Keeps.noteAccesses {c : Cmd} (h : s.Keeps t) : s.Keeps (t.noteAccesses c) :=
  h.updCmd.foldl fun hu => hu.payBucket

theorem State.Keeps.meetOthers {c : Cmd} (h : s.Keeps t) : s.Keeps (t.meetOthers c) :=
  h.foldl fun hu => hu.updCmd

end Sys2Proof.Machine
end

section
/-! What every step keeps: errors, tests and retirement. -/

namespace Sys2Proof.Machine

variable {s t u : State}

theorem State.Keeps.dropTests {u : UnitId} (h : s.Keeps t) : s.Keeps (t.dropTests u) := h.sameRecorder.startTests

theorem State.Keeps.truncate (h : s.Keeps t) : s.Keeps t.truncate :=
  h.foldl fun hu => .ite (.recordEvent (.ite hu.setObj.setObj hu.setObj)) hu

theorem State.Keeps.loseTop {a : State} (h : s.Keeps t) : s.Keeps (a.loseTop t) := by
  unfold State.loseTop
  refine .ite h (.foldl (State.Keeps.recordEvent ?_).truncate fun hu => ?_)
  · exact ((h.newMem (Tab.wf_clearRange _ _ _ _)).newPoison (Tab.wf_clearRange _ _ _ _)).newTags
      (Tab.wf_clearRange _ _ _ _) |>.newReloc (Tab.wf_clearRange _ _ _ _)
  · exact .finish (.updCmd (.ite hu.partWork hu))

theorem State.Keeps.loseStacks {a : State} {lostStacks : List Nat} (h : s.Keeps t) :
    s.Keeps (a.loseStacks t lostStacks) :=
  .ite h (.foldl (.same (h.foldl fun hu => hu.setHeader.tally.recordEvent)) fun hu => hu.finish)

theorem State.Keeps.migrate {a : State} {u : UnitId} {src : MigSource} (h : s.Keeps t) :
    s.Keeps (a.migrate t u src) :=
  h.samePool

theorem State.Keeps.dieGone {u : UnitId} (h : s.Keeps t) : s.Keeps (t.dieGone u) :=
  .ite h.moveTraffic (.ite h (.ite (h.foldl fun hu => hu.loseStaging) (.ite h.dropLink.dropLink h)))

theorem State.Keeps.retireUnit {u : UnitId} {e : EventIn} {src : MigSource} (h : s.Keeps t) :
    s.Keeps (t.retireUnit u e src) := by
  unfold State.retireUnit
  dsimp only
  exact .ite h h.retire.migrate.loseTop.loseStacks.dieGone.dropTests.tdisError

theorem State.Keeps.retireGroup {u : UnitId} {e : EventIn} (h : s.Keeps t) : s.Keeps (t.retireGroup u e) :=
  .ite h.retireUnit.retireUnit h.retireUnit

theorem State.Keeps.repairRow {u : UnitId} {e : EventIn} (h : s.Keeps t) : s.Keeps (t.repairRow u e) :=
  .ite h.retireUnit h.retireUnit

theorem State.Keeps.retireEdge {u : UnitId} {e : EventIn} (h : s.Keeps t) : s.Keeps (t.retireEdge u e) :=
  h.retireUnit.foldl fun hu => hu.retireUnit

theorem State.Keeps.callTakeover {cause : Nat} (h : s.Keeps t) : s.Keeps (t.callTakeover cause) := h.same

theorem State.Keeps.retireMgmt {u : UnitId} {e : EventIn} (h : s.Keeps t) : s.Keeps (t.retireMgmt u e) :=
  .ite h.retireUnit.same (.ite h.retireUnit.callTakeover h.retireUnit.same)

theorem State.Keeps.toInterface {p : Nat} (h : s.Keeps t) : s.Keeps (t.toInterface p) := h.samePool

theorem State.Keeps.failUnit {u : UnitId} {e : EventIn} (h : s.Keeps t) : s.Keeps (t.failUnit u e) := by
  unfold State.failUnit
  split
  · exact h.retireGroup
  · exact .ite h.retireUnit.retireUnit.toInterface h.retireUnit
  · exact h.repairRow
  · exact h.retireLane
  · exact h.retireEdge
  · exact h.retireUnit
  · exact h.retireMgmt
  · exact h.retireUnit

theorem State.Keeps.resume {id : CmdId} (h : s.Keeps t) : s.Keeps (t.resume id) := h.updCmd.tally

theorem State.Keeps.countRedone {c : Cmd} {u : UnitId} (h : s.Keeps t) : s.Keeps (t.countRedone c u) := by
  unfold State.countRedone
  dsimp only
  split
  · exact .ite h h.tally.usedFree
  · exact .ite h h.tally.usedFree
  · exact h.tally.usedFree
  · exact h.tally
  · exact .ite h.tally.usedFree h
  · exact h.tally
  · exact h

theorem State.Keeps.failTest {u : UnitId} {cmd : Option Cmd} {event : Nat} (h : s.Keeps t) :
    s.Keeps (t.failTest u cmd event) := by
  unfold State.failTest
  split
  · exact h.failUnit
  · exact .ite (.resume (.failUnit (.ite h.countRedone h))) h.partWork.failUnit.updCmd.finish

theorem State.Keeps.noteTransient {u : UnitId} {cmd : Option CmdId} (h : s.Keeps t) :
    s.Keeps (t.noteTransient u cmd) := by
  unfold State.noteTransient
  have hnoted (l) : s.Keeps { t with recorder := { t.recorder with transients := l } } := h.sameRecorder
  refine .ite (.ite (hnoted _) ?_) h
  split
  · exact (hnoted _).sameRecorder
  · exact (hnoted _).failUnit

theorem State.Keeps.wearOut {id : CmdId} (h : s.Keeps t) : s.Keeps (t.wearOut id) :=
  h.sameRecorder.foldl fun hu => hu.failUnit

theorem State.Keeps.passError {k : Test} {cmd : Option Cmd} (h : s.Keeps t) : s.Keeps (t.passError k cmd) := by
  unfold State.passError
  dsimp only
  split
  · exact h.recordEvent.noteTransient
  · exact .noteTransient (.ite h.resume.recordEvent h.resume.recordEvent.countRedone)

theorem State.Keeps.poisonAt {sector : Nat} (h : s.Keeps t) : s.Keeps (t.poisonAt sector) :=
  h.newPoison (Tab.wf_put _ _ _ _)

theorem State.Keeps.loseUndo {i : Nat} (h : s.Keeps t) : s.Keeps (t.loseUndo i) := h.same

theorem State.Keeps.reread {u : UnitId} {c : Option Cmd} (h : s.Keeps t) : s.Keeps (t.reread u c).1 := by
  unfold State.reread
  dsimp only
  refine .usedFree ?_
  split
  · exact h
  · split
    · exact h.loseUndo
    · exact .getD h h.poisonAt

theorem State.Keeps.countMemory {event : Nat} {u : UnitId} (h : s.Keeps t) : s.Keeps (t.countMemory event u) :=
  .ite h.bump (.ite h.bump h)

theorem State.Keeps.rereadLine (h : s.Keeps t) : s.Keeps (t.rereadLine).1 := h.usedFree

theorem State.Keeps.unitError {u : UnitId} {event : Nat} (h : s.Keeps t) : s.Keeps (t.unitError u event) :=
  .askTest (.ite (.recordEvent (.fstIte h.countMemory.reread h.countMemory))
    (.fstIte h.countMemory.reread h.countMemory))

theorem State.Keeps.cmdError {u : UnitId} {c : Cmd} {event : Nat} {line : Bool} (h : s.Keeps t) :
    s.Keeps (t.cmdError u c event line) :=
  .ite (.failTest (.updCmd (.fstIte h.countMemory.reread (.fstIte h.countMemory.rereadLine h.countMemory))))
    (.askTest (.updCmd (.updCmd (.fstIte h.countMemory.reread
      (.fstIte h.countMemory.rereadLine h.countMemory)))))

theorem State.Keeps.lateError {u : UnitId} {c : Option Cmd} {event : Nat} (h : s.Keeps t) :
    s.Keeps (t.lateError u c event) := by
  unfold State.lateError
  dsimp only
  split
  · exact h.countMemory.recordEvent
  · split
    · exact h.countMemory.reread.recordEvent
    · exact h.countMemory.reread.updCmd.tally.recordEvent

theorem State.Keeps.mgmtError {u : UnitId} (h : s.Keeps t) : s.Keeps (t.mgmtError u) :=
  .ite h.callTakeover h.same.askTest

theorem execErrorDetected_answers {unit : UnitId} {cmd : Option CmdId} {e : ErrorSeen} (h : s.Keeps t) :
    s.Answers (execErrorDetected unit cmd e t) := by
  unfold execErrorDetected
  dsimp only
  split
  · exact .next h
  · split
    · exact .next h.same.usedFree
    · split
      · exact .next h
      · split
        · exact .next h.mgmtError
        · split
          · exact .next (.ite h.lateError h.unitError)
          · split
            · exact .next h
            · exact .ite (.ite (.next h.lateError) (.ite (.next h.cmdError) (.next h.unitError))) (.next h)

theorem State.Keeps.failAsked {u : UnitId} {event : Nat} (h : s.Keeps t) : s.Keeps (t.failAsked u event) :=
  .ite h.retireUnit h.failTest

theorem State.Keeps.applyVerdict {k : Test} {pass : Bool} (h : s.Keeps t) : s.Keeps (t.applyVerdict k pass) := by
  unfold State.applyVerdict
  extract_lets _ _ widened
  have hw : s.Keeps widened := .ite h.widen h
  split
  · exact hw.setObj
  · exact hw.setObj.failAsked
  · exact hw.same.recordEvent
  · exact hw.same.failTest
  · exact hw.passError
  · exact hw.passError
  · exact .ite hw.failTest hw.failTest
  · exact .ite hw.failTest hw.failTest
  · exact hw
  · exact hw.failAsked

theorem execCalibrationStart_answers {cls : Nat} {unit : UnitId} (h : s.Keeps t) :
    s.Answers (execCalibrationStart cls unit t) := by
  unfold execCalibrationStart
  dsimp only
  split
  · exact .next h
  · exact .ite (.next h) (.ite (.next h.sameRecorder.narrow) (.next h.sameRecorder))

theorem execCalibrationComplete_answers {cls : Nat} {unit : UnitId} {pass : Bool} (h : s.Keeps t) :
    s.Answers (execCalibrationComplete cls unit pass t) := by
  unfold execCalibrationComplete
  extract_lets unit'
  split
  · exact .next h
  · extract_lets _ counted widened served
    have hcounted : s.Keeps counted := h.sameRecorder.bump
    have hwidened : s.Keeps widened := .ite hcounted.widen hcounted
    have hserved : s.Keeps served := .ite hwidened.serveHost hwidened
    exact .ite (.next hserved) (.next hserved.askTest)

end Sys2Proof.Machine
end

section
/-! What every step keeps: queues and completion. -/

namespace Sys2Proof.Machine

variable {s t u : State}

theorem State.Keeps.passBytes {c a n : Nat} {write : Bool} (h : s.Keeps t) : s.Keeps (t.passBytes c a n write) :=
  h.payFor.hostAsk

theorem State.Keeps.reloadQueue {c q : Nat} (h : s.Keeps t) : s.Keeps (t.reloadQueue c q).1 :=
  .fstIte h (.fstIte h (.fstIte h.passBytes.setQueue h.passBytes.setQueue))

theorem State.Keeps.reloadQueues {c mask : Nat} (h : s.Keeps t) : s.Keeps (t.reloadQueues c mask).1 := by
  unfold State.reloadQueues
  exact .fstFoldl h fun hu => hu.reloadQueue

theorem State.Keeps.startWait {c : Nat} (h : s.Keeps t) : s.Keeps (t.startWait c) := .ite h.setCtx h

theorem execDescriptorAdmission_answers {ctx queue : Nat} (h : s.Keeps t) :
    s.Answers (execDescriptorAdmission ctx queue t) :=
  .ite (.next (.startWait (.same (.ite (.cancelPeers (.ite h.passBytes.setQueue.usedFree h.passBytes.setQueue))
    (.ite h.passBytes.setQueue.usedFree h.passBytes.setQueue))))) (.next h)

theorem State.Keeps.abortRelease {id : CmdId} (h : s.Keeps t) : s.Keeps (t.abortRelease id) := h.updCmd

theorem State.Keeps.released {c : Cmd} (h : s.Keeps t) : s.Keeps (t.released c) :=
  .ite h.same.updCmd.finish (.ite h.same.updCmd.finish
    (.ite h.same.updCmd.meetOthers.noteAccesses.collRelease
      h.same.updCmd.meetOthers.noteAccesses.abortRelease.tapRelease))

theorem execCommandRelease_answers {ctx queue : Nat} (h : s.Keeps t) :
    s.Answers (execCommandRelease ctx queue t) := by
  unfold execCommandRelease
  split
  · exact .next h
  · exact .ite (.next h) (.ite (.next h.finish) (.ite (.next h)
      (.ite (.next h.cancelPeers.finish) (.next h.released))))

theorem State.Keeps.stopWork {c : Cmd} (h : s.Keeps t) : s.Keeps (t.stopWork c) := by
  unfold State.stopWork
  extract_lets _ _ _ scrambled staged ended suspect
  have hscrambled : s.Keeps scrambled := h.stopTap.stopColl.partWork.scrambleAll
  have hstaged : s.Keeps staged := .ite hscrambled.stagePart hscrambled
  have hended : s.Keeps ended := .ite hstaged.endFetch hstaged.endAsks
  have hsuspect : s.Keeps suspect := .ite hended.markSuspect hended
  exact .ite (.ite hsuspect.setStand hsuspect) hsuspect

theorem execSafePointAbort_answers {id : CmdId} (h : s.Keeps t) : s.Answers (execSafePointAbort id t) := by
  unfold execSafePointAbort
  split
  · exact .next h
  · split
    · exact .next h
    · dsimp only
      split
      · exact .next h
      · exact .ite (.next h) (.next (.ite h.stopWork.updCmd.tally h.stopWork.updCmd))
      · exact .ite (.next h) (.ite (.next h.updCmd) (.next h.cancelPeers.tapUndone.seqUndone.scrambleAll.updCmd))

theorem State.Keeps.putRecord {c : Cmd} {st : Status} (h : s.Keeps t) : s.Keeps (t.putRecord c st) :=
  h.passBytes.passBytes.devWrite.setQueue

theorem State.Keeps.signalFor {c : Cmd} {st : Status} (h : s.Keeps t) : s.Keeps (t.signalFor c st) :=
  .ite h (.ite (.ite h.signalObj h) (.ite h.lostSignal h.sendFrame))

theorem State.Keeps.interruptFor {c : Cmd} (h : s.Keeps t) : s.Keeps (t.interruptFor c) := .ite h.interrupt h

theorem State.Keeps.settleAborts {id : CmdId} {st : Status} (h : s.Keeps t) : s.Keeps (t.settleAborts id st) :=
  .foldl (h.same.foldl fun hu => hu.finish) fun hu => hu.sendFrame

theorem State.Keeps.recordEffects {c : Cmd} {st : Status} (h : s.Keeps t) : s.Keeps (t.recordEffects c st) :=
  .ite h.passRecorded (.ite h.rotated (.ite h.tapComplete (.ite h.releaseShadow h)))

theorem State.Keeps.recordOutputs {c : Cmd} {st : Status} (h : s.Keeps t) : s.Keeps (t.recordOutputs c st) :=
  .ite h.scrambleAll h

theorem State.Keeps.endWait {c : Nat} (h : s.Keeps t) : s.Keeps (t.endWait c) := .ite h h.setCtx

theorem State.Keeps.leave {c : Cmd} {st : Status} (h : s.Keeps t) : s.Keeps (t.leave c st) :=
  .endWait (.settleAborts (.ite (.bump (.bump (.same (.wearOut (.endColl (.ite h.endFetch h.endAsks))))))
    (.bump (.same (.wearOut (.endColl (.ite h.endFetch h.endAsks)))))))

theorem execCompletionRecordWrite_answers {id : CmdId} (h : s.Keeps t) :
    s.Answers (execCompletionRecordWrite id t) := by
  unfold execCompletionRecordWrite
  split
  · exact .next h
  · split
    · exact .ite (.next h.recordOutputs.putRecord.recordEffects.signalFor.interruptFor.leave) (.next h)
    · exact .next h

end Sys2Proof.Machine
end

section
/-! What every step keeps: the frames a device receives, and the repair of its memory. -/

namespace Sys2Proof.Machine

variable {s t u : State}

theorem State.Keeps.takeFrame {k kind : Nat} {f : Frame} (h : s.Keeps t) (e : t.takeFrame k kind = some (f, u)) :
    s.Keeps u := by
  unfold State.takeFrame at e
  split at e
  · split at e
    · obtain ⟨-, rfl⟩ := Prod.mk.inj (Option.some.inj e)
      exact h.same.unstage
    · cases e
  · cases e

theorem State.Keeps.onFrame {k kind : Nat} {f : State → Frame → State} (h : s.Keeps t)
    (hf : ∀ {u c}, s.Keeps u → s.Keeps (f u c)) : s.Keeps (t.onFrame k kind f) := by
  unfold State.onFrame
  split
  · next hf' => exact hf (h.takeFrame hf')
  · exact h

theorem State.Keeps.onServed {k kind : Nat} {needs : State → Frame → List Access} {f : State → Frame → State}
    (h : s.Keeps t) (hf : ∀ {u c}, s.Keeps u → s.Keeps (f u c)) : s.Keeps (t.onServed k kind needs f) :=
  h.onFrame fun hu => .ite (hf hu.payFor) h

theorem execSignal_answers {k : Nat} (h : s.Keeps t) : s.Answers (execSignal k t) :=
  .next (h.onFrame fun hu => .ite hu.sendRefused (.ite hu.sendRefused hu.signalObj))

theorem execAbortNotice_answers {k : Nat} (h : s.Keeps t) : s.Answers (execAbortNotice k t) := by
  unfold execAbortNotice
  refine .next ?_
  refine .onFrame h fun hu => ?_
  dsimp only
  split
  · exact hu.sendRefused
  · split
    · exact hu.sendRefused
    · split
      · exact hu.sendRefused
      · exact hu.sendRefused
      · exact hu.abortTargets.same

theorem State.Keeps.sendRead {f : Frame} {k a n : Nat} (h : s.Keeps t) : s.Keeps (State.sendRead f k a n t) := by
  induction k generalizing t a n with
  | zero => exact h
  | succ k ih => exact .ite h.sendFrame (ih h.sendFrame)

theorem execReadRequest_answers {k : Nat} (h : s.Keeps t) : s.Answers (execReadRequest k t) :=
  .next (h.onServed fun hu => .ite hu.sendRefused (.ite hu.sendRefused hu.sendRead))

theorem execReadReply_answers {k : Nat} (h : s.Keeps t) : s.Answers (execReadReply k t) :=
  .next (h.onServed fun hu => .ite (.ite hu.devWrite.sendRefused hu.devWrite) hu.sendRefused)

theorem execCollective_answers {k : Nat} (h : s.Keeps t) : s.Answers (execCollective k t) := by
  unfold execCollective
  split
  · next htake =>
    have hu := h.takeFrame htake
    refine .next ?_
    cases hcoll : State.takeColl _ _ with
    | none => exact h
    | some v => exact State.Keeps.takeColl hu hcoll
  · exact .next h

theorem execNoRoute_answers {k : Nat} (h : s.Keeps t) : s.Answers (execNoRoute k t) :=
  .next (h.onFrame fun hu => .ite hu.markUnreachable hu.markUnreachable.lostSignal)

theorem execRefusedFrame_answers {k : Nat} (h : s.Keeps t) : s.Answers (execRefusedFrame k t) := by
  unfold execRefusedFrame
  refine .next ?_
  refine .onFrame h fun hu => ?_
  dsimp only
  split
  · exact hu
  · split
    · exact hu.answerAsk
    · split
      · exact .ite hu.same.finish hu.same
      · split
        · exact .ite hu (.ite hu.finish.tally hu.finish)
        · exact .ite hu hu.lostSignal

theorem State.Keeps.poisonGrain {a : Nat} (h : s.Keeps t) : s.Keeps (t.poisonGrain a) :=
  State.Keeps.bump (h.newPoison (Tab.wf_foldl_put _ _ _ _ _))

theorem State.Keeps.setMigration {m : Migration} (h : s.Keeps t) : s.Keeps (t.setMigration m) := h.samePool

theorem State.Keeps.moveGrain {m : Migration} {a goal : Nat} {readable : Bool} (h : s.Keeps t) :
    s.Keeps (t.moveGrain m a goal readable) := by
  have hmoved : s.Keeps { t with pool := { t.pool with reloc := Tab.put none t.pool.reloc (a / 256) (some goal) } } :=
    h.newReloc (Tab.wf_put _ _ _ _)
  exact .serveHost (.setMigration (.ite hmoved hmoved.poisonGrain))

theorem execMigrationGrain_answers {readable : Bool} (h : s.Keeps t) :
    s.Answers (execMigrationGrain readable t) := by
  unfold execMigrationGrain
  split
  · exact .next h
  · split
    · exact .ite (.next h.setMigration) (.next h)
    · split
      · exact .next h
      · split
        · exact .next h
        · exact .next h.moveGrain

theorem execMigrationComplete_answers (h : s.Keeps t) : s.Answers (execMigrationComplete t) := by
  unfold execMigrationComplete
  split
  · exact .next h
  · exact .ite (.next h) (.ite (.next h.samePool.recordEvent) (.next h.samePool.recordEvent.recordEvent))

theorem execPatrolScrub_answers {finding : Nat} (h : s.Keeps t) : s.Answers (execPatrolScrub finding t) := by
  unfold execPatrolScrub
  dsimp only
  split
  · exact .next h
  · split
    · exact .next h.samePool
    · split
      · exact .next h.samePool.usedFree.countMemory.askTest
      · exact .next (.askTest (.ite (.recordEvent (.getD h.samePool.usedFree.countMemory
          h.samePool.usedFree.countMemory.poisonAt)) h.samePool.usedFree.countMemory))
      · exact .next h.samePool

theorem State.Keeps.sweepSector {retiring k : Nat} (h : s.Keeps t) : s.Keeps (t.sweepSector retiring k) :=
  .ite h.stackWrite h

theorem execSweepPage_answers {ctx : Nat} (h : s.Keeps t) : s.Answers (execSweepPage ctx t) := by
  unfold execSweepPage
  dsimp only
  split
  · exact .next h
  · generalize hswept : List.foldl _ _ _ = u
    have hu : s.Keeps u := hswept ▸ h.foldl fun hu => hu.sweepSector
    exact .ite (.next (hu.newSweeps (Tab.wf_put _ _ _ _))) (.next h)

theorem execSweepComplete_answers {ctx : Nat} (h : s.Keeps t) : s.Answers (execSweepComplete ctx t) := by
  unfold execSweepComplete
  dsimp only
  split
  · have hzero {k w} : s.Keeps { t with pool := { t.pool with
        keys := Tab.put KeySlots.zeroed t.pool.keys ctx k, sweeps := Tab.put Sweep.idle t.pool.sweeps ctx w } } :=
      (h.newKeys (Tab.wf_put _ _ _ _)).newSweeps (Tab.wf_put _ _ _ _)
    split
    · exact .next (.ite hzero.recordEvent hzero.recordEvent.signalObj)
    · exact .next hzero.recordEvent
  · exact .next h

theorem State.Keeps.refill {stack p : Nat} (h : s.Keeps t) : s.Keeps (t.refill stack p) :=
  State.Keeps.payBucket ((h.newRates (Tab.wf_put _ _ _ _)).newBuckets (Tab.wf_put _ _ _ _))

theorem execMarginScanComplete_answers {below above : Nat} (h : s.Keeps t) :
    s.Answers (execMarginScanComplete below above t) :=
  .ite (.ite (.next h.setObj.setObj.setObj.serveHost)
    (.ite (.next h.setObj.setObj.setObj.serveHost.setObj.recordEvent)
      (.next h.setObj.setObj.setObj.serveHost.setObj))) (.next h)

end Sys2Proof.Machine
end

section
/-! What every step keeps: the power manager. -/

namespace Sys2Proof.Machine

variable {s t u : State}

theorem State.Keeps.setRail {r : Nat} {x : Rail} (h : s.Keeps t) : s.Keeps (t.setRail r x) :=
  h.newRails (Tab.wf_put _ _ _ _)

theorem State.Keeps.setTelem {g : Nat} {x : TelemGroup} (h : s.Keeps t) : s.Keeps (t.setTelem g x) :=
  h.newGroups (Tab.wf_put _ _ _ _)

theorem State.Keeps.setDieOp {k : Nat} {x : DieOp} (h : s.Keeps t) : s.Keeps (t.setDieOp k x) :=
  h.newDies (Tab.wf_put _ _ _ _)

theorem State.Keeps.eachDie {f : DieOp → DieOp} (h : s.Keeps t) : s.Keeps (t.eachDie f) :=
  h.foldl fun hu => hu.setDieOp

theorem State.Keeps.writeVoltage {k mv : Nat} (h : s.Keeps t) : s.Keeps (t.writeVoltage k mv) := by
  unfold State.writeVoltage
  split
  · exact h.same
  · exact h

theorem State.Keeps.applyPoints (h : s.Keeps t) : s.Keeps t.applyPoints :=
  h.foldl fun hu => .ite hu.setDieOp hu.setDieOp.writeVoltage

theorem State.Keeps.enterWide {cause : Nat} (h : s.Keeps t) : s.Keeps (t.enterWide cause) :=
  h.samePower.eachDie.applyPoints

theorem State.Keeps.leaveWide (h : s.Keeps t) : s.Keeps t.leaveWide := h.samePower.applyPoints

theorem State.Keeps.undervoltage {r : Nat} (h : s.Keeps t) : s.Keeps (t.undervoltage r) :=
  .ite (.ite h.enterWide.recordEvent.callTakeover (.ite h.enterWide.recordEvent h.enterWide.recordEvent.askTest))
    (h.enterWide.recordEvent.foldl fun hu => hu.askTest)

theorem State.Keeps.checkVoltage {r v : Nat} (h : s.Keeps t) : s.Keeps (t.checkVoltage r v) :=
  .ite (.ite h.setRail.undervoltage h.setRail) h.setRail

theorem State.Keeps.checkLimits {r : Nat} (h : s.Keeps t) : s.Keeps (t.checkLimits r) :=
  .ite (.ite h.setRail h.setRail.recordEvent) (.ite h.setRail h)

theorem State.Keeps.takeSample {r ma v : Nat} (h : s.Keeps t) : s.Keeps (t.takeSample r ma v) := h.setRail

theorem State.Keeps.takeSamples {g : Nat} {frame : BitVec 128} (h : s.Keeps t) :
    s.Keeps (t.takeSamples g frame) :=
  h.foldl fun hu => hu.samePower.takeSample.checkLimits.checkVoltage

theorem State.Keeps.takeVoltages {g : Nat} {frame : BitVec 128} (h : s.Keeps t) :
    s.Keeps (t.takeVoltages g frame) :=
  h.foldl fun hu => hu.checkVoltage

theorem State.Keeps.dropTelemetry {g seq : Nat} (h : s.Keeps t) : s.Keeps (t.dropTelemetry g seq) :=
  h.setTelem.bump

theorem execTelemetryFrame_answers {group : Nat} {seen : TelemSeen} (h : s.Keeps t) :
    s.Answers (execTelemetryFrame group seen t) :=
  .ite (.next h) (.ite (.ite (.next h.setTelem.bump) (.next h.dropTelemetry))
    (.ite (.next h.dropTelemetry) (.ite (.next h.setTelem.takeVoltages) (.next h.setTelem.takeSamples))))

theorem execTelemetryGroupBlind_answers {group : Nat} (h : s.Keeps t) :
    s.Answers (execTelemetryGroupBlind group t) :=
  .ite (.next (.recordEvent (.applyPoints (.ite h.setTelem.setDieOp h.setTelem)))) (.next h)

theorem State.Keeps.readAvs {r : Nat} {l : List Nat} (h : s.Keeps t) : s.Keeps (t.readAvs r l) := by
  unfold State.readAvs
  split
  · exact h.same
  · exact h

theorem execAvsPoll_answers {readings : List Nat} (h : s.Keeps t) : s.Answers (execAvsPoll readings t) :=
  .ite (.next (.samePower (h.foldl fun hu => .ite hu.setRail.readAvs.recordEvent hu.setRail.readAvs))) (.next h)

theorem State.Keeps.envelopeDie {k : Nat} (h : s.Keeps t) : s.Keeps (t.envelopeDie k) := h.setDieOp

theorem execEnvelopeTick_answers (h : s.Keeps t) : s.Answers (execEnvelopeTick t) :=
  .ite (.next h) (.next (.bump (.bump (.applyPoints (h.foldl fun hu => hu.envelopeDie)))))

theorem execCapCheck_answers (h : s.Keeps t) : s.Answers (execCapCheck t) := by
  unfold execCapCheck
  refine .ite (.next h) (.next ?_)
  dsimp only
  refine .bump (.ite ?_ ?_)
  · exact .ite h.samePower.eachDie h.samePower.eachDie.applyPoints
  · refine .ite (.samePower ?_) h.samePower
    exact h.samePower.eachDie.applyPoints

theorem State.Keeps.setHeat {loc : Nat} {x : Heat} (h : s.Keeps t) : s.Keeps (t.setHeat loc x) :=
  h.newHeat (Tab.wf_put _ _ _ _)

theorem State.Keeps.heatAction {loc a : Nat} (h : s.Keeps t) : s.Keeps (t.heatAction loc a) :=
  .ite h (.ite (.ite h.setHeat h) (.ite h.setHeat.recordEvent h))

theorem State.Keeps.heatCeiling {a : State} {k : Nat} (h : s.Keeps t) : s.Keeps (a.heatCeiling t k) :=
  .ite (.ite h.setHeat.setDieOp h) (.ite h.setHeat.setDieOp h)

theorem State.Keeps.takeHeat {loc : Nat} {temp : Int} (h : s.Keeps t) : s.Keeps (t.takeHeat loc temp) :=
  .ite h.setHeat h.setHeat

theorem State.Keeps.checkCritical (h : s.Keeps t) : s.Keeps t.checkCritical :=
  .ite h (.ite h.samePower.eachDie.recordEvent h.samePower.eachDie)

theorem execThermalCheck_answers {readings : List Nat} (h : s.Keeps t) :
    s.Answers (execThermalCheck readings t) :=
  .ite (.next h) (.ite (.next (.ite (.samePower (h.foldl fun hu => hu.takeHeat))
    (h.foldl fun hu => hu.takeHeat))) (.next (.checkCritical
      (.bump (.applyPoints (.foldl (.foldl (h.foldl fun hu => hu.takeHeat) fun hu => hu.heatAction.heatAction)
        fun hu => hu.heatCeiling))))))

theorem State.Keeps.takeCapOffset (h : s.Keeps t) : s.Keeps t.takeCapOffset := by
  unfold State.takeCapOffset
  split
  · exact .ite h.samePower h
  · exact h

theorem State.Keeps.enterEntry (h : s.Keeps t) : s.Keeps t.enterEntry := h.samePower.eachDie.applyPoints

theorem execPhaseProfileTakesEffect_answers (h : s.Keeps t) : s.Answers (execPhaseProfileTakesEffect t) := by
  unfold execPhaseProfileTakesEffect
  split
  · exact .next h
  · exact .ite (.next h) (.ite (.ite (.next h) (.next (.ite h.samePower.enterEntry h.samePower)))
      (.ite (.next h.samePower.recordEvent) (.next h)))

theorem execProfileEntry_answers (h : s.Keeps t) : s.Answers (execProfileEntry t) :=
  .ite (.next (.ite h.takeCapOffset.enterEntry h.takeCapOffset)) (.next (.ite h h.takeCapOffset))

theorem execWideMarginSwitch_answers (h : s.Keeps t) : s.Answers (execWideMarginSwitch t) := by
  unfold execWideMarginSwitch
  split
  · exact .next h
  · exact .ite (.next h) (.ite (.next h.samePower) (.ite (.next h.enterWide) (.next h.leaveWide)))

theorem State.Keeps.passStride (h : s.Keeps t) : s.Keeps t.passStride := .ite h.samePower h.samePower
theorem State.Keeps.countWaits (h : s.Keeps t) : s.Keeps t.countWaits := h.samePower
theorem State.Keeps.markEnergy (h : s.Keeps t) : s.Keeps t.markEnergy := .ite h h.samePower

theorem State.Keeps.powerTick (h : s.Keeps t) : s.Keeps t.powerTick :=
  h.clockTick.passStride.countWaits.markEnergy

theorem execSlackRecordWrite_answers (h : s.Keeps t) : s.Answers (execSlackRecordWrite t) := by
  unfold execSlackRecordWrite
  split
  · exact .next h
  · exact .ite (.next (.ite h.samePower.payFor.devWrite h)) (.next h.samePower.recordEvent)

theorem State.Keeps.readRecords (h : s.Keeps t) : s.Keeps (t.readRecords).1 := by
  unfold State.readRecords
  dsimp only
  split
  · exact h
  · exact .ite h.setObj.sameRecorder h.setObj

end Sys2Proof.Machine
end

section
/-! What every step keeps: start-up, reset and the life cycle. -/

namespace Sys2Proof.Machine

variable {s t u : State}

theorem State.Keeps.resetTo {type : Nat} (h : s.Keeps t) : s.Keeps (t.resetTo type) where
  mem w := by
    have hhost := h.mem w
    simp only [State.memOk, Bool.and_eq_true] at hhost ⊢
    obtain ⟨⟨⟨⟨-, hhost⟩, -⟩, -⟩, -⟩ := hhost
    exact ⟨⟨⟨⟨rfl, hhost⟩, rfl⟩, rfl⟩, rfl⟩
  tabs w := by
    have hobj := State.wf_obj (h.tabs w)
    have hreset : State.reset.tabsOk = true := by decide
    simp only [State.tabsOk, Bool.and_eq_true, and_assoc] at hreset ⊢
    obtain ⟨hsync, hctxs, hqueues, hstands, -, hrest⟩ := hreset
    exact ⟨hsync, hctxs, hqueues, hstands, Tab.wf_filter _ _ _ hobj, hrest⟩
  retired := h.retired

theorem State.Keeps.toDefaults {keys : Bool} (h : s.Keeps t) : s.Keeps (t.toDefaults keys) :=
  (h.newObj (Tab.wf_filter _ _ _)).same

theorem State.Keeps.transitionDefaults {src dst : Nat} (h : s.Keeps t) :
    s.Keeps (t.transitionDefaults src dst) :=
  .ite h.toDefaults.sameTrust (.ite h (h.newObj (Tab.wf_filter _ _ _)).same)

theorem State.Keeps.takeRestore (h : s.Keeps t) : s.Keeps t.takeRestore := .ite h.toDefaults.same h
theorem State.Keeps.loadDie {loc : Nat} (h : s.Keeps t) : s.Keeps (t.loadDie loc) := h.same
theorem State.Keeps.measureType {k : Nat} (h : s.Keeps t) : s.Keeps (t.measureType k) := h.sameTrust

theorem State.Keeps.raiseSecurity {k : Nat} (h : s.Keeps t) : s.Keeps (t.raiseSecurity k) := by
  unfold State.raiseSecurity
  split
  · exact h
  · exact .ite h.setObj.recordEvent h

theorem State.Keeps.loadFirmware (h : s.Keeps t) : s.Keeps t.loadFirmware := by
  refine .sameTrust (.foldl (h.foldl fun hu => ?_) fun hu => ?_)
  · exact hu.loadDie
  · exact hu.measureType.raiseSecurity

theorem State.Keeps.chooseMgmt (h : s.Keeps t) : s.Keeps t.chooseMgmt := h.same

theorem State.Keeps.bootBus {b : Nat} (h : s.Keeps t) : s.Keeps (t.bootBus b) :=
  .ite (h.newBuses (Tab.wf_put _ _ _ _)).same (h.newBuses (Tab.wf_put _ _ _ _)).same

theorem State.Keeps.failChannel {n : Nat} (h : s.Keeps t) : s.Keeps (t.failChannel n) := by
  refine .ite h (.foldl h.bump.bump fun hu => ?_)
  exact .ite hu hu.retire.loseTop

theorem State.Keeps.trainMemory {failed : List Nat} (h : s.Keeps t) : s.Keeps (t.trainMemory failed) :=
  .usedFree (.foldl (h.foldl fun hu => hu.failChannel) fun hu => hu.setObj)

theorem State.Keeps.placeGrains {p : Nat} (h : s.Keeps t) : s.Keeps (t.placeGrains p) := by
  refine .foldl h fun hu => ?_
  split
  · exact hu.newReloc (Tab.wf_put _ _ _ _)
  · exact hu

theorem State.Keeps.clearKeys (h : s.Keeps t) : s.Keeps t.clearKeys := by
  have hdrawn (k : Nat) : (⟨0, some (t.draws + 11 + k), none⟩ : KeySlots) ≠ KeySlots.zeroed := fun hz =>
    nomatch congrArg KeySlots.key0 hz
  exact (h.newKeys fun _ => Tab.wf_map_range hdrawn 64).samePool

theorem State.Keeps.clearing (h : s.Keeps t) : s.Keeps t.clearing := h.clearKeys.foldl fun hu => hu.placeGrains

theorem State.Keeps.startClocks (h : s.Keeps t) : s.Keeps t.startClocks := by
  have hctxs {c : Ctx} (hslot : c.slot = some 0) : Tab.wf Ctx.off [(0, c)] = true := by
    have hoff : c ≠ Ctx.off := fun hz => nomatch hslot.symm.trans (congrArg Ctx.slot hz)
    simpa [Tab.wf, Tab.wfFrom] using hoff
  have hgroups : Tab.wf TelemGroup.fresh (if t.now = 0 then [] else
      (List.range 13).map fun g => (g, { TelemGroup.fresh with lastValid := t.now })) = true := by
    split
    · rfl
    · exact Tab.wf_map_range (fun _ hz => ‹¬t.now = 0› (congrArg TelemGroup.lastValid hz)) 13
  refine h.ofOk id (fun v => ?_) rfl
  simp only [State.startClocks, State.tabsOk, Bool.and_eq_true] at v ⊢
  simp_all only [and_self]

theorem State.Keeps.setRates (h : s.Keeps t) : s.Keeps t.setRates := h.same
theorem State.Keeps.freshNonce (h : s.Keeps t) : s.Keeps t.freshNonce := h.same

theorem State.Keeps.startUp {failed : List Nat} (h : s.Keeps t) : s.Keeps (t.startUp failed) := by
  have hrestored := h.takeRestore.chooseMgmt.startClocks
  exact .ite hrestored
    hrestored.freshNonce.bootBus.bootBus.setRates.recordEvent.loadFirmware.trainMemory.clearing.recordEvent.same

theorem State.Keeps.stopAll (h : s.Keeps t) : s.Keeps t.stopAll := .abortTargets (h.foldl fun hu => hu.leaveNow)

theorem State.Keeps.commitTransition (h : s.Keeps t) : s.Keeps t.commitTransition := by
  unfold State.commitTransition
  split
  · exact h
  · exact h.transitionDefaults.same.recordEvent.resetTo.startUp

theorem State.Keeps.settle (h : s.Keeps t) : s.Keeps t.settle := .ite h.commitTransition h
theorem State.Keeps.tick (h : s.Keeps t) : s.Keeps t.tick := h.powerTick.settle

end Sys2Proof.Machine
end

section
/-! What every step keeps: the dictionary server. -/

namespace Sys2Proof.Machine

variable {s t u : State}

theorem State.Keeps.accessEvent {event outcome : Nat} (h : s.Keeps t) : s.Keeps (t.accessEvent event outcome) :=
  h.recordEvent

theorem State.Keeps.setRefusals {ch : Channel} {run until_ : Nat} (h : s.Keeps t) :
    s.Keeps (t.setRefusals ch run until_) :=
  h.same

theorem State.Keeps.openRefused {ch : Channel} (h : s.Keeps t) : s.Keeps (t.openRefused ch) :=
  .ite h.bump.accessEvent (.ite h.bump.accessEvent.setRefusals.accessEvent h.bump.accessEvent.setRefusals)

theorem State.Keeps.openSession {ch : Channel} {role : Nat} (h : s.Keeps t) : s.Keeps (t.openSession ch role) :=
  h.same

theorem State.Keeps.tryOpen {ch : Channel} {l : List Byte} (h : s.Keeps t) : s.Keeps (t.tryOpen ch l).1 :=
  .fstIte h (.fstIte h.openSession.setRefusals h)

theorem State.Keeps.closeSession {ch : Channel} (h : s.Keeps t) : s.Keeps (t.closeSession ch) := h.closeSessions

theorem State.Keeps.touch {ch : Channel} (h : s.Keeps t) : s.Keeps (t.touch ch) := by
  unfold State.touch
  split
  · exact h.closeSession
  · exact h.same

theorem State.Keeps.consumeAuth {ch : Channel} (h : s.Keeps t) : s.Keeps (t.consumeAuth ch) := h.same

theorem State.Keeps.takeAuth {ch : Channel} {l : List Byte} (h : s.Keeps t) : s.Keeps (t.takeAuth ch l).1 :=
  .fstIte h.same h

theorem State.Keeps.setFw {k : Nat} {x : FwStore} (h : s.Keeps t) : s.Keeps (t.setFw k x) := h.same
theorem State.Keeps.stageChunk {k : Nat} {l : List Byte} (h : s.Keeps t) : s.Keeps (t.stageChunk k l) := h.setFw

theorem State.Keeps.verifyImage {k : Nat} (h : s.Keeps t) : s.Keeps (t.verifyImage k).1 :=
  .fstIte h.recordEvent.setFw h.recordEvent.setFw

theorem State.Keeps.discardImage {k : Nat} (h : s.Keeps t) : s.Keeps (t.discardImage k) := h.setFw

theorem State.Keeps.beginReload {loc : Nat} (h : s.Keeps t) : s.Keeps (t.beginReload loc) :=
  .ite h.same.callTakeover h.same

theorem State.Keeps.clearRecorder {x slot : Nat} (h : s.Keeps t) : s.Keeps (t.clearRecorder x slot) := by
  unfold State.clearRecorder
  dsimp only
  split
  · exact h.sameRecorder.appendEvent
  · exact h.sameRecorder.appendEvent.sameRecorder

theorem State.Keeps.undefine {c : Nat} (h : s.Keeps t) : s.Keeps (t.undefine c) :=
  (h.newSeqs (Tab.wf_filter _ _ _)).same

theorem State.Keeps.setSelector {ch : Channel} {o : Nat} (h : s.Keeps t) : s.Keeps (t.setSelector ch o) := h.same

theorem State.Keeps.writeContext {c sub v : Nat} (h : s.Keeps t) : s.Keeps (t.writeContext c sub v).1 := by
  unfold State.writeContext
  dsimp only
  split
  · exact .ite h.setObj.undefine h.setObj
  · dsimp only
    exact h.setObj.reloadQueues
  · dsimp only
    exact h.reloadQueues
  · exact h.setObj

theorem State.Keeps.writeTrust {c sub v : Nat} (h : s.Keeps t) : s.Keeps (t.writeTrust c sub v) := by
  unfold State.writeTrust
  split
  · exact h.loadKey.rotated
  · exact h.tdiError
  · exact h.setObj

theorem State.Keeps.requestWide {v : Nat} (h : s.Keeps t) : s.Keeps (t.requestWide v) :=
  .ite h.samePower (.ite h.samePower.samePower (.ite h.samePower.enterWide h.samePower.leaveWide))

theorem State.Keeps.writeBarrier {sub v : Nat} (h : s.Keeps t) : s.Keeps (t.writeBarrier sub v) :=
  h.setObj.samePower

theorem State.Keeps.operatorTest (h : s.Keeps t) : s.Keeps t.operatorTest :=
  .askTest (.ite h.setObj.narrow h.setObj)

theorem State.Keeps.startScan (h : s.Keeps t) : s.Keeps t.startScan := h.samePool.setObj.setObj.setObj

theorem State.Keeps.store {index sub : Nat} {l : List Byte} (h : s.Keeps t) : s.Keeps (t.store index sub l) :=
  .ite h.setObj h.same

theorem State.Keeps.effect {ch : Channel} {index sub : Nat} {l : List Byte} {auth : Option Auth}
    (h : s.Keeps t) : s.Keeps (t.effect ch index sub l auth).1 := by
  unfold State.effect
  refine .fstIte h.writeContext (.fstIte h.same.store (.fstIte h.writeTrust ?_))
  split
  · exact h.same
  · exact h.stageChunk
  · exact .fstIte h.verifyImage h.discardImage
  · exact h.beginReload
  · exact h.same.stopAll
  · exact h.newObj (Tab.wf_clearRange _ _ _ _)
  · exact h.requestWide
  · exact h.samePower
  · exact .fstIte h.samePower h.store
  · exact h.writeBarrier
  · exact .fstIte h.startScan h.store
  · exact h.store.sourcesChanged
  · exact .fstIte h h.same
  · exact h.same
  · exact h.store.portSwitched
  · dsimp only
    exact h.store.portsFlushed
  · dsimp only
    exact h.same.retryWaiting
  · exact h.same
  · exact h.setSelector
  · exact .fstIte h.tryOpen (.fstIte h.closeSession h.store)
  · exact h.takeAuth
  · exact h.clearRecorder
  · exact .fstIte h.operatorTest h.store
  · exact h.callTakeover
  · exact h.store

theorem State.Keeps.commit {persistent : Bool} {f : State → State × Reply} (h : s.Keeps t)
    (hf : ∀ {u}, s.Keeps u → s.Keeps (f u).1) : s.Keeps (t.commit persistent f).1 := by
  unfold State.commit
  split
  · exact .fstIte (.recordEvent (hf h.same)) h.same.recordEvent
  · exact hf h

theorem State.Keeps.afterRefusal {ch : Channel} {index sub : Nat} {r : Reply} (h : s.Keeps t) :
    s.Keeps (t.afterRefusal ch index sub r) :=
  .ite (.setObj (.ite (.accessEvent (.ite h.openRefused h)) (.ite h.openRefused h)))
    (.ite (.accessEvent (.ite h.openRefused h)) (.ite h.openRefused h))

theorem State.Keeps.serveWrite {ch : Channel} {index sub : Nat} {l : List Byte} {bad : Option Nat}
    (h : s.Keeps t) : s.Keeps (t.serveWrite ch index sub l bad).1 := by
  unfold State.serveWrite
  dsimp only
  generalize Option.orElse _ _ = refusal
  have hcommit {p auth} : s.Keeps ((t.consumeAuth ch).commit p fun x => x.effect ch index sub l auth).1 :=
    h.consumeAuth.commit fun hu => hu.effect
  cases refusal with
  | none => exact .ite (.freshNonce (.ite hcommit hcommit.afterRefusal)) (.ite hcommit hcommit.afterRefusal)
  | some r =>
    have hr := h.consumeAuth (ch := ch)
    exact .ite (.freshNonce (.ite hr hr.afterRefusal)) (.ite hr hr.afterRefusal)

theorem State.Keeps.serveRead {ch : Channel} {index sub : Nat} (h : s.Keeps t) :
    s.Keeps (t.serveRead ch index sub).1 := by
  unfold State.serveRead
  split
  · exact h
  · refine .fstIte ?_ ?_
    · exact h.readRecords
    · split
      · exact h
      · split
        · exact h
        · exact h

theorem State.Keeps.serve {ch : Channel} {write : Bool} {index sub : Nat} {l : List Byte} {bad : Option Nat}
    (h : s.Keeps t) : s.Keeps (t.serve ch write index sub l bad).1 := by
  unfold State.serve
  dsimp only
  refine .ite (.bump ?_) ?_ <;> cases write
  · cases bad with
    | some code => exact h.touch
    | none => exact h.touch.serveRead
  · exact h.touch.serveWrite
  · cases bad with
    | some code => exact h.touch
    | none => exact h.touch.serveRead
  · exact h.touch.serveWrite

theorem State.Keeps.setBus {b : Nat} {x : Bus} (h : s.Keeps t) : s.Keeps (t.setBus b x) :=
  h.newBuses (Tab.wf_put _ _ _ _)

theorem State.Keeps.sendUsdo {b client code : Nat} {value : List Byte} (h : s.Keeps t) :
    s.Keeps (t.sendUsdo b client code value) :=
  h.same

theorem State.Keeps.answerCan {a : CanAsk} (h : s.Keeps t) : s.Keeps (t.answerCan a) := h.serve.bump.sendUsdo

theorem State.Keeps.usdo {seen : CanSeen} {client : Nat} {write : Bool} {index sub : Nat} {l : List Byte}
    (h : s.Keeps t) : s.Keeps (t.usdo seen client write index sub l) :=
  .ite h (.ite h.bump (.ite h (.ite (.ite h.answerCan.settle h.sendUsdo) (.ite h.same h))))

theorem State.Keeps.answerMailbox {l f : Nat} (h : s.Keeps t) : s.Keeps (t.answerMailbox l f) := by
  unfold State.answerMailbox
  split
  · exact h
  · exact .ite h.serve.bump.setFunc.interrupt h.serve.bump.setFunc

theorem State.Keeps.mailbox {l f hdr : Nat} {trusted : Bool} {value : List Byte} (h : s.Keeps t) :
    s.Keeps (t.mailbox l f hdr trusted value) :=
  .ite h (.ite h.setFunc (.ite h.setFunc.bump (.ite h.setFunc.answerMailbox.settle h.setFunc)))

theorem State.Keeps.passTurn {k : Nat} (h : s.Keeps t) : s.Keeps (t.passTurn k) := h.same

theorem State.Keeps.serveTurn {k : Nat} (h : s.Keeps t) : s.Keeps (t.serveTurn k) := by
  unfold State.serveTurn
  split
  · split
    · exact h
    · exact .ite (.passTurn (.ite h.same.answerCan h.same)) h
  · exact .ite h.answerMailbox.passTurn h

theorem State.Keeps.serveRound (h : s.Keeps t) : s.Keeps t.serveRound := h.foldl fun hu => hu.serveTurn

theorem State.Keeps.answerHeld (h : s.Keeps t) : s.Keeps t.answerHeld :=
  .settle (h.foldl fun hu => hu.serveRound)

theorem State.Keeps.writeOn {ch : Channel} {index sub : Nat} {l : List Byte} (h : s.Keeps t) :
    s.Keeps (t.writeOn ch index sub l) := by
  unfold State.writeOn
  split
  · exact h.usdo
  · exact h.mailbox

theorem State.Keeps.readOn {ch : Channel} {index sub : Nat} (h : s.Keeps t) :
    s.Keeps (t.readOn ch index sub) := by
  unfold State.readOn
  split
  · exact h.usdo
  · exact h.mailbox

theorem execSessionIdleTimeout_answers {ch : Channel} (h : s.Keeps t) :
    s.Answers (execSessionIdleTimeout ch t) := by
  unfold execSessionIdleTimeout
  split
  · exact .next h
  · exact .next h.closeSession

theorem State.Keeps.applyHeld (h : s.Keeps t) : s.Keeps t.applyHeld := h.same.foldl fun hu => hu.signalObj

theorem State.Keeps.resumeDie {loc : Nat} (h : s.Keeps t) : s.Keeps (t.resumeDie loc) :=
  .serveHost (.answerHeld (.ite (h.applyHeld.foldl fun hu => hu.flush) h.applyHeld))

theorem execReloadComplete_answers (h : s.Keeps t) : s.Answers (execReloadComplete t) := by
  unfold execReloadComplete
  split
  · exact .next h
  · exact .ite (.next h) (.next h.loadDie.measureType.same.recordEvent.tdisError.raiseSecurity.resumeDie)

theorem State.Keeps.testsAnew (h : s.Keeps t) : s.Keeps t.testsAnew := h.sameRecorder.startTests

theorem State.Keeps.takeOver (h : s.Keeps t) : s.Keeps t.takeOver :=
  .ite h.same.recordEvent.testsAnew h.same.recordEvent.testsAnew.askTest

theorem execManagementTakeover_answers {cause : Nat} (h : s.Keeps t) :
    s.Answers (execManagementTakeover cause t) :=
  .ite (.next h) (.ite (.next h.takeOver.answerHeld) (.ite (.next h.same) (.next h.same.answerHeld)))

theorem State.Keeps.nmtTo {b node : Nat} {x : Nmt} (h : s.Keeps t) : s.Keeps (t.nmtTo b node x) :=
  .ite h.setBus h

theorem State.Keeps.resetBus {b node : Nat} (h : s.Keeps t) : s.Keeps (t.resetBus b node) :=
  .ite h.closeSessions.bootBus h

theorem execSelfTestVerdict_answers {unit : UnitId} {pass : Bool} (h : s.Keeps t) :
    s.Answers (execSelfTestVerdict unit pass t) := by
  unfold execSelfTestVerdict
  extract_lets started
  have hstarted : s.Keeps started := h.startTests
  refine .ite (.next hstarted) ?_
  split
  · exact .next hstarted
  · extract_lets _ _ ended settled
    have hended : s.Keeps ended := hstarted.sameRecorder.bump.bump
    have hsettled : s.Keeps settled := .endVerifies (.startTests (hended.foldl fun hu => hu.applyVerdict))
    exact .next (.ite hsettled.resumeDie hsettled.serveHost)

end Sys2Proof.Machine
end

section
/-! What every step keeps: attestation. -/

namespace Sys2Proof.Machine

variable {s t u : State}

theorem State.Keeps.sendDoe {l f code : Nat} {value : List Byte} (h : s.Keeps t) :
    s.Keeps (t.sendDoe l f code value) :=
  h.setFunc.same

theorem State.Keeps.spdmError {l f code : Nat} (h : s.Keeps t) : s.Keeps (t.spdmError l f code) := h.sendDoe

theorem State.Keeps.spdm {l f : Nat} {fits : Nat → Bool} {next : Nat → Nat} {code : Nat} {body facts : List Byte}
    (h : s.Keeps t) : s.Keeps (t.spdm l f fits next code body facts) :=
  .ite h (.ite h.setFunc.sendDoe h.spdmError)

theorem State.Keeps.drawn (h : s.Keeps t) : s.Keeps t.drawn := h.same

theorem State.Keeps.setCert {slot : Nat} {l : List Byte} (h : s.Keeps t) : s.Keeps (t.setCert slot l) :=
  .ite h.sameTrust h.sameTrust

theorem execSetCertificate_answers {link fn : Nat} {body : List Byte} (h : s.Keeps t) :
    s.Answers (execSetCertificate link fn body t) :=
  .ite (.next h) (.ite (.next h.spdmError) (.ite (.next h.spdmError) (.next h.setCert.sendDoe)))

theorem State.Keeps.tdispInvalid {l f : Nat} (h : s.Keeps t) : s.Keeps (t.tdispInvalid l f) := h.sendDoe

theorem execLockInterface_answers {link fn ctx : Nat} {body : List Byte} (h : s.Keeps t) :
    s.Answers (execLockInterface link fn ctx body t) :=
  .ite (.next h) (.ite (.next h.tdispInvalid) (.next h.freshKeys.setTdi.drawn.sendDoe))

theorem execGetDeviceInterfaceReport_answers {link fn ctx : Nat} {body : List Byte} (h : s.Keeps t) :
    s.Answers (execGetDeviceInterfaceReport link fn ctx body t) :=
  .ite (.next h) (.ite (.next h.tdispInvalid) (.next h.setTdi.sendDoe))

theorem State.Keeps.stopTdi {c : Nat} (h : s.Keeps t) : s.Keeps (t.stopTdi c) :=
  .ite (.ite h.setTdi.sameTrust.leaveNow h.setTdi.sameTrust.endConfidence) h.setTdi

end Sys2Proof.Machine
end

section
/-! What every step keeps: the stores and tables canonical, and the retired units retired. -/

namespace Sys2Proof.Machine

variable {s t : State}

/-- Every command answers a next state, and keeps to what every step keeps. -/
theorem exec_answers (h : s.Keeps t) (c : Instr) : s.Answers (exec c t) := by
  cases c with
  | nop _ => exact .next (h.run fun hu => hu)
  | abort _ => exact execAbort_answers h
  | syncSet _ => exact .next (h.run fun hu => .fstIte hu hu.setSync)
  | ctxPreempt _ => exact .next (h.run fun hu => .fstIte hu.yieldCtx (.fstIte hu hu.sendFrame))
  | ctrlSampleOpen _ => exact .next (h.run fun hu => .fstIte hu (.fstIte hu hu.same))
  | ctrlSampleAdvance _ => exact .next (h.run fun hu => .fstIte hu hu.same)
  | ctrlSampleClose _ => exact .next (h.run fun hu => hu.same)
  | ctrlSampleRead _ => exact .next (h.run fun hu => .fstIte hu hu.devWrite)
  | copy _ => exact .next h.runCopy
  | fill _ => exact .next h.runCopy
  | biasSet _ => exact .next (h.run fun hu => hu.newBias (Tab.wf_foldl_put _ _ _ _ _))
  | keyRotate _ => exact .next (h.run fun hu => .fstIte hu hu.loadKey)
  | standMatmul _ => exact .next h.runMat
  | standMatmulGen _ => exact .next h.runMat
  | standDrain _ => exact execStandDrain_answers h
  | standAccZero _ => exact execStandAccZero_answers h
  | standAccRelease _ => exact .next (h.runStand fun hu => hu.releaseShadow)
  | flip _ => exact execFlip_answers h
  | vecElem _ => exact execVecElem_answers h
  | vecReduce _ => exact execVecReduce_answers h
  | vecSoftmax _ => exact execVecSoftmax_answers h
  | vecConvert _ => exact execVecConvert_answers h
  | embTableInstall _ => exact .next (h.run fun hu => hu.install)
  | embTableRemove _ => exact .next (h.run fun hu => hu.remove)
  | versionInstallTakesEffect _ => exact execVersionInstallTakesEffect_answers h
  | embAdmitOpen _ => exact execEmbAdmitOpen_answers h
  | embAdmit _ => exact execEmbAdmit_answers h
  | embPrefetch _ => exact execEmbPrefetch_answers h
  | embGatherPool _ => exact execEmbGatherPool_answers h
  | embGradMerge _ => exact execEmbGradMerge_answers h
  | embGradCombine _ => exact execEmbGradCombine_answers h
  | embReplicaFetch _ => exact execEmbReplicaFetch_answers h
  | embBatchClose _ => exact execEmbBatchClose_answers h
  | versionRelease _ _ _ => exact execVersionRelease_answers h
  | tapInitCopy _ => exact .next (h.runInit fun hu => hu.initCopy)
  | tapInitImage _ => exact .next (h.runInit fun hu => hu.initImage)
  | tapUpdate _ => exact .next (h.runUpd fun hu => hu.runUpdate)
  | tapUpdateResume _ => exact .next (h.runUpd fun hu => hu.runResume)
  | tapSchedInstall _ => exact .next (h.workNow fun hu => .fstIte hu hu.installSched)
  | tapSchedHostStep _ => exact execTapSchedHostStep_answers h
  | scheduleInstallTakesEffect _ => exact execScheduleInstallTakesEffect_answers h
  | tapVerify _ => exact execTapVerify_answers h
  | tapSnapshot _ => exact execTapSnapshot_answers h
  | collReduceScatter _ => exact .next (h.runColl fun hu => hu.reduceStep)
  | collAllReduce _ => exact .next (h.runColl fun hu => hu.reduceStep)
  | collGather _ => exact .next (h.runColl fun hu => hu.gatherStep)
  | collPass _ => exact .next (h.runColl fun hu => hu.passStep)
  | collPassLanding _ _ => exact execCollPassLanding_answers h
  | collPermute _ => exact .next (h.runColl fun hu => hu.permuteStep)
  | collListExchange _ => exact .next (h.runColl fun hu => hu.exchangeStep)
  | collectiveMatch _ => exact execCollectiveMatch_answers h
  | genSeqOpen _ => exact .next (h.runSeq fun hu => .fstIte hu hu.setSeq)
  | genSeqAppend _ => exact execGenSeqAppend_answers h
  | genSeqRead _ => exact execGenSeqRead_answers h
  | genSeqClose _ => exact .next (h.runSeq fun hu => hu.setSeq)
  | doorbellWrite _ _ _ _ _ _ => exact .next h.doorbell
  | descriptorAdmission _ _ => exact execDescriptorAdmission_answers h
  | commandRelease _ _ => exact execCommandRelease_answers h
  | completionRecordWrite _ => exact execCompletionRecordWrite_answers h
  | safePointAbort _ => exact execSafePointAbort_answers h
  | queueReload _ _ _ => exact .next h.writeOn
  | queueTableWrite _ _ _ => exact .next h.writeOn
  | contextResident _ => exact execContextResident_answers h
  | contextEvict _ => exact .ite (.next h.beginLeave) (.next h)
  | quantumExpiry _ => exact .ite (.next h.setCtx) (.next h)
  | contextLeave _ => exact execContextLeave_answers h
  | drainUsExpiry _ => exact .ite (.next h.drainNow) (.next h)
  | preemptionDeadline _ => exact .ite (.next h.beginLeave) (.next h)
  | paceBoundary => exact .next h.same.boundary
  | paceWord _ _ => exact execPaceWord_answers h
  | localGeneratorBoundary => exact .ite (.next h.same.boundary) (.next h)
  | paceSourceLost => exact .ite (.next h.same.loseSource.angleMoved.dropUnreachable) (.next h)
  | paceSignalLost => exact .ite (.next h.same.loseSource) (.next h.same.same)
  | holdoverBoundary => exact .ite (.next h.same.angleMoved.dropUnreachable) (.next h)
  | holdoverExpiry => exact .ite (.next h.expire) (.next h)
  | sourceAdoption _ _ => exact .ite (.ite (.next h.boundary) (.next h)) (.next h)
  | strideCountWrite _ _ => exact .next h.writeOn
  | maintenanceWindowOpen _ => exact .ite (.next h.same) (.next h)
  | maintenanceWindowClose _ => exact .ite (.next h) (.next h.same)
  | ppsInEdge => exact execPpsInEdge_answers h
  | calendarSecondWrite _ _ => exact .next h.writeOn
  | strideStepSizePublish => exact execStrideStepSizePublish_answers h
  | signal _ => exact execSignal_answers h
  | abortNotice _ => exact execAbortNotice_answers h
  | preemptNotice _ => exact .next (h.onFrame fun hu => hu.yieldCtx)
  | rowRequest _ => exact .next (h.onServed fun hu => hu.serveRows)
  | rowReply _ => exact .next (h.onFrame fun hu => hu.answerAsk)
  | hold _ => exact .next (h.onFrame fun hu => hu.applyHold)
  | readRequest _ => exact execReadRequest_answers h
  | readReply _ => exact execReadReply_answers h
  | fetchRequest _ => exact .next (h.onServed fun hu => hu.onFetch)
  | fetchRows _ => exact .next (h.onFrame fun hu => hu.answerAsk)
  | collective _ => exact execCollective_answers h
  | noRoute _ => exact execNoRoute_answers h
  | refusedFrame _ => exact execRefusedFrame_answers h
  | dataFragment _ _ _ _ => exact execDataFragment_answers h
  | nak _ _ => exact execNak_answers h
  | replayTimeout _ => exact .ite (.next h.resend) (.next h)
  | hello _ _ => exact .ite (.next h.setPort.flush.retryWaiting) (.next h)
  | helloTimer _ => exact .ite (.next h.sendControl) (.next h)
  | beacon _ _ => exact .ite (.next h.same.meetBeacons) (.next h)
  | echo _ _ _ => exact .ite (.next h) (.ite (.next (.ite h.delayKnown h)) (.next h.sendControl))
  | lane _ _ => exact .ite (.ite (.next h.setPort) (.next h.setPort.sendControl)) (.next h)
  | laneWidthChange _ => exact execLaneWidthChange_answers h
  | portTraining _ _ => exact .ite (.next h) (.next (.ite h.setPort.measure h.setPort))
  | portTrainingTimeout _ _ => exact execPortTrainingTimeout_answers h
  | laneErrorTrigger _ _ => exact execLaneErrorTrigger_answers h
  | routeWaitExpiry => exact .next (h.same.foldl fun hu => .ite hu.undelivered hu.sendNoRoute)
  | membershipRecordWrite _ _ => exact .next h.writeOn
  | membershipEpochChange => exact execMembershipEpochChange_answers h
  | hostLinkTrained _ _ _ => exact execHostLinkTrained_answers h
  | hostLinkDown _ => exact .next h.dropLink
  | hostRequestFailure _ _ => exact execHostRequestFailure_answers h
  | hostCxlMemAccess _ _ _ _ _ => exact .next h.windowAccess
  | perst _ => exact .ite (.next h.dropLink.dropLink) (.next h)
  | hotReset _ => exact .next h.dropLink
  | flrFunction0 _ => exact .ite (.next h.setFunc.closeSessions) (.next h)
  | flrContextFunction _ _ => exact execFlrContextFunction_answers h
  | ideIntegrityFailure _ _ => exact .ite (.next h.setLink.bump.recordEvent.tdisError) (.next h)
  | kSetGo _ _ _ _ => exact .ite (.next h.setLink) (.next h)
  | lockInterface _ _ _ body => exact execLockInterface_answers (body := body) h
  | getDeviceInterfaceReport _ _ _ body => exact execGetDeviceInterfaceReport_answers (body := body) h
  | startInterface _ _ _ _ => exact .ite (.next h) (.ite (.next h.tdispInvalid) (.next h.setTdi.sendDoe))
  | stopInterface _ _ _ _ => exact .ite (.next h) (.ite (.next h.tdispInvalid) (.next h.stopTdi.sendDoe))
  | forceUnbind _ _ _ => exact .next h.writeOn
  | rotate _ _ _ => exact .next h.writeOn
  | getVersion _ _ _ => exact .next h.spdm
  | getCapabilities _ _ _ => exact .next h.spdm
  | negotiateAlgorithms _ _ _ => exact .next h.spdm
  | getDigests _ _ _ => exact .next h.spdm
  | getCertificate _ _ _ => exact .next h.spdm
  | challenge _ _ _ => exact .next (.spdm (.ite h.drawn h))
  | getMeasurements _ _ _ => exact .next (.spdm (.ite h.drawn h))
  | keyExchange _ _ _ => exact .next (.spdm (.ite h.drawn h))
  | finish _ _ _ => exact .next h.spdm
  | keyUpdate _ _ _ => exact .next h.spdm
  | heartbeatSpdm _ _ _ => exact .next h.spdm
  | endSession _ _ _ => exact .next h.spdm
  | getCsr _ _ _ => exact .next h.spdm
  | setCertificate _ _ _ => exact execSetCertificate_answers h
  | telemetryFrame _ _ => exact execTelemetryFrame_answers h
  | telemetryGroupBlind _ => exact execTelemetryGroupBlind_answers h
  | avsPoll _ => exact execAvsPoll_answers h
  | envelopeTick => exact execEnvelopeTick_answers h
  | capCheck => exact execCapCheck_answers h
  | thermalCheck _ => exact execThermalCheck_answers h
  | opTransitionStart => exact .ite (.next (h.foldl fun hu => .ite hu.setDieOp.writeVoltage hu)) (.next h)
  | phaseProfileWrite _ _ => exact .next h.writeOn
  | phaseProfileTakesEffect => exact execPhaseProfileTakesEffect_answers h
  | profileEntry => exact execProfileEntry_answers h
  | capOffsetWrite _ _ => exact .next h.writeOn
  | slackRecordWrite => exact execSlackRecordWrite_answers h
  | wideMarginRequest _ _ => exact .next h.writeOn
  | wideMarginSwitch => exact execWideMarginSwitch_answers h
  | usdoRequest _ _ _ _ _ _ => exact .next h.usdo
  | mailboxRequest _ _ _ _ => exact .next h.mailbox
  | nmtStart _ _ => exact .next h.nmtTo
  | nmtStop _ _ => exact .next h.nmtTo
  | nmtEnterPreOperational _ _ => exact .next h.nmtTo
  | nmtResetNode _ _ => exact .next h.resetBus
  | nmtResetCommunication _ _ => exact .next h.resetBus
  | heartbeat _ => exact .ite (.next h.setBus.same) (.next h)
  | busOff _ => exact .ite (.next h.setBus.bump) (.next h)
  | sessionOpen _ _ => exact .next h.writeOn
  | sessionClose _ _ => exact .next h.writeOn
  | sessionIdleTimeout _ => exact execSessionIdleTimeout_answers h
  | authorizationRecord _ _ => exact .next h.writeOn
  | programData _ _ _ => exact .next h.writeOn
  | programControlVerify _ _ => exact .next h.writeOn
  | programControlDiscard _ _ => exact .next h.writeOn
  | reloadDie _ _ _ => exact .next h.writeOn
  | reloadComplete => exact execReloadComplete_answers h
  | restoreDefaults _ _ => exact .next h.writeOn
  | operatorKeyWrite _ _ _ => exact .next h.writeOn
  | lifeCycleTransitionRequest _ _ => exact .next h.writeOn
  | formatHealthReset _ _ => exact .next h.writeOn
  | partitionWrite _ _ _ _ => exact .ite (.next h.writeOn) (.next h)
  | marginScanStart _ _ => exact .next h.writeOn
  | marginScanComplete _ _ => exact execMarginScanComplete_answers h
  | selfTestStart _ _ => exact .next h.writeOn
  | takeoverRequest _ _ => exact .next h.writeOn
  | recorderClear _ _ => exact .next h.writeOn
  | recorderRead _ => exact .next h.readOn
  | dictionaryWrite _ _ _ _ => exact .next h.writeOn
  | errorDetected _ _ _ => exact execErrorDetected_answers h
  | selfTestVerdict _ _ => exact execSelfTestVerdict_answers h
  | migrationGrain readable => exact execMigrationGrain_answers (readable := readable) h
  | migrationComplete => exact execMigrationComplete_answers h
  | patrolScrub _ => exact execPatrolScrub_answers h
  | sweepPage _ => exact execSweepPage_answers h
  | sweepComplete _ => exact execSweepComplete_answers h
  | regulatorRefill _ => exact .next (.ite (h.foldl fun hu => hu.refill) h)
  | calibrationDue _ _ => exact .ite (.next h.sameRecorder) (.next h)
  | calibrationStart _ _ => exact execCalibrationStart_answers h
  | managementHeartbeat => exact .ite (.next h) (.next h.same)
  | managementTakeover _ => exact execManagementTakeover_answers h
  | powerOn => exact .ite (.next h) (.next h.resetTo.same)
  | resetNLow => exact .ite (.next h.resetTo.same) (.next h)
  | resetNRise _ => exact .ite (.next h.same.startUp) (.next h)
  | powerLoss => exact .ite (.next h.resetTo.samePower) (.next h)
  | calibrationComplete _ _ _ => exact execCalibrationComplete_answers h
  | fillControlFragment _ _ => exact execFillControlFragment_answers h
  | hostConfigurationRequest _ _ _ _ => exact execHostConfigurationRequest_answers h
  | cxlTspLock _ _ => exact .ite (.next h.sameTrust) (.next h)
  | ideKm _ _ _ _ => exact .ite (.next h.setLink) (.next h)
  | blindGroupAvsbusRead _ _ => exact .ite (.next (h.foldl fun hu => hu.takeSample.samePower.readAvs)) (.next h)

theorem step_answers (s : State) : s.Answers (step s) := by
  unfold step
  split
  · exact .next (State.Keeps.refl s).tick
  · exact exec_answers (State.Keeps.refl s).same _

theorem step_keeps (h : step s = .next t) : s.Keeps t := by
  obtain ⟨u, hu, hkeeps⟩ := step_answers s
  rw [h] at hu
  cases hu
  exact hkeeps

/-- Settles O1: `step` is defined so. -/
theorem stepRunsTheFrontCommand : Obligations.StepRunsTheFrontCommand := fun _ _ _ => rfl

/-- Settles O3: the next state that `exec_answers` gives. -/
theorem everyCommandAnswersANextState : Obligations.EveryCommandAnswersANextState := by
  intro c s
  obtain ⟨t, ht, -⟩ := exec_answers (State.Keeps.refl s) c
  exact ⟨t, ht⟩

/-- Settles O5: what a step keeps, on the stores and tables. -/
theorem stepKeepsTheStoresCanonical : Obligations.StepKeepsTheStoresCanonical :=
  fun _ _ hmem htabs h => ⟨(step_keeps h).mem hmem, (step_keeps h).tabs htabs⟩

/-- Settles O6: what a step keeps, on the deadwood list; a unit entered in the place of others covers what they
covered. -/
theorem retirementIsPermanent : Obligations.RetirementIsPermanent :=
  fun _ _ u hloc hretired h => (step_keeps h).retired u hloc hretired

end Sys2Proof.Machine
end

section
/-! What leaves the management dies, the pins, the dictionary server, the functions and the tests as they are. -/

namespace Sys2Proof.Machine

variable {s t u : State}

/-- From s to t the management dies, the pins, the dictionary server, the functions and the tests stay as they are. -/
structure State.Steady (s t : State) : Prop where
  mgmt : t.mgmt = s.mgmt
  pins : t.pins = s.pins
  server : t.server = s.server
  funcs : t.funcs = s.funcs
  tests : t.recorder.tests = s.recorder.tests

namespace State.Steady

theorem refl (s : State) : s.Steady s := ⟨rfl, rfl, rfl, rfl, rfl⟩

theorem trans (h : s.Steady t) (h' : t.Steady u) : s.Steady u :=
  ⟨h'.mgmt.trans h.mgmt, h'.pins.trans h.pins, h'.server.trans h.server, h'.funcs.trans h.funcs,
    h'.tests.trans h.tests⟩

theorem ite {c : Prop} [Decidable c] (h : s.Steady t) (h' : s.Steady u) : s.Steady (if c then t else u) := by
  split
  · exact h
  · exact h'

theorem foldl {α : Type} {f : State → α → State} {l : List α} (h : s.Steady t)
    (hf : ∀ {u x}, s.Steady u → s.Steady (f u x)) : s.Steady (l.foldl f t) :=
  List.foldlRecOn _ _ h fun _ hu _ _ => hf hu

theorem getD {α : Type} {f : α → State} {o : Option α} (h : s.Steady t) (hf : ∀ {x}, s.Steady (f x)) :
    s.Steady ((o.map f).getD t) := by
  cases o with
  | none => exact h
  | some x => exact hf

/-- An update of whatever else the state holds. -/
theorem same (h : s.Steady t)
    {now pace cal windows windowMark queues cmds abortWaits notices ctxs sync samples stands acc core feeder versions
    tables batches asks remoteHolds regions undo tapDone fetches scheds mem host pool ports inbox waiting backlog
    routes hostWait membership colls seqs links tdis trust power obj dom buses out free draws nextTag releases turns
    pending ring heartwood clearings next written folded emcy dead transients calibs lastCal calFrom worn} :
    s.Steady { t with
      now, pace, cal, windows, windowMark, queues, cmds, abortWaits, notices, ctxs, sync, samples, stands, acc, core,
      feeder, versions, tables, batches, asks, remoteHolds, regions, undo, tapDone, fetches, scheds, mem, host, pool,
      ports, inbox, waiting, backlog, routes, hostWait, membership, colls, seqs, links, tdis, trust, power, obj, dom,
      buses, out, free, draws, nextTag, releases, turns, pending,
      recorder := { t.recorder with
        ring, heartwood, clearings, next, written, folded, emcy, dead, transients, calibs, lastCal, calFrom,
        worn } } := ⟨h.mgmt, h.pins, h.server, h.funcs, h.tests⟩

theorem relayed (h : s.Steady t) (hr : t.Relayed u) : s.Steady u where
  mgmt := (congrArg State.mgmt hr.rest :).trans h.mgmt
  pins := (congrArg State.pins hr.rest :).trans h.pins
  server := (congrArg State.server hr.rest :).trans h.server
  funcs := (congrArg State.funcs hr.rest :).trans h.funcs
  tests := (congrArg (·.recorder.tests) hr.rest :).trans h.tests

end State.Steady

theorem State.Steady.usedFree {n : Nat} (h : s.Steady t) : s.Steady (t.usedFree n) := h.same

theorem State.Steady.setObj {index sub v : Nat} (h : s.Steady t) : s.Steady (t.setObj index sub v) :=
  h.same

theorem State.Steady.bump {index sub n : Nat} (h : s.Steady t) : s.Steady (t.bump index sub n) := .ite h h.setObj

theorem State.Steady.tally {c index sub n : Nat} (h : s.Steady t) : s.Steady (t.tally c index sub n) :=
  .ite h.same h.bump

theorem State.Steady.stackWrite {a : Nat} {l : List Byte} (h : s.Steady t) : s.Steady (t.stackWrite a l) := h.same

theorem State.Steady.devWrite {a : Nat} {l : List Byte} (h : s.Steady t) : s.Steady (t.devWrite a l) :=
  .ite h.same h.stackWrite

theorem State.Steady.recordEvent {e : EventIn} (h : s.Steady t) : s.Steady (t.recordEvent e) := by
  obtain ⟨_, _, _, hrec⟩ := t.recordEvent_frame e
  have hun := t.recordEvent_unwritten e
  rw [hrec] at hun ⊢
  exact ⟨h.mgmt, h.pins, h.server, h.funcs, (congrArg Recorder.tests hun : _).trans h.tests⟩

theorem State.Steady.setCtx {c : Nat} {x : Ctx} (h : s.Steady t) : s.Steady (t.setCtx c x) := h.same
theorem State.Steady.updCmd {id : CmdId} {f : Cmd → Cmd} (h : s.Steady t) : s.Steady (t.updCmd id f) := h.same
theorem State.Steady.finish {id : CmdId} {st : Status} (h : s.Steady t) : s.Steady (t.finish id st) := h.updCmd

theorem State.Steady.addDead {x : UnitId} {seq : Nat} (h : s.Steady t) : s.Steady (t.addDead x seq) :=
  .ite h (.ite h.same (.recordEvent h.same))

theorem State.Steady.makeRoom {n : Nat} {x : UnitId} {seq : Nat} (h : s.Steady t) :
    s.Steady (State.makeRoom n t x seq) := by
  induction n generalizing t with
  | zero => exact h
  | succ n ih => exact .ite h (ih h.addDead)

theorem State.Steady.retire {u : UnitId} {e : EventIn} (h : s.Steady t) : s.Steady (t.retire u e) :=
  h.recordEvent.makeRoom.addDead

theorem State.Steady.setPort {p : Nat} {x : Port} (h : s.Steady t) : s.Steady (t.setPort p x) :=
  h.same

theorem State.Steady.flush {p : Nat} (h : s.Steady t) : s.Steady (t.flush p) := h.relayed (t.sentOn_flush p).relayed

theorem State.Steady.sendFrame {f : Frame} (h : s.Steady t) : s.Steady (t.sendFrame f) :=
  h.relayed (t.relayed_sendFrame f)

theorem State.Steady.tallyFull {c index sub n : Nat} (h : s.Steady t) : s.Steady (t.tallyFull c index sub n) :=
  h.tally

theorem State.Steady.healthBy {c group f n ovf vanish nan : Nat} (h : s.Steady t) :
    s.Steady (t.healthBy c group f n ovf vanish nan) :=
  h.tallyFull.tallyFull.tallyFull.tallyFull

theorem State.Steady.healthOf {c group f n : Nat} (h : s.Steady t) : s.Steady (t.healthOf c group f n) :=
  h.healthBy.usedFree

theorem State.Steady.healthPart {c group f n : Nat} (h : s.Steady t) : s.Steady (t.healthPart c group f n) :=
  h.usedFree.healthOf

theorem State.Steady.sendCancel {d : Desc} {ctx dst : Nat} (h : s.Steady t) : s.Steady (t.sendCancel d ctx dst) :=
  h.sendFrame

theorem State.Steady.cancelPeers {c : Cmd} (h : s.Steady t) : s.Steady (t.cancelPeers c) :=
  .ite h (h.foldl fun hu => hu.sendCancel)

theorem State.Steady.setQueue {c q : Nat} {x : Queue} (h : s.Steady t) : s.Steady (t.setQueue c q x) :=
  h.same

theorem State.Steady.abortTargets {l : List CmdId} (h : s.Steady t) : s.Steady (t.abortTargets l) :=
  .same (h.foldl fun hu => hu.cancelPeers)

theorem State.Steady.beginLeave {c : Nat} (h : s.Steady t) : s.Steady (t.beginLeave c) := .ite h.setCtx h

theorem State.Steady.setStand {k : Nat} {x : Stand} (h : s.Steady t) : s.Steady (t.setStand k x) :=
  h.same

theorem State.Steady.countRows {c core m : Nat} {fill flipWait : Bool} (h : s.Steady t) :
    s.Steady (t.countRows c core m fill flipWait) :=
  .usedFree (.ite (.tally (.ite h.tally.tally.tally h.tally.tally)) (.ite h.tally.tally.tally h.tally.tally))

theorem State.Steady.spoilTile {b : MatBody} (h : s.Steady t) : s.Steady (t.spoilTile b) := h.setStand.usedFree

theorem State.Steady.partMat {c : Cmd} {b : MatBody} (h : s.Steady t) : s.Steady (t.partMat c b) :=
  .healthOf (.countRows (.ite h.usedFree.setStand.spoilTile h.usedFree.setStand))

theorem State.Steady.drainPart {c : Cmd} {b : DrainBody} (h : s.Steady t) : s.Steady (t.drainPart c b) :=
  h.healthPart

theorem State.Steady.freshKeys {c : Nat} (h : s.Steady t) : s.Steady (t.freshKeys c) :=
  h.same

theorem State.Steady.endConfidence {c : Nat} (h : s.Steady t) : s.Steady (t.endConfidence c) :=
  h.freshKeys.same

theorem State.Steady.drainNow {c : Nat} (h : s.Steady t) : s.Steady (t.drainNow c) := h.abortTargets.setCtx
theorem State.Steady.leaveNow {c : Nat} (h : s.Steady t) : s.Steady (t.leaveNow c) := .ite h.beginLeave.drainNow h

theorem State.Steady.setTdi {c : Nat} {x : Tdi} (h : s.Steady t) : s.Steady (t.setTdi c x) :=
  h.same

theorem State.Steady.tdiError {c : Nat} (h : s.Steady t) : s.Steady (t.tdiError c) :=
  .ite (.ite h.setTdi.recordEvent.same.leaveNow h.setTdi.recordEvent.same.endConfidence) h

theorem State.Steady.tdisError {p : Nat → Tdi → Bool} (h : s.Steady t) : s.Steady (t.tdisError p) :=
  h.foldl fun hu => .ite hu.tdiError hu

theorem State.Steady.flipPages {c link addr n : Nat} (h : s.Steady t) : s.Steady (t.flipPages c link addr n) :=
  State.Steady.tally h.same

theorem State.Steady.windowAccess {link addr : Nat} {write : Option (List Byte)} {len : Nat} {trusted : Bool}
    (h : s.Steady t) : s.Steady (t.windowAccess link addr write len trusted) := by
  unfold State.windowAccess
  dsimp only
  split
  · exact h
  · split
    · exact h.same
    · split
      · exact h.same
      · split
        · exact h.flipPages.devWrite
        · exact h.flipPages.same

theorem State.Steady.doorbell {link fn ctx queue value : Nat} {secure : Bool} (h : s.Steady t) :
    s.Steady (t.doorbell link fn ctx queue value secure) :=
  .ite h (.ite h.same (.ite h.bump (.ite h.setQueue h)))

theorem State.Steady.serveHost (h : s.Steady t) : s.Steady t.serveHost := by
  unfold State.serveHost
  refine .foldl h.same fun hu => ?_
  split
  · exact hu.doorbell
  · exact hu.windowAccess

theorem State.Steady.countElems {c core n : Nat} (h : s.Steady t) : s.Steady (t.countElems c core n) :=
  h.tally.tally.tally.usedFree

theorem State.Steady.vectorPart {c : Cmd} (h : s.Steady t) : s.Steady (t.vectorPart c) :=
  .ite h.usedFree.countElems.healthOf h.usedFree.countElems.healthPart

theorem State.Steady.partWork {c : Cmd} (h : s.Steady t) : s.Steady (t.partWork c) := by
  unfold State.partWork
  dsimp only
  split
  · exact h
  · split
    · exact .getD h h.partMat
    · exact .getD h h.partMat
    · exact .getD h h.drainPart
    · exact h.vectorPart
    · exact h.vectorPart
    · exact h.vectorPart
    · exact h.vectorPart
    · split
      · exact h.healthPart
      · exact h
    · split
      · exact h.healthPart
      · exact h
    · exact h.healthPart
    · exact h

theorem State.Steady.truncate (h : s.Steady t) : s.Steady t.truncate :=
  h.foldl fun hu => .ite (.recordEvent (.ite hu.setObj.setObj hu.setObj)) hu

theorem State.Steady.loseTop {a : State} (h : s.Steady t) : s.Steady (a.loseTop t) :=
  .ite h (.foldl (State.Steady.recordEvent h.same).truncate fun hu => .finish (.updCmd (.ite hu.partWork hu)))

theorem State.Steady.raiseSecurity {k : Nat} (h : s.Steady t) : s.Steady (t.raiseSecurity k) := by
  unfold State.raiseSecurity
  split
  · exact h
  · exact .ite h.setObj.recordEvent h

theorem State.Steady.bootBus {b : Nat} (h : s.Steady t) : s.Steady (t.bootBus b) := .ite h.same h.same

theorem State.Steady.failChannel {n : Nat} (h : s.Steady t) : s.Steady (t.failChannel n) := by
  refine .ite h (.foldl h.bump.bump fun hu => ?_)
  exact .ite hu hu.retire.loseTop

theorem State.Steady.trainMemory {failed : List Nat} (h : s.Steady t) : s.Steady (t.trainMemory failed) :=
  .usedFree (.foldl (h.foldl fun hu => hu.failChannel) fun hu => hu.setObj)

theorem State.Steady.placeGrains {p : Nat} (h : s.Steady t) : s.Steady (t.placeGrains p) := by
  refine .foldl h fun hu => ?_
  split
  · exact hu.same
  · exact hu

theorem State.Steady.clearKeys (h : s.Steady t) : s.Steady t.clearKeys := h.same
theorem State.Steady.clearing (h : s.Steady t) : s.Steady t.clearing := h.clearKeys.foldl fun hu => hu.placeGrains
theorem State.Steady.setRates (h : s.Steady t) : s.Steady t.setRates := h.same

end Sys2Proof.Machine
end

section
/-! Power and reset: the pins and the management dies through the start-up. -/

namespace Sys2Proof.Machine

variable {s : State}

theorem State.takeRestore_pins (s : State) : s.takeRestore.pins = s.pins := by
  unfold State.takeRestore
  split <;> rfl

theorem State.takeRestore_retired (s : State) (x : UnitId) : s.takeRestore.retired x = s.retired x := by
  unfold State.takeRestore
  split <;> rfl

/-- The state in which the start-up finds a management die in service or none. -/
def State.chosen (s : State) : State := s.takeRestore.chooseMgmt.startClocks

theorem State.chosen_pins (s : State) : s.chosen.pins = s.pins := s.takeRestore_pins

theorem State.chosen_stopped (s : State) :
    s.chosen.mgmt.stopped = (s.retired (.mgmt 0) && s.retired (.mgmt 1)) := by
  rw [← s.takeRestore_retired, ← s.takeRestore_retired]
  rfl

theorem State.chosen_active (h : s.retired (.mgmt 0) = false) : s.chosen.mgmt.active = 0 := by
  rw [← s.takeRestore_retired] at h
  exact if_neg (by simp [h])

theorem State.loadFirmware_mgmt_pins (s : State) : s.loadFirmware.mgmt = s.mgmt ∧ s.loadFirmware.pins = s.pins := by
  unfold State.loadFirmware
  extract_lets loaded measured
  have hloaded : loaded.mgmt = s.mgmt ∧ loaded.pins = s.pins :=
    List.foldlRecOn (motive := fun t : State => t.mgmt = s.mgmt ∧ t.pins = s.pins) _ _ ⟨rfl, rfl⟩
      fun _ ht _ _ => ht
  have hmeasured : loaded.Steady measured :=
    (State.Steady.refl loaded).foldl fun hu => (State.Steady.same hu).raiseSecurity
  clear_value measured
  exact ⟨hmeasured.mgmt.trans hloaded.1, hmeasured.pins.trans hloaded.2⟩

/-- With a management die in service the start-up runs to READY, on the dies chosen before it. -/
theorem State.startUp_ready (failed : List Nat) (h : s.chosen.mgmt.stopped = false) :
    (s.startUp failed).pins = { s.pins with ready := true } ∧ (s.startUp failed).mgmt = s.chosen.mgmt := by
  unfold State.startUp
  rw [if_neg (by simpa [State.chosen] using h)]
  extract_lets started booted cleared done
  have hstarted : s.chosen.freshNonce.Steady started := (State.Steady.refl _).bootBus.bootBus.setRates
  have hbooted : s.chosen.freshNonce.Steady booted := hstarted.recordEvent
  have hcleared : booted.loadFirmware.Steady cleared := (State.Steady.refl _).trainMemory.clearing
  have hdone : booted.loadFirmware.Steady done := hcleared.recordEvent
  obtain ⟨hmgmt, hpins⟩ := booted.loadFirmware_mgmt_pins
  have hp : done.pins = s.pins := (hdone.pins.trans hpins).trans (hbooted.pins.trans s.chosen_pins)
  have hm : done.mgmt = s.chosen.mgmt := (hdone.mgmt.trans hmgmt).trans hbooted.mgmt
  clear_value done
  exact ⟨congrArg (fun p : Pins => { p with ready := true }) hp, hm⟩

theorem State.startUp_stopped (failed : List Nat) (h : s.chosen.mgmt.stopped = true) : s.startUp failed = s.chosen :=
  if_pos h

/-- Settles O60: what a reset keeps is written out in `resetTo`, and what the start-up does to the pins and the
management dies in `State.startUp_ready`. -/
theorem powerAndResetPins : Obligations.PowerAndResetPins := by
  intro s
  refine ⟨fun hp => ?_, fun hp hr => ?_, fun hp hr failed => ?_, fun hp => ?_⟩
  · refine ⟨{ s.resetTo 1 with pins := ⟨true, false, false, 1⟩ }, ?_, rfl, rfl, rfl, rfl, rfl, rfl⟩
    exact if_neg (by simp [hp])
  · refine ⟨{ s.resetTo 2 with pins := ⟨true, false, false, 2⟩ }, ?_, rfl, rfl, rfl, rfl, rfl, rfl⟩
    exact if_pos (by simp [hp, hr])
  · let u : State := { s with pins := { s.pins with resetN := true } }
    refine ⟨u.startUp failed, if_pos (by simp [hp, hr]), ?_⟩
    cases hstop : u.chosen.mgmt.stopped with
    | false =>
      obtain ⟨hpins, hmgmt⟩ := State.startUp_ready failed hstop
      rw [hpins, hmgmt]
      exact ⟨rfl, fun _ => rfl, fun h0 => State.chosen_active h0⟩
    | true =>
      rw [State.startUp_stopped failed hstop, u.chosen_pins]
      rw [u.chosen_stopped, Bool.and_eq_true] at hstop
      obtain ⟨h0, h1⟩ : s.retired (.mgmt 0) = true ∧ s.retired (.mgmt 1) = true := hstop
      exact ⟨rfl, fun h => absurd h (by simp [h0, h1]), fun h => State.chosen_active h⟩
  · refine ⟨{ s.resetTo 1 with
      pins := ⟨false, false, false, 1⟩
      power := { (s.resetTo 1).power with thermtrip := false, clocksStopped := false } }, ?_, rfl, rfl, rfl, rfl⟩
    exact if_pos hp

end Sys2Proof.Machine
end

section
/-! Dictionary requests: rows that name an object, and the answers. -/

namespace Sys2Proof.Machine

variable {s : State} {b client index sub : Nat} {l : List Byte}

theorem State.touch_mramFault (s : State) (ch : Channel) : (s.touch ch).server.mramFault = s.server.mramFault := by
  unfold State.touch
  split <;> rfl

theorem State.onBus_of_serves (hup : s.serverUp = true) (hb : b < 2) (hserves : s.busServes b = true) :
    s.onBus b = true := by
  simp only [State.serverUp, State.busServes, Bool.and_eq_true, Bool.not_eq_true', decide_eq_true_eq] at hup hserves
  obtain ⟨⟨⟨-, hreset⟩, hrun⟩, -⟩ := hup
  simp [State.onBus, hreset, hrun, hb, hserves.2]

/-- A write that passes its checks is served by its effect. -/
theorem State.serve_of_ready (h : s.writeReady b client index sub l) :
    s.serve (.can b client) true index sub l none =
      (if (s.touch (.can b client)).renewsNonce index sub then (s.writeDone (.can b client) index sub l).1.freshNonce
        else (s.writeDone (.can b client) index sub l).1, Reply.done) := by
  obtain ⟨-, -, hmram, hrefusal, hdone⟩ := h
  have hmram' : ((s.touch (.can b client)).consumeAuth (.can b client)).server.mramFault = none :=
    (s.touch_mramFault _).trans hmram
  unfold State.writeDone at hdone
  unfold State.serve State.serveWrite State.writeDone
  simp only [if_true, Option.map_none, Option.orElse_none, hrefusal, State.commit, hmram']
  simp [hdone, Reply.done]

/-- A write on a bus that passes its checks: its effect, its count and its answer. -/
theorem State.writeOn_of_ready (hb : b < 2) (h : s.writeReady b client index sub l) :
    s.writeOn (.can b client) index sub l =
      let u := (s.writeDone (.can b client) index sub l).1
      let u := if (s.touch (.can b client)).renewsNonce index sub then u.freshNonce else u
      State.settle ((u.bump 0x7700 (1 + b) 1).sendUsdo b client 0 []) := by
  have hserve := State.serve_of_ready h
  obtain ⟨hup, hserves, -⟩ := h
  simp only [State.writeOn, State.usdo, State.onBus_of_serves hup hb hserves, hup, hserves, State.answerCan, hserve]
  rfl

/-- Settles O50: each row is a write on its channel, and a write that passes its checks is answered. -/
theorem dictionaryRowsWriteTheirObjects : Obligations.DictionaryRowsWriteTheirObjects := by
  intro s b client index sub c k l row hk ch hrow hb hready
  have hexec : exec row s = .next (s.writeOn ch index sub l) := by
    rcases hrow with hlist | ⟨rfl, rfl, rfl, rfl⟩ | ⟨rfl, rfl, rfl, rfl⟩
    · simp only [List.mem_cons, List.not_mem_nil, or_false] at hlist
      rcases hlist with h | h | h | h | h | h | h | h | h | h | h | h | h | h | h | h | h | h | h | h | h | h |
        h | h | h
      all_goals cases h
      pick_goal 21 -- the partition write, whose row asks for a partition that is
      · exact if_pos hk
      all_goals rfl
    · rfl
    · rfl
  rw [hexec, State.writeOn_of_ready hb hready]
  rfl

end Sys2Proof.Machine
end

section
/-! Requests on buses and mailboxes. -/

namespace Sys2Proof.Machine

variable {s : State}

/-- Settles O52: each clause takes one branch of `usdo` or of `mailbox`. -/
theorem requestsAreAnswered : Obligations.RequestsAreAnswered := by
  intro s
  refine ⟨fun b format failure client write index sub l hbus => ?_, fun _ _ => rfl,
    fun link fn seen l hopen htakes => ?_, fun link fn seen l hshut => ?_⟩
  · refine ⟨fun hformat => ?_, fun hformat hserves => ⟨fun hup hfailure => ?_, fun hup hfailure => ?_,
      fun hup htake hfailure => ?_⟩⟩
    · simp [exec, execUsdoRequest, State.usdo, hbus, hformat]
    · simp [exec, execUsdoRequest, State.usdo, hbus, hformat, hserves, hup, hfailure, State.answerCan, State.sendUsdo]
    · simp [exec, execUsdoRequest, State.usdo, hbus, hformat, hserves, hup, hfailure, State.sendUsdo, protocolAbort]
    · simp [exec, execUsdoRequest, State.usdo, hbus, hformat, hserves, hup, hfailure, htake]
  · refine ⟨fun hseq => ?_, fun hseq => ⟨fun hasked => ?_, fun hasked => ?_⟩⟩
    · simp [exec, execMailboxRequest, State.mailbox, hopen, htakes, hseq]
    · simp [exec, execMailboxRequest, State.mailbox, hopen, htakes, hseq, hasked]
    · simp [exec, execMailboxRequest, State.mailbox, hopen, htakes, hseq, hasked]
  · rcases hshut with h | h <;> simp [exec, execMailboxRequest, State.mailbox, h]

end Sys2Proof.Machine
end

section
/-! Network management, heartbeats, bus-off and idle sessions. -/

namespace Sys2Proof.Machine

variable {s t : State} {b node : Nat}

theorem State.nmtHears_group (h : s.nmtHears b node = true) : s.nmtHears b 0 = true := by
  simp_all [State.nmtHears]

theorem State.bump_bus (i j n : Nat) : (s.bump i j n).bus b = s.bus b := by
  obtain ⟨_, h⟩ := s.bump_frame i j n
  rw [h]
  rfl

theorem State.bootBus_server (s : State) (b : Nat) : (s.bootBus b).server = s.server := by
  unfold State.bootBus
  dsimp only
  split <;> rfl

/-- A bus with a node-ID boots up and reports it. -/
theorem State.bootBus_up (hs : s.tabsOk = true) (hnode : s.nodeFor b ≠ 0) :
    ((s.bootBus b).bus b).nmt = .preOperational ∧ ((s.bootBus b).bus b).node = s.nodeFor b ∧
      (s.bootBus b).out = s.out ++ [.bootUp b (0x700 + s.nodeFor b)] := by
  have hget := State.bus_setBus_self s b
    { s.bus b with nmt := .preOperational, node := s.nodeFor b, lastBeat := some s.now } (State.wf_buses hs)
  rw [State.bootBus, if_neg hnode]
  exact ⟨congrArg Bus.nmt hget, congrArg Bus.node hget, rfl⟩

theorem State.mem_closeSessions {p : Channel → Bool} {x : Session} (h : x ∈ (s.closeSessions p).server.sessions) :
    p x.chan = false := by
  simpa using (List.mem_filter.mp h).2

theorem State.nmtTo_heard (h : s.nmtHears b node = true) (hboot : (s.bus b).nmt ≠ .initialisation) (n : Nmt) :
    s.nmtTo b node n = s.setBus b { s.bus b with nmt := n } := if_pos (by simp [h, hboot])

/-- Settles O53: the branch of each row that the bus's state and times choose. -/
theorem busesAndSessions : Obligations.BusesAndSessions := by
  intro s b node hs hhears
  have hself (x : Bus) : (s.setBus b x).bus b = x := State.bus_setBus_self s b x (State.wf_buses hs)
  obtain ⟨⟨⟨⟨hreset, hrun⟩, hb⟩, hoff⟩, -⟩ :
      (((s.pins.resetN = true ∧ s.mgmt.stopped = false) ∧ b < 2) ∧ (s.bus b).offUntil ≤ s.now) ∧ _ := by
    simpa [State.nmtHears] using hhears
  refine ⟨fun hboot row n hrow => ?command, fun row hrow => ?reset, fun hboot hperiod hlast => ?heartbeat, ?busOff,
    fun ch hidle => ?session⟩
  case command =>
    have hexec : exec row s = .next (s.nmtTo b node n) := by
      simp only [List.mem_cons, List.not_mem_nil, or_false] at hrow
      rcases hrow with h | h | h <;> cases h <;> rfl
    exact ⟨_, hexec.trans (congrArg _ (State.nmtTo_heard hhears hboot n)), hself _, rfl⟩
  case reset =>
    have hexec : exec row s = .next (s.resetBus b node) := by rcases hrow with rfl | rfl <;> rfl
    refine ⟨_, hexec.trans (congrArg _ (if_pos hhears)), fun x hx client => ?_, fun hnode => ?_⟩
    · rw [State.bootBus_server] at hx
      intro hchan
      have hopen := State.mem_closeSessions hx
      simp [hchan] at hopen
    · exact State.bootBus_up hs hnode
  case heartbeat =>
    have hexec : exec (.heartbeat b) s = .next { s.setBus b { s.bus b with lastBeat := some s.now } with
        out := s.out ++ [.heartbeat b (0x700 + (s.bus b).node) (s.bus b).nmt.code] } := by
      have hgroup := State.nmtHears_group hhears
      cases hbeat : (s.bus b).lastBeat with
      | none => simp [exec, execHeartbeat, hgroup, hboot, hperiod, hbeat]
      | some t => simp [exec, execHeartbeat, hgroup, hboot, hperiod, hbeat, hlast t hbeat]
    exact ⟨_, hexec, rfl, hself _⟩
  case busOff =>
    refine ⟨_, if_pos (by simp [hreset, hrun, hb, hoff]), ?_⟩
    rw [State.bump_bus, hself]
  case session =>
    refine ⟨s.closeSession ch, ?_, fun x hx hchan => ?_⟩
    · simp [exec, execSessionIdleTimeout, hidle]
    · simpa [hchan] using State.mem_closeSessions hx

end Sys2Proof.Machine
end

section
/-! Operating points, phase profiles, wide-margin mode and the slack record. -/

namespace Sys2Proof.Machine

variable {s t u : State}

/-! ### Operating points set die by die -/

/-- From s to t the operating points of dies have changed and voltages were written, and nothing else. -/
structure State.DiesOnly (s t : State) : Prop where
  rest : ∃ ds o, t = { s with power := { s.power with dies := ds }, out := o }
  wf : Tab.wf DieOp.fresh s.power.dies = true → Tab.wf DieOp.fresh t.power.dies = true

namespace State.DiesOnly

theorem refl (s : State) : s.DiesOnly s := ⟨⟨_, _, rfl⟩, id⟩

theorem trans (h : s.DiesOnly t) (h' : t.DiesOnly u) : s.DiesOnly u := by
  obtain ⟨⟨ds, o, rfl⟩, hw⟩ := h
  obtain ⟨⟨ds', o', rfl⟩, hw'⟩ := h'
  exact ⟨⟨ds', o', rfl⟩, hw' ∘ hw⟩

theorem eq (h : s.DiesOnly t) : t = { s with power := { s.power with dies := t.power.dies }, out := t.out } := by
  obtain ⟨⟨ds, o, rfl⟩, -⟩ := h
  rfl

theorem cmds (h : s.DiesOnly t) : t.cmds = s.cmds := by
  obtain ⟨⟨ds, o, rfl⟩, -⟩ := h
  rfl

theorem mem (h : s.DiesOnly t) : t.mem = s.mem := by
  obtain ⟨⟨ds, o, rfl⟩, -⟩ := h
  rfl

theorem pace (h : s.DiesOnly t) : t.pace = s.pace := by
  obtain ⟨⟨ds, o, rfl⟩, -⟩ := h
  rfl

theorem now (h : s.DiesOnly t) : t.now = s.now := by
  obtain ⟨⟨ds, o, rfl⟩, -⟩ := h
  rfl

theorem follows (h : s.DiesOnly t) : t.follows = s.follows := by
  obtain ⟨⟨ds, o, rfl⟩, -⟩ := h
  rfl

theorem wide (h : s.DiesOnly t) : t.power.wide = s.power.wide := by
  obtain ⟨⟨ds, o, rfl⟩, -⟩ := h
  rfl

theorem groups (h : s.DiesOnly t) : t.power.groups = s.power.groups := by
  obtain ⟨⟨ds, o, rfl⟩, -⟩ := h
  rfl

theorem basePoint (h : s.DiesOnly t) : t.basePoint = s.basePoint := by
  obtain ⟨⟨ds, o, rfl⟩, -⟩ := h
  rfl

end State.DiesOnly

theorem State.pointFor_eq (hwide : t.power.wide = s.power.wide) (htelem : t.power.groups = s.power.groups) {k : Nat}
    (hcap : (t.dieOp k).ceilCap = (s.dieOp k).ceilCap) (hheat : (t.dieOp k).ceilHeat = (s.dieOp k).ceilHeat)
    (base : Nat) : t.pointFor k base = s.pointFor k base := by
  unfold State.pointFor State.telem
  dsimp only
  rw [hwide, htelem, hcap, hheat]

theorem State.DiesOnly.pointFor (h : s.DiesOnly t) {k : Nat} (hcap : (t.dieOp k).ceilCap = (s.dieOp k).ceilCap)
    (hheat : (t.dieOp k).ceilHeat = (s.dieOp k).ceilHeat) (base : Nat) : t.pointFor k base = s.pointFor k base :=
  State.pointFor_eq h.wide h.groups hcap hheat base

theorem State.diesOnly_setDieOp (s : State) (k : Nat) (x : DieOp) : s.DiesOnly (s.setDieOp k x) :=
  ⟨⟨_, _, rfl⟩, Tab.wf_put _ _ _ _⟩

theorem State.writeVoltage_frame (s : State) (k mv : Nat) : ∃ o, s.writeVoltage k mv = { s with out := o } ∧
    s.out ⊆ o := by
  unfold State.writeVoltage
  split
  · exact ⟨_, rfl, List.subset_append_left _ _⟩
  · exact ⟨_, rfl, List.Subset.refl _⟩

theorem State.diesOnly_writeVoltage (s : State) (k mv : Nat) : s.DiesOnly (s.writeVoltage k mv) := by
  obtain ⟨o, h, -⟩ := s.writeVoltage_frame k mv
  rw [h]
  exact ⟨⟨_, _, rfl⟩, id⟩

theorem State.writeVoltage_dieOp (s : State) (k mv j : Nat) : (s.writeVoltage k mv).dieOp j = s.dieOp j := by
  obtain ⟨o, h, -⟩ := s.writeVoltage_frame k mv
  rw [h]
  rfl

theorem State.voltage_written {c : Prop} [Decidable c] (s : State) (k mv : Nat) :
    s.DiesOnly (if c then s else s.writeVoltage k mv) ∧
      ∀ j, (if c then s else s.writeVoltage k mv).dieOp j = s.dieOp j := by
  split
  · exact ⟨.refl s, fun _ => rfl⟩
  · exact ⟨s.diesOnly_writeVoltage k mv, s.writeVoltage_dieOp k mv⟩

/-- What holds of each die once its step is taken, and is kept by the steps of the others, holds of every die after a
step for each. -/
theorem State.fold_dies {step : State → Nat → State} {P : Nat → State → Prop}
    (hstep : ∀ t k, k < 8 → s.DiesOnly t → t.dieOp k = s.dieOp k → t.DiesOnly (step t k) ∧ P k (step t k) ∧
      ∀ j, j ≠ k → (step t k).dieOp j = t.dieOp j ∧ (P j t → P j (step t k))) :
    s.DiesOnly ((List.range 8).foldl step s) ∧ ∀ k, k < 8 → P k ((List.range 8).foldl step s) := by
  suffices hlist : ∀ (l : List Nat) (t : State), l.Nodup → s.DiesOnly t → (∀ k ∈ l, k < 8 ∧ t.dieOp k = s.dieOp k) →
      s.DiesOnly (l.foldl step t) ∧ ∀ k, (k ∈ l ∨ P k t) → P k (l.foldl step t) by
    obtain ⟨honly, hall⟩ := hlist (List.range 8) s List.nodup_range (.refl s) fun k hk =>
      ⟨List.mem_range.mp hk, rfl⟩
    exact ⟨honly, fun k hk => hall k (.inl (List.mem_range.mpr hk))⟩
  intro l
  induction l with
  | nil => exact fun t _ ht _ => ⟨ht, fun k hk => hk.resolve_left (List.not_mem_nil)⟩
  | cons a l ih =>
    intro t hnodup ht hfirst
    obtain ⟨ha, hl⟩ := List.nodup_cons.mp hnodup
    obtain ⟨ha8, hat⟩ := hfirst a List.mem_cons_self
    obtain ⟨hset, hdone, hothers⟩ := hstep t a ha8 ht hat
    obtain ⟨honly, hall⟩ := ih (step t a) hl (ht.trans hset) fun k hk =>
      (hfirst k (List.mem_cons_of_mem a hk)).imp_right (hothers k fun he => ha (he ▸ hk)).1.trans
    refine ⟨honly, fun k hk => hall k ?_⟩
    by_cases he : k = a
    · exact .inr (he ▸ hdone)
    · exact (hk.imp (fun h => (List.mem_cons.mp h).resolve_left he) (hothers k he).2)

/-- A point set on each die, that depends on the die itself and on nothing that is set. -/
theorem State.fold_setDieOp (hw : Tab.wf DieOp.fresh s.power.dies = true) {f : State → Nat → DieOp}
    (hf : ∀ t k, s.DiesOnly t → t.dieOp k = s.dieOp k → f t k = f s k) :
    s.DiesOnly ((List.range 8).foldl (fun t k => t.setDieOp k (f t k)) s) ∧
      ∀ k, k < 8 → ((List.range 8).foldl (fun t k => t.setDieOp k (f t k)) s).dieOp k = f s k := by
  refine State.fold_dies (P := fun k t => t.dieOp k = f s k) fun t k _ ht hk =>
    ⟨t.diesOnly_setDieOp k _, ?_, fun j hj => ?_⟩
  · rw [State.dieOp_setDieOp_self t k _ (ht.wf hw), hf t k ht hk]
  · rw [State.dieOp_setDieOp_ne t k j _ hj]
    exact ⟨rfl, id⟩

theorem State.eachDie_sets (hw : Tab.wf DieOp.fresh s.power.dies = true) (f : DieOp → DieOp) :
    s.DiesOnly (s.eachDie f) ∧ ∀ k, k < 8 → (s.eachDie f).dieOp k = f (s.dieOp k) :=
  State.fold_setDieOp hw (f := fun t k => f (t.dieOp k)) fun _ _ _ hk => congrArg f hk

/-- The die as it is moved to the point that now applies to it. -/
def State.movedDie (s : State) (k : Nat) : DieOp :=
  (s.dieOp k).moved (s.pointFor k s.basePoint) s.now (s.follows && !s.power.wide)

theorem DieOp.moved_ceilings (d : DieOp) (op now : Nat) (ahead : Bool) :
    (d.moved op now ahead).ceilCap = d.ceilCap ∧ (d.moved op now ahead).ceilHeat = d.ceilHeat ∧
      (d.moved op now ahead).envelope = d.envelope ∧ (d.moved op now ahead).duty = d.duty := by
  unfold DieOp.moved
  dsimp only
  split
  · split <;> exact ⟨rfl, rfl, rfl, rfl⟩
  · exact ⟨rfl, rfl, rfl, rfl⟩

theorem State.applyPoints_sets (hw : Tab.wf DieOp.fresh s.power.dies = true) :
    s.DiesOnly s.applyPoints ∧ ∀ k, k < 8 → s.applyPoints.dieOp k = s.movedDie k := by
  refine State.fold_dies (P := fun k t => t.dieOp k = s.movedDie k) fun t k _ ht hk => ?_
  have hmoved : t.movedDie k = s.movedDie k := by
    have hpoint : t.pointFor k t.basePoint = s.pointFor k s.basePoint := by
      rw [ht.basePoint]
      exact ht.pointFor (by rw [hk]) (by rw [hk]) _
    obtain ⟨⟨ds, o, rfl⟩, -⟩ := ht
    rw [State.movedDie, hpoint, hk]
    rfl
  have hwritten := State.voltage_written (c := (t.movedDie k).mv = (t.dieOp k).mv) (t.setDieOp k (t.movedDie k)) k
    (t.movedDie k).mv
  refine ⟨(t.diesOnly_setDieOp k _).trans hwritten.1, (hwritten.2 k).trans ?_, fun j hj => ?_⟩
  · rw [State.dieOp_setDieOp_self t k _ (ht.wf hw), hmoved]
  · have hj' := (hwritten.2 j).trans (State.dieOp_setDieOp_ne t k j _ hj)
    exact ⟨hj', hj'.trans⟩

/-! ### Where a die has moved -/

/-- From s to t a die has moved towards the point that applies to it in t: to a slower one at once, to a faster one
after its voltage. -/
def State.MovesFrom (s t : State) (k : Nat) : Prop :=
  let d := s.dieOp k
  let p := t.pointFor k t.basePoint
  (opClock p ≤ opClock d.op → (t.dieOp k).op = p) ∧
  (opClock d.op < opClock p → opVoltage p ≤ d.mv → d.riseAt ≤ s.now → (t.dieOp k).op = p) ∧
  (opClock d.op < opClock p → d.mv < opVoltage p → (t.dieOp k).op = d.op ∧ (t.dieOp k).mv = opVoltage p ∧
    (t.dieOp k).riseAt = s.now + 100 * (opVoltage p - d.mv) + 5000)

theorem DieOp.moved_moves {d d' : DieOp} (hop : d'.op = d.op) (hmv : d'.mv = d.mv) (hrise : d'.riseAt = d.riseAt)
    (p now : Nat) (ahead : Bool) :
    let n := d'.moved p now ahead
    (opClock p ≤ opClock d.op → n.op = p) ∧
    (opClock d.op < opClock p → opVoltage p ≤ d.mv → d.riseAt ≤ now → n.op = p) ∧
    (opClock d.op < opClock p → d.mv < opVoltage p → n.op = d.op ∧ n.mv = opVoltage p ∧
      n.riseAt = now + 100 * (opVoltage p - d.mv) + 5000) := by
  unfold DieOp.moved
  rw [hop, hmv, hrise]
  refine ⟨fun hslow => ?_, fun hfast hv hrise => ?_, fun hfast hv => ?_⟩
  · rw [if_neg (by omega)]
  · simp [hfast, hv, hrise]
  · simp [hfast, show ¬opVoltage p ≤ d.mv by omega]

/-- What is set on the dies before they move: their points, voltages and times are as they were. -/
theorem State.movesFrom_applyPoints (hw : Tab.wf DieOp.fresh u.power.dies = true) (hnow : u.now = s.now) {k : Nat}
    (hk : k < 8) (hop : (u.dieOp k).op = (s.dieOp k).op) (hmv : (u.dieOp k).mv = (s.dieOp k).mv)
    (hrise : (u.dieOp k).riseAt = (s.dieOp k).riseAt) : s.MovesFrom u.applyPoints k := by
  obtain ⟨honly, hset⟩ := State.applyPoints_sets hw
  obtain ⟨hcap, hheat, -⟩ := DieOp.moved_ceilings (u.dieOp k) (u.pointFor k u.basePoint) u.now
    (u.follows && !u.power.wide)
  have hpoint : u.applyPoints.pointFor k u.applyPoints.basePoint = u.pointFor k u.basePoint := by
    rw [honly.basePoint]
    exact honly.pointFor (by rw [hset k hk, State.movedDie, hcap]) (by rw [hset k hk, State.movedDie, hheat]) _
  unfold State.MovesFrom
  rw [hpoint, hset k hk, ← hnow]
  exact DieOp.moved_moves hop hmv hrise _ _ _

/-- What is counted or set beside the dies does not move them. -/
theorem State.MovesFrom.congr (h : s.MovesFrom t k) (hdie : u.dieOp k = t.dieOp k)
    (hpoint : u.pointFor k u.basePoint = t.pointFor k t.basePoint) : s.MovesFrom u k := by
  unfold State.MovesFrom at h ⊢
  rw [hdie, hpoint]
  exact h

theorem State.bump_points {i j : Nat} (hkey : objKey 0x3101 4 ≠ objKey i j) (n k : Nat) :
    (s.bump i j n).pointFor k (s.bump i j n).basePoint = s.pointFor k s.basePoint := by
  have hobj : (s.bump i j n).objv 0x3101 4 = s.objv 0x3101 4 := State.objv_bump_ne n hkey
  obtain ⟨o, h⟩ := s.bump_frame i j n
  rw [h] at hobj ⊢
  unfold State.basePoint
  rw [hobj]
  rfl

theorem State.bump_dieOp (i j n k : Nat) : (s.bump i j n).dieOp k = s.dieOp k := by
  obtain ⟨o, h⟩ := s.bump_frame i j n
  rw [h]
  rfl

theorem DieOp.moved_ahead (d : DieOp) (op now : Nat) (ahead : Bool) :
    (d.moved op now ahead).ahead = if ahead then d.ahead else 0 := by
  unfold DieOp.moved
  dsimp only
  split
  · split <;> rfl
  · rfl

/-- A change to every die but to its point, voltage and time, after which the points are applied. -/
theorem State.stepped_moves {v : State} (hw : Tab.wf DieOp.fresh v.power.dies = true) (hnow : v.now = s.now)
    (hdies : v.power.dies = s.power.dies) {f : DieOp → DieOp} (hop : ∀ d, (f d).op = d.op) (hmv : ∀ d, (f d).mv = d.mv)
    (hrise : ∀ d, (f d).riseAt = d.riseAt) :
    v.DiesOnly (v.eachDie f).applyPoints ∧ ∀ k, k < 8 → s.MovesFrom (v.eachDie f).applyPoints k ∧
      ((v.eachDie f).applyPoints.dieOp k).ceilCap = (f (s.dieOp k)).ceilCap ∧
      ((v.eachDie f).applyPoints.dieOp k).envelope = (f (s.dieOp k)).envelope ∧
      ((v.eachDie f).applyPoints.dieOp k).duty = (f (s.dieOp k)).duty ∧
      ((f (s.dieOp k)).ahead = 0 → ((v.eachDie f).applyPoints.dieOp k).ahead = 0) := by
  obtain ⟨heach, hset⟩ := State.eachDie_sets hw f
  obtain ⟨hmove, hmoved⟩ := State.applyPoints_sets (heach.wf hw)
  refine ⟨heach.trans hmove, fun k hk => ?_⟩
  have hdie : (v.eachDie f).dieOp k = f (s.dieOp k) := by rw [hset k hk, State.dieOp, hdies, State.dieOp]
  have hceil := DieOp.moved_ceilings (f (s.dieOp k)) ((v.eachDie f).pointFor k (v.eachDie f).basePoint)
    (v.eachDie f).now ((v.eachDie f).follows && !(v.eachDie f).power.wide)
  rw [hmoved k hk, State.movedDie, hdie]
  refine ⟨State.movesFrom_applyPoints (heach.wf hw) (heach.now.trans hnow) hk ?_ ?_ ?_, hceil.1, hceil.2.2.1,
    hceil.2.2.2, fun hahead => ?_⟩
  · rw [hdie, hop]
  · rw [hdie, hmv]
  · rw [hdie, hrise]
  · rw [DieOp.moved_ahead, hahead, ite_self]

/-- The envelope and the duty of a die after a microsecond. -/
def State.envelopeOf (s : State) (k : Nat) : DieOp :=
  let d := s.dieOp k
  let target := if s.follows && !s.power.wide then 1000 * (s.power.profEntry s.power.entry).getD 2 0 else 0
  let env := if s.power.wide then 0 else slewTo d.envelope target (s.objv 0x3101 3)
  let ma := ((s.rail k).samples.map (·.2.1)).headD 0
  let held := s.power.wide || s.power.clocksStopped || (s.telem k).blind || decide (0 < s.limitAction k) ||
    s.heatActs k || !s.understoryStand k
  let duty := if held then 0
    else if ma < env then (if s.capActs d then d.duty else min 16 (d.duty + 1))
    else if 105 * env < 100 * ma then d.duty - 1
    else d.duty
  { d with envelope := env, duty := duty }

theorem State.envelopeDie_eq (s : State) (k : Nat) : s.envelopeDie k = s.setDieOp k (s.envelopeOf k) := rfl

theorem State.DiesOnly.envelopeOf (h : s.DiesOnly t) {k : Nat} (hk : t.dieOp k = s.dieOp k) :
    t.envelopeOf k = s.envelopeOf k := by
  have hheat : t.heatActs k = s.heatActs k := by
    obtain ⟨⟨ds, o, rfl⟩, -⟩ := h
    rw [State.heatActs, hk, State.heatActs]
  unfold State.envelopeOf
  rw [hk, hheat]
  obtain ⟨⟨ds, o, rfl⟩, -⟩ := h
  rfl

theorem State.envelopes_sets (hw : Tab.wf DieOp.fresh s.power.dies = true) :
    s.DiesOnly ((List.range 8).foldl State.envelopeDie s) ∧
      ∀ k, k < 8 → ((List.range 8).foldl State.envelopeDie s).dieOp k = s.envelopeOf k :=
  State.fold_setDieOp hw fun _ _ ht hk => ht.envelopeOf hk

theorem State.MovesFrom.bump (h : s.MovesFrom t k) {i j : Nat} (hkey : objKey 0x3101 4 ≠ objKey i j) (n : Nat) :
    s.MovesFrom (t.bump i j n) k := h.congr (t.bump_dieOp i j n k) (State.bump_points hkey n k)

/-- The envelope tick: the envelopes, then the points, then what is counted. -/
theorem State.envelopeTick_moves (hw : Tab.wf DieOp.fresh s.power.dies = true) (hreset : s.pins.resetN = true) :
    ∃ t, exec .envelopeTick s = .next t ∧ t.cmds = s.cmds ∧ t.mem = s.mem ∧ t.pace = s.pace ∧
      ∀ k, k < 8 → (t.dieOp k).envelope = (s.envelopeOf k).envelope ∧ (t.dieOp k).duty = (s.envelopeOf k).duty ∧
        s.MovesFrom t k := by
  obtain ⟨henv, hset⟩ := State.envelopes_sets hw
  obtain ⟨hmove, hmoved⟩ := State.applyPoints_sets (henv.wf hw)
  have hall := henv.trans hmove
  obtain ⟨a, b, hexec⟩ : ∃ a b, exec .envelopeTick s =
      .next ((((List.range 8).foldl State.envelopeDie s).applyPoints.bump 0x7301 1 a).bump 0x7301 4 b) :=
    ⟨_, _, if_neg (by simp [hreset])⟩
  refine ⟨_, hexec, ?_, ?_, ?_, fun k hk => ⟨?_, ?_, ?_⟩⟩
  · simp [hall.cmds]
  · simp [hall.mem]
  · simp [hall.pace]
  · rw [State.bump_dieOp, State.bump_dieOp, hmoved k hk, State.movedDie, (DieOp.moved_ceilings ..).2.2.1, hset k hk]
  · rw [State.bump_dieOp, State.bump_dieOp, hmoved k hk, State.movedDie, (DieOp.moved_ceilings ..).2.2.2, hset k hk]
  · refine ((State.movesFrom_applyPoints (henv.wf hw) henv.now hk ?_ ?_ ?_).bump (by decide) a).bump (by decide) b
    all_goals rw [hset k hk, State.envelopeOf]

/-- The time set since which the power is low. -/
def State.withLow (s : State) (since : Option Nat) : State := { s with power := { s.power with lowSince := since } }

/-- The state as the cap check looks at it. -/
def State.lowNoted (s : State) : State :=
  s.withLow (if s.powerBelow (s.effectiveCap - 100) then some (s.power.lowSince.getD s.now) else none)

/-- The ceiling of every die raised one step, and the time of low power counted anew. -/
def State.capRaised (s : State) : State :=
  (s.lowNoted.eachDie fun d => { d with ceilCap := d.ceilCap - 1 }).applyPoints.withLow (some s.now)

/-- The state with the cap's three rules applied. -/
def State.capped (s : State) : State :=
  if s.powerAbove s.effectiveCap then
    (if (List.range 8).any fun k => decide (0 < (s.dieOp k).duty) then s.lowNoted.eachDie fun d => { d with duty := 0 }
     else (s.lowNoted.eachDie fun d => { d with ceilCap := min 7 (d.ceilCap + 1) }).applyPoints)
  else if s.powerBelow (s.effectiveCap - 100) ∧ (s.lowNoted.power.lowSince.getD s.now) + 1000000 ≤ s.now ∧
      ((List.range 8).any fun k => decide (0 < (s.lowNoted.dieOp k).ceilCap)) = true then s.capRaised
  else s.lowNoted

theorem exec_capCheck (hreset : s.pins.resetN = true) :
    ∃ n, exec .capCheck s = .next (s.capped.bump 0x7301 3 n) := by
  simp only [exec, execCapCheck, hreset, Bool.not_true, Bool.false_eq_true, if_false, State.capped, State.capRaised,
    State.lowNoted, State.withLow]
  exact ⟨_, rfl⟩

theorem State.withLow_stays (s : State) (v : Option Nat) : (s.withLow v).cmds = s.cmds ∧ (s.withLow v).mem = s.mem ∧
    (s.withLow v).pace = s.pace := ⟨rfl, rfl, rfl⟩

theorem State.capped_shed (habove : s.powerAbove s.effectiveCap = true) {j : Nat} (hj : j < 8)
    (hduty : 0 < (s.dieOp j).duty) : s.capped = s.lowNoted.eachDie fun d => { d with duty := 0 } :=
  (if_pos habove).trans (if_pos (List.any_eq_true.mpr ⟨j, List.mem_range.mpr hj, decide_eq_true hduty⟩))

theorem State.capped_lower (habove : s.powerAbove s.effectiveCap = true) (hduty : ∀ k, k < 8 → (s.dieOp k).duty = 0) :
    s.capped = (s.lowNoted.eachDie fun d => { d with ceilCap := min 7 (d.ceilCap + 1) }).applyPoints :=
  (if_pos habove).trans (if_neg (by simpa using hduty))

theorem State.capped_raise (habove : s.powerAbove s.effectiveCap = false)
    (hlow : s.powerBelow (s.effectiveCap - 100) = true) {b : Nat} (hb : s.power.lowSince = some b)
    (hlong : b + 1000000 ≤ s.now) {j : Nat} (hj : j < 8) (hceil : 0 < (s.dieOp j).ceilCap) :
    s.capped = s.capRaised := by
  have hany : ((List.range 8).any fun k => decide (0 < (s.lowNoted.dieOp k).ceilCap)) = true :=
    List.any_eq_true.mpr ⟨j, List.mem_range.mpr hj, decide_eq_true hceil⟩
  have hsince : (s.lowNoted.power.lowSince.getD s.now) + 1000000 ≤ s.now := by
    simpa [State.lowNoted, State.withLow, hlow, hb] using hlong
  rw [State.capped, if_neg (by simp [habove]), if_pos ⟨hlow, hsince, hany⟩]

theorem State.capped_rest (habove : s.powerAbove s.effectiveCap = false)
    (hlow : s.powerBelow (s.effectiveCap - 100) = false) : s.capped = s.lowNoted :=
  (if_neg (by simp [habove])).trans (if_neg (by simp [hlow]))

theorem State.capped_stays (hw : Tab.wf DieOp.fresh s.power.dies = true) :
    s.capped.cmds = s.cmds ∧ s.capped.mem = s.mem ∧ s.capped.pace = s.pace := by
  have heach (f : DieOp → DieOp) : s.lowNoted.DiesOnly (s.lowNoted.eachDie f) :=
    (State.eachDie_sets (s := s.lowNoted) hw f).1
  have hmove (f : DieOp → DieOp) : s.lowNoted.DiesOnly (s.lowNoted.eachDie f).applyPoints :=
    (heach f).trans (State.applyPoints_sets ((heach f).wf hw)).1
  have hraised : s.capRaised.cmds = s.cmds ∧ s.capRaised.mem = s.mem ∧ s.capRaised.pace = s.pace := by
    have hraise := hmove fun d => { d with ceilCap := d.ceilCap - 1 }
    rw [State.capRaised, (State.withLow_stays ..).1, (State.withLow_stays ..).2.1, (State.withLow_stays ..).2.2]
    exact ⟨hraise.cmds, hraise.mem, hraise.pace⟩
  unfold State.capped
  split
  · split
    · exact ⟨(heach _).cmds, (heach _).mem, (heach _).pace⟩
    · exact ⟨(hmove _).cmds, (hmove _).mem, (hmove _).pace⟩
  · split
    · exact hraised
    · exact ⟨rfl, rfl, rfl⟩

theorem State.withLow_dieOp (s : State) (v : Option Nat) (k : Nat) : (s.withLow v).dieOp k = s.dieOp k := rfl

theorem State.MovesFrom.withLow (h : s.MovesFrom t k) (v : Option Nat) : s.MovesFrom (t.withLow v) k := h.congr rfl rfl

/-- The cap check: the state capped, then what is counted. -/
theorem State.capCheck_moves (hw : Tab.wf DieOp.fresh s.power.dies = true) (hreset : s.pins.resetN = true) :
    ∃ t, exec .capCheck s = .next t ∧ t.cmds = s.cmds ∧ t.mem = s.mem ∧ t.pace = s.pace ∧
      let cap := s.effectiveCap
      (s.powerAbove cap = true → (∃ k, k < 8 ∧ 0 < (s.dieOp k).duty) → ∀ k, k < 8 →
        t.dieOp k = { s.dieOp k with duty := 0 }) ∧
      (s.powerAbove cap = true → (∀ k, k < 8 → (s.dieOp k).duty = 0) → ∀ k, k < 8 →
        (t.dieOp k).ceilCap = min 7 ((s.dieOp k).ceilCap + 1) ∧ s.MovesFrom t k) ∧
      (s.powerAbove cap = false → s.powerBelow (cap - 100) = true →
        ∀ b, s.power.lowSince = some b → b + 1000000 ≤ s.now →
        (∃ k, k < 8 ∧ 0 < (s.dieOp k).ceilCap) → t.power.lowSince = some s.now ∧ ∀ k, k < 8 →
          (t.dieOp k).ceilCap = (s.dieOp k).ceilCap - 1 ∧ s.MovesFrom t k) ∧
      (s.powerAbove cap = false → s.powerBelow (cap - 100) = false → t.power.lowSince = none ∧
        ∀ k, k < 8 → t.dieOp k = s.dieOp k) := by
  obtain ⟨n, hexec⟩ := exec_capCheck hreset
  obtain ⟨hcmds, hmem, hpace⟩ := State.capped_stays hw
  have hkey : objKey 0x3101 4 ≠ objKey 0x7301 3 := by decide
  have hlow : Tab.wf DieOp.fresh s.lowNoted.power.dies = true := hw
  refine ⟨_, hexec, by simpa using hcmds, by simpa using hmem, by simpa using hpace,
    fun habove ⟨j, hj, hduty⟩ k hk => ?_, fun habove hduty k hk => ?_,
    fun habove hbelow b hb hlong ⟨j, hj, hceil⟩ => ⟨?_, fun k hk => ?_⟩,
    fun habove hbelow => ⟨?_, fun k _ => ?_⟩⟩
  · rw [State.bump_dieOp, State.capped_shed habove hj hduty, (State.eachDie_sets hlow _).2 k hk]
    rfl
  · obtain ⟨-, hall⟩ := State.stepped_moves (s := s) (f := fun d => { d with ceilCap := min 7 (d.ceilCap + 1) }) hlow
      rfl rfl (fun _ => rfl) (fun _ => rfl) fun _ => rfl
    obtain ⟨hmoves, hcap, -⟩ := hall k hk
    rw [State.bump_dieOp]
    rw [← State.capped_lower habove hduty] at hmoves hcap
    exact ⟨hcap, hmoves.bump hkey n⟩
  · rw [State.bump_power, State.capped_raise habove hbelow hb hlong hj hceil]
    rfl
  · obtain ⟨-, hall⟩ := State.stepped_moves (s := s) (f := fun d => { d with ceilCap := d.ceilCap - 1 }) hlow rfl rfl
      (fun _ => rfl) (fun _ => rfl) fun _ => rfl
    obtain ⟨hmoves, hcap, -⟩ := hall k hk
    rw [State.bump_dieOp, State.capped_raise habove hbelow hb hlong hj hceil, State.capRaised, State.withLow_dieOp]
    exact ⟨hcap, (hmoves.withLow _).bump hkey n⟩
  · rw [State.bump_power, State.capped_rest habove hbelow]
    exact if_neg (by simp [hbelow])
  · rw [State.bump_dieOp, State.capped_rest habove hbelow]
    rfl

/-! ### A voltage raised ahead -/

/-- The die with its voltage raised ahead of a point, where the time for it has come. -/
def State.raisedDie (s : State) (n : Nat × Nat) (k : Nat) : DieOp :=
  let d := s.dieOp k
  let mv := opVoltage (s.pointFor k n.1)
  let lead := 100 * (mv - d.mv) + 5000
  if d.mv < mv ∧ n.2 ≤ lead then { d with mv := mv, ahead := mv, riseAt := s.now + lead } else d

theorem opVoltage_regulated (op k : Nat) (hk : k < 8) :
    max (regulation k).1 (min (regulation k).2 (opVoltage op)) = opVoltage op := by
  rw [show regulation k = (550, 850) from if_pos hk]
  by_cases hop : op < 9
  · interval_cases op <;> rfl
  · rw [opVoltage, List.getD_eq_default _ _ (by simpa using hop)]
    rfl

theorem State.writeVoltage_out {k : Nat} (hk : k < 8) (op : Nat) :
    Output.avsWrite 0 k (opVoltage op) ∈ (s.writeVoltage k (opVoltage op)).out := by
  rw [State.writeVoltage, show avsAddress k = some (0, k) from if_pos (by omega)]
  dsimp only
  rw [opVoltage_regulated op k hk]
  exact List.mem_append_right _ (List.mem_singleton_self _)

/-- One die's step of a transition. -/
def State.raiseDie (n : Nat × Nat) (s : State) (k : Nat) : State :=
  let d := s.dieOp k
  let mv := opVoltage (s.pointFor k n.1)
  let lead := 100 * (mv - d.mv) + 5000
  if d.mv < mv ∧ n.2 ≤ lead then
    (s.setDieOp k { d with mv := mv, ahead := mv, riseAt := s.now + lead }).writeVoltage k mv
  else s

theorem exec_opTransitionStart (hfollows : s.follows = true) (hwide : s.power.wide = false) :
    exec .opTransitionStart s = .next ((List.range 8).foldl (State.raiseDie s.nextPoint) s) :=
  if_pos (by simp [hfollows, hwide])

/-- The voltage of a die is raised in a transition: its next point asks for more, and the time left is no more than the
lead. -/
def State.raises (s : State) (n : Nat × Nat) (k : Nat) : Prop :=
  (s.dieOp k).mv < opVoltage (s.pointFor k n.1) ∧ n.2 ≤ 100 * (opVoltage (s.pointFor k n.1) - (s.dieOp k).mv) + 5000

theorem State.raises_sets (hw : Tab.wf DieOp.fresh s.power.dies = true) (n : Nat × Nat) :
    s.DiesOnly ((List.range 8).foldl (State.raiseDie n) s) ∧ ∀ k, k < 8 →
      ((List.range 8).foldl (State.raiseDie n) s).dieOp k = s.raisedDie n k ∧
      (s.raises n k →
        Output.avsWrite 0 k (opVoltage (s.pointFor k n.1)) ∈ ((List.range 8).foldl (State.raiseDie n) s).out) := by
  refine State.fold_dies (P := fun k t => t.dieOp k = s.raisedDie n k ∧
    (s.raises n k → Output.avsWrite 0 k (opVoltage (s.pointFor k n.1)) ∈ t.out)) fun t k hk8 ht hk => ?_
  have hpoint : t.pointFor k n.1 = s.pointFor k n.1 := ht.pointFor (by rw [hk]) (by rw [hk]) _
  unfold State.raiseDie State.raisedDie
  rw [hk, hpoint, ht.now]
  by_cases hc : s.raises n k
  · have hc' : (s.dieOp k).mv < opVoltage (s.pointFor k n.1) ∧
      n.2 ≤ 100 * (opVoltage (s.pointFor k n.1) - (s.dieOp k).mv) + 5000 := hc
    dsimp only
    rw [if_pos hc', if_pos hc']
    refine ⟨(t.diesOnly_setDieOp k _).trans (State.diesOnly_writeVoltage _ _ _),
      ⟨?_, fun _ => State.writeVoltage_out hk8 _⟩, fun j hj => ⟨?_, fun hP => ?_⟩⟩
    · rw [State.writeVoltage_dieOp, State.dieOp_setDieOp_self t k _ (ht.wf hw)]
    · rw [State.writeVoltage_dieOp, State.dieOp_setDieOp_ne t k j _ hj]
    · obtain ⟨o, hwrite, hsub⟩ := State.writeVoltage_frame
        (t.setDieOp k { s.dieOp k with
          mv := opVoltage (s.pointFor k n.1), ahead := opVoltage (s.pointFor k n.1),
          riseAt := s.now + (100 * (opVoltage (s.pointFor k n.1) - (s.dieOp k).mv) + 5000) })
        k (opVoltage (s.pointFor k n.1))
      rw [State.writeVoltage_dieOp, State.dieOp_setDieOp_ne t k j _ hj, hwrite]
      exact ⟨hP.1, fun hr => hsub (hP.2 hr)⟩
  · dsimp only
    have hc' : ¬((s.dieOp k).mv < opVoltage (s.pointFor k n.1) ∧
      n.2 ≤ 100 * (opVoltage (s.pointFor k n.1) - (s.dieOp k).mv) + 5000) := hc
    rw [if_neg hc', if_neg hc']
    exact ⟨.refl t, ⟨hk, fun hr => absurd hr hc⟩, fun _ _ => ⟨rfl, id⟩⟩

/-! ### The profile's entries and wide-margin mode -/

theorem State.DiesOnly.power (h : s.DiesOnly t) : t.power = { s.power with dies := t.power.dies } := by
  obtain ⟨⟨ds, o, rfl⟩, -⟩ := h
  rfl

/-- The entry of the current phase taken in force. -/
def State.withEntry (s : State) : State :=
  { s with power := { s.power with entry := entryAt s.power.profile s.pace.phase } }

theorem State.enterEntry_eq (s : State) :
    s.enterEntry = (s.withEntry.eachDie fun d => { d with ahead := 0 }).applyPoints := rfl

/-- An entry entered from a state with the dies and the time of s. -/
theorem State.enterEntry_moves (hw : Tab.wf DieOp.fresh s.power.dies = true) (hdies : t.power.dies = s.power.dies)
    (hnow : t.now = s.now) :
    t.withEntry.DiesOnly t.enterEntry ∧
      ∀ k, k < 8 → s.MovesFrom t.enterEntry k ∧ (t.enterEntry.dieOp k).ahead = 0 := by
  have hdies' : t.withEntry.power.dies = s.power.dies := hdies
  obtain ⟨honly, hall⟩ := State.stepped_moves (s := s) (v := t.withEntry) (f := fun d => { d with ahead := 0 })
    (hdies' ▸ hw) hnow hdies' (fun _ => rfl) (fun _ => rfl) fun _ => rfl
  rw [State.enterEntry_eq]
  refine ⟨honly, fun k hk => ?_⟩
  obtain ⟨hmoves, -, -, -, hahead⟩ := hall k hk
  exact ⟨hmoves, hahead rfl⟩

/-- Wide-margin mode in force on a cause. -/
def State.withWide (s : State) (cause : Nat) : State :=
  { s with power := { s.power with wide := true, wideReq := true, wideAt := none, cause := cause } }

theorem State.enterWide_eq (s : State) (cause : Nat) : s.enterWide cause =
    ((s.withWide cause).eachDie fun d => { d with envelope := 0, duty := 0, ahead := 0 }).applyPoints := rfl

theorem State.enterWide_moves (hw : Tab.wf DieOp.fresh s.power.dies = true) (cause : Nat) :
    (s.withWide cause).DiesOnly (s.enterWide cause) ∧
      ∀ k, k < 8 → s.MovesFrom (s.enterWide cause) k ∧ ((s.enterWide cause).dieOp k).envelope = 0 ∧
        ((s.enterWide cause).dieOp k).duty = 0 := by
  obtain ⟨honly, hall⟩ := State.stepped_moves (s := s) (v := s.withWide cause)
    (f := fun d => { d with envelope := 0, duty := 0, ahead := 0 }) hw rfl rfl (fun _ => rfl) (fun _ => rfl)
    fun _ => rfl
  rw [State.enterWide_eq]
  refine ⟨honly, fun k hk => ?_⟩
  obtain ⟨hmoves, -, henv, hduty, -⟩ := hall k hk
  exact ⟨hmoves, henv, hduty⟩

/-- Wide-margin mode no longer in force. -/
def State.withoutWide (s : State) : State := { s with power := { s.power with wide := false, wideAt := none } }

theorem State.leaveWide_eq (s : State) : s.leaveWide = s.withoutWide.applyPoints := rfl

theorem State.leaveWide_moves (hw : Tab.wf DieOp.fresh s.power.dies = true) :
    s.withoutWide.DiesOnly s.leaveWide ∧ ∀ k, k < 8 → s.MovesFrom s.leaveWide k := by
  rw [State.leaveWide_eq]
  exact ⟨(State.applyPoints_sets (s := s.withoutWide) hw).1,
    fun k hk => State.movesFrom_applyPoints (u := s.withoutWide) hw rfl hk rfl rfl rfl⟩

/-! ### The clauses -/

/-- A state after its entry is entered where a profile is followed. -/
def State.followEntry (s : State) : State := if s.follows then s.enterEntry else s

theorem State.followEntry_moves (hw : Tab.wf DieOp.fresh s.power.dies = true) (hdies : t.power.dies = s.power.dies)
    (hnow : t.now = s.now) :
    t.followEntry.cmds = t.cmds ∧ t.followEntry.mem = t.mem ∧
    (∃ e ds, t.followEntry.power = { t.power with entry := e, dies := ds }) ∧
    (t.follows = true → t.followEntry.power.entry = entryAt t.power.profile t.pace.phase ∧
      ∀ k, k < 8 → s.MovesFrom t.followEntry k ∧ (t.followEntry.dieOp k).ahead = 0) := by
  obtain ⟨honly, hall⟩ := State.enterEntry_moves hw hdies hnow
  unfold State.followEntry
  split
  · exact ⟨honly.cmds, honly.mem, ⟨_, _, honly.power⟩, fun _ => ⟨by rw [honly.power]; rfl, hall⟩⟩
  · exact ⟨rfl, rfl, ⟨_, _, rfl⟩, fun h => absurd h ‹_›⟩

/-- A profile in force from its stride. -/
def State.withProfile (s : State) (l : List (List Nat)) (eff : Nat) : State :=
  { s with power := { s.power with profile := l, profEffective := eff, profPending := none } }

/-- PHASE_PROFILE_TAKES_EFFECT at its angle, with gated work running. -/
theorem exec_phaseProfile_runs {l : List (List Nat)} {eff : Nat} (hpend : s.power.profPending = some (l, eff))
    (hangle : atOrAfter s.angle (strideAngle eff) = true) (hrun : s.pace.mode.running = true)
    (hact : s.mayAct (strideAngle eff, 5) = true) :
    exec .phaseProfileTakesEffect s = .next (s.withProfile l eff).followEntry := by
  unfold exec execPhaseProfileTakesEffect
  simp only [hpend, hangle, hrun, hact, Bool.not_true, Bool.false_eq_true, if_false, if_true]
  rfl

theorem exec_profileEntry_runs (hrun : s.pace.mode.running = true) (hact : s.mayAct (s.entryAngle, 6) = true)
    (hdue : ∀ l eff, s.power.profPending = some (l, eff) → atOrAfter s.angle (strideAngle eff) = false) :
    exec .profileEntry s = .next s.takeCapOffset.followEntry := by
  have hnot : (s.power.profPending.any fun p => atOrAfter s.angle (strideAngle p.2)) = false := by
    cases h : s.power.profPending with
    | none => rfl
    | some p => exact hdue p.1 p.2 h
  exact if_pos (by simp [hrun, hact, hnot])

theorem State.takeCapOffset_taken {v : Int} {stride : Nat} (h : s.power.capWritten = some (v, stride))
    (hstride : stride ≠ s.pace.stride) :
    s.takeCapOffset = { s with power := { s.power with capOffset := v, capWritten := none } } := by
  rw [State.takeCapOffset, h]
  exact if_pos hstride

theorem State.takeCapOffset_frame (s : State) :
    ∃ v w, s.takeCapOffset = { s with power := { s.power with capOffset := v, capWritten := w } } := by
  unfold State.takeCapOffset
  split
  · split
    · exact ⟨_, _, rfl⟩
    · exact ⟨_, _, rfl⟩
  · exact ⟨_, _, rfl⟩

/-- WIDE_MARGIN_SWITCH once its stride has come. -/
theorem exec_wideMarginSwitch_past {stride : Nat} (hat : s.power.wideAt = some stride)
    (hpast : s.pace.mode.running = false ∨ (stride ≠ s.pace.stride ∧ s.mayAct (strideAngle s.pace.stride, 7) = true)) :
    exec .wideMarginSwitch s = .next (if s.power.wideReq = s.power.wide then
      { s with power := { s.power with wideAt := none } }
      else if s.power.wideReq then s.enterWide 1 else s.leaveWide) := by
  have hnot : ¬(s.pace.mode.running = true ∧ (stride = s.pace.stride ∨
      s.mayAct (strideAngle s.pace.stride, 7) = false)) := by
    rintro ⟨hrun, hstay⟩
    rcases hpast with h | ⟨hne, hact⟩
    · exact absurd hrun (by simp [h])
    · exact hstay.elim hne (by simp [hact])
  unfold exec execWideMarginSwitch
  simp only [hat]
  rw [if_neg hnot]
  split
  · rfl
  · split <;> rfl

theorem exec_slackRecordWrite {b : Barrier} (hended : s.power.ended = some b) :
    let u := { s with power := { s.power with ended := none } }
    let l := oneAccess (s.objv 0x3120 2) 32 true
    exec .slackRecordWrite s =
      if (s.ctxMem (s.objv 0x3120 3) (s.objv 0x3120 2) 32 && s.inStack (s.objv 0x3120 2) 32) = true then
        .next (if s.serves l then (u.payFor l).devWrite (s.objv 0x3120 2) b.bytes else s)
      else .next (u.recordEvent (u.info 0x7008 4 0)) := by
  unfold exec execSlackRecordWrite
  rw [hended]
  rfl

/-- The duty of a die by its four rules. -/
theorem State.envelopeOf_duty (s : State) (k : Nat) :
    let d := s.dieOp k
    let ma := ((s.rail k).samples.map (·.2.1)).headD 0
    let env := (s.envelopeOf k).envelope
    let held := s.power.wide || s.power.clocksStopped || (s.telem k).blind || decide (0 < s.limitAction k) ||
      s.heatActs k || !s.understoryStand k
    (held = true → (s.envelopeOf k).duty = 0) ∧
    (held = false → ma < env → s.capActs d = false → (s.envelopeOf k).duty = min 16 (d.duty + 1)) ∧
    (held = false → ma < env → s.capActs d = true → (s.envelopeOf k).duty = d.duty) ∧
    (held = false → env ≤ ma → 105 * env < 100 * ma → (s.envelopeOf k).duty = d.duty - 1) ∧
    (held = false → env ≤ ma → 100 * ma ≤ 105 * env → (s.envelopeOf k).duty = d.duty) := by
  unfold State.envelopeOf
  dsimp only
  refine ⟨fun hheld => if_pos hheld, fun hheld hlow hcap => ?_, fun hheld hlow hcap => ?_, fun hheld hhigh hover => ?_,
    fun hheld hhigh hover => ?_⟩
  · rw [if_neg (ne_true_of_eq_false hheld), if_pos hlow, if_neg (ne_true_of_eq_false hcap)]
  · rw [if_neg (ne_true_of_eq_false hheld), if_pos hlow, if_pos hcap]
  · rw [if_neg (ne_true_of_eq_false hheld), if_neg (Nat.not_lt.mpr hhigh), if_pos hover]
  · rw [if_neg (ne_true_of_eq_false hheld), if_neg (Nat.not_lt.mpr hhigh), if_neg (Nat.not_lt.mpr hover)]

theorem State.envelopeOf_envelope (s : State) (k : Nat) : (s.envelopeOf k).envelope =
    if s.power.wide then 0 else slewTo (s.dieOp k).envelope (if s.follows then
      1000 * (s.power.profEntry s.power.entry).getD 2 0 else 0) (s.objv 0x3101 3) := by
  cases hwide : s.power.wide with
  | true => simp [State.envelopeOf, hwide]
  | false => simp [State.envelopeOf, hwide]

/-- Settles O57: each clause is the frame and the moves of the helper its command runs. -/
theorem pointsProfilesAndSlack : Obligations.PointsProfilesAndSlack := by
  intro s hs
  have hw := s.wf_dies hs
  refine ⟨fun hreset => ?_, State.capCheck_moves hw, fun hfollows hwide => ?_, fun l eff hpend hangle hrun hact => ?_,
    fun hrun hact hdue => ?_, fun stride hat hpast => ?_, fun b hended => ?_⟩
  · obtain ⟨t, hexec, hcmds, hmem, hpace, hall⟩ := State.envelopeTick_moves hw hreset
    refine ⟨t, hexec, hcmds, hmem, hpace, fun k hk => ?_⟩
    obtain ⟨henv, hduty, hmoves⟩ := hall k hk
    obtain ⟨hheld, hmore, hcap, hless, hstay⟩ := s.envelopeOf_duty k
    rw [s.envelopeOf_envelope k] at henv hmore hcap hless hstay
    rw [← hduty] at hheld hmore hcap hless hstay
    exact ⟨henv, hmoves, hheld, hmore, hcap, hless, hstay⟩
  · obtain ⟨honly, hall⟩ := State.raises_sets hw s.nextPoint
    refine ⟨_, exec_opTransitionStart hfollows hwide, honly.eq, fun k hk => ⟨fun hv hlead => ?_, fun hnot => ?_⟩⟩
    · obtain ⟨hdie, hout⟩ := hall k hk
      exact ⟨hdie.trans (if_pos ⟨hv, hlead⟩), hout ⟨hv, hlead⟩⟩
    · exact (hall k hk).1.trans (if_neg (by omega))
  · obtain ⟨hcmds, hmem, ⟨e, ds, hpower⟩, hfollow⟩ := State.followEntry_moves (t := s.withProfile l eff) hw rfl rfl
    exact ⟨_, exec_phaseProfile_runs hpend hangle hrun hact, by rw [hpower]; rfl, by rw [hpower]; rfl,
      by rw [hpower]; rfl, hcmds, hmem, hfollow⟩
  · obtain ⟨v, w, htake⟩ := s.takeCapOffset_frame
    obtain ⟨hcmds, hmem, ⟨e, ds, hpower⟩, hfollow⟩ := State.followEntry_moves (t := s.takeCapOffset) hw
      (by rw [htake]) (by rw [htake])
    refine ⟨_, exec_profileEntry_runs hrun hact hdue, by rw [hpower, htake], hcmds.trans (by rw [htake]),
      hmem.trans (by rw [htake]), fun h => ?_, fun x stride hcap hstride => ?_⟩
    · have hentry := hfollow (by rw [htake]; exact h)
      rw [htake] at hentry ⊢
      exact hentry
    · rw [hpower, State.takeCapOffset_taken hcap hstride]
      exact ⟨rfl, rfl⟩
  · have hexec := exec_wideMarginSwitch_past hat hpast
    by_cases hsame : s.power.wideReq = s.power.wide
    · rw [if_pos hsame] at hexec
      exact ⟨_, hexec, hsame.symm, rfl, rfl, rfl, fun h h' => absurd hsame (by simp [h, h']),
        fun h h' => absurd hsame (by simp [h, h'])⟩
    · rw [if_neg hsame] at hexec
      cases hreq : s.power.wideReq with
      | false =>
        rw [if_neg (by simp [hreq])] at hexec
        obtain ⟨honly, hall⟩ := State.leaveWide_moves hw
        exact ⟨_, hexec, by rw [honly.power]; rfl, by rw [honly.power]; rfl, honly.cmds, honly.mem, fun _ => nofun,
          fun _ _ => hall⟩
      | true =>
        rw [if_pos hreq] at hexec
        obtain ⟨honly, hall⟩ := State.enterWide_moves hw 1
        exact ⟨_, hexec, by rw [honly.power]; rfl, by rw [honly.power]; rfl, honly.cmds, honly.mem,
          fun _ _ => ⟨by rw [honly.power]; rfl, hall⟩, fun _ => nofun⟩
  · have hexec := exec_slackRecordWrite hended
    refine ⟨fun hctx hstack => ⟨fun hserves => ?_, fun hserves => ?_⟩, fun hout => ?_⟩
    · rw [hexec, if_pos (by simp [hctx, hstack]), if_pos hserves]
    · rw [hexec, if_pos (by simp [hctx, hstack]), if_neg (by simp [hserves])]
    · rw [hexec, if_neg (by rcases hout with h | h <;> simp [h])]

end Sys2Proof.Machine
end

section
/-! What an accepted write does, object by object. -/

namespace Sys2Proof.Machine

variable {s t : State} {ch : Channel} {l : List Byte} {auth : Option Auth} {c v : Nat}

/-- A key of a range that is cleared reads its default. -/
theorem Tab.get_clearRange_in {α : Type} {d : α} (t : Tab α) {lo n k : Nat} (hlo : lo ≤ k) (hk : k < lo + n) :
    Tab.get d (Tab.clearRange t lo n) k = d := by
  induction t with
  | nil => rfl
  | cons p t ih =>
    unfold Tab.clearRange at ih ⊢
    rw [List.filter_cons]
    split
    · next hkeep =>
      have hne : p.1 ≠ k := by
        rintro rfl
        simp [hlo, hk] at hkeep
      exact (if_neg hne).trans ih
    · exact ih

/-- What is put in a table and is not the default is read back, in whatever form the table is. -/
theorem Tab.get_put_of_ne [DecidableEq α] {d v : α} (hv : v ≠ d) (t : Tab α) (k : Nat) :
    Tab.get d (Tab.put d t k v) k = v := by
  induction t with
  | nil => simp [Tab.put, Tab.get, hv]
  | cons p t ih =>
    unfold Tab.put
    split
    · simp [Tab.get]
    · split
      · simp [Tab.get]
      · next hne => simpa [Tab.get, Ne.symm hne] using ih

theorem State.Steady.stopAll (h : s.Steady t) : s.Steady t.stopAll :=
  State.Steady.abortTargets (h.foldl fun h => h.leaveNow)

/-- A context's objects: the resets of its queues, and its trust. -/
theorem State.effect_context (hc : c < 64) (sub : Nat) :
    s.effect ch (0x6000 + c) sub l auth = s.writeContext c sub (valOf l) ∧
      s.effect ch (0x6200 + c) sub l auth = (s.writeTrust c sub (valOf l), Reply.done) := by
  unfold State.effect
  constructor
  · rw [if_pos (by omega), Nat.add_sub_cancel_left]
  · rw [if_neg (by omega), if_neg (by omega), if_pos (by omega), Nat.add_sub_cancel_left]

theorem State.enterWide_wideReq (hw : Tab.wf DieOp.fresh s.power.dies = true) (cause : Nat) :
    (s.enterWide cause).power.wideReq = true := by
  rw [(State.enterWide_moves hw cause).1.power]
  rfl

theorem State.leaveWide_wideReq (hw : Tab.wf DieOp.fresh s.power.dies = true) :
    s.leaveWide.power.wideReq = s.power.wideReq := by
  rw [(State.leaveWide_moves hw).1.power]
  rfl

theorem State.requestWide_wideReq (hw : Tab.wf DieOp.fresh s.power.dies = true) (v : Nat) :
    (s.requestWide v).power.wideReq = decide (v = 1) := by
  unfold State.requestWide
  dsimp only
  split
  · rfl
  · split
    · rfl
    · split
      · next h =>
        refine (State.enterWide_wideReq ?_ 1).trans h.symm
        exact hw
      · refine State.leaveWide_wideReq ?_
        exact hw

theorem authorityKey_size : ∀ c, c < 4 → ((objectRow 0x6401 (c + 1)).bind (·.ty.size)).isSome = false := by
  decide +kernel

theorem partitionSetting_size : ∀ c, c < 16 → ∀ sub, 1 ≤ sub → sub ≤ 7 →
    ((objectRow (0x4100 + c) sub).bind (·.ty.size)).isSome = true := by
  have h : ∀ c, c < 16 → ∀ sub, sub < 8 → 1 ≤ sub →
      ((objectRow (0x4100 + c) sub).bind (·.ty.size)).isSome = true := by decide +kernel
  exact fun c hc sub hlow hhigh => h c hc sub (by omega) hlow

/-- The settings of a partition are stored. -/
theorem State.effect_partition (hc : c < 16) {sub : Nat} (hlow : 1 ≤ sub) (hhigh : sub ≤ 7) :
    (s.effect ch (0x4100 + c) sub l auth).1 = s.setObj (0x4100 + c) sub (valOf l) := by
  have hstore : s.store (0x4100 + c) sub l = s.setObj (0x4100 + c) sub (valOf l) :=
    if_pos (partitionSetting_size c hc sub hlow hhigh)
  rw [← hstore]
  unfold State.effect
  rw [if_neg (by omega), if_neg (by omega), if_neg (by omega)]
  interval_cases c <;> rfl

/-- Settles O51: each object's branch of `effect`. -/
theorem acceptedWritesHaveTheirEffect : Obligations.AcceptedWritesHaveTheirEffect := by
  intro s ch l auth c hs
  refine ⟨fun hc => ?_, fun hrun => ?_, fun hrun => ?_, rfl, rfl, rfl, rfl, ?_, fun hblocked hgood => ?_, ?_,
    fun hfresh hkey hverify => ?_, rfl, fun hv => ?_, fun hv => ?_, ?_, rfl, fun hc hl => ?_, ?_,
    fun i sub hi hsub => ?_,
    fun sub hc hlow hhigh => ?_, ?_, rfl, rfl, rfl⟩
  · obtain ⟨h7, ht7⟩ := State.effect_context (s := s) (ch := ch) (l := l) (auth := auth) hc 7
    obtain ⟨h6, ht6⟩ := State.effect_context (s := s) (ch := ch) (l := l) (auth := auth) hc 6
    simp only [h7, h6, ht7, ht6, State.writeContext, State.writeTrust, and_self]
  · exact congrArg Prod.fst (if_neg (by simp [hrun]) : s.effect ch 0x5103 0 l auth = _)
  · exact congrArg Prod.fst (if_pos hrun : s.effect ch 0x5103 0 l auth = _)
  · exact State.requestWide_wideReq (s.wf_dies hs) (valOf l)
  · have hopen : s.effect ch 0x6400 2 l auth = _ :=
      (if_neg (by simp [hblocked])).trans (if_pos hgood)
    dsimp only
    rw [hopen]
    exact List.mem_append_right _ (List.mem_singleton_self _)
  · intro x hx
    simpa using State.mem_closeSessions hx
  · have htake : s.effect ch 0x6402 1 l auth = _ := if_pos (by simp [hfresh, hkey, hverify])
    dsimp only
    rw [htake]
  · exact congrArg Prod.fst (if_neg (by simp [hv]) : s.effect ch 0x1F51 c l auth = _)
  · exact congrArg Prod.fst (if_pos hv : s.effect ch 0x1F51 c l auth = _)
  · change (s.beginReload c).server.reload = some c
    unfold State.beginReload
    dsimp only
    split <;> rfl
  · have hstore : s.store 0x6401 (c + 1) l = { s with dom := Tab.put [] s.dom (objKey 0x6401 (c + 1)) l } :=
      if_neg (by simp [authorityKey_size c hc])
    have heffect : (s.effect ch 0x6401 (c + 1) l auth).1 = s.store 0x6401 (c + 1) l := rfl
    dsimp only
    rw [heffect, hstore]
    exact Tab.get_put_of_ne hl _ _
  · exact congrArg Server.transition (State.Steady.stopAll (.refl _)).server
  · refine congrArg (Option.getD · _) (Tab.get_clearRange_in s.obj ?_ ?_)
    all_goals simp only [objKey]; omega
  · dsimp only
    rw [State.effect_partition hc hlow hhigh]
    exact State.objv_setObj_self _ _ _ _ (s.wf_obj hs)
  · exact State.objv_setObj_self _ _ _ _ (State.wf_obj_setObj _ _ _ (State.wf_obj_setObj _ _ _ (s.wf_obj hs)))

end Sys2Proof.Machine
end

section
/-! The end of a reload, and takeover. -/

namespace Sys2Proof.Machine

variable {s t u : State}

/-! ### Nothing to answer -/

theorem State.quiet.serveTurn (h : s.quiet) (k : Nat) : s.serveTurn k = s := by
  obtain ⟨hasked, hheld, -⟩ := h
  unfold State.serveTurn
  split
  · rw [hheld]
    rfl
  · simp [hasked]

theorem State.quiet.settle (h : s.quiet) : s.settle = s := by
  obtain ⟨-, -, htransition⟩ := h
  exact if_neg (by simp [State.transitionDue, htransition])

/-- With nothing asked for and no transition on its way, nothing is answered. -/
theorem State.quiet.answerHeld (h : s.quiet) : s.answerHeld = s := by
  have hround : s.serveRound = s := List.foldl_fixed' h.serveTurn _
  unfold State.answerHeld
  rw [List.foldl_fixed' fun _ => hround]
  exact h.settle

theorem State.quiet.congr (h : s.quiet) (hfuncs : t.funcs = s.funcs) (hheld : t.server.heldCan = s.server.heldCan)
    (htransition : t.server.transition = s.server.transition) : t.quiet := by
  obtain ⟨hasked, hnone, hquiet⟩ := h
  refine ⟨fun l f => ?_, hheld.trans hnone, htransition.trans hquiet⟩
  rw [State.func, hfuncs]
  exact hasked l f

theorem State.quiet.steady (h : s.quiet) (ht : s.Steady t) : t.quiet :=
  h.congr ht.funcs (by rw [ht.server]) (by rw [ht.server])

/-! ### The end of a reload -/

/-- From s to t the signals held for a die that reloads are done or held anew; the rest of the server, the functions
and the tests stay. -/
structure State.Signalled (s t : State) : Prop where
  server : ∃ l, t.server = { s.server with heldSignals := l }
  funcs : t.funcs = s.funcs
  recorder : t.recorder = s.recorder
  done : s.server.reload = none → s.recorder.tests = [] → s.server.heldSignals = [] → t.server.heldSignals = []

theorem State.Signalled.signalObj (h : s.Signalled t) (o inc : Nat) (fault : Bool) :
    s.Signalled (t.signalObj o inc fault) := by
  obtain ⟨⟨l, hserver⟩, hfuncs, hrecorder, hdone⟩ := h
  unfold State.signalObj
  split
  · next hreload =>
    refine ⟨⟨_, congrArg (fun x : Server => { x with heldSignals := t.server.heldSignals ++ [(o, inc, fault)] })
      hserver⟩, hfuncs, hrecorder, fun hnone htests => ?_⟩
    simp [State.reloadingDie, hserver, hrecorder, hnone, htests] at hreload
  · exact ⟨⟨l, hserver⟩, hfuncs, hrecorder, hdone⟩

/-- The state with no signal held. -/
def State.unheld (s : State) : State := { s with server := { s.server with heldSignals := [] } }

theorem State.unheld_signalled_applyHeld (s : State) : s.unheld.Signalled s.applyHeld :=
  List.foldlRecOn _ _ ⟨⟨_, rfl⟩, rfl, rfl, fun _ _ h => h⟩ fun _ ht x _ => ht.signalObj x.1 x.2.1 x.2.2

/-- A die that resumes with nothing to answer: the held signals are done. -/
theorem State.resumeDie_server (h : s.quiet) (loc : Nat) :
    (∃ l, (s.resumeDie loc).server = { s.server with heldSignals := l }) ∧
      (s.server.reload = none → s.recorder.tests = [] → (s.resumeDie loc).server.heldSignals = []) := by
  obtain ⟨⟨l, hserver⟩, hfuncs, -, hdone⟩ := s.unheld_signalled_applyHeld
  have hflush : s.applyHeld.Steady (if 8 ≤ loc ∧ loc < 16 then
      (List.range 3).foldl (fun (u : State) i => u.flush (3 * (loc - 8) + i)) s.applyHeld else s.applyHeld) :=
    .ite (State.Steady.foldl (.refl _) fun hu => hu.flush) (.refl _)
  have hquiet : s.applyHeld.quiet := h.congr hfuncs (by rw [hserver]; rfl) (by rw [hserver]; rfl)
  have hresume : (s.resumeDie loc).server = s.applyHeld.server := by
    unfold State.resumeDie
    dsimp only
    rw [(hquiet.steady hflush).answerHeld]
    exact hflush.serveHost.server
  rw [hresume]
  exact ⟨⟨l, hserver⟩, fun hnone htests => hdone hnone htests rfl⟩

/-- The die on its newest image, measured, and its reload over. -/
def State.reloaded (s : State) (loc : Nat) : State :=
  let t := (s.loadDie loc).measureType (dieType loc)
  { t with server := { t.server with reload := none } }

theorem exec_reloadComplete {loc : Nat} (hreload : s.server.reload = some loc) (hreset : s.pins.resetN = true)
    (htakeover : s.mgmt.takeover = false) : ∃ t, (s.reloaded loc).Steady t ∧
      exec .reloadComplete s = .next (t.resumeDie loc) := by
  refine ⟨(((s.reloaded loc).recordEvent (unitEvent 0x8005 (dieUnit loc) 5)).tdisError fun _ _ => true).raiseSecurity
    (dieType loc), State.Steady.raiseSecurity (State.Steady.tdisError (State.Steady.recordEvent (.refl _))), ?_⟩
  unfold exec execReloadComplete
  rw [hreload]
  exact if_neg (by simp [hreset, htakeover])

/-! ### A takeover -/

theorem State.askTest_stays (s : State) (x : Test) : (s.askTest x).mgmt = s.mgmt ∧ (s.askTest x).server = s.server ∧
    (s.askTest x).funcs = s.funcs := ⟨rfl, rfl, rfl⟩

theorem State.testsAnew_stays (s : State) : s.testsAnew.mgmt = s.mgmt ∧ s.testsAnew.server = s.server ∧
    s.testsAnew.funcs = s.funcs := ⟨rfl, rfl, rfl⟩

/-- The management dies after a takeover. -/
def State.overtaken (s : State) : State := { s with mgmt := ⟨1 - s.mgmt.active, false, s.now, false, 0, false⟩ }

theorem State.takeOver_stays (s : State) : s.takeOver.mgmt = s.overtaken.mgmt ∧ s.takeOver.server = s.server ∧
    s.takeOver.funcs = s.funcs := by
  have hevent : s.overtaken.Steady (s.overtaken.recordEvent (unitEvent 0x8003 (.mgmt s.mgmt.active) 5)) :=
    State.Steady.recordEvent (.refl _)
  obtain ⟨hmgmt, hserver, hfuncs⟩ := State.testsAnew_stays
    (s.overtaken.recordEvent (unitEvent 0x8003 (.mgmt s.mgmt.active) 5))
  have htests := And.intro (hmgmt.trans hevent.mgmt)
    (And.intro (hserver.trans hevent.server) (hfuncs.trans hevent.funcs))
  change State.mgmt (if _ then _ else State.askTest _ _) = _ ∧ State.server (if _ then _ else _) = _ ∧
    State.funcs (if _ then _ else _) = _
  split
  · exact htests
  · exact htests

/-- Settles O54: with nothing to answer, each row is what it does to its die or to the management dies. -/
theorem reloadAndTakeover : Obligations.ReloadAndTakeover := by
  intro s hreset hstopped hquiet
  refine ⟨fun loc hreload htakeover => ?_, if_neg (by simp [hstopped]), fun cause hcause hbeat hcalled => ?_⟩
  · obtain ⟨t, hsteady, hexec⟩ := exec_reloadComplete hreload hreset htakeover
    have hq : t.quiet := State.quiet.steady (State.quiet.congr (t := s.reloaded loc) hquiet rfl rfl rfl) hsteady
    obtain ⟨⟨l, hserver⟩, hdone⟩ := State.resumeDie_server hq loc
    rw [hsteady.server] at hserver hdone
    refine ⟨_, hexec, by rw [hserver]; rfl, fun htests => hdone rfl (hsteady.tests.trans htests), by rw [hserver]; rfl⟩
  · have hdue : (if cause = 0 then decide (s.mgmt.lastBeat + 100000 ≤ s.now)
        else s.mgmt.takeover && decide (s.mgmt.cause = cause)) = true := by
      split
      · next h => exact decide_eq_true (hbeat h)
      · next h => simp [hcalled h]
    have hexec : exec (.managementTakeover cause) s = if s.mgmt.standby then .next s.takeOver.answerHeld
        else if cause ≤ 2 then .next { s with mgmt := { s.mgmt with takeover := false, stopped := true } }
        else .next ({ s with mgmt := { s.mgmt with takeover := false } } : State).answerHeld := by
      unfold exec execManagementTakeover
      dsimp only
      rw [if_neg (by simp [hdue, hstopped, hreset])]
    refine ⟨fun hstandby => ?_, fun hstandby hlow => ?_, fun hstandby hhigh => ?_⟩
    · obtain ⟨hmgmt, hserver, hfuncs⟩ := s.takeOver_stays
      have hq : s.takeOver.quiet := State.quiet.congr hquiet hfuncs (by rw [hserver]) (by rw [hserver])
      rw [hexec, if_pos hstandby, hq.answerHeld]
      exact ⟨_, rfl, hmgmt⟩
    · rw [hexec, if_neg (by simp [hstandby]), if_pos hlow]
    · have hq : State.quiet { s with mgmt := { s.mgmt with takeover := false } } :=
        State.quiet.congr hquiet rfl rfl rfl
      rw [hexec, if_neg (by simp [hstandby]), if_neg (by omega), hq.answerHeld]
      exact ⟨_, rfl, rfl⟩

end Sys2Proof.Machine
end

section
/-! Errors, tests and calibrations. -/

namespace Sys2Proof.Machine

variable {s t u : State} {unit : UnitId} {event : Nat} {line : Option Nat}

/-! ### The test asked for -/

/-- Whose test it is, of which command, and for which event: what no start and no join changes. -/
def Test.about (x : Test) : UnitId × Option CmdId × Nat := (x.unit, x.cmd, x.event)

theorem map_about_startTests (free : UnitId → Bool) (l : List Test) :
    (Machine.startTests free l).map Test.about = l.map Test.about := by
  refine (map_foldl_concat (fun acc x => ?_) l []).trans (List.nil_append _)
  split <;> rfl

theorem State.exists_askTest (s : State) (x : Test) : ∃ y ∈ (s.askTest x).recorder.tests,
    y.unit = x.unit ∧ y.cmd = x.cmd ∧ y.event = x.event := by
  obtain ⟨j, hj⟩ := exists_joined_mem_addTest s.recorder.tests x
  have hmem : x.about ∈ (s.askTest x).recorder.tests.map Test.about := by
    rw [show (s.askTest x).recorder.tests.map Test.about = _ from map_about_startTests _ _]
    exact List.mem_map.mpr ⟨_, hj, rfl⟩
  obtain ⟨y, hy, habout⟩ := List.mem_map.mp hmem
  simp only [Test.about, Prod.mk.injEq] at habout
  exact ⟨y, hy, habout⟩

theorem State.askTest_cmds (s : State) (x : Test) : (s.askTest x).cmds = s.cmds := rfl

/-! ### An error -/

@[simp] theorem State.countMemory_cmds (s : State) (event : Nat) (x : UnitId) :
    (s.countMemory event x).cmds = s.cmds := by
  obtain ⟨o, h⟩ := s.countMemory_frame event x
  rw [h]

@[simp] theorem State.reread_cmds (s : State) (x : UnitId) (c : Option Cmd) : (s.reread x c).1.cmds = s.cmds := by
  have hpoison (k : Option Nat) : ((k.map s.poisonAt).getD s).cmds = s.cmds := by cases k <;> rfl
  unfold State.reread
  dsimp only [State.usedFree_cmds]
  split
  · rfl
  · split
    · rfl
    · exact hpoison _

/-- An error without a command: its test is asked for, and no command is touched. -/
theorem State.unitError_asks (s : State) (x : UnitId) (event : Nat) :
    (∃ y ∈ (s.unitError x event).recorder.tests, y.unit = x ∧ y.cmd = none ∧ y.event = event) ∧
      (s.unitError x event).cmds = s.cmds := by
  refine ⟨State.exists_askTest _ ⟨x, none, 0, false, event, false⟩, ?_⟩
  unfold State.unitError
  dsimp only
  rw [State.askTest_cmds]
  split <;> split <;> simp

/-- What a command rereads leaves the commands as they are. -/
theorem State.cmdReread_cmds (s : State) (x : UnitId) (c : Cmd) (line : Bool) :
    (if event = 0x3002 then s.reread x (some c) else if line then s.rereadLine else (s, false)).1.cmds = s.cmds := by
  split
  · exact s.reread_cmds x (some c)
  · split <;> rfl

/-- A command's error, before the fourth: the command waits for the test that is asked for. -/
theorem State.cmdError_asks {id : CmdId} {c : Cmd} (hc : s.findCmd id = some c) (herrors : c.errors < 3) (x : UnitId)
    (event : Nat) (line : Bool) :
    (∃ y ∈ (s.cmdError x c event line).recorder.tests, y.unit = x ∧ y.cmd = some id ∧ y.event = event) ∧
    ∃ d, (s.cmdError x c event line).findCmd id = some d ∧ d.testing = some x ∧ d.errors = c.errors + 1 := by
  have hid : c.id = id := State.id_of_findCmd hc
  have hreread : State.findCmd (if event = 0x3002 then (s.countMemory event x).reread x (some c)
      else if line then (s.countMemory event x).rereadLine else (s.countMemory event x, false)).1 id = some c := by
    rw [State.findCmd, State.cmdReread_cmds, State.countMemory_cmds]
    exact hc
  unfold State.cmdError
  dsimp only
  rw [if_neg (by omega), hid]
  refine ⟨State.exists_askTest _ ⟨x, some id, if line then 5 else 0, false, event, false⟩, ?_⟩
  generalize (if event = 0x3002 then (s.countMemory event x).reread x (some c)
      else if line then (s.countMemory event x).rereadLine else (s.countMemory event x, false)) = r at hreread
  have hcounted := State.findCmd_updCmd r.1
    (f := fun y => { y with errors := y.errors + 1, suspect := y.suspect || r.2 }) (fun _ => rfl) hreread
  exact ⟨_, State.findCmd_updCmd _ (fun _ => rfl) hcounted, rfl, rfl⟩

/-- A command that waits for a unit's test has the unit under test. -/
theorem State.underTest_of_waits {id : CmdId} {c : Cmd} (hc : s.findCmd id = some c) (hwaits : c.testing = some unit) :
    s.underTest unit = true := by
  have hmem : c ∈ s.cmds := List.mem_of_find?_eq_some hc
  have hcovers : unit.covers unit = true := by simp [UnitId.covers]
  simp only [State.underTest, Bool.or_eq_true]
  exact .inr (List.any_eq_true.mpr ⟨c, hmem, by simp [hwaits, hcovers]⟩)

/-- What an error of a unit in service does: without a command its test is asked for; the command that met it waits. -/
def State.errorMet (s : State) (unit : UnitId) (cmd : Option CmdId) (event : Nat) (line : Option Nat) :
    Host.Outcome State Fault Refusal :=
  match if event = 0x3001 then none else cmd with
  | none => .next (s.unitError unit event)
  | some id =>
    match s.findCmd id with
    | none => .next s
    | some c =>
      if c.phase = Phase.released ∧ c.testing = none ∧ s.errorMeets unit event c = true then
        if line.all (s.usesLine c) then .next (s.cmdError unit c event line.isSome)
        else .next (s.unitError unit event)
      else .next s

section
variable (hreset : s.pins.resetN = true) (hne : event ≠ 0x8001) (hfits : errorFits event unit = true)
  (hretired : s.retired unit = false) (hkind : unit.kind ≠ 0x10)
  (hline : line = none ∨ unit.kind = 2 ∨ unit.kind = 3)
include hreset hne hfits hretired hkind hline

/-- ERROR_DETECTED of a unit in service, with the checks that fit it passed. -/
theorem exec_errorDetected (cmd : Option CmdId) :
    exec (.errorDetected unit cmd ⟨event, line⟩) s = s.errorMet unit cmd event line := by
  have hline' : (line.isSome && !decide (unit.kind = 2 ∨ unit.kind = 3)) = false := by
    rcases hline with rfl | h
    · rfl
    · simp [h]
  unfold exec execErrorDetected
  dsimp only
  rw [if_neg (by simp [hreset]), if_neg hne, if_neg (by rw [hline']; simp [hfits, hretired]), if_neg hkind]
  simp only [hretired, Bool.false_and, Bool.false_eq_true, if_false]
  rfl

theorem exec_errorDetected_none :
    exec (.errorDetected unit none ⟨event, line⟩) s = .next (s.unitError unit event) := by
  rw [exec_errorDetected hreset hne hfits hretired hkind hline, State.errorMet, ite_self]

theorem exec_errorDetected_cmd {id : CmdId} {c : Cmd} (hc : s.findCmd id = some c) (hphase : c.phase = .released)
    (htesting : c.testing = none) (hmeets : s.errorMeets unit event c = true) (h3001 : event ≠ 0x3001)
    (huses : line.all (s.usesLine c) = true) : exec (.errorDetected unit (some id) ⟨event, line⟩) s =
      .next (s.cmdError unit c event line.isSome) := by
  rw [exec_errorDetected hreset hne hfits hretired hkind hline, State.errorMet, if_neg h3001]
  dsimp only
  rw [hc]
  dsimp only
  rw [if_pos ⟨hphase, htesting, hmeets⟩, if_pos huses]

end

/-! ### Calibrations -/

theorem State.doorbell_recorder (s : State) (link fn ctx queue value : Nat) (secure : Bool) :
    (s.doorbell link fn ctx queue value secure).recorder = s.recorder := by
  unfold State.doorbell
  dsimp only
  split
  · rfl
  split
  · rfl
  split
  · exact s.bump_recorder _ _ _
  split <;> rfl

theorem State.flipPages_recorder (s : State) (c link a n : Nat) : (s.flipPages c link a n).recorder = s.recorder := by
  unfold State.flipPages
  exact State.tally_reads State.recorder (fun _ _ => rfl) _ _ _ _

theorem State.devWrite_recorder (s : State) (a : Nat) (l : List Byte) : (s.devWrite a l).recorder = s.recorder := by
  unfold State.devWrite
  split <;> rfl

theorem State.windowAccess_recorder (s : State) (link a : Nat) (w : Option (List Byte)) (len : Nat) (trusted : Bool) :
    (s.windowAccess link a w len trusted).recorder = s.recorder := by
  unfold State.windowAccess
  dsimp only
  split
  · rfl
  split
  · rfl
  split
  · rfl
  cases w with
  | some l => exact (State.devWrite_recorder ..).trans (s.flipPages_recorder ..)
  | none => exact s.flipPages_recorder ..

theorem State.serveHost_recorder (s : State) : s.serveHost.recorder = s.recorder := by
  unfold State.serveHost
  refine List.foldlRecOn (motive := fun t : State => t.recorder = s.recorder) _ _ rfl fun t ht x _ => ?_
  cases x with
  | doorbell => exact (State.doorbell_recorder ..).trans ht
  | window => exact (State.windowAccess_recorder ..).trans ht

theorem State.askLanes_stays (s : State) (p mask : Nat) (test : Bool) :
    (s.askLanes p mask test).recorder = s.recorder ∧ (s.askLanes p mask test).cmds = s.cmds ∧
      (s.askLanes p mask test).mem = s.mem := ⟨rfl, rfl, rfl⟩

theorem State.narrow_stays (s : State) (p l : Nat) (test : Bool) : (s.narrow p l test).recorder = s.recorder ∧
    (s.narrow p l test).cmds = s.cmds ∧ (s.narrow p l test).mem = s.mem := by
  unfold State.narrow
  dsimp only
  split
  · exact s.askLanes_stays ..
  · exact ⟨rfl, rfl, rfl⟩

theorem State.widen_stays (s : State) (p l : Nat) :
    (s.widen p l).recorder = s.recorder ∧ (s.widen p l).cmds = s.cmds := by
  unfold State.widen
  dsimp only
  split
  · exact ⟨rfl, rfl⟩
  · exact ⟨rfl, rfl⟩

/-- The state with a calibration running. -/
def State.calRunning (s : State) (c : Calib) : State :=
  { s with recorder := { s.recorder with
      calibs := s.recorder.calibs.map fun x => if x = c then { x with running := true } else x } }

theorem State.calRunning_underCal {c : Calib} (h : c ∈ s.recorder.calibs) : (s.calRunning c).underCal c.unit = true :=
  List.any_eq_true.mpr ⟨{ c with running := true }, List.mem_map.mpr ⟨c, h, if_pos rfl⟩, by simp⟩

theorem exec_calibrationStart {cls : Nat} {c : Calib}
    (hfind : s.recorder.calibs.find? (fun c => decide (c.unit = calUnit cls unit ∧ c.cls = cls)) = some c)
    (hrun : c.running = false) (htest : s.underTest (calUnit cls unit) = false) (hquiet : s.quietNow cls c.due = true) :
    exec (.calibrationStart cls unit) s =
      .next (if cls = 4 ∧ (s.calRunning c).portUp (calUnit cls unit).i1 = true then
        (s.calRunning c).narrow (calUnit cls unit).i1 (calUnit cls unit).i2 false else s.calRunning c) := by
  unfold exec execCalibrationStart
  dsimp only
  rw [hfind]
  dsimp only
  rw [if_neg (by simp [hrun, htest, hquiet])]
  exact (apply_ite Host.Outcome.next _ _ _).symm

/-- The state with a calibration over. -/
def State.calOver (s : State) (u : UnitId) (c : Calib) : State :=
  { s with recorder := { s.recorder with
      calibs := s.recorder.calibs.filter fun x => decide (x ≠ c)
      lastCal := (s.recorder.lastCal.filter fun x => decide (x.1 ≠ u)) ++ [(u, s.now, s.dieTemp u.loc)] } }

theorem State.calOver_underCal {x : UnitId} {c : Calib} (honly : ∀ d ∈ s.recorder.calibs, d.unit = x → d = c) :
    (s.calOver x c).underCal x = false := by
  refine List.any_eq_false.mpr fun d hd hrun => ?_
  obtain ⟨hmem, hne⟩ := List.mem_filter.mp hd
  simp only [Bool.and_eq_true, decide_eq_true_eq] at hrun
  exact of_decide_eq_true hne (honly d hmem hrun.2)

/-- What is served once a calibration is over. -/
def State.calServed (s : State) (cls : Nat) (x : UnitId) : State :=
  let t := if cls = 4 then s.widen x.i1 x.i2 else s
  if cls = 3 then t.serveHost else t

theorem State.calServed_stays (s : State) (cls : Nat) (x : UnitId) :
    (s.calServed cls x).recorder = s.recorder ∧ (s.calServed cls x).cmds = s.cmds := by
  have hwiden : (if cls = 4 then s.widen x.i1 x.i2 else s).recorder = s.recorder ∧
      (if cls = 4 then s.widen x.i1 x.i2 else s).cmds = s.cmds := by
    split
    · exact s.widen_stays ..
    · exact ⟨rfl, rfl⟩
  unfold State.calServed
  dsimp only
  split
  · exact ⟨(State.serveHost_recorder _).trans hwiden.1, (State.hostServed_serveHost _).cmds.trans hwiden.2⟩
  · exact hwiden

theorem exec_calibrationComplete {cls : Nat} {c : Calib} (hfind : s.recorder.calibs.find?
      (fun c => decide (c.unit = calUnit cls unit ∧ c.cls = cls) && c.running) = some c) :
    exec (.calibrationComplete cls unit true) s =
      .next (((s.calOver (calUnit cls unit) c).bump 0x7800 4 1).calServed cls (calUnit cls unit)) := by
  unfold exec execCalibrationComplete
  dsimp only
  rw [hfind]
  rfl

theorem exec_selfTestVerdict_off {pass : Bool}
    (hoff : s.mgmt.takeover = true ∨ s.mgmt.stopped = true ∨ s.pins.resetN = false) :
    exec (.selfTestVerdict unit pass) s = .next s.startTests := by
  have hclosed : (s.mgmt.takeover || s.mgmt.stopped || !s.pins.resetN) = true := by simpa [or_assoc] using hoff
  exact if_pos hclosed

theorem exec_selfTestVerdict {pass : Bool} {i : Nat}
    (hi : s.startTests.recorder.tests.findIdx? (fun t => decide (t.unit = unit) && t.running) = some i)
    (htakeover : s.mgmt.takeover = false) (hstopped : s.mgmt.stopped = false) (hreset : s.pins.resetN = true) :
    let u := s.startTests
    let l := u.recorder.tests
    let done := endedTests (l.drop i) unit
    let a := { u with recorder := { u.recorder with tests := l.take i ++ (l.drop i).drop done.length } }
    let a := (a.bump 0x7800 1 1).bump 0x7800 2 (b2n (!pass))
    let b := (done.foldl (fun (t : State) x => t.applyVerdict x pass) a).startTests.endVerifies
    exec (.selfTestVerdict unit pass) s =
      .next (if unit.kind = 0x0F ∧ unit.loc < 18 then b.resumeDie unit.loc else b.serveHost) := by
  have hopen : (s.mgmt.takeover || s.mgmt.stopped || !s.pins.resetN) = false := by simp [htakeover, hstopped, hreset]
  have hverdict : exec (.selfTestVerdict unit pass) s = _ := if_neg (ne_true_of_eq_false hopen)
  rw [hverdict, hi]

/-- Settles O58: an error's branches, the verdict, and the calibrations' list. -/
theorem errorsTestsAndCalibrations : Obligations.ErrorsTestsAndCalibrations := by
  intro s unit
  refine ⟨fun event line hreset hne hfits hretired hkind hline => ⟨?_, fun id c hc hphase htesting hmeets h3001 huses
    herrors => ?_⟩, fun pass => ⟨fun hoff => ?_, fun i hi htakeover hstopped hreset => ?_⟩,
    fun cls hready hreal hkind hretired hdue hnone => ?_, fun cls c => ⟨fun hfind hrun htest hquiet => ?_,
    fun hfind honly => ?_⟩⟩
  · obtain ⟨hasked, hcmds⟩ := s.unitError_asks unit event
    exact ⟨_, exec_errorDetected_none hreset hne hfits hretired hkind hline, hasked, hcmds⟩
  · obtain ⟨hasked, d, hd, hwaits, hcount⟩ := State.cmdError_asks hc herrors unit event line.isSome
    exact ⟨_, exec_errorDetected_cmd hreset hne hfits hretired hkind hline hc hphase htesting hmeets h3001 huses,
      State.underTest_of_waits hd hwaits, hasked, by rw [hd, Option.map_some, hwaits, hcount]⟩
  · exact exec_selfTestVerdict_off hoff
  · exact exec_selfTestVerdict hi htakeover hstopped hreset
  · have hgone : (s.retired (calUnit cls unit) && (decide (cls ≠ 3) ||
        s.retired { calUnit cls unit with i1 := (calUnit cls unit).i1 + 1 })) = false := by
      rcases hretired with h | ⟨rfl, h⟩
      · rw [h, Bool.false_and]
      · rw [h]
        simp
    have hfree : (s.recorder.calibs.any fun c => decide (c.unit = calUnit cls unit)) = false := by
      simpa using hnone
    unfold exec execCalibrationDue
    dsimp only
    rw [if_pos (by rw [hgone, hfree]; simp [hready, hreal, hkind, hdue])]
  · have hmem : c ∈ s.recorder.calibs := List.mem_of_find?_eq_some hfind
    have hunit : c.unit = calUnit cls unit := (of_decide_eq_true (List.find?_some hfind :)).1
    refine ⟨_, exec_calibrationStart hfind hrun htest hquiet, ?_⟩
    have hcal := State.calRunning_underCal hmem
    rw [hunit] at hcal
    split
    · obtain ⟨hrecorder, hcmds, hmem⟩ :=
        (s.calRunning c).narrow_stays (calUnit cls unit).i1 (calUnit cls unit).i2 false
      exact ⟨by rw [State.underCal, hrecorder]; exact hcal, hcmds, hmem⟩
    · exact ⟨hcal, rfl, rfl⟩
  · obtain ⟨hrecorder, hcmds⟩ :=
      State.calServed_stays ((s.calOver (calUnit cls unit) c).bump 0x7800 4 1) cls (calUnit cls unit)
    refine ⟨_, exec_calibrationComplete hfind, ?_, by rw [hcmds, State.bump_cmds]; rfl⟩
    rw [State.underCal, hrecorder, State.bump_recorder]
    exact State.calOver_underCal honly

end Sys2Proof.Machine
end
